-- ==== Sys2Proof/Word.lean ====
section
/-! DEFINITION. The words the spec stores and moves, little-endian byte order (R11), and the sparse
tables in canonical form in which every large memory of the chip is kept. -/

namespace Sys2Proof

/-- A register word (spec "Registers": 32 bits). -/
abbrev Word := BitVec 32

/-- One byte. -/
abbrev Byte := BitVec 8

/-- An EUI-64, a serial or a whole CALCNT value. -/
abbrev Quad := BitVec 64

/-- The `n` low bytes of `v`, least significant first (R11). -/
def leBytes : Nat → Nat → List Byte
  | 0, _ => []
  | n + 1, v => BitVec.ofNat 8 v :: leBytes n (v / 256)

/-- The number that little-endian bytes spell (R11). -/
def leNat : List Byte → Nat
  | [] => 0
  | b :: bs => b.toNat + 256 * leNat bs

/-- The number that big-endian (network order) bytes spell (R11). -/
def beNat (bs : List Byte) : Nat := leNat bs.reverse

/-- The `n` low bytes of `v`, most significant first. -/
def beBytes (n v : Nat) : List Byte := (leBytes n v).reverse

/-- `n` bytes of `bs` from offset `off`, read as zero past the end. -/
def sliceBytes (bs : List Byte) (off n : Nat) : List Byte :=
  let t := (bs.drop off).take n
  t ++ List.replicate (n - t.length) 0

/-- The little-endian number in bytes `off … off + n − 1` of `bs`. -/
def leAt (bs : List Byte) (off n : Nat) : Nat := leNat (sliceBytes bs off n)

/-- The big-endian number in bytes `off … off + n − 1` of `bs`. -/
def beAt (bs : List Byte) (off n : Nat) : Nat := beNat (sliceBytes bs off n)

/-- Replace bytes from offset `off` of `bs`, growing with zeros where it is too short. -/
def patchBytes (bs : List Byte) (off : Nat) (new : List Byte) : List Byte :=
  sliceBytes bs 0 off ++ new ++ bs.drop (off + new.length)

/-- Two's complement value of the low `w` bits of `v` (R12). -/
def signedOf (w v : Nat) : Int :=
  let m := v % 2 ^ w
  if 2 ^ w ≤ 2 * m then (m : Int) - (2 ^ w : Nat) else (m : Int)

/-- The low `w` bits of an integer in two's complement (R12). -/
def unsignedOf (w : Nat) (i : Int) : Nat := (i % ((2 ^ w : Nat) : Int)).toNat

/-- Bits `hi … lo` of a number. -/
def bitsOf (v hi lo : Nat) : Nat := v / 2 ^ lo % 2 ^ (hi + 1 - lo)

/-- `a` less `b`, not below zero and not above `m`. -/
def satAdd (m a b : Nat) : Nat := if m ≤ a + b then m else a + b

/-- A table by number in canonical form: keys strictly rising, and no entry equal to what an unlisted
key reads as. -/
abbrev Sparse (α : Type) := List (Nat × α)

namespace Sparse

/-- The entry of key `i`, `d` where none is listed. -/
def get {α : Type} (d : α) : Sparse α → Nat → α
  | [], _ => d
  | (k, v) :: m, i => if i = k then v else get d m i

/-- List an entry at its place. -/
def insert {α : Type} (i : Nat) (v : α) : Sparse α → Sparse α
  | [] => [(i, v)]
  | (k, w) :: m => if i = k then (i, v) :: m else if i < k then (i, v) :: (k, w) :: m else (k, w) :: insert i v m

/-- Set key `i` to `v`: an entry equal to `d` is not listed. -/
def set {α : Type} [DecidableEq α] (d : α) (m : Sparse α) (i : Nat) (v : α) : Sparse α :=
  if v = d then m.filter (fun e => e.1 != i) else insert i v m

/-- The canonical form. -/
def wf {α : Type} [DecidableEq α] (d : α) : Sparse α → Bool
  | [] => true
  | (k, v) :: m => decide (v ≠ d) && (m.all fun e => decide (k < e.1)) && wf d m

/-- Set a run of consecutive keys. -/
def setRun {α : Type} [DecidableEq α] (d : α) (m : Sparse α) : Nat → List α → Sparse α
  | _, [] => m
  | i, v :: vs => setRun d (set d m i v) (i + 1) vs

/-- Read a run of `n` consecutive keys from `i`. -/
def getRun {α : Type} (d : α) (m : Sparse α) : Nat → Nat → List α
  | _, 0 => []
  | i, n + 1 => get d m i :: getRun d m (i + 1) n

end Sparse

end Sys2Proof
end

