-- ==== Sys2Proof/Syntax.lean ====
section
/-! DEFINITION. The commands of the block: one constructor of `Instr` for each row of the command table,
with the row's operands. Values that only the outside world knows (a pin's level, a measured
power, the bytes of a fetched packet) are operands. -/

namespace Sys2Proof

/-- A requester number (R25). -/
abbrev Req := BitVec 8

/-- Who writes or reads a register: an access through BAR0, or a requester inside the chip by number. -/
inductive Writer
  | bar0
  | req (n : Req)
  deriving DecidableEq, Repr

/-- An Imter packet: the header of R27 and its parameter bytes. -/
structure Packet where
  opcode : BitVec 16
  tag : BitVec 16
  len : BitVec 16
  flags : BitVec 8
  issuer : Req
  notBefore : Quad
  params : List Byte
  deriving DecidableEq, Repr

/-- The transport on which a command packet arrives (R44, R48, R49, R50). -/
inductive Transport
  | ring (n : Fin 16)
  | smbus
  | zoant (port : Fin 4) (chip : Fin 64)
  | firmware (core : Fin 4)
  | management
  deriving DecidableEq, Repr

/-- A unit of the radio: receive pair or transmit chain. -/
inductive RfUnit
  | pair (n : Fin 4)
  | chain (n : Fin 4)
  deriving DecidableEq, Repr

/-- What a transmit descriptor carries (R220 names the kinds). -/
inductive TxKind
  | herald
  | ack
  | downlink
  | rollout
  deriving DecidableEq, Repr

/-- A transmit descriptor that a lane issues to a chain (R99 to R111). -/
structure TxDesc where
  kind : TxKind
  lane : Fin 16
  /-- The channel: the first slot of its stream (R135). -/
  slot : Fin 256
  /-- The node addressed; 0x1FFFF for a broadcast. -/
  node : Nat
  /-- Drive code before the reduction of R110. -/
  drive : Nat
  /-- DEADLINE (R106). -/
  deadline : Nat
  /-- Modulated symbols, in ticks. -/
  airTicks : Nat
  /-- Campaign of a rollout frame, fragment number of a downlink. -/
  ref : Nat
  psdu : List Byte
  /-- PHY profile entry, tier code and bits [15:0] of the frame counter (R161, R162). -/
  entry : List Byte
  tier : Nat
  fctr16 : Nat
  /-- Index of the profile that the PPDU switches to, where the descriptor names one (R158). -/
  target : Option Nat
  /-- The token was not held when the frame was to be built: the descriptor carries no frame (R105, R210). -/
  unbuilt : Bool
  deriving DecidableEq, Repr

/-- A preamble found (R165): the frequency hypothesis, by number from zero, the length of the sliding window in symbols,
and the normalised correlation over it in units of 1/65,536. -/
structure Detection where
  hyp : Int
  symbols : Nat
  corr : Nat
  deriving DecidableEq, Repr

/-- The sync word as received, bit 0 first, and the residual phase that goes with it, in units of the implementation. -/
structure SyncMeasure where
  sync : Word
  phase : Int
  deriving DecidableEq, Repr

/-- What the equaliser sees of one symbol (R173): eight inputs at half-symbol spacing, the last four symbols decided, and
the known or decided symbol. Complex values in units of 1/16,384. -/
structure LmsStep where
  x : List (Int × Int)
  past : List (Int × Int)
  want : Int × Int
  deriving DecidableEq, Repr

/-- The copies of a codeword as demodulated: log-likelihood ratios in units of 1/1,000, positive for bit 0, and the
equaliser's steps over its symbols. -/
structure SoftBlock where
  llr : List (List Int)
  steps : List LmsStep
  deriving DecidableEq, Repr

/-- The PHR of a SUN frame as demodulated. -/
structure SunPhr where
  valid : Bool
  len : Nat
  mcs : Nat
  /-- Mode-switch bit with the new mode named (R158). -/
  modeSwitch : Option (Fin 4)
  deriving DecidableEq, Repr

/-- One rail as measured (R507): millivolts, milliwatts, and whether it stayed out of range for 10 µs
since the measurement before. -/
structure RailSample where
  mv : BitVec 16
  mw : BitVec 16
  out : Bool
  deriving DecidableEq, Repr

/-- An image as loaded: its 256-byte header (R300) and its body. -/
structure BootImage where
  header : List Byte
  body : List Byte
  deriving DecidableEq, Repr

/-- A candidate parent from a node's DAO transit information (R230): short ID, hop depth, reported link LQI. -/
structure Candidate where
  node : Nat
  depth : Nat
  lqi : Nat
  deriving DecidableEq, Repr

/-- What the join server decides about a join request (R335). -/
structure JoinAnswer where
  admitted : Bool
  deriving DecidableEq, Repr

/-- A mirror update of a redundant pair (R439). -/
inductive MirrorItem
  | node (shortId : Nat) (entry : BitVec 512) (digest naux : Word)
  | reservation (scope p : Nat)
  /-- A charge to, or a removal from, a dwell or feast ledger: channel or entry, bucket, Wd, µs. -/
  | ledger (dwell : Bool) (idx bucket wd : Nat) (us : Int)
  | almanac (pending : Bool) (slotLen roundsM1 baseSeed epoch0 evOfs ackTurn start : Nat)
  /-- A Herald set or a map: in force, or from an epoch. -/
  | herald (epoch : Option Nat) (cfg : Word) (hset : List Word)
  | chmap (idx : Nat) (epoch : Option Nat) (map : BitVec 256)
  | epochs (state cur prev next act : Nat)
  /-- The values of R224: a pair's centre, a stream, a lane with DL_PER_EVENT, chain return states and priorities. -/
  | span (pair khz : Nat) (armed : Bool)
  | stream (slot : Nat) (cfg freq : Word)
  | lane (n : Nat) (ctl : Word) (dl : Nat)
  | plan (returns : Nat) (prio : Word)
  | heartbeat (held flushed : Bool) (mode accepted : Nat)
  /-- End of the sweep to a newly BANKED partner (R440). -/
  | sweepEnd
  deriving DecidableEq, Repr

/-- A link-state advertisement (R412). -/
structure Lsa where
  serial : Quad
  seq : Nat
  /-- Chip ID byte of R411: ID, VALID in bit 6, STRAPPED in bit 7. -/
  idByte : Byte
  auto : Bool
  ember : Bool
  aligned : Bool
  /-- For each port: neighbour's ID, and UP. -/
  ports : List (Nat × Bool)
  deriving DecidableEq, Repr

/-- What a handover offer carries of the node (R429). -/
structure HandoverNode where
  eui : Quad
  shortId : Nat
  entry : BitVec 512
  digest : Word
  naux : Word
  /-- The node's next event counter and its anchor. -/
  ctr : Nat
  anchor : Nat
  leaseEvents : Nat
  /-- The source's Almanac, channel map, PHY profile entry and CUR key epoch (R428). -/
  almanac : List Nat
  chmap : BitVec 256
  profile : List Byte
  keyEpoch : Nat
  deriving DecidableEq, Repr

/-- The messages of Zoant by name: the spec gives no TYPE codes but two (R406, R492). -/
inductive ZMsg
  | hello (serial : Quad) (district : Word) (idByte : Byte) (port role : Nat)
      (registrar ember calFault : Bool) (echo : Quad)
  | sync (calFault : Bool)
  | followUp (t1 : Quad)
  | delayReq
  | delayResp (t4 : Quad)
  | lsa (l : Lsa)
  | idRequest (serial : Quad) (pref : Nat)
  | idGrant (serial : Quad) (id : Nat)
  | ownerMove (a b : Nat) (serial : Quad)
  | command (p : Packet)
  | reply (bytes : List Byte)
  | hoOffer (n : HandoverNode)
  | hoReady (eui : Quad) (shortId : Nat) (cell : Quad)
  /-- The source has switched: event counter and anchor of event E_h. -/
  | hoSwitch (eui : Quad) (eh anchor : Nat)
  | hoRefuse (eui : Quad) (reason : Nat)
  | hoCommit (eui : Quad)
  | hoRevert (eui : Quad) (inCtr inWin : Nat) (digest : Word)
  | ownerNotice (eui : Quad) (chip shortId : Nat)
  | leaseRenew
  | mirror (i : MirrorItem)
  | data (packet : List Byte)
  | moved (eui : Quad) (datagram : List Byte)
  | bootReq (serial : Quad) (off len : Nat)
  | bootData (off : Nat) (bytes : List Byte)
  /-- Cumulative acknowledgement of a class (R409). -/
  | ack (cls seq : Nat)
  /-- The neighbour returns receive credit for cells of a class (R408). -/
  | credit (cls cells : Nat)
  deriving DecidableEq, Repr

/-- A Zoant frame: the header of R406 and its message. -/
structure ZFrame where
  dst : Nat
  bcast : Bool
  src : Nat
  cls : Nat
  ttl : Nat
  seq : Nat
  /-- Payload bytes. -/
  len : Nat
  crcOk : Bool
  msg : ZMsg
  deriving DecidableEq, Repr

/-- A memory upset in an airtime ledger that a read finds: a feast copy (entry, ledger second, copy, value), or a
dwell bucket with an uncorrectable error (channel, bucket) (R215, R218). -/
inductive Upset
  | feast (e : Fin 16) (sec : Nat) (copy : Fin 3) (v : Nat)
  | dwell (ch : Fin 256) (bucket : Nat)
  deriving DecidableEq, Repr

/-- A burst's fault as the faulting unit reports it (R387, R393): CAUSE − 1, the direction, the requester's REF, the
address, the bursts done and in all, and the bytes read from the host up to then. -/
structure FaultReport where
  cause : Fin 8
  write : Bool
  preempted : Bool
  ref : Nat
  addr : Quad
  progress : Nat
  bursts : Nat
  data : List Byte
  deriving DecidableEq, Repr

/-- One CORE_CLK cycle of the arbiter as its surroundings drive it (R395 to R400): the controller accepts a burst,
the requesters that ask, those whose PWR_OK is low, and what becomes of the cycle's grant: its requester withdraws,
or its PWR_OK falls before the data. -/
structure ArbCycle where
  ready : Bool
  asks : List Nat
  low : List Nat
  withdraws : Bool
  falls : Bool
  deriving DecidableEq, Repr

/-- The commands: one constructor for each row of the command table, by family, those with operands first. -/
inductive Instr
  -- Planes and the Imter command model
  | commandArrival (t : Transport) (p : Option Packet)
  | commandStart (cls : Fin 16)
  | hostCommandDoorbell (n : Fin 16) (pi : BitVec 16)
  | hostReplyDoorbell (n : Fin 16) (ci : BitVec 16)
  | ringReset (n : Fin 16) (v : Word)
  | ringEnable (n : Fin 16) (v : Word)
  | ringDisable (n : Fin 16) (v : Word)
  | replyCoalesceTimeout (n : Fin 16)
  | cmdNop (p : Packet)
  | cmdCancel (p : Packet)
  | cmdSchedQuery (p : Packet)
  | smbBlockWrite (pec : Bool) (off : BitVec 16) (data : List Byte)
  | smbSubmit (pec : Bool)
  | smbSetReadOffset (pec : Bool) (off : BitVec 16)
  | smbRelease (pec : Bool)
  | queDrop (v : Word)
  | lockSet (w : Writer) (off : BitVec 24) (v : Word)
  | registerWrite (w : Writer) (off : BitVec 24) (wholeWord : Bool) (v : Word)
  | counterClearWrite (w : Writer) (off : BitVec 24) (v : Word)
  -- Modes, reset and boot
  | strapSample (levels : BitVec 14)
  | bootImageLoaded (img : BootImage)
  | stpBootDoorbell (v : Word)
  | bootDataRx (p : Fin 4) (off : Nat) (bytes : List Byte)
  | bootReqRx (p : Fin 4) (serial : Quad) (off len : Nat) (image : List Byte)
  | modeReq (p : Packet)
  | modeStatus (p : Packet)
  | sysReset (p : Packet)
  | bootListWrite (p : Packet)
  | bootRecoveryLoad (p : Packet)
  -- Calendar, timers and captures
  /-- REFCLK edges counted in the last SLOW_CLK periods while the PLL keeps its lock; none where it lost it. -/
  | refLoss (counts : Option (List Nat))
  | voteCorrected (copy : Fin 3) (v : Quad)
  | calFault (a b c : Quad)
  | timeRead (p : Packet)
  | timeResync (p : Packet)
  | timeSlew (p : Packet)
  | tmbNowLoRead (w : Writer)
  | tmrLCmpWrite (w : Writer) (n : Fin 32) (v : Word)
  | tmrLRearm (w : Writer) (n : Fin 32)
  | tmrLDisarm (w : Writer) (n : Fin 32)
  | tmrLIntWrite (w : Writer) (ie : Bool) (v : Word)
  | timerLFire (n : Fin 32)
  | tmrICmpWrite (w : Writer) (n : Fin 8) (v : Word)
  | tmrICountWrite (w : Writer) (n : Fin 8) (v : Word)
  | tmrIPrescWrite (w : Writer) (n : Fin 8) (v : Word)
  | tmrICtlWrite (w : Writer) (n : Fin 8) (v : Word)
  | timerIMatch (n : Fin 8)
  | gptInEdge (pin : Fin 4) (rising : Bool)
  | ppsInEdge (rising : Bool)
  | capValueLoRead (w : Writer) (n : Fin 16)
  | capValueHiRead (w : Writer) (n : Fin 16)
  | capReadPairTimeout (n : Fin 16)
  -- Radio front end
  | radioSpanSet (p : Packet)
  | radioTxConfig (p : Packet)
  | radioCal (p : Packet)
  | radioRegLoad (p : Packet)
  | radioRegRead (p : Packet)
  | regBurn (p : Packet)
  | rfeRegTightenA (v : Word)
  | rfeRegTightenB (v : Word)
  | synthLock (u : RfUnit)
  | synUnlock (u : RfUnit)
  | chainBiasSettled (n : Fin 4)
  | txDescriptorIssue (n : Fin 4) (d : TxDesc)
  | txStartTick (n : Fin 4) (lbt : Option Byte)
  | txLate (n : Fin 4)
  | txFirstSymbol (n : Fin 4)
  | txFrameEnd (n : Fin 4)
  | rampDownEnd (n : Fin 4)
  | calStart (u : RfUnit)
  | calDone (u : RfUnit) (result : Byte)
  | calDeferExpired (u : RfUnit)
  -- Channelizer
  | phyChanSet (p : Packet)
  | phyChanRead (p : Packet)
  | phyCapture (p : Packet)
  | phyCaptureRead (p : Packet)
  /-- I and Q components of the samples in the store of a RAW capture. -/
  | captureTimeout (is qs : List Int)
  /-- I and Q components of the samples in the store of a RAW capture; `is`: the levels of a SPECTRUM capture, in 1/8 dB
  below a full-scale converter tone. -/
  | captureEnd (is qs : List Int)
  | streamBlockBoundary (slot : Fin 256) (a b : List Int) (clipA clipB : Bool)
  -- Demodulation and decoding
  | phyProfileLoad (p : Packet)
  | phyProfileRead (p : Packet)
  | preambleDetect (slot : Fin 256) (branchB : Bool) (d : Detection)
  /-- Correlation energies of each branch by symbol, at a frequency hypothesis, and mean powers in 1/1,000 dB relative to
  full scale. -/
  | diversityDecision (slot : Fin 256) (energyA energyB : List Nat) (hyp : Int) (powerA powerB : Int)
  /-- Mean power relative to full scale and signal-to-noise ratio in 1/1,000 dB, residual frequency in Hz, and the
  equaliser's training steps. -/
  | syncEnd (slot : Fin 256) (lead : Nat) (power snr : Int) (x : SyncMeasure) (residual : Int) (training : List LmsStep)
  | syncTimeout (slot : Fin 256)
  /-- Frequency offset measured in the frame, in Hz, and the soft values of a SUN frame's payload. -/
  | rxFrameEnd (slot : Fin 256) (offset : Int) (soft : List Int)
  | modeSwitchTimeout (slot : Fin 256)
  | ldpcJobReady (slot : Fin 256) (x : SoftBlock)
  | ldpcJobDone (decoder : Fin 8)
  | combRetentionExpired (shortId : Nat)
  | spillRestore (shortId : Nat)
  -- Medium access
  | macAlmanacSet (p : Packet)
  | macHeraldSet (p : Packet)
  | macChmapSet (p : Packet)
  | macAssocSet (p : Packet)
  | macAssocDrop (p : Packet)
  | macNodeTiming (p : Packet)
  | macTimingSet (p : Packet)
  | macLedgerRead (p : Packet)
  | roundStart (idle : List (Fin 256 × Int))
  | laneRun (n : Fin 16) (imageValid : Bool)
  | laneFault (n : Fin 16) (code : Byte)
  | eventDelivery (node : BitVec 17)
  | windowPrepare (node : BitVec 17)
  | windowClose (node : BitVec 17)
  | eventEnd (node : BitVec 17)
  | ledgerScrub (upsets : List Upset)
  -- Scheduler
  | nodeReview (node : BitVec 17) (candidates : List Candidate)
  | schedEnvelopeSet (p : Packet)
  | schedEnvelopeRead (p : Packet)
  | schedStatus (p : Packet)
  | schedNodeView (p : Packet)
  -- Frames, security and counters
  | joinRequest (req : JoinAnswer)
  | downlinkExchange (node : BitVec 17)
  | reassemblyTimeout (sender : BitVec 17) (size dtag : Nat)
  | ctrRowWriteDone (ok : Bool)
  | frmCfgSet (p : Packet)
  | frmCtxSet (p : Packet)
  | ctrQuery (p : Packet)
  | ctrResvFetch (p : Packet)
  | ctrResvAck (p : Packet)
  | ctrRestore (p : Packet)
  -- Keys, attestation and debug
  | keyOrkProvision (p : Packet)
  | keyDkLoad (p : Packet)
  | keyLoad (p : Packet)
  | keyEpochPrepare (p : Packet)
  | keyEpochStatus (p : Packet)
  | keyZap (p : Packet)
  | keySlotInfo (p : Packet)
  | attest (p : Packet)
  | dbgOpen (p : Packet) (readback : Nat)
  | jtagDbgOpen (magic : Quad) (readback : Nat)
  | jtagInstruction (ir : Nat) (data : Quad)
  | dbgLockout (p : Packet)
  -- Ledger
  | ldgAccess (p : Packet)
  | ldgOpRead (w : Writer) (win : Fin 4) (v : Word)
  | ldgOpWrite (w : Writer) (win : Fin 4) (v : Word)
  | ldgOpWriteMasked (w : Writer) (win : Fin 4) (v : Word)
  | ldgOpCas (w : Writer) (win : Fin 4) (v : Word)
  | ldgOpInvalidate (w : Writer) (win : Fin 4) (v : Word)
  | ldgOpAlloc (w : Writer) (win : Fin 4) (v : Word)
  | ldgOpFree (w : Writer) (win : Fin 4) (v : Word)
  | ldgLock (p : Packet)
  | ldgUnlock (p : Packet)
  | ldgLearnSet (p : Packet)
  | ldgMismatchRead (p : Packet)
  | ldgMmfPop (v : Word)
  | ldgLockTimeout (ctx : Fin 4)
  | learnAged (node : BitVec 17)
  | bntAge (idx : Fin 4096)
  | bgcCtlWrite (v : Word)
  | ldgEccUncorr (table : Fin 9) (idx : BitVec 18) (word : Fin 8)
  -- Forwarding and rollout
  | fwdRouteSet (p : Packet)
  | fwdRouteRead (p : Packet)
  | fwdCfgSet (p : Packet)
  | fwdDlqFlush (p : Packet)
  | rolCampaignSet (p : Packet)
  | rolTarget (p : Packet)
  | rolStart (p : Packet)
  | rolStop (p : Packet)
  | rolStatus (p : Packet)
  | rolloutWindow (n : Fin 16)
  -- Buffers, DMA, memory management and arbitration
  | bufPoolSet (p : Packet)
  | bufStatus (p : Packet)
  | dmaEnable (n : Fin 16) (v : Word)
  | dmaDisable (n : Fin 16) (v : Word)
  | dmaPiWrite (n : Fin 16) (v : Word)
  | dmaResume (n : Fin 16) (v : Word)
  | dmaSkip (n : Fin 16) (v : Word)
  | dmaDescriptorDone (n : Fin 16) (data : List Byte)
  | memFault (r : Req) (f : FaultReport)
  | fltRingRetry (v : Word)
  | fltRingResize (v : Word)
  | dramEccError (a : BitVec 40) (corrected : Bool)
  | arbPrioWrite (cycles : List ArbCycle) (k : Fin 7) (v : Word)
  | arbQuotaWrite (cycles : List ArbCycle) (v : Word)
  | arbWindowEnd (cycles : List ArbCycle)
  -- Zoant
  | zoantSignalDetect (p : Fin 4)
  | zoantBlockLock (p : Fin 4)
  | helloTx (p : Fin 4)
  | helloRx (p : Fin 4) (f : ZFrame)
  | linkDown (p : Fin 4)
  | zoantFrameRx (p : Fin 4) (f : ZFrame) (stamp : Quad)
  | zfbRetransmitTimeout (p : Fin 4)
  | lsaExpiry (chip : Fin 64)
  | leaseExpired (chip : Fin 64)
  | fabCfgSet (p : Packet)
  | fabStatus (p : Packet)
  | fabHandover (p : Packet)
  | handoverReverted (node : BitVec 17)
  -- Pairs
  | pairTokenLineChange (high : Bool)
  | pairSenseChange (high : Bool)
  | pairWdtKick (v : Word)
  | pairCfg (p : Packet)
  | pairSwitch (p : Packet)
  | pairStatus (p : Packet)
  -- Host, backhaul and management
  | pcieReset (kind : Fin 4)
  | msixUnmask (n : Fin 64)
  | bar2Access (off : BitVec 26) (write : Bool) (data : List Byte)
  | ethFrameRx (p : Fin 2) (frame : List Byte) (fcsOk : Bool) (stamp : Quad)
  | ethPortSet (p : Packet)
  | sfpTxFault (p : Fin 2)
  | sfpSignalChange (p : Fin 2) (modAbs rxLos txFault blockLock : Bool)
  | ethI2cTransaction (w : Writer) (b : Fin 2) (v : Word)
  | mgtQspiOp (w : Writer) (v : Word)
  | mgtGpioFuncWrite (w : Writer) (k : Fin 3) (v : Word)
  | resClaim (p : Packet)
  | resRelease (p : Packet)
  | resQuery (p : Packet)
  | ppsSet (p : Packet)
  -- Power, temperature and the journal
  | thmStatus (p : Packet)
  | pwrStatus (p : Packet)
  /-- The eight junction sensors, then the RF temperature (RFE_TEMP), in 1/16 °C. -/
  | thermalSample (sensors : List (BitVec 16))
  | thermtrip (sensor : Fin 8)
  | railSample (rails : List RailSample)
  | journalRecordPost (src sev : Byte) (code : BitVec 16) (args : List Byte)
  | journalEnable (v : Word)
  | evjRdWrite (v : Word)
  | evjFatalClear (v : Word)
  | evjAonWinRead (k : Fin 8)
  | journalAonRead (p : Packet)
  | mgtIntClear (v : Word)
  -- Further events
  | phrEnd (slot : Fin 256) (phr : SunPhr)
  | mmuFltCiWrite (v : Word)
  | pcieLinkUp (width speed : BitVec 4)
  | ethFrameTx (p : Fin 2) (stamp : Option Quad)
  | ethI2cDone (b : Fin 2) (nack : Bool) (data : Word)
  | mgtQspiDone (data : List Byte)
  -- Events without operands, by family
  -- Planes and the Imter command model
  | scheduledCommandReady
  | cpStopped
  | autoCpRestartTimeout
  | smbStatusRead
  | smbBlockRead
  | smbClockTimeout
  | smbAlertResponse
  -- Modes, reset and boot
  | poresetAssert
  | aonPowerLoss
  | poresetDeassert
  | pllLock
  | pcieBootTimeout
  | zoantBootTimeout
  | kindlingDone
  | calibrateDone
  | modeTransitionDone
  | warmReset
  -- Calendar, timers and captures
  | refRestored
  | slowExit
  | slewDone
  | ppsLost
  -- Demodulation and decoding
  | ldpcJobStart
  -- Medium access
  | almanacStart
  | epochRoll
  -- Scheduler
  | loadReview
  | channelReview
  | planReview
  -- Frames, security and counters
  | rxFrameCheck
  | txBuild
  | derivedKeyMiss
  | ctrGroupLow
  -- Ledger
  | learnTokenRefill
  | bgcVisit
  -- Forwarding and rollout
  | packetForward
  | fwdDropsReport
  -- Zoant
  | lsaTx
  | routeRecompute
  | registrarChange
  | syncTx
  | leaseRenew
  -- Pairs
  | tokenClaimed
  | tokenLineFault
  | pairWdtExpiry
  | mirrorHeartbeat
  | mirrorSynced
  | takeover
  -- Host, backhaul and management
  | pcieBmeClear
  -- Power, temperature and the journal
  | journalEmit
  | journalDrop
  -- Further events
  | slowClkStart
  | vddAonRestored
  | timeResyncTimeout
  | ctrResvFetchTimeout
  | bntTokenRefill
  | pcieBmeSet
  | swdRequest
  deriving DecidableEq, Repr

end Sys2Proof
end

