-- ==== Sys2Proof/Config.lean ====
section
/-! DEFINITION. Values that the spec leaves open: constants with no body, so that nothing can be proved of one value. -/

namespace Sys2Proof.Config

/-- A fresh value that the spec leaves open, by the number of such values taken before. -/
opaque free : Nat → Nat

/-- The narrowest channel spacing, in Hz, that IEEE 802.15.4-2020 gives for an MR-FSK operating mode of a symbol
rate (units of 100 sym/s), modulation and modulation index (R156). -/
opaque fskSpacing : Nat → Nat → Nat → Nat

/-- Symbols of a SUN PPDU that IEEE 802.15.4-2020 fixes (MR-OFDM, and MR-FSK but for uncoded 2-FSK), by PHY profile
entry and PSDU length (R157, R214). -/
opaque sunSymbols : List Byte → Nat → Nat

/-- The PSDU of a SUN PPDU by PHY profile entry, MCS, length and the soft values of its payload: de-interleaving, Viterbi
decoding and de-whitening of IEEE 802.15.4-2020 (R157). -/
opaque sunPsdu : List Byte → Nat → Nat → List Int → List Byte

/-- IPHC compression of an IPv6 packet under RFC 6282 (R281): compression contexts (number, prefix length, prefix),
the two link-layer addresses and the packet, to the compressed datagram. RFC 6282 leaves the sender the choice among
the encodings of a header. -/
opaque iphcCompress : List (Nat × Nat × BitVec 128) → BitVec 64 → BitVec 64 → List Byte → List Byte

/-- P that a row programmed anew holds for a scope of it that has none known (R275, R276). -/
opaque lostSlot : Nat → Nat

/-- Depth of hardware queue QID less 1, in items: the spec gives no depth, and a queue holds at least one item (R51). -/
opaque queueDepth : Nat → Nat

end Sys2Proof.Config
end

