-- ==== Sys2Proof/Machine/Iphc.lean ====
section
/-! DEFINITION. 6LoWPAN decompression as RFC 6282 fixes it (R279): IPHC, NHC for UDP and for the IPv6 extension headers. -/

namespace Sys2Proof.Machine

/-- A compression context: prefix length in bits (0: unset) and prefix. -/
abbrev CtxEntry := Nat × BitVec 128
abbrev CtxTable := Sparse CtxEntry

/-- The first `n` bytes and the rest, where there are so many. -/
def takeBytes (n : Nat) (bs : List Byte) : Option (List Byte × List Byte) :=
  if bs.length < n then none else some (bs.take n, bs.drop n)

/-- The interface identifier of an EUI-64: its universal/local bit is inverted. -/
def iidOf (eui : Nat) : List Byte := beBytes 8 (eui ^^^ 0x0200000000000000)

/-- The interface identifier of 16 bits. -/
def iidShort (x : List Byte) : List Byte := [0, 0, 0, 0xFF, 0xFE, 0] ++ x

def linkLocal : List Byte := [0xFE, 0x80, 0, 0, 0, 0, 0, 0]

/-- An address of a context: its prefix, and below it an interface identifier. -/
def ctxAddr (c : CtxEntry) (iid : List Byte) : List Byte :=
  let low := 2 ^ (128 - c.1)
  beBytes 16 (c.2.toNat / low * low + beNat iid % low)

/-- A unicast address by its mode, the interface identifier of the enclosing header at hand. -/
def iphcUnicast (stateful : Bool) (mode : Nat) (c : CtxEntry) (iid bs : List Byte) : Option (List Byte × List Byte) :=
  let place := fun (i : List Byte) => if stateful then (if c.1 = 0 then none else some (ctxAddr c i)) else some (linkLocal ++ i)
  match mode with
  | 0 => if stateful then none else takeBytes 16 bs
  | 1 => (takeBytes 8 bs).bind (fun x => (place x.1).map (fun a => (a, x.2)))
  | 2 => (takeBytes 2 bs).bind (fun x => (place (iidShort x.1)).map (fun a => (a, x.2)))
  | _ => (place iid).map (fun a => (a, bs))

/-- A multicast address by its mode. -/
def iphcMulticast (stateful : Bool) (mode : Nat) (c : CtxEntry) (bs : List Byte) : Option (List Byte × List Byte) :=
  let wide := fun (n zeros : Nat) => (takeBytes n bs).map (fun x =>
    ([0xFF#8] ++ x.1.take 1 ++ List.replicate zeros 0#8 ++ x.1.drop 1, x.2))
  match stateful, mode with
  | false, 0 => takeBytes 16 bs
  | false, 1 => wide 6 9
  | false, 2 => wide 4 11
  | false, _ => (takeBytes 1 bs).map (fun x => ([0xFF#8, 2#8] ++ List.replicate 13 0#8 ++ x.1, x.2))
  | true, 0 =>
    if c.1 = 0 then none
    else (takeBytes 6 bs).map (fun x =>
      ([0xFF#8] ++ x.1.take 2 ++ leBytes 1 c.1 ++ (beBytes 16 c.2.toNat).take 8 ++ x.1.drop 2, x.2))
  | true, _ => none

/-- What a decompressed header chain is: the number of its first header, its bytes with everything that follows, and
where a UDP header without checksum lies: offsets of its IPv6 header (nothing: the one before the chain) and its own. -/
structure NhcChain where
  next : Nat
  bytes : List Byte
  udp : Option (Option Nat × Nat)
  deriving DecidableEq, Repr

/-- The chain behind a header of `n` bytes. -/
def NhcChain.behind (c : NhcChain) (n : Nat) : Option (Option Nat × Nat) := c.udp.map (fun u => (u.1.map (· + n), u.2 + n))

/-- A UDP header by NHC; `left` is what the datagram still holds from here, where it is known. -/
def nhcUdp (left : Option Nat) (bs : List Byte) : Option NhcChain :=
  let d := leAt bs 0 1
  let ports : Option (List Byte × List Byte) := match d % 4 with
    | 0 => takeBytes 4 (bs.drop 1)
    | 1 => (takeBytes 3 (bs.drop 1)).map (fun x => (x.1.take 2 ++ [0xF0#8] ++ x.1.drop 2, x.2))
    | 2 => (takeBytes 3 (bs.drop 1)).map (fun x => ([0xF0#8] ++ x.1, x.2))
    | _ => (takeBytes 1 (bs.drop 1)).map (fun x =>
        let v := leNat x.1
        (beBytes 2 (0xF0B0 + v / 16) ++ beBytes 2 (0xF0B0 + v % 16), x.2))
  let elided := d / 4 % 2 == 1
  ports.bind (fun p => (if elided then some ([0#8, 0#8], p.2) else takeBytes 2 p.2).map (fun c =>
    let n := left.getD (8 + c.2.length)
    ⟨17, p.1 ++ beBytes 2 n ++ c.1 ++ c.2, if elided then some (none, 0) else none⟩))

/-- An extension header's content padded to eight bytes (RFC 6282, 4.2). -/
def extPad (c : List Byte) : List Byte :=
  match (8 - (c.length + 2) % 8) % 8 with
  | 0 => c
  | 1 => c ++ [0#8]
  | n => c ++ [1#8] ++ leBytes 1 (n - 2) ++ List.replicate (n - 2) 0#8

/-- The protocol number of a compressed extension header. -/
def extNumber (eid : Nat) : Option Nat :=
  match eid with
  | 0 => some 0
  | 1 => some 43
  | 2 => some 44
  | 3 => some 60
  | 4 => some 135
  | _ => none

/-- An extension header: its bytes with the next header's number, from its content. -/
def extHeader (eid next : Nat) (c : List Byte) : List Byte :=
  if eid = 2 then leBytes 1 next ++ [0#8] ++ c
  else
    let c := extPad c
    leBytes 1 next ++ leBytes 1 ((c.length + 2) / 8 - 1) ++ c

/-- A fixed IPv6 header. -/
def ip6Header (tc flow len next hop : Nat) (src dst : List Byte) : List Byte :=
  beBytes 4 (0x60000000 + tc * 0x100000 + flow) ++ beBytes 2 len ++ leBytes 1 next ++ leBytes 1 hop ++ src ++ dst

/-- Traffic class and flow label by TF: the encoding carries ECN above DSCP. -/
def iphcClass (tf : Nat) (bs : List Byte) : Option ((Nat × Nat) × List Byte) :=
  let tc := fun (v : Nat) => v % 64 * 4 + v / 64
  match tf with
  | 0 => (takeBytes 4 bs).map (fun x => ((tc (leAt x.1 0 1), beAt x.1 1 3 % 2 ^ 20), x.2))
  | 1 => (takeBytes 3 bs).map (fun x => ((leAt x.1 0 1 / 64, beAt x.1 0 3 % 2 ^ 20), x.2))
  | 2 => (takeBytes 1 bs).map (fun x => ((tc (leNat x.1), 0), x.2))
  | _ => some ((0, 0), bs)

/-- One byte, or a value that the encoding implies. -/
def inlineOr (implied : Option Nat) (bs : List Byte) : Option (Nat × List Byte) :=
  match implied with
  | some v => some (v, bs)
  | none => (takeBytes 1 bs).map (fun x => (leNat x.1, x.2))

/-- What an IPHC header says. -/
structure IphcHead where
  tc : Nat
  flow : Nat
  /-- The next header's number; nothing: it follows by NHC. -/
  next : Option Nat
  hop : Nat
  src : List Byte
  dst : List Byte
  rest : List Byte
  deriving DecidableEq, Repr

/-- Read an IPHC header. -/
def iphcHead (ctx : CtxTable) (srcIid dstIid bs : List Byte) : Option IphcHead := do
  let (h, r) ← takeBytes 2 bs
  let a := leAt h 0 1
  let b := leAt h 1 1
  let (cid, r) ← inlineOr (if b / 128 = 1 then none else some 0) r
  let (tf, r) ← iphcClass (a / 8 % 4) r
  let (nh, r) ← inlineOr (if a / 4 % 2 = 1 then some 256 else none) r
  let (hop, r) ← inlineOr (match a % 4 with
    | 0 => none
    | 1 => some 1
    | 2 => some 64
    | _ => some 255) r
  let sac := b / 64 % 2 == 1
  let (src, r) ← if sac && b / 16 % 4 == 0 then some (List.replicate 16 0#8, r)
    else iphcUnicast sac (b / 16 % 4) (ctx.get (0, 0) (cid / 16)) srcIid r
  let dac := b / 4 % 2 == 1
  let dc := ctx.get (0, 0) (cid % 16)
  let (dst, r) ← if b / 8 % 2 = 1 then iphcMulticast dac (b % 4) dc r else iphcUnicast dac (b % 4) dc dstIid r
  return ⟨tf.1, tf.2, if nh = 256 then none else some nh, hop, src, dst, r⟩

/-- The headers that follow by NHC: UDP, an extension header, or an IPv6 header within. -/
def nhcChain (ctx : CtxTable) : Nat → List Byte → List Byte → Option Nat → List Byte → Option NhcChain
  | 0, _, _, _, _ => none
  | fuel + 1, src, dst, left, bs =>
    let d := leAt bs 0 1
    if bs.isEmpty then none
    else if d / 8 = 0x1E then nhcUdp left bs
    else if d / 16 ≠ 0xE then none
    else if d / 2 % 8 = 7 then
      match iphcHead ctx (src.drop 8) (dst.drop 8) (bs.drop 1) with
      | none => none
      | some h =>
        let inner : Option NhcChain := match h.next with
          | some n => some ⟨n, h.rest, none⟩
          | none => nhcChain ctx fuel h.src h.dst (left.map (· - 40)) h.rest
        inner.map (fun c =>
          ⟨41, ip6Header h.tc h.flow (left.getD (40 + c.bytes.length) - 40) c.next h.hop h.src h.dst ++ c.bytes,
           (c.behind 40).map (fun u => (some (u.1.getD 0), u.2))⟩)
    else
      match extNumber (d / 2 % 8), inlineOr (if d % 2 = 1 then some 256 else none) (bs.drop 1) with
      | some number, some (nh, r) =>
        match takeBytes 1 r with
        | none => none
        | some (n, r) =>
          match takeBytes (leNat n) r with
          | none => none
          | some (c, r) =>
            let size := (extHeader (d / 2 % 8) 0 c).length
            let inner := if nh = 256 then nhcChain ctx fuel src dst (left.map (· - size)) r else some ⟨nh, r, none⟩
            inner.map (fun k => ⟨number, extHeader (d / 2 % 8) k.next c ++ k.bytes, k.behind size⟩)
      | _, _ => none

/-- Decompress a datagram, or its first fragment where `size` is the datagram's size and not 0: the packet, and the
offsets of the IPv6 header and of the UDP header whose checksum was elided. -/
def iphcExpand (ctx : CtxTable) (srcEui dstEui size : Nat) (bs : List Byte) : Option (List Byte × Option (Nat × Nat)) :=
  match iphcHead ctx (iidOf srcEui) (iidOf dstEui) bs with
  | none => none
  | some h =>
    let left := if size = 0 then none else some (size - 40)
    let inner : Option NhcChain := match h.next with
      | some n => some ⟨n, h.rest, none⟩
      | none => nhcChain ctx bs.length h.src h.dst left h.rest
    inner.map (fun c => (ip6Header h.tc h.flow (left.getD c.bytes.length) c.next h.hop h.src h.dst ++ c.bytes,
      (c.behind 40).map (fun u => (u.1.getD 0, u.2))))

/-- The Internet checksum of bytes. -/
def inetSum (bs : List Byte) : Nat :=
  let total := (List.range ((bs.length + 1) / 2)).foldl (fun t i => t + beAt bs (2 * i) 2) 0
  let fold := fun (v : Nat) => v / 65536 + v % 65536
  65535 - fold (fold total)

/-- Write the checksum of a UDP header that was elided: over the pseudo-header and the datagram; 0 is sent as all ones. -/
def udpFill (packet : List Byte) (u : Option (Nat × Nat)) : List Byte :=
  match u with
  | none => packet
  | some (ip, o) =>
    let n := beAt packet (o + 4) 2
    let sum := inetSum (sliceBytes packet (ip + 8) 32 ++ beBytes 4 n ++ [0#8, 0#8, 0#8, 17#8] ++ (packet.drop o).take n)
    patchBytes packet (o + 6) (beBytes 2 (if sum = 0 then 65535 else sum))

end Sys2Proof.Machine
end

