-- ==== Sys2Proof/Machine/Regs.lean ====
section
/-! DEFINITION. The register map: offsets in BAR0, the fields that the model names, the access codes of
R14 by register, and the reset values that the register tables give. -/

namespace Sys2Proof.Machine

/-- A field of a register: BAR0 offset, lowest bit, width. -/
structure Field where
  off : Nat
  lo : Nat
  width : Nat
  deriving DecidableEq, Repr

/-- A register family: offset of its first member, the strides and counts of its indices, and the bits of
each access code of R14; `lockOff` is the register whose bit 31 locks the LK bits. -/
structure RegDesc where
  off : Nat
  idx : List (Nat × Nat)
  rw : Word
  w1c : Word
  w1s : Word
  wo : Word
  fw : Word
  lk : Word
  lockOff : Nat
  deriving DecidableEq, Repr

/-! Offsets. -/

def R.ARB_PRIO (k : Nat) : Nat := 0x110100 + 4 * k
def R.ARB_QUOTA : Nat := 0x110004
def R.CHZ_CAP_STAT : Nat := 0x040040
def R.CHZ_CAP_T0_HI : Nat := 0x04004C
def R.CHZ_CAP_T0_LO : Nat := 0x040048
def R.CHZ_CAP_WIN (k : Nat) : Nat := 0x048000 + 4 * k
def R.CHZ_CH_CFG (n : Nat) : Nat := 0x041000 + 16 * n
def R.CHZ_CH_FREQ (n : Nat) : Nat := 0x041004 + 16 * n
def R.CHZ_CH_TRIM (n : Nat) : Nat := 0x041008 + 16 * n
def R.CHZ_PAIR_PRIO : Nat := 0x040004
def R.CMD_RING_CTL (n : Nat) : Nat := 0x130100 + 32 * n
def R.CMD_RING_GRANTED (n : Nat) : Nat := 0x13011C + 32 * n
def R.CMD_RING_RBASE_HI (n : Nat) : Nat := 0x130110 + 32 * n
def R.CMD_RING_RBASE_LO (n : Nat) : Nat := 0x13010C + 32 * n
def R.CMD_RING_WBASE_HI (n : Nat) : Nat := 0x130118 + 32 * n
def R.CMD_RING_WBASE_LO (n : Nat) : Nat := 0x130114 + 32 * n
def R.DBG_MEAS (k : Nat) : Nat := 0x1D0010 + 4 * k
def R.DBG_STAT : Nat := 0x1D0000
def R.DMA_CH_CPL_HI (n : Nat) : Nat := 0x100110 + 64 * n
def R.DMA_CH_CPL_LO (n : Nat) : Nat := 0x10010C + 64 * n
def R.DMA_CH_CTL (n : Nat) : Nat := 0x100100 + 64 * n
def R.DMA_CH_FLT_ADDR_HI (n : Nat) : Nat := 0x100130 + 64 * n
def R.DMA_CH_FLT_ADDR_LO (n : Nat) : Nat := 0x10012C + 64 * n
def R.DMA_CH_FLT_DESC (n : Nat) : Nat := 0x100124 + 64 * n
def R.DMA_CH_FLT_INFO (n : Nat) : Nat := 0x100120 + 64 * n
def R.DMA_CH_FLT_PROG (n : Nat) : Nat := 0x100128 + 64 * n
def R.DMA_CH_PI (n : Nat) : Nat := 0x100114 + 64 * n
def R.DMA_CH_RING_HI (n : Nat) : Nat := 0x100108 + 64 * n
def R.DMA_CH_RING_LO (n : Nat) : Nat := 0x100104 + 64 * n
def R.ETH_I2C_CMD (b : Nat) : Nat := 0x160400 + 16 * b
def R.ETH_I2C_DATA (b : Nat) : Nat := 0x160404 + 16 * b
def R.ETH_PORT_MAC_HI (p : Nat) : Nat := 0x16010C + 256 * p
def R.ETH_PORT_MAC_LO (p : Nat) : Nat := 0x160108 + 256 * p
def R.EVJ_AON_LOST : Nat := 0x1F0038
def R.EVJ_AON_WR : Nat := 0x1F0030
def R.EVJ_BASE_LO : Nat := 0x1F0004
def R.EVJ_CLR : Nat := 0x1F0080
def R.EVJ_CTL : Nat := 0x1F0000
def R.EVJ_DROP : Nat := 0x1F001C
def R.EVJ_RD : Nat := 0x1F0010
def R.FRM_CELL_EUI_HI : Nat := 0x090008
def R.FRM_CELL_EUI_LO : Nat := 0x090004
def R.FRM_RX_OK : Nat := 0x090010
def R.FWD_PREFIX_HI : Nat := 0x0D0008
def R.FWD_PREFIX_LO : Nat := 0x0D0004
def R.KEY_ACT_EPOCH : Nat := 0x0B000C
def R.KEY_CACHE_STAT : Nat := 0x0B0010
def R.KEY_SLOT_LOADED_HI : Nat := 0x0B0008
def R.KEY_SLOT_LOADED_LO : Nat := 0x0B0004
def R.KEY_STAT : Nat := 0x0B0000
def R.LDG_BGC_CTL : Nat := 0x0C0040
def R.LDG_BGC_MASK_HI : Nat := 0x0C0050
def R.LDG_BGC_MASK_LO : Nat := 0x0C004C
def R.LDG_CAS_HI (w : Nat) : Nat := 0x0C0114 + 256 * w
def R.LDG_CAS_LO (w : Nat) : Nat := 0x0C0110 + 256 * w
def R.LDG_CMD (w : Nat) : Nat := 0x0C0100 + 256 * w
def R.LDG_DATA (w : Nat) (k : Nat) : Nat := 0x0C0140 + 256 * w + 4 * k
def R.LDG_LOCK_TMO : Nat := 0x0C0030
def R.LDG_MASK_HI (w : Nat) : Nat := 0x0C010C + 256 * w
def R.LDG_MASK_LO (w : Nat) : Nat := 0x0C0108 + 256 * w
def R.LDG_MMF_POP : Nat := 0x0C0074
def R.LNS_LANE_CTL (n : Nat) : Nat := 0x070104 + 16 * n
def R.MAC_ALM_START_HI : Nat := 0x080014
def R.MAC_ALM_START_LO : Nat := 0x080010
def R.MAC_ALM_STAT : Nat := 0x080004
def R.MAC_HERALD_CFG : Nat := 0x080024
def R.MAC_HERALD_SET (k : Nat) : Nat := 0x080028 + 4 * k
def R.MAC_SLOT_CFG : Nat := 0x080018
def R.MGT_GPIO_FUNC (k : Nat) : Nat := 0x180010 + 4 * k
def R.MGT_GPIO_OUT : Nat := 0x18000C
def R.MGT_INT : Nat := 0x180100
def R.MGT_QSPI_CMD : Nat := 0x180040
def R.MGT_QSPI_DATA (k : Nat) : Nat := 0x180080 + 4 * k
def R.MMU_FLT_BASE_HI : Nat := 0x0F0034
def R.MMU_FLT_BASE_LO : Nat := 0x0F0030
def R.MMU_FLT_CI : Nat := 0x0F0040
def R.MMU_FLT_CTL : Nat := 0x0F0038
def R.PAR_CLAIM_T_HI : Nat := 0x150024
def R.PAR_CLAIM_T_LO : Nat := 0x150020
def R.PAR_PARTNER_HI : Nat := 0x15000C
def R.PAR_PARTNER_LO : Nat := 0x150008
def R.PAR_STAT : Nat := 0x150004
def R.PAR_WDT : Nat := 0x150010
def R.PWR_RAIL_MON (r : Nat) : Nat := 0x1A0100 + 4 * r
def R.QUE_DROP : Nat := 0x120014
def R.RFE_ISOLATION (i : Nat) : Nat := 0x030020 + 4 * i
def R.RFE_REG_STAT : Nat := 0x030004
def R.RFE_REG_TIGHTEN_A : Nat := 0x030008
def R.RFE_REG_TIGHTEN_B : Nat := 0x03000C
def R.RFE_TX_PA_GAIN (n : Nat) : Nat := 0x03010C + 32 * n
def R.RFE_TX_SEQ (n : Nat) : Nat := 0x030104 + 32 * n
def R.ROL_CAMP_DONE (c : Nat) : Nat := 0x0E010C + 16 * c
def R.ROL_CAMP_SENT (c : Nat) : Nat := 0x0E0104 + 16 * c
def R.ROL_CAMP_SKIP (c : Nat) : Nat := 0x0E0108 + 16 * c
def R.STP_BOOT_STAT : Nat := 0x1E0010
def R.STP_MODE_T_HI : Nat := 0x1E0020
def R.STP_MODE_T_LO : Nat := 0x1E001C
def R.STP_RESET_CAUSE : Nat := 0x1E000C
def R.STP_STRAPS : Nat := 0x1E0004
def R.TMB_NOW_LO : Nat := 0x010000
def R.TMR_CAP_CTL (n : Nat) : Nat := 0x020600 + 16 * n
def R.TMR_CAP_STAT (n : Nat) : Nat := 0x02060C + 16 * n
def R.TMR_I_CMP (n : Nat) : Nat := 0x02040C + 32 * n
def R.TMR_I_COUNT (n : Nat) : Nat := 0x020408 + 32 * n
def R.TMR_I_CTL (n : Nat) : Nat := 0x020400 + 32 * n
def R.TMR_I_PRESC (n : Nat) : Nat := 0x020404 + 32 * n
def R.TMR_I_STAT (n : Nat) : Nat := 0x020410 + 32 * n
def R.TMR_L_CMP (n : Nat) : Nat := 0x020100 + 16 * n
def R.TMR_L_CTL (n : Nat) : Nat := 0x020104 + 16 * n
def R.TMR_L_IE : Nat := 0x020004
def R.TMR_L_INT : Nat := 0x020000
def R.TMR_L_PERIOD (n : Nat) : Nat := 0x02010C + 16 * n

/-! Fields. -/

def F.ARB_CTL_FORERUNNER : Field := ⟨0x110000, 0, 1⟩
def F.ARB_CTL_LOCK : Field := ⟨0x110000, 31, 1⟩
def F.ARB_GRANTS_GRANTS : Field := ⟨0x110020, 0, 32⟩
def F.ARB_MASKED_HI_MASKED : Field := ⟨0x110010, 0, 32⟩
def F.ARB_MASKED_LO_MASKED : Field := ⟨0x11000C, 0, 32⟩
def F.ARB_NULL_DEAD : Field := ⟨0x110024, 0, 16⟩
def F.ARB_NULL_NULL : Field := ⟨0x110024, 16, 16⟩
def F.ARB_QMASK_QMASK : Field := ⟨0x110028, 0, 32⟩
def F.ARB_QUOTA_Q_M1 : Field := ⟨0x110004, 0, 16⟩
def F.ARB_QUOTA_W_M1 : Field := ⟨0x110004, 16, 16⟩
def F.ARB_STAT_LAST : Field := ⟨0x110008, 16, 8⟩
def F.ARB_STAT_MODE : Field := ⟨0x110008, 31, 1⟩
def F.ARB_STAT_WPOS : Field := ⟨0x110008, 0, 16⟩
def F.CHZ_BR_CNT_CLIP (b : Nat) : Field := ⟨0x040010 + 4 * b, 0, 16⟩
def F.CHZ_BR_CNT_SAT (b : Nat) : Field := ⟨0x040010 + 4 * b, 16, 16⟩
def F.CHZ_CAP_PAGE_PAGE : Field := ⟨0x040044, 0, 7⟩
def F.CHZ_CAP_STAT_COUNT : Field := ⟨0x040040, 0, 21⟩
def F.CHZ_CAP_STAT_MODE : Field := ⟨0x040040, 26, 2⟩
def F.CHZ_CAP_STAT_STATE : Field := ⟨0x040040, 28, 4⟩
def F.CHZ_CAP_STAT_WRAPPED : Field := ⟨0x040040, 24, 1⟩
def F.CHZ_CH_CFG_DIV (n : Nat) : Field := ⟨0x041000 + 16 * n, 24, 2⟩
def F.CHZ_CH_CFG_EN (n : Nat) : Field := ⟨0x041000 + 16 * n, 31, 1⟩
def F.CHZ_CH_CFG_HEAD (n : Nat) : Field := ⟨0x041000 + 16 * n, 22, 1⟩
def F.CHZ_CH_CFG_PAIR (n : Nat) : Field := ⟨0x041000 + 16 * n, 29, 2⟩
def F.CHZ_CH_CFG_PHY_PROFILE (n : Nat) : Field := ⟨0x041000 + 16 * n, 16, 6⟩
def F.CHZ_CH_CFG_PRIMARY (n : Nat) : Field := ⟨0x041000 + 16 * n, 23, 1⟩
def F.CHZ_CH_CFG_WIDTH (n : Nat) : Field := ⟨0x041000 + 16 * n, 26, 3⟩
def F.CHZ_CH_FREQ_F_HZ (n : Nat) : Field := ⟨0x041004 + 16 * n, 0, 32⟩
def F.CHZ_CH_STAT_BIN (n : Nat) : Field := ⟨0x04100C + 16 * n, 22, 6⟩
def F.CHZ_CH_STAT_BRANCH (n : Nat) : Field := ⟨0x04100C + 16 * n, 28, 1⟩
def F.CHZ_CH_STAT_STATE (n : Nat) : Field := ⟨0x04100C + 16 * n, 29, 3⟩
def F.CHZ_CH_STAT_TRIM_CLAMPED (n : Nat) : Field := ⟨0x04100C + 16 * n, 21, 1⟩
def F.CHZ_CH_TRIM_TRIM (n : Nat) : Field := ⟨0x041008 + 16 * n, 0, 16⟩
def F.CHZ_CNT_DIV_SHORT : Field := ⟨0x040008, 0, 16⟩
def F.CHZ_CNT_PREEMPT : Field := ⟨0x040008, 16, 16⟩
def F.CHZ_PAIR_PRIO_PRIO : Field := ⟨0x040004, 0, 8⟩
def F.CLK_GATE_CORE_RUN : Field := ⟨0x000008, 0, 1⟩
def F.CLK_GATE_MAC_RUN : Field := ⟨0x000008, 2, 1⟩
def F.CLK_GATE_MGT_RUN : Field := ⟨0x000008, 3, 1⟩
def F.CLK_GATE_SAMP_RUN : Field := ⟨0x000008, 1, 1⟩
def F.CLK_REF_LOSS_CNT_COUNT : Field := ⟨0x000004, 0, 16⟩
def F.CLK_STAT_PLL_LOCK : Field := ⟨0x000000, 0, 1⟩
def F.CLK_STAT_REFSEL : Field := ⟨0x000000, 3, 1⟩
def F.CLK_STAT_REF_OK : Field := ⟨0x000000, 1, 1⟩
def F.CLK_STAT_SLOW_OK : Field := ⟨0x000000, 2, 1⟩
def F.CMD_CLASS_MASK_SMB_CLASSES : Field := ⟨0x130004, 16, 16⟩
def F.CMD_CLASS_MASK_ZOANT_CLASSES : Field := ⟨0x130004, 0, 16⟩
def F.CMD_CTL_HOST_EN : Field := ⟨0x130000, 0, 1⟩
def F.CMD_CTL_LOCK : Field := ⟨0x130000, 31, 1⟩
def F.CMD_CTL_SMB_EN : Field := ⟨0x130000, 1, 1⟩
def F.CMD_CTL_ZOANT_EN : Field := ⟨0x130000, 2, 1⟩
def F.CMD_ERR_RING_ERR : Field := ⟨0x13000C, 0, 16⟩
def F.CMD_ERR_SMB_ERR : Field := ⟨0x13000C, 16, 1⟩
def F.CMD_ERR_ZOANT_ERR : Field := ⟨0x13000C, 17, 1⟩
def F.CMD_RING_CTL_CAUSE (n : Nat) : Field := ⟨0x130100 + 32 * n, 8, 8⟩
def F.CMD_RING_CTL_COALESCE (n : Nat) : Field := ⟨0x130100 + 32 * n, 24, 4⟩
def F.CMD_RING_CTL_EN (n : Nat) : Field := ⟨0x130100 + 32 * n, 0, 1⟩
def F.CMD_RING_CTL_LOG2_SLOTS (n : Nat) : Field := ⟨0x130100 + 32 * n, 16, 4⟩
def F.CMD_RING_CTL_RESET (n : Nat) : Field := ⟨0x130100 + 32 * n, 2, 1⟩
def F.CMD_RING_CTL_STOPPED (n : Nat) : Field := ⟨0x130100 + 32 * n, 1, 1⟩
def F.DBG_MEAS_CNT_MEAS_CNT : Field := ⟨0x1D000C, 0, 16⟩
def F.DBG_STAT_FAIL : Field := ⟨0x1D0000, 16, 8⟩
def F.DBG_STAT_LATCHED : Field := ⟨0x1D0000, 28, 1⟩
def F.DBG_STAT_LOCKED_OUT : Field := ⟨0x1D0000, 29, 1⟩
def F.DBG_STAT_OPEN : Field := ⟨0x1D0000, 31, 1⟩
def F.DMA_CH_CI_CI (n : Nat) : Field := ⟨0x100118 + 64 * n, 0, 16⟩
def F.DMA_CH_CNT_FAULTS (n : Nat) : Field := ⟨0x100134 + 64 * n, 16, 16⟩
def F.DMA_CH_CNT_NOBUF_WAIT (n : Nat) : Field := ⟨0x100134 + 64 * n, 0, 16⟩
def F.DMA_CH_CTL_AUTO_SKIP (n : Nat) : Field := ⟨0x100100 + 64 * n, 8, 1⟩
def F.DMA_CH_CTL_DIR (n : Nat) : Field := ⟨0x100100 + 64 * n, 4, 1⟩
def F.DMA_CH_CTL_EN (n : Nat) : Field := ⟨0x100100 + 64 * n, 0, 1⟩
def F.DMA_CH_CTL_LOG2_SLOTS (n : Nat) : Field := ⟨0x100100 + 64 * n, 16, 4⟩
def F.DMA_CH_PI_PI (n : Nat) : Field := ⟨0x100114 + 64 * n, 0, 16⟩
def F.DMA_CH_STAT_PI_ERR (n : Nat) : Field := ⟨0x10011C + 64 * n, 28, 1⟩
def F.DMA_CH_STAT_PROGRESS (n : Nat) : Field := ⟨0x10011C + 64 * n, 0, 16⟩
def F.DMA_CH_STAT_REC_PENDING (n : Nat) : Field := ⟨0x10011C + 64 * n, 27, 1⟩
def F.DMA_CH_STAT_STATE (n : Nat) : Field := ⟨0x10011C + 64 * n, 29, 3⟩
def F.DMA_IE_DONE : Field := ⟨0x100004, 0, 16⟩
def F.DMA_IE_FAULT : Field := ⟨0x100004, 16, 16⟩
def F.DMA_INT_DONE : Field := ⟨0x100000, 0, 16⟩
def F.DMA_INT_FAULT : Field := ⟨0x100000, 16, 16⟩
def F.DMD_CH_STAT_LQI (n : Nat) : Field := ⟨0x051000 + 4 * n, 12, 8⟩
def F.DMD_CH_STAT_OUTCOME (n : Nat) : Field := ⟨0x051000 + 4 * n, 8, 4⟩
def F.DMD_CH_STAT_RSSI (n : Nat) : Field := ⟨0x051000 + 4 * n, 20, 8⟩
def F.DMD_CH_STAT_STATE (n : Nat) : Field := ⟨0x051000 + 4 * n, 28, 4⟩
def F.DMD_CNT0_DETECT : Field := ⟨0x050010, 16, 16⟩
def F.DMD_CNT0_SYNC_TIMEOUT : Field := ⟨0x050010, 0, 16⟩
def F.DMD_CNT1_BLANKED : Field := ⟨0x050014, 0, 16⟩
def F.DMD_CNT1_PHR_FAIL : Field := ⟨0x050014, 16, 16⟩
def F.DMD_CNT2_LOST : Field := ⟨0x050018, 16, 16⟩
def F.DMD_CNT2_PILOT : Field := ⟨0x050018, 0, 16⟩
def F.DMD_CTL_CFO_VALID_S : Field := ⟨0x050000, 0, 16⟩
def F.DMD_DIV_CNT_DIV_A : Field := ⟨0x05001C, 16, 16⟩
def F.DMD_DIV_CNT_DIV_B : Field := ⟨0x05001C, 0, 16⟩
def F.DMD_PROF_VALID_HI_LOADED : Field := ⟨0x050008, 0, 32⟩
def F.DMD_PROF_VALID_LO_LOADED : Field := ⟨0x050004, 0, 32⟩
def F.ETH_I2C_CMD_BUSY (b : Nat) : Field := ⟨0x160400 + 16 * b, 31, 1⟩
def F.ETH_I2C_CMD_COUNT_M1 (b : Nat) : Field := ⟨0x160400 + 16 * b, 24, 3⟩
def F.ETH_I2C_CMD_NACK (b : Nat) : Field := ⟨0x160400 + 16 * b, 30, 1⟩
def F.ETH_I2C_CMD_WRITE (b : Nat) : Field := ⟨0x160400 + 16 * b, 29, 1⟩
def F.ETH_INT_LINK : Field := ⟨0x160000, 0, 2⟩
def F.ETH_INT_SFP : Field := ⟨0x160000, 2, 2⟩
def F.ETH_INT_TS_OVR : Field := ⟨0x160000, 4, 2⟩
def F.ETH_PORT_CTL_EN (p : Nat) : Field := ⟨0x160100 + 256 * p, 31, 1⟩
def F.ETH_PORT_CTL_PCP (p : Nat) : Field := ⟨0x160100 + 256 * p, 0, 3⟩
def F.ETH_PORT_MAC_HI_MAC (p : Nat) : Field := ⟨0x16010C + 256 * p, 0, 16⟩
def F.ETH_PORT_RX_DROP0_FCS (p : Nat) : Field := ⟨0x16012C + 256 * p, 16, 16⟩
def F.ETH_PORT_RX_DROP0_SIZE (p : Nat) : Field := ⟨0x16012C + 256 * p, 0, 16⟩
def F.ETH_PORT_RX_DROP1_FILTER (p : Nat) : Field := ⟨0x160130 + 256 * p, 16, 16⟩
def F.ETH_PORT_RX_DROP1_VLAN (p : Nat) : Field := ⟨0x160130 + 256 * p, 0, 16⟩
def F.ETH_PORT_RX_OK_OK (p : Nat) : Field := ⟨0x160128 + 256 * p, 0, 32⟩
def F.ETH_PORT_STAT_BLOCK_LOCK (p : Nat) : Field := ⟨0x160104 + 256 * p, 1, 1⟩
def F.ETH_PORT_STAT_LASER_ON (p : Nat) : Field := ⟨0x160104 + 256 * p, 5, 1⟩
def F.ETH_PORT_STAT_LINK (p : Nat) : Field := ⟨0x160104 + 256 * p, 0, 1⟩
def F.ETH_PORT_STAT_MOD_ABS (p : Nat) : Field := ⟨0x160104 + 256 * p, 2, 1⟩
def F.ETH_PORT_STAT_RX_LOS (p : Nat) : Field := ⟨0x160104 + 256 * p, 3, 1⟩
def F.ETH_PORT_STAT_TX_FAULT (p : Nat) : Field := ⟨0x160104 + 256 * p, 4, 1⟩
def F.ETH_PORT_TS_ADJ_RX_ADJ (p : Nat) : Field := ⟨0x160124 + 256 * p, 16, 16⟩
def F.ETH_PORT_TS_ADJ_TX_ADJ (p : Nat) : Field := ⟨0x160124 + 256 * p, 0, 16⟩
def F.ETH_PORT_TS_COUNT (p : Nat) : Field := ⟨0x160138 + 256 * p, 0, 16⟩
def F.ETH_PORT_TS_OVR (p : Nat) : Field := ⟨0x160138 + 256 * p, 16, 16⟩
def F.ETH_PORT_TX_OK_OK (p : Nat) : Field := ⟨0x160134 + 256 * p, 0, 32⟩
def F.ETH_PORT_VID_VIDA (p : Nat) (k : Nat) : Field := ⟨0x160114 + 256 * p + 4 * k, 16, 12⟩
def F.ETH_PORT_VID_VIDB (p : Nat) (k : Nat) : Field := ⟨0x160114 + 256 * p + 4 * k, 0, 12⟩
def F.ETH_PORT_VLAN_PVID (p : Nat) : Field := ⟨0x160110 + 256 * p, 0, 12⟩
def F.EVJ_AON_LOST_COUNT : Field := ⟨0x1F0038, 0, 32⟩
def F.EVJ_AON_SEL_SLOT : Field := ⟨0x1F0034, 0, 8⟩
def F.EVJ_AON_WR_WR : Field := ⟨0x1F0030, 0, 32⟩
def F.EVJ_BASE_HI_BASE : Field := ⟨0x1F0008, 0, 8⟩
def F.EVJ_BASE_LO_BASE : Field := ⟨0x1F0004, 21, 11⟩
def F.EVJ_CTL_AON_MIN : Field := ⟨0x1F0000, 0, 2⟩
def F.EVJ_CTL_EN : Field := ⟨0x1F0000, 31, 1⟩
def F.EVJ_CTL_HOLD : Field := ⟨0x1F0000, 8, 1⟩
def F.EVJ_DROP_DRAM_DROPPED : Field := ⟨0x1F001C, 16, 16⟩
def F.EVJ_DROP_LATE : Field := ⟨0x1F001C, 0, 16⟩
def F.EVJ_LEVEL_LEVEL : Field := ⟨0x1F0014, 0, 17⟩
def F.EVJ_RD_RD : Field := ⟨0x1F0010, 0, 32⟩
def F.EVJ_SEV_COUNT (s : Nat) : Field := ⟨0x1F0020 + 4 * s, 0, 32⟩
def F.EVJ_STAT_FATAL_VALID : Field := ⟨0x1F0018, 29, 1⟩
def F.EVJ_STAT_STATE : Field := ⟨0x1F0018, 30, 2⟩
def F.EVJ_WR_WR : Field := ⟨0x1F000C, 0, 32⟩
def F.FRM_CTL_FRAG_PSDU : Field := ⟨0x090000, 0, 11⟩
def F.FRM_CTL_PAN_ID : Field := ⟨0x090000, 16, 16⟩
def F.FRM_CTL_RX_MIN_LEVEL : Field := ⟨0x090000, 12, 2⟩
def F.FRM_CTL_TX_LEVEL : Field := ⟨0x090000, 14, 2⟩
def F.FRM_DUP_CNT_DUPLICATE_REACK : Field := ⟨0x090028, 0, 32⟩
def F.FRM_FRAG_CNT_NOCTX : Field := ⟨0x090030, 16, 16⟩
def F.FRM_FRAG_CNT_TIMEOUT : Field := ⟨0x090030, 0, 16⟩
def F.FRM_FRAG_STAT_IN_USE : Field := ⟨0x09000C, 0, 13⟩
def F.FRM_FRAG_STAT_REASM_S : Field := ⟨0x09000C, 16, 6⟩
def F.FRM_RX_DROP0_FORMAT : Field := ⟨0x090014, 16, 16⟩
def F.FRM_RX_DROP0_NO_SENDER : Field := ⟨0x090014, 0, 16⟩
def F.FRM_RX_DROP1_FCTR_MISMATCH : Field := ⟨0x090018, 0, 16⟩
def F.FRM_RX_DROP1_UNSECURED : Field := ⟨0x090018, 16, 16⟩
def F.FRM_RX_DROP2_REPLAY_OLD : Field := ⟨0x09001C, 16, 16⟩
def F.FRM_RX_DROP2_REPLAY_WIN : Field := ⟨0x09001C, 0, 16⟩
def F.FRM_RX_DROP3_AUTH_FAIL : Field := ⟨0x090020, 0, 16⟩
def F.FRM_RX_DROP3_REPLAY_CONTENT : Field := ⟨0x090020, 16, 16⟩
def F.FRM_RX_DROP4_LEVEL : Field := ⟨0x090024, 0, 16⟩
def F.FRM_RX_DROP4_NO_KEY : Field := ⟨0x090024, 16, 16⟩
def F.FRM_RX_OK_OK : Field := ⟨0x090010, 0, 32⟩
def F.FRM_TX_CNT_CTR_EXHAUSTED : Field := ⟨0x09002C, 16, 16⟩
def F.FRM_TX_CNT_KEY_ABSENT : Field := ⟨0x09002C, 0, 16⟩
def F.FWD_CTL_EN : Field := ⟨0x0D0000, 31, 1⟩
def F.FWD_CTL_ETH_MTU : Field := ⟨0x0D0000, 0, 14⟩
def F.FWD_CTL_EXC_TO_HOST : Field := ⟨0x0D0000, 28, 1⟩
def F.FWD_CTL_SRC_CHECK : Field := ⟨0x0D0000, 29, 2⟩
def F.FWD_DLQ_CFG_MAX : Field := ⟨0x0D0010, 0, 6⟩
def F.FWD_DLQ_CFG_TTL_S : Field := ⟨0x0D0010, 16, 16⟩
def F.FWD_DLQ_PAGES_LIMIT : Field := ⟨0x0D0014, 0, 18⟩
def F.FWD_DLQ_STAT_PAGES : Field := ⟨0x0D0018, 0, 18⟩
def F.FWD_DN_CNT_DN : Field := ⟨0x0D0024, 0, 32⟩
def F.FWD_DROP0_NO_NODE : Field := ⟨0x0D0028, 0, 16⟩
def F.FWD_DROP0_NO_ROUTE : Field := ⟨0x0D0028, 16, 16⟩
def F.FWD_DROP1_DLQ_FULL : Field := ⟨0x0D002C, 0, 16⟩
def F.FWD_DROP1_SPOOF : Field := ⟨0x0D002C, 16, 16⟩
def F.FWD_DROP2_FLUSHED : Field := ⟨0x0D0030, 0, 16⟩
def F.FWD_DROP2_TTL : Field := ⟨0x0D0030, 16, 16⟩
def F.FWD_DROP3_BANKED : Field := ⟨0x0D0034, 8, 8⟩
def F.FWD_DROP3_HOSTQ_FULL : Field := ⟨0x0D0034, 16, 16⟩
def F.FWD_DROP3_NO_BUF : Field := ⟨0x0D0034, 0, 8⟩
def F.FWD_EXC_CNT_EXC : Field := ⟨0x0D0038, 0, 32⟩
def F.FWD_HOSTQ_BASE : Field := ⟨0x0D000C, 0, 4⟩
def F.FWD_HOSTQ_COUNT_M1 : Field := ⟨0x0D000C, 4, 4⟩
def F.FWD_UP_CNT_UP : Field := ⟨0x0D0020, 0, 32⟩
def F.KEY_ACT_EPOCH_ACT_EPOCH : Field := ⟨0x0B000C, 0, 32⟩
def F.KEY_CACHE_HIT_COUNT : Field := ⟨0x0B0014, 0, 32⟩
def F.KEY_CACHE_MISS_COUNT : Field := ⟨0x0B0018, 0, 32⟩
def F.KEY_CACHE_STAT_USED : Field := ⟨0x0B0010, 0, 11⟩
def F.KEY_CNT_UNWRAP_FAIL : Field := ⟨0x0B001C, 16, 16⟩
def F.KEY_CNT_ZAPS : Field := ⟨0x0B001C, 0, 16⟩
def F.KEY_SLOT_LOADED_HI_LOADED : Field := ⟨0x0B0008, 0, 32⟩
def F.KEY_SLOT_LOADED_LO_LOADED : Field := ⟨0x0B0004, 0, 32⟩
def F.KEY_STAT_CUR : Field := ⟨0x0B0000, 0, 8⟩
def F.KEY_STAT_DK : Field := ⟨0x0B0000, 27, 1⟩
def F.KEY_STAT_KWK : Field := ⟨0x0B0000, 29, 1⟩
def F.KEY_STAT_NEXT : Field := ⟨0x0B0000, 16, 8⟩
def F.KEY_STAT_ORK : Field := ⟨0x0B0000, 28, 1⟩
def F.KEY_STAT_PREV : Field := ⟨0x0B0000, 8, 8⟩
def F.KEY_STAT_PREV_HELD : Field := ⟨0x0B0000, 26, 1⟩
def F.KEY_STAT_STATE : Field := ⟨0x0B0000, 30, 2⟩
def F.LDG_ABANDON_CNT_COUNT : Field := ⟨0x0C0034, 0, 16⟩
def F.LDG_ABANDON_CNT_LAST_CAUSE : Field := ⟨0x0C0034, 16, 3⟩
def F.LDG_ABANDON_CNT_LAST_OWNER : Field := ⟨0x0C0034, 24, 8⟩
def F.LDG_AGE_CFG_BNT_AGE_S : Field := ⟨0x0C0008, 0, 16⟩
def F.LDG_AGE_CFG_LEARN_AGE_S : Field := ⟨0x0C0008, 16, 16⟩
def F.LDG_BGC_BASE_HI_BASE : Field := ⟨0x0C0058, 0, 8⟩
def F.LDG_BGC_BASE_LO_BASE : Field := ⟨0x0C0054, 12, 20⟩
def F.LDG_BGC_CTL_EN : Field := ⟨0x0C0040, 31, 1⟩
def F.LDG_BGC_CTL_ONCE : Field := ⟨0x0C0040, 30, 1⟩
def F.LDG_BGC_CTL_RATE : Field := ⟨0x0C0040, 16, 13⟩
def F.LDG_BGC_CTL_XREF : Field := ⟨0x0C0040, 29, 1⟩
def F.LDG_BGC_FIRST_SHORT_ID : Field := ⟨0x0C0044, 0, 17⟩
def F.LDG_BGC_LAST_SHORT_ID : Field := ⟨0x0C0048, 0, 17⟩
def F.LDG_BGC_STAT_POSITION : Field := ⟨0x0C005C, 0, 17⟩
def F.LDG_BGC_STAT_RUNNING : Field := ⟨0x0C005C, 31, 1⟩
def F.LDG_BGC_STAT_SWEEPS : Field := ⟨0x0C005C, 17, 11⟩
def F.LDG_BNT_CNT0_LEARNED : Field := ⟨0x0C0018, 16, 16⟩
def F.LDG_BNT_CNT0_MOVED : Field := ⟨0x0C0018, 0, 16⟩
def F.LDG_BNT_CNT1_AGED : Field := ⟨0x0C001C, 0, 16⟩
def F.LDG_BNT_CNT1_REFUSED : Field := ⟨0x0C001C, 16, 16⟩
def F.LDG_ECC_CNT_UNCORRECTABLE : Field := ⟨0x0C003C, 0, 16⟩
def F.LDG_FROZEN_DROP_COUNT : Field := ⟨0x0C0038, 0, 32⟩
def F.LDG_LEARN_CNT0_LEARNED : Field := ⟨0x0C0010, 16, 16⟩
def F.LDG_LEARN_CNT0_RATE_LIMITED : Field := ⟨0x0C0010, 0, 16⟩
def F.LDG_LEARN_CNT1_AGED : Field := ⟨0x0C0014, 0, 12⟩
def F.LDG_LEARN_CNT1_FULL : Field := ⟨0x0C0014, 12, 12⟩
def F.LDG_LEARN_CNT1_JOINQ : Field := ⟨0x0C0014, 24, 8⟩
def F.LDG_LEARN_CTL_BNT_EN : Field := ⟨0x0C0004, 30, 1⟩
def F.LDG_LEARN_CTL_BURST : Field := ⟨0x0C0004, 8, 8⟩
def F.LDG_LEARN_CTL_NODE_EN : Field := ⟨0x0C0004, 31, 1⟩
def F.LDG_LEARN_CTL_RATE : Field := ⟨0x0C0004, 16, 11⟩
def F.LDG_MMF_STAT_OVERFLOW : Field := ⟨0x0C0060, 16, 16⟩
def F.LDG_WSTAT_INDEX (w : Nat) : Field := ⟨0x0C0104 + 256 * w, 0, 18⟩
def F.LDG_WSTAT_PROTECTED (w : Nat) : Field := ⟨0x0C0104 + 256 * w, 29, 1⟩
def F.LDG_WSTAT_RESULT (w : Nat) : Field := ⟨0x0C0104 + 256 * w, 20, 4⟩
def F.LDP_CNT_CW_COUNT : Field := ⟨0x060008, 0, 32⟩
def F.LDP_CNT_FAIL_FAIL : Field := ⟨0x06000C, 16, 16⟩
def F.LDP_CNT_FAIL_OVERLOAD : Field := ⟨0x06000C, 0, 16⟩
def F.LDP_CNT_ITER_ITERATIONS : Field := ⟨0x060010, 0, 32⟩
def F.LDP_COMB_CNT_COMBINED : Field := ⟨0x060028, 16, 16⟩
def F.LDP_COMB_CNT_EVICTED : Field := ⟨0x060028, 0, 16⟩
def F.LDP_COMB_CTL_HOLD : Field := ⟨0x060020, 0, 16⟩
def F.LDP_CTL_ITER_CAP : Field := ⟨0x060000, 0, 6⟩
def F.LNS_CTL_RUN : Field := ⟨0x070000, 0, 16⟩
def F.LNS_LANE_CNT_DUE_LATE (n : Nat) : Field := ⟨0x070108 + 16 * n, 0, 16⟩
def F.LNS_LANE_CNT_EVENTS (n : Nat) : Field := ⟨0x070108 + 16 * n, 16, 16⟩
def F.LNS_LANE_CTL_CHAIN (n : Nat) : Field := ⟨0x070104 + 16 * n, 0, 2⟩
def F.LNS_LANE_STAT_DUE (n : Nat) : Field := ⟨0x070100 + 16 * n, 8, 8⟩
def F.LNS_LANE_STAT_FAULT_CODE (n : Nat) : Field := ⟨0x070100 + 16 * n, 0, 8⟩
def F.LNS_LANE_STAT_STATE (n : Nat) : Field := ⟨0x070100 + 16 * n, 29, 3⟩
def F.LNS_STAT_FAULT : Field := ⟨0x070004, 16, 16⟩
def F.LNS_STAT_RUNNING : Field := ⟨0x070004, 0, 16⟩
def F.MAC_ALM_CFG_BASE_SEED : Field := ⟨0x08000C, 24, 8⟩
def F.MAC_ALM_CFG_ROUNDS_M1 : Field := ⟨0x08000C, 0, 16⟩
def F.MAC_ALM_CFG_SLOT_LEN : Field := ⟨0x08000C, 16, 8⟩
def F.MAC_ALM_STAT_ROUND : Field := ⟨0x080004, 0, 16⟩
def F.MAC_ALM_STAT_RUNNING : Field := ⟨0x080004, 31, 1⟩
def F.MAC_ALM_STAT_SLOT_LEN : Field := ⟨0x080004, 16, 8⟩
def F.MAC_CTL_FEAST_COLD : Field := ⟨0x080000, 0, 1⟩
def F.MAC_CTL_LOCK : Field := ⟨0x080000, 31, 1⟩
def F.MAC_DRIFT_CFG_ALPHA_SH : Field := ⟨0x08001C, 24, 3⟩
def F.MAC_DRIFT_CFG_CORR_MIN : Field := ⟨0x08001C, 16, 8⟩
def F.MAC_DRIFT_CFG_G_MIN : Field := ⟨0x08001C, 0, 16⟩
def F.MAC_DRIFT_U_U_MAX : Field := ⟨0x080020, 16, 16⟩
def F.MAC_DRIFT_U_U_MIN : Field := ⟨0x080020, 0, 16⟩
def F.MAC_EPOCH_EPOCH : Field := ⟨0x080008, 0, 32⟩
def F.MAC_EVENTS_EVENTS : Field := ⟨0x080040, 0, 32⟩
def F.MAC_EVT_CNT0_MISS : Field := ⟨0x080048, 16, 16⟩
def F.MAC_EVT_CNT0_SEARCH_MISS : Field := ⟨0x080048, 0, 16⟩
def F.MAC_EVT_CNT1_OBSTRUCTED : Field := ⟨0x08004C, 0, 16⟩
def F.MAC_EVT_CNT1_UNSERVED : Field := ⟨0x08004C, 16, 16⟩
def F.MAC_EVT_CNT2_CLASH : Field := ⟨0x080050, 16, 16⟩
def F.MAC_EVT_CNT2_SKIPPED : Field := ⟨0x080050, 0, 16⟩
def F.MAC_HEARD_HEARD : Field := ⟨0x080044, 0, 32⟩
def F.MAC_HERALD_CFG_CHAIN : Field := ⟨0x080024, 30, 2⟩
def F.MAC_HERALD_CFG_DRIVE : Field := ⟨0x080024, 10, 7⟩
def F.MAC_HERALD_CFG_JOIN_OPEN : Field := ⟨0x080024, 21, 1⟩
def F.MAC_HERALD_CFG_NSET_M1 : Field := ⟨0x080024, 17, 4⟩
def F.MAC_HERALD_CFG_PROFILE : Field := ⟨0x080024, 24, 6⟩
def F.MAC_HERALD_CFG_TIER : Field := ⟨0x080024, 22, 2⟩
def F.MAC_LEDGER_FAULT_DWELL_ECC : Field := ⟨0x080068, 0, 16⟩
def F.MAC_LEDGER_FAULT_VOTE_FAULT : Field := ⟨0x080068, 16, 16⟩
def F.MAC_LEDGER_VOTE_ERRCNT_COUNT : Field := ⟨0x080064, 0, 32⟩
def F.MAC_NODE_CNT_DRIFTING : Field := ⟨0x080054, 16, 16⟩
def F.MAC_NODE_CNT_LAPSED : Field := ⟨0x080054, 0, 16⟩
def F.MAC_REG_CNT2_LBT_BUSY : Field := ⟨0x080060, 16, 16⟩
def F.MAC_REG_CNT_DUTY : Field := ⟨0x08005C, 16, 16⟩
def F.MAC_REG_CNT_DWELL : Field := ⟨0x08005C, 0, 16⟩
def F.MAC_SLOT_CFG_ACK_TURN : Field := ⟨0x080018, 16, 16⟩
def F.MAC_SLOT_CFG_EV_OFS : Field := ⟨0x080018, 0, 16⟩
def F.MAC_TX_CNT_ACK_LATE : Field := ⟨0x080058, 16, 16⟩
def F.MAC_TX_CNT_HERALD_FAIL : Field := ⟨0x080058, 0, 16⟩
def F.MGT_ALERT_EN_EN : Field := ⟨0x180104, 0, 7⟩
def F.MGT_GPIO_OUT_OUT : Field := ⟨0x18000C, 0, 24⟩
def F.MGT_INT_ALERT_CAUSE : Field := ⟨0x180100, 0, 7⟩
def F.MGT_INT_FAULT_CAUSE : Field := ⟨0x180100, 16, 5⟩
def F.MGT_PPS_CTL_ALIGN : Field := ⟨0x180020, 30, 1⟩
def F.MGT_PPS_CTL_CAP : Field := ⟨0x180020, 16, 4⟩
def F.MGT_PPS_CTL_OUT_EN : Field := ⟨0x180020, 31, 1⟩
def F.MGT_PPS_CTL_TIMER : Field := ⟨0x180020, 24, 3⟩
def F.MGT_PPS_CTL_WIDTH : Field := ⟨0x180020, 0, 16⟩
def F.MGT_PPS_ERR_E : Field := ⟨0x180028, 0, 32⟩
def F.MGT_PPS_PHASE_PHASE : Field := ⟨0x180024, 0, 32⟩
def F.MGT_QSPI_CMD_BUSY : Field := ⟨0x180040, 31, 1⟩
def F.MGT_QSPI_CMD_LEN : Field := ⟨0x180040, 0, 7⟩
def F.MGT_QSPI_CMD_WRITE : Field := ⟨0x180040, 30, 1⟩
def F.MGT_RES_CNT_IGNORED : Field := ⟨0x180038, 0, 16⟩
def F.MGT_RES_CNT_REFUSED : Field := ⟨0x180038, 16, 16⟩
def F.MGT_SMB_CFG_ADDR : Field := ⟨0x180000, 8, 7⟩
def F.MGT_SMB_CFG_LOCK : Field := ⟨0x180000, 31, 1⟩
def F.MGT_SMB_CFG_REPLY_ALERT : Field := ⟨0x180000, 0, 1⟩
def F.MGT_UART_CFG_DROPPED : Field := ⟨0x180004, 8, 16⟩
def F.MGT_UART_CFG_LOG_EN : Field := ⟨0x180004, 31, 1⟩
def F.MGT_UART_CFG_RATE : Field := ⟨0x180004, 0, 3⟩
def F.MMU_BUF_BASE_BASE : Field := ⟨0x0F0000, 0, 20⟩
def F.MMU_BUF_FRAMES_FRAMES : Field := ⟨0x0F0004, 0, 20⟩
def F.MMU_BUF_PAGES_PAGES : Field := ⟨0x0F0008, 0, 18⟩
def F.MMU_ECC_CNT_CORRECTED : Field := ⟨0x0F0024, 16, 16⟩
def F.MMU_ECC_CNT_UNCORRECTABLE : Field := ⟨0x0F0024, 0, 16⟩
def F.MMU_FLT_BASE_HI_BASE : Field := ⟨0x0F0034, 0, 8⟩
def F.MMU_FLT_BASE_LO_BASE : Field := ⟨0x0F0030, 5, 27⟩
def F.MMU_FLT_CI_CI : Field := ⟨0x0F0040, 0, 16⟩
def F.MMU_FLT_CTL_LOG2 : Field := ⟨0x0F0038, 0, 4⟩
def F.MMU_FLT_PI_PI : Field := ⟨0x0F003C, 0, 16⟩
def F.MMU_FLT_STAT_FAIL_CAUSE : Field := ⟨0x0F0044, 24, 4⟩
def F.MMU_FLT_STAT_FULL : Field := ⟨0x0F0044, 30, 1⟩
def F.MMU_FLT_STAT_LOST : Field := ⟨0x0F0044, 0, 16⟩
def F.MMU_FLT_STAT_REC_FAIL : Field := ⟨0x0F0044, 31, 1⟩
def F.MMU_LOW_WATER_LOW_WATER : Field := ⟨0x0F0018, 0, 18⟩
def F.MMU_POOL_ERR_DOUBLE_FREE : Field := ⟨0x0F0020, 16, 16⟩
def F.MMU_POOL_ERR_RETIRED : Field := ⟨0x0F0020, 0, 16⟩
def F.MMU_POOL_STAT_FREE : Field := ⟨0x0F0014, 0, 18⟩
def F.MMU_RAW_BASE_BASE (w : Nat) : Field := ⟨0x0F0080 + 8 * w, 0, 20⟩
def F.MMU_RAW_BASE_EN (w : Nat) : Field := ⟨0x0F0080 + 8 * w, 31, 1⟩
def F.MMU_RAW_LIMIT_LIMIT (w : Nat) : Field := ⟨0x0F0084 + 8 * w, 0, 20⟩
def F.MMU_RETIRE_SPARES : Field := ⟨0x0F001C, 0, 19⟩
def F.MMU_RETIRE_WITHHELD : Field := ⟨0x0F001C, 19, 13⟩
def F.MMU_RSV_RSV : Field := ⟨0x0F0010, 0, 18⟩
def F.MMU_SPILL_CFG_SPILL_PAGES : Field := ⟨0x0F000C, 0, 18⟩
def F.MMU_SPILL_STAT_RESTORE_FAULT : Field := ⟨0x0F0028, 18, 14⟩
def F.NVS_CTR_ACKSEQ_RSEQ : Field := ⟨0x1B0114, 0, 32⟩
def F.NVS_CTR_CTL_EXT_PERSIST : Field := ⟨0x1B0100, 0, 1⟩
def F.NVS_CTR_CTL_LOCK : Field := ⟨0x1B0100, 31, 1⟩
def F.NVS_CTR_PROG_PROGRAMS : Field := ⟨0x1B0108, 0, 32⟩
def F.NVS_CTR_RSEQ_RSEQ : Field := ⟨0x1B0110, 0, 32⟩
def F.NVS_CTR_STAT_ROWS_LOST : Field := ⟨0x1B0104, 0, 10⟩
def F.NVS_CTR_STAT_SPARES : Field := ⟨0x1B0104, 24, 6⟩
def F.NVS_CTR_STAT_STATE : Field := ⟨0x1B0104, 30, 2⟩
def F.NVS_CTR_WEAR_MAX_PCNT : Field := ⟨0x1B010C, 0, 32⟩
def F.OTP_STAT_INTEGRITY_FAIL : Field := ⟨0x1C0008, 1, 1⟩
def F.PAR_BANKED_RX_VALUE : Field := ⟨0x15001C, 0, 32⟩
def F.PAR_CNT_CLAIMS : Field := ⟨0x150014, 24, 8⟩
def F.PAR_CNT_CONFLICTS : Field := ⟨0x150014, 0, 8⟩
def F.PAR_CNT_RELEASES : Field := ⟨0x150014, 16, 8⟩
def F.PAR_CNT_WDT : Field := ⟨0x150014, 8, 8⟩
def F.PAR_CTL_AUTO_CLAIM : Field := ⟨0x150000, 0, 1⟩
def F.PAR_CTL_REL_ON_CP_STOP : Field := ⟨0x150000, 1, 1⟩
def F.PAR_CTL_WDT_CLR : Field := ⟨0x150000, 2, 1⟩
def F.PAR_STAT_ARMED : Field := ⟨0x150004, 26, 1⟩
def F.PAR_STAT_HELD : Field := ⟨0x150004, 29, 1⟩
def F.PAR_STAT_LINE : Field := ⟨0x150004, 28, 1⟩
def F.PAR_STAT_LINE_FAULT : Field := ⟨0x150004, 24, 1⟩
def F.PAR_STAT_MIRROR : Field := ⟨0x150004, 16, 2⟩
def F.PAR_STAT_PARTNER_ID : Field := ⟨0x150004, 0, 6⟩
def F.PAR_STAT_ROLE : Field := ⟨0x150004, 30, 2⟩
def F.PAR_STAT_SENSE : Field := ⟨0x150004, 27, 1⟩
def F.PAR_STAT_WDT_FIRED : Field := ⟨0x150004, 25, 1⟩
def F.PCI_BAR2_CTL_BASE : Field := ⟨0x170008, 2, 6⟩
def F.PCI_BAR2_CTL_BUF_READ : Field := ⟨0x170008, 1, 1⟩
def F.PCI_BAR2_CTL_EN : Field := ⟨0x170008, 0, 1⟩
def F.PCI_BAR2_CTL_LOCK : Field := ⟨0x170008, 31, 1⟩
def F.PCI_LINK_BME : Field := ⟨0x170004, 30, 1⟩
def F.PCI_LINK_SPEED : Field := ⟨0x170004, 0, 4⟩
def F.PCI_LINK_UP : Field := ⟨0x170004, 31, 1⟩
def F.PCI_LINK_WIDTH : Field := ⟨0x170004, 16, 4⟩
def F.PCI_RESET_CNT_FLR : Field := ⟨0x17000C, 16, 16⟩
def F.PCI_RESET_CNT_LINK : Field := ⟨0x17000C, 0, 16⟩
def F.PWR_RAIL_FAULT_FAULT : Field := ⟨0x1A0004, 0, 10⟩
def F.PWR_RAIL_MON_MV (r : Nat) : Field := ⟨0x1A0100 + 4 * r, 0, 16⟩
def F.PWR_RAIL_MON_MW (r : Nat) : Field := ⟨0x1A0100 + 4 * r, 16, 16⟩
def F.PWR_RAIL_OK_OK : Field := ⟨0x1A0000, 0, 10⟩
def F.PWR_TOTAL_MW : Field := ⟨0x1A0008, 0, 16⟩
def F.QUE_LEVEL_INT_LEVEL_HIT : Field := ⟨0x12000C, 0, 32⟩
def F.QUE_PTR_FAULT_CNT_COUNT : Field := ⟨0x120010, 0, 16⟩
def F.QUE_PTR_FAULT_CNT_LAST_QID : Field := ⟨0x120010, 16, 6⟩
def F.QUE_SEL_QID : Field := ⟨0x120000, 0, 6⟩
def F.RFE_BLANK_THR_THR : Field := ⟨0x030010, 0, 8⟩
def F.RFE_PAIR_CNT_BLANKS (n : Nat) : Field := ⟨0x030204 + 32 * n, 0, 16⟩
def F.RFE_PAIR_CNT_RETUNES (n : Nat) : Field := ⟨0x030204 + 32 * n, 16, 16⟩
def F.RFE_PAIR_STAT_CENTRE_KHZ (n : Nat) : Field := ⟨0x030200 + 32 * n, 0, 22⟩
def F.RFE_PAIR_STAT_LOCK (n : Nat) : Field := ⟨0x030200 + 32 * n, 29, 1⟩
def F.RFE_PAIR_STAT_STATE (n : Nat) : Field := ⟨0x030200 + 32 * n, 30, 2⟩
def F.RFE_REG_STAT_FORMAT : Field := ⟨0x030004, 8, 8⟩
def F.RFE_REG_STAT_PROFILE_BAD : Field := ⟨0x030004, 2, 1⟩
def F.RFE_REG_STAT_PROFILE_ID : Field := ⟨0x030004, 16, 16⟩
def F.RFE_REG_STAT_RAM_PROFILE : Field := ⟨0x030004, 1, 1⟩
def F.RFE_REG_STAT_REGLOCK : Field := ⟨0x030004, 0, 1⟩
def F.RFE_REG_STAT_TIGHTENED : Field := ⟨0x030004, 3, 1⟩
def F.RFE_TEMP_TEMP : Field := ⟨0x030030, 0, 16⟩
def F.RFE_TX_CNT_CAL_CONFLICT (n : Nat) : Field := ⟨0x030114 + 32 * n, 8, 8⟩
def F.RFE_TX_CNT_CLAMP (n : Nat) : Field := ⟨0x030114 + 32 * n, 16, 8⟩
def F.RFE_TX_CNT_LATE (n : Nat) : Field := ⟨0x030114 + 32 * n, 0, 8⟩
def F.RFE_TX_CNT_NO_TOKEN (n : Nat) : Field := ⟨0x030114 + 32 * n, 24, 8⟩
def F.RFE_TX_CTL_EN (n : Nat) : Field := ⟨0x030100 + 32 * n, 0, 1⟩
def F.RFE_TX_CTL_RETURN (n : Nat) : Field := ⟨0x030100 + 32 * n, 1, 1⟩
def F.RFE_TX_CTL_TOL (n : Nat) : Field := ⟨0x030100 + 32 * n, 16, 16⟩
def F.RFE_TX_FREQ_KHZ (n : Nat) : Field := ⟨0x030110 + 32 * n, 0, 22⟩
def F.RFE_TX_PA_CFG_THR1 (n : Nat) : Field := ⟨0x030108 + 32 * n, 0, 7⟩
def F.RFE_TX_PA_CFG_THR2 (n : Nat) : Field := ⟨0x030108 + 32 * n, 8, 7⟩
def F.RFE_TX_PA_CFG_THR3 (n : Nat) : Field := ⟨0x030108 + 32 * n, 16, 7⟩
def F.RFE_TX_PINCTL_LNA_BYP (n : Nat) : Field := ⟨0x030118 + 32 * n, 2, 1⟩
def F.RFE_TX_PINCTL_OVR_EN (n : Nat) : Field := ⟨0x030118 + 32 * n, 8, 1⟩
def F.RFE_TX_PINCTL_PA_EN (n : Nat) : Field := ⟨0x030118 + 32 * n, 0, 1⟩
def F.RFE_TX_PINCTL_PA_MODE (n : Nat) : Field := ⟨0x030118 + 32 * n, 3, 2⟩
def F.RFE_TX_PINCTL_TRSW (n : Nat) : Field := ⟨0x030118 + 32 * n, 1, 1⟩
def F.RFE_TX_SEQ_PA_LAG (n : Nat) : Field := ⟨0x030104 + 32 * n, 20, 10⟩
def F.RFE_TX_SEQ_PA_LEAD (n : Nat) : Field := ⟨0x030104 + 32 * n, 10, 10⟩
def F.RFE_TX_SEQ_TRSW_LEAD (n : Nat) : Field := ⟨0x030104 + 32 * n, 0, 10⟩
def F.ROL_CAMP_DONE_DONE (c : Nat) : Field := ⟨0x0E010C + 16 * c, 16, 16⟩
def F.ROL_CAMP_DONE_FAILED (c : Nat) : Field := ⟨0x0E010C + 16 * c, 0, 16⟩
def F.ROL_CAMP_SENT_SENT (c : Nat) : Field := ⟨0x0E0104 + 16 * c, 0, 32⟩
def F.ROL_CAMP_SKIP_SKIPPED_CTR (c : Nat) : Field := ⟨0x0E0108 + 16 * c, 0, 16⟩
def F.ROL_CAMP_SKIP_SKIPPED_TX (c : Nat) : Field := ⟨0x0E0108 + 16 * c, 16, 16⟩
def F.ROL_CAMP_STAT_PENDING (c : Nat) : Field := ⟨0x0E0100 + 16 * c, 0, 18⟩
def F.ROL_CAMP_STAT_STATE (c : Nat) : Field := ⟨0x0E0100 + 16 * c, 29, 3⟩
def F.ROL_ENC_CNT_ENC_ERR : Field := ⟨0x0E0004, 16, 16⟩
def F.ROL_ENC_CNT_ENC_LATE : Field := ⟨0x0E0004, 0, 16⟩
def F.ROL_STAT_IN_USE : Field := ⟨0x0E0000, 0, 16⟩
def F.ROL_STAT_SENDING : Field := ⟨0x0E0000, 16, 16⟩
def F.SEC_CCM_CNT_JOBS : Field := ⟨0x0A0004, 0, 32⟩
def F.STP_BOOT_STAT_FAIL_CHECK : Field := ⟨0x1E0010, 8, 4⟩
def F.STP_BOOT_STAT_FAIL_TYPE : Field := ⟨0x1E0010, 5, 3⟩
def F.STP_BOOT_STAT_FALLBACK : Field := ⟨0x1E0010, 4, 1⟩
def F.STP_BOOT_STAT_KINDLING_MS : Field := ⟨0x1E0010, 16, 16⟩
def F.STP_BOOT_STAT_SET : Field := ⟨0x1E0010, 2, 1⟩
def F.STP_BOOT_STAT_SOURCE : Field := ⟨0x1E0010, 0, 2⟩
def F.STP_CTL_AUTO_CP_RESTART : Field := ⟨0x1E0018, 0, 1⟩
def F.STP_CTL_BOOT_LIST_EN : Field := ⟨0x1E0018, 1, 1⟩
def F.STP_RESET_CAUSE_AON_LOSS : Field := ⟨0x1E000C, 1, 1⟩
def F.STP_RESET_CAUSE_CP_RESTARTS : Field := ⟨0x1E000C, 16, 16⟩
def F.STP_RESET_CAUSE_POR_PIN : Field := ⟨0x1E000C, 0, 1⟩
def F.STP_RESET_CAUSE_THERMTRIP : Field := ⟨0x1E000C, 2, 1⟩
def F.STP_RESET_CAUSE_WARM : Field := ⟨0x1E000C, 3, 1⟩
def F.STP_STRAPS_BOOTSRC : Field := ⟨0x1E0004, 0, 2⟩
def F.STP_STRAPS_CONFLICT : Field := ⟨0x1E0004, 31, 1⟩
def F.STP_STRAPS_FABID : Field := ⟨0x1E0004, 6, 6⟩
def F.STP_STRAPS_FABID_EN : Field := ⟨0x1E0004, 5, 1⟩
def F.STP_STRAPS_HOSTIF : Field := ⟨0x1E0004, 12, 1⟩
def F.STP_STRAPS_PAIRROLE : Field := ⟨0x1E0004, 3, 2⟩
def F.STP_STRAPS_PROFILE : Field := ⟨0x1E0004, 13, 1⟩
def F.STP_STRAPS_REFSEL : Field := ⟨0x1E0004, 2, 1⟩
def F.THM_CNT_CRIT_ENTRIES : Field := ⟨0x19002C, 16, 8⟩
def F.THM_CNT_STEPS_TAKEN : Field := ⟨0x19002C, 24, 8⟩
def F.THM_CNT_TX_REFUSED : Field := ⟨0x19002C, 0, 16⟩
def F.THM_PEAK_PEAK : Field := ⟨0x190028, 0, 16⟩
def F.THM_SAVED_ITER_CAP : Field := ⟨0x190030, 0, 6⟩
def F.THM_SENSOR_TEMP (k : Nat) : Field := ⟨0x190004 + 4 * k, 0, 16⟩
def F.THM_STAT_CRIT : Field := ⟨0x190024, 31, 1⟩
def F.THM_STAT_STEPS : Field := ⟨0x190024, 28, 2⟩
def F.THM_STAT_WARN : Field := ⟨0x190024, 30, 1⟩
def F.THM_TJ_HOT : Field := ⟨0x190000, 28, 4⟩
def F.THM_TJ_TJ : Field := ⟨0x190000, 0, 16⟩
def F.TMB_FAULT_A_COPY_LO : Field := ⟨0x010010, 0, 32⟩
def F.TMB_FAULT_B_COPY_LO : Field := ⟨0x010014, 0, 32⟩
def F.TMB_FAULT_C_COPY_LO : Field := ⟨0x010018, 0, 32⟩
def F.TMB_SLEW_REM_REMAINING : Field := ⟨0x010020, 0, 32⟩
def F.TMB_SLOW_ERR_PPB : Field := ⟨0x01001C, 0, 32⟩
def F.TMB_STAT_CAL_FAULT : Field := ⟨0x010008, 0, 1⟩
def F.TMB_STAT_LAST_COPY : Field := ⟨0x010008, 12, 2⟩
def F.TMB_STAT_PHASE : Field := ⟨0x010008, 16, 6⟩
def F.TMB_STAT_SLEWING : Field := ⟨0x010008, 2, 1⟩
def F.TMB_STAT_SLOW : Field := ⟨0x010008, 1, 1⟩
def F.TMB_STAT_SLOW_WHY : Field := ⟨0x010008, 8, 3⟩
def F.TMB_VOTE_ERRCNT_COUNT : Field := ⟨0x01000C, 0, 32⟩
def F.TMR_CAP_CTL_EDGE (n : Nat) : Field := ⟨0x020600 + 16 * n, 7, 1⟩
def F.TMR_CAP_CTL_IE (n : Nat) : Field := ⟨0x020600 + 16 * n, 6, 1⟩
def F.TMR_CAP_CTL_SRC (n : Nat) : Field := ⟨0x020600 + 16 * n, 0, 6⟩
def F.TMR_CAP_STAT_OVERRUN (n : Nat) : Field := ⟨0x02060C + 16 * n, 8, 8⟩
def F.TMR_CAP_STAT_OVERWRITE (n : Nat) : Field := ⟨0x02060C + 16 * n, 2, 1⟩
def F.TMR_CAP_STAT_PENDING (n : Nat) : Field := ⟨0x02060C + 16 * n, 1, 1⟩
def F.TMR_CAP_STAT_TAINT (n : Nat) : Field := ⟨0x02060C + 16 * n, 3, 1⟩
def F.TMR_CAP_STAT_VALID (n : Nat) : Field := ⟨0x02060C + 16 * n, 0, 1⟩
def F.TMR_IGN_CNT_COUNT : Field := ⟨0x020008, 0, 16⟩
def F.TMR_IGN_CNT_LAST_REQ : Field := ⟨0x020008, 24, 8⟩
def F.TMR_I_CTL_CLR_ON_MATCH (n : Nat) : Field := ⟨0x020400 + 32 * n, 2, 1⟩
def F.TMR_I_CTL_EDGE (n : Nat) : Field := ⟨0x020400 + 32 * n, 3, 1⟩
def F.TMR_I_CTL_EN (n : Nat) : Field := ⟨0x020400 + 32 * n, 0, 1⟩
def F.TMR_I_CTL_IE (n : Nat) : Field := ⟨0x020400 + 32 * n, 1, 1⟩
def F.TMR_I_CTL_SRC (n : Nat) : Field := ⟨0x020400 + 32 * n, 4, 4⟩
def F.TMR_I_STAT_MATCH (n : Nat) : Field := ⟨0x020410 + 32 * n, 0, 1⟩
def F.TMR_I_STAT_MATCH_CNT (n : Nat) : Field := ⟨0x020410 + 32 * n, 8, 8⟩
def F.TMR_I_STAT_P_CLAMP (n : Nat) : Field := ⟨0x020410 + 32 * n, 1, 1⟩
def F.TMR_L_CMP_V (n : Nat) : Field := ⟨0x020100 + 16 * n, 0, 32⟩
def F.TMR_L_CTL_ARM (n : Nat) : Field := ⟨0x020104 + 16 * n, 0, 1⟩
def F.TMR_L_CTL_FAULT_DISARM (n : Nat) : Field := ⟨0x020104 + 16 * n, 2, 1⟩
def F.TMR_L_CTL_MISSED (n : Nat) : Field := ⟨0x020104 + 16 * n, 24, 8⟩
def F.TMR_L_IE_IE : Field := ⟨0x020004, 0, 32⟩
def F.TMR_L_INT_FIRED : Field := ⟨0x020000, 0, 32⟩
def F.TMR_L_LAND_LANDED (n : Nat) : Field := ⟨0x020108 + 16 * n, 0, 32⟩
def F.TMR_L_PERIOD_PERIOD (n : Nat) : Field := ⟨0x02010C + 16 * n, 0, 32⟩
def F.ZFB_CNT0_NO_ROUTE : Field := ⟨0x140018, 16, 16⟩
def F.ZFB_CNT0_TTL : Field := ⟨0x140018, 0, 16⟩
def F.ZFB_CNT1_HANDOVERS : Field := ⟨0x14001C, 0, 16⟩
def F.ZFB_CNT1_RETRANS : Field := ⟨0x14001C, 16, 16⟩
def F.ZFB_CTL_PORT_EN : Field := ⟨0x140000, 0, 4⟩
def F.ZFB_DISTRICT_DISTRICT_ID : Field := ⟨0x140008, 0, 32⟩
def F.ZFB_ID_ALIGNED : Field := ⟨0x140004, 28, 1⟩
def F.ZFB_ID_HOPS : Field := ⟨0x140004, 8, 4⟩
def F.ZFB_ID_ID : Field := ⟨0x140004, 0, 6⟩
def F.ZFB_ID_REGISTRAR : Field := ⟨0x140004, 29, 1⟩
def F.ZFB_ID_REG_ID : Field := ⟨0x140004, 16, 6⟩
def F.ZFB_ID_STRAPPED : Field := ⟨0x140004, 30, 1⟩
def F.ZFB_ID_VALID : Field := ⟨0x140004, 31, 1⟩
def F.ZFB_LEASE_TMO_TICKS : Field := ⟨0x140014, 0, 32⟩
def F.ZFB_PORT_ASYM_ASYM (p : Nat) : Field := ⟨0x140104 + 16 * p, 0, 32⟩
def F.ZFB_PORT_CNT_CRC_ERR (p : Nat) : Field := ⟨0x14010C + 16 * p, 0, 16⟩
def F.ZFB_PORT_CNT_DOWNS (p : Nat) : Field := ⟨0x14010C + 16 * p, 16, 16⟩
def F.ZFB_PORT_DELAY_DELAY (p : Nat) : Field := ⟨0x140108 + 16 * p, 0, 32⟩
def F.ZFB_PORT_STAT_NBR_ID (p : Nat) : Field := ⟨0x140100 + 16 * p, 16, 6⟩
def F.ZFB_PORT_STAT_NBR_PORT (p : Nat) : Field := ⟨0x140100 + 16 * p, 8, 2⟩
def F.ZFB_PORT_STAT_STATE (p : Nat) : Field := ⟨0x140100 + 16 * p, 29, 3⟩
def F.ZFB_PORT_STAT_UPSTREAM (p : Nat) : Field := ⟨0x140100 + 16 * p, 0, 1⟩
def F.ZFB_TIME_CFG_ALIGN_THR : Field := ⟨0x14000C, 16, 16⟩
def F.ZFB_TIME_CFG_RATE : Field := ⟨0x14000C, 0, 10⟩
def F.ZFB_TIME_OFS_THETA : Field := ⟨0x140010, 0, 32⟩

/-- Registers of block 0x00. -/
def regsBlock00 : List RegDesc :=
  [
   ⟨0x000000, [], 0, 0, 0, 0, 0, 0, 0x000000⟩,
   ⟨0x000004, [], 0, 0, 0, 0, 0, 0, 0x000004⟩,
   ⟨0x000008, [], 0, 0, 0, 0, 0x0000000F, 0, 0x000008⟩]

/-- Registers of block 0x01. -/
def regsBlock01 : List RegDesc :=
  [
   ⟨0x010000, [], 0, 0, 0, 0, 0, 0, 0x010000⟩,
   ⟨0x010004, [], 0, 0, 0, 0, 0, 0, 0x010004⟩,
   ⟨0x010008, [], 0, 0, 0, 0, 0, 0, 0x010008⟩,
   ⟨0x01000C, [], 0, 0, 0, 0, 0, 0, 0x01000C⟩,
   ⟨0x010010, [], 0, 0, 0, 0, 0, 0, 0x010010⟩,
   ⟨0x010014, [], 0, 0, 0, 0, 0, 0, 0x010014⟩,
   ⟨0x010018, [], 0, 0, 0, 0, 0, 0, 0x010018⟩,
   ⟨0x01001C, [], 0, 0, 0, 0, 0, 0, 0x01001C⟩,
   ⟨0x010020, [], 0, 0, 0, 0, 0, 0, 0x010020⟩]

/-- Registers of block 0x02. -/
def regsBlock02 : List RegDesc :=
  [
   ⟨0x020000, [], 0, 0xFFFFFFFF, 0, 0, 0, 0, 0x020000⟩,
   ⟨0x020004, [], 0xFFFFFFFF, 0, 0, 0, 0, 0, 0x020004⟩,
   ⟨0x020008, [], 0, 0, 0, 0, 0, 0, 0x020008⟩,
   ⟨0x020100, [(16, 32)], 0xFFFFFFFF, 0, 0, 0, 0, 0, 0x020100⟩,
   ⟨0x020104, [(16, 32)], 0x00000001, 0, 0, 0, 0, 0, 0x020104⟩,
   ⟨0x020108, [(16, 32)], 0, 0, 0, 0, 0, 0, 0x020108⟩,
   ⟨0x02010C, [(16, 32)], 0xFFFFFFFF, 0, 0, 0, 0, 0, 0x02010C⟩,
   ⟨0x020400, [(32, 8)], 0x000000FF, 0, 0, 0, 0, 0, 0x020400⟩,
   ⟨0x020404, [(32, 8)], 0xFFFFFFFF, 0, 0, 0, 0, 0, 0x020404⟩,
   ⟨0x020408, [(32, 8)], 0xFFFFFFFF, 0, 0, 0, 0, 0, 0x020408⟩,
   ⟨0x02040C, [(32, 8)], 0xFFFFFFFF, 0, 0, 0, 0, 0, 0x02040C⟩,
   ⟨0x020410, [(32, 8)], 0, 0x00000003, 0, 0, 0, 0, 0x020410⟩,
   ⟨0x020600, [(16, 16)], 0x000000FF, 0, 0, 0, 0, 0, 0x020600⟩,
   ⟨0x020604, [(16, 16)], 0, 0, 0, 0, 0, 0, 0x020604⟩,
   ⟨0x020608, [(16, 16)], 0, 0, 0, 0, 0, 0, 0x020608⟩,
   ⟨0x02060C, [(16, 16)], 0, 0x00000004, 0, 0x00000010, 0, 0, 0x02060C⟩]

/-- Registers of block 0x03. -/
def regsBlock03 : List RegDesc :=
  [
   ⟨0x030000, [], 0, 0, 0, 0, 0, 0, 0x030000⟩,
   ⟨0x030004, [], 0, 0, 0, 0, 0, 0, 0x030004⟩,
   ⟨0x030008, [], 0, 0, 0, 0xFFFFF800, 0, 0, 0x030008⟩,
   ⟨0x03000C, [], 0, 0, 0, 0xFFFFFFFF, 0, 0, 0x03000C⟩,
   ⟨0x030010, [], 0x000000FF, 0, 0, 0, 0, 0, 0x030010⟩,
   ⟨0x030014, [], 0, 0, 0, 0x000000FF, 0, 0, 0x030014⟩,
   ⟨0x030020, [(4, 4)], 0xFFFFFFFF, 0, 0, 0, 0, 0, 0x030020⟩,
   ⟨0x030030, [], 0, 0, 0, 0, 0, 0, 0x030030⟩,
   ⟨0x030100, [(32, 4)], 0, 0, 0, 0, 0xFFFF0003, 0, 0x030100⟩,
   ⟨0x030104, [(32, 4)], 0x3FFFFFFF, 0, 0, 0, 0, 0, 0x030104⟩,
   ⟨0x030108, [(32, 4)], 0x007F7F7F, 0, 0, 0, 0, 0, 0x030108⟩,
   ⟨0x03010C, [(32, 4)], 0xFFFFFFFF, 0, 0, 0, 0, 0, 0x03010C⟩,
   ⟨0x030110, [(32, 4)], 0, 0, 0, 0, 0, 0, 0x030110⟩,
   ⟨0x030114, [(32, 4)], 0, 0, 0, 0, 0, 0, 0x030114⟩,
   ⟨0x030118, [(32, 4)], 0x0000011F, 0, 0, 0, 0, 0, 0x030118⟩,
   ⟨0x030200, [(32, 4)], 0, 0, 0, 0, 0, 0, 0x030200⟩,
   ⟨0x030204, [(32, 4)], 0, 0, 0, 0, 0, 0, 0x030204⟩,
   ⟨0x030300, [], 0, 0, 0, 0, 0, 0, 0x030300⟩]

/-- Registers of block 0x04. -/
def regsBlock04 : List RegDesc :=
  [
   ⟨0x040000, [], 0, 0, 0, 0, 0, 0, 0x040000⟩,
   ⟨0x040004, [], 0, 0, 0, 0, 0x000000FF, 0, 0x040004⟩,
   ⟨0x040008, [], 0, 0, 0, 0, 0, 0, 0x040008⟩,
   ⟨0x040010, [(4, 8)], 0, 0, 0, 0, 0, 0, 0x040010⟩,
   ⟨0x040030, [], 0, 0, 0, 0x000001FF, 0, 0, 0x040030⟩,
   ⟨0x040040, [], 0, 0, 0, 0, 0, 0, 0x040040⟩,
   ⟨0x040044, [], 0x0000007F, 0, 0, 0, 0, 0, 0x040044⟩,
   ⟨0x040048, [], 0, 0, 0, 0, 0, 0, 0x040048⟩,
   ⟨0x04004C, [], 0, 0, 0, 0, 0, 0, 0x04004C⟩,
   ⟨0x041000, [(16, 256)], 0, 0, 0, 0, 0xFFFF0000, 0, 0x041000⟩,
   ⟨0x041004, [(16, 256)], 0, 0, 0, 0, 0xFFFFFFFF, 0, 0x041004⟩,
   ⟨0x041008, [(16, 256)], 0, 0, 0, 0, 0x0000FFFF, 0, 0x041008⟩,
   ⟨0x04100C, [(16, 256)], 0, 0, 0, 0, 0, 0, 0x04100C⟩,
   ⟨0x048000, [(4, 8192)], 0, 0, 0, 0, 0, 0, 0x048000⟩]

/-- Registers of block 0x05. -/
def regsBlock05 : List RegDesc :=
  [
   ⟨0x050000, [], 0x0000FFFF, 0, 0, 0, 0, 0, 0x050000⟩,
   ⟨0x050004, [], 0, 0, 0, 0, 0, 0, 0x050004⟩,
   ⟨0x050008, [], 0, 0, 0, 0, 0, 0, 0x050008⟩,
   ⟨0x050010, [], 0, 0, 0, 0, 0, 0, 0x050010⟩,
   ⟨0x050014, [], 0, 0, 0, 0, 0, 0, 0x050014⟩,
   ⟨0x050018, [], 0, 0, 0, 0, 0, 0, 0x050018⟩,
   ⟨0x05001C, [], 0, 0, 0, 0, 0, 0, 0x05001C⟩,
   ⟨0x050020, [], 0, 0, 0, 0x0000000F, 0, 0, 0x050020⟩,
   ⟨0x051000, [(4, 256)], 0, 0, 0, 0, 0, 0, 0x051000⟩]

/-- Registers of block 0x06. -/
def regsBlock06 : List RegDesc :=
  [
   ⟨0x060000, [], 0, 0, 0, 0, 0x0000003F, 0, 0x060000⟩,
   ⟨0x060004, [], 0, 0, 0, 0, 0, 0, 0x060004⟩,
   ⟨0x060008, [], 0, 0, 0, 0, 0, 0, 0x060008⟩,
   ⟨0x06000C, [], 0, 0, 0, 0, 0, 0, 0x06000C⟩,
   ⟨0x060010, [], 0, 0, 0, 0, 0, 0, 0x060010⟩,
   ⟨0x060020, [], 0x0000FFFF, 0, 0, 0, 0, 0, 0x060020⟩,
   ⟨0x060024, [], 0, 0, 0, 0, 0, 0, 0x060024⟩,
   ⟨0x060028, [], 0, 0, 0, 0, 0, 0, 0x060028⟩,
   ⟨0x06002C, [], 0, 0, 0, 0x0000000F, 0, 0, 0x06002C⟩]

/-- Registers of block 0x07. -/
def regsBlock07 : List RegDesc :=
  [
   ⟨0x070000, [], 0, 0, 0, 0, 0x0000FFFF, 0, 0x070000⟩,
   ⟨0x070004, [], 0, 0, 0, 0, 0, 0, 0x070004⟩,
   ⟨0x070100, [(16, 16)], 0, 0, 0, 0, 0, 0, 0x070100⟩,
   ⟨0x070104, [(16, 16)], 0, 0, 0, 0, 0x00000003, 0, 0x070104⟩,
   ⟨0x070108, [(16, 16)], 0, 0, 0, 0, 0, 0, 0x070108⟩]

/-- Registers of block 0x08. -/
def regsBlock08 : List RegDesc :=
  [
   ⟨0x080000, [], 0, 0, 0x80000000, 0, 0, 0x00000001, 0x080000⟩,
   ⟨0x080004, [], 0, 0, 0, 0, 0, 0, 0x080004⟩,
   ⟨0x080008, [], 0, 0, 0, 0, 0, 0, 0x080008⟩,
   ⟨0x08000C, [], 0, 0, 0, 0, 0xFFFFFFFF, 0, 0x08000C⟩,
   ⟨0x080010, [], 0, 0, 0, 0, 0xFFFFFFFF, 0, 0x080010⟩,
   ⟨0x080014, [], 0, 0, 0, 0, 0xFFFFFFFF, 0, 0x080014⟩,
   ⟨0x080018, [], 0, 0, 0, 0, 0xFFFFFFFF, 0, 0x080018⟩,
   ⟨0x08001C, [], 0, 0, 0, 0, 0x07FFFFFF, 0, 0x08001C⟩,
   ⟨0x080020, [], 0, 0, 0, 0, 0xFFFFFFFF, 0, 0x080020⟩,
   ⟨0x080024, [], 0, 0, 0, 0, 0xFFFFFC00, 0, 0x080024⟩,
   ⟨0x080028, [(4, 4)], 0, 0, 0, 0, 0xFFFFFFFF, 0, 0x080028⟩,
   ⟨0x080040, [], 0, 0, 0, 0, 0, 0, 0x080040⟩,
   ⟨0x080044, [], 0, 0, 0, 0, 0, 0, 0x080044⟩,
   ⟨0x080048, [], 0, 0, 0, 0, 0, 0, 0x080048⟩,
   ⟨0x08004C, [], 0, 0, 0, 0, 0, 0, 0x08004C⟩,
   ⟨0x080050, [], 0, 0, 0, 0, 0, 0, 0x080050⟩,
   ⟨0x080054, [], 0, 0, 0, 0, 0, 0, 0x080054⟩,
   ⟨0x080058, [], 0, 0, 0, 0, 0, 0, 0x080058⟩,
   ⟨0x08005C, [], 0, 0, 0, 0, 0, 0, 0x08005C⟩,
   ⟨0x080060, [], 0, 0, 0, 0, 0, 0, 0x080060⟩,
   ⟨0x080064, [], 0, 0, 0, 0, 0, 0, 0x080064⟩,
   ⟨0x080068, [], 0, 0, 0, 0, 0, 0, 0x080068⟩,
   ⟨0x08006C, [], 0, 0, 0, 0x000007FF, 0, 0, 0x08006C⟩,
   ⟨0x080100, [(4, 16)], 0, 0, 0, 0, 0, 0, 0x080100⟩]

/-- Registers of block 0x09. -/
def regsBlock09 : List RegDesc :=
  [
   ⟨0x090000, [], 0, 0, 0, 0, 0xFFFFF7FF, 0, 0x090000⟩,
   ⟨0x090004, [], 0, 0, 0, 0, 0xFFFFFFFF, 0, 0x090004⟩,
   ⟨0x090008, [], 0, 0, 0, 0, 0xFFFFFFFF, 0, 0x090008⟩,
   ⟨0x09000C, [], 0, 0, 0, 0, 0, 0, 0x09000C⟩,
   ⟨0x090010, [], 0, 0, 0, 0, 0, 0, 0x090010⟩,
   ⟨0x090014, [], 0, 0, 0, 0, 0, 0, 0x090014⟩,
   ⟨0x090018, [], 0, 0, 0, 0, 0, 0, 0x090018⟩,
   ⟨0x09001C, [], 0, 0, 0, 0, 0, 0, 0x09001C⟩,
   ⟨0x090020, [], 0, 0, 0, 0, 0, 0, 0x090020⟩,
   ⟨0x090024, [], 0, 0, 0, 0, 0, 0, 0x090024⟩,
   ⟨0x090028, [], 0, 0, 0, 0, 0, 0, 0x090028⟩,
   ⟨0x09002C, [], 0, 0, 0, 0, 0, 0, 0x09002C⟩,
   ⟨0x090030, [], 0, 0, 0, 0, 0, 0, 0x090030⟩,
   ⟨0x090034, [], 0, 0, 0, 0x000001FF, 0, 0, 0x090034⟩]

/-- Registers of block 0x0A. -/
def regsBlock0A : List RegDesc :=
  [
   ⟨0x0A0000, [], 0, 0, 0, 0, 0, 0, 0x0A0000⟩,
   ⟨0x0A0004, [], 0, 0, 0, 0, 0, 0, 0x0A0004⟩]

/-- Registers of block 0x0B. -/
def regsBlock0B : List RegDesc :=
  [
   ⟨0x0B0000, [], 0, 0, 0, 0, 0, 0, 0x0B0000⟩,
   ⟨0x0B0004, [], 0, 0, 0, 0, 0, 0, 0x0B0004⟩,
   ⟨0x0B0008, [], 0, 0, 0, 0, 0, 0, 0x0B0008⟩,
   ⟨0x0B000C, [], 0, 0, 0, 0, 0, 0, 0x0B000C⟩,
   ⟨0x0B0010, [], 0, 0, 0, 0, 0, 0, 0x0B0010⟩,
   ⟨0x0B0014, [], 0, 0, 0, 0, 0, 0, 0x0B0014⟩,
   ⟨0x0B0018, [], 0, 0, 0, 0, 0, 0, 0x0B0018⟩,
   ⟨0x0B001C, [], 0, 0, 0, 0, 0, 0, 0x0B001C⟩,
   ⟨0x0B0020, [], 0, 0, 0, 0x00000003, 0, 0, 0x0B0020⟩]

/-- Registers of block 0x0C, part 1. -/
def regsBlock0Cp0 : List RegDesc :=
  [
   ⟨0x0C0000, [], 0, 0, 0, 0, 0, 0, 0x0C0000⟩,
   ⟨0x0C0004, [], 0, 0, 0, 0, 0xC7FFFF00, 0, 0x0C0004⟩,
   ⟨0x0C0008, [], 0, 0, 0, 0, 0xFFFFFFFF, 0, 0x0C0008⟩,
   ⟨0x0C0010, [], 0, 0, 0, 0, 0, 0, 0x0C0010⟩,
   ⟨0x0C0014, [], 0, 0, 0, 0, 0, 0, 0x0C0014⟩,
   ⟨0x0C0018, [], 0, 0, 0, 0, 0, 0, 0x0C0018⟩,
   ⟨0x0C001C, [], 0, 0, 0, 0, 0, 0, 0x0C001C⟩,
   ⟨0x0C0020, [(4, 4)], 0, 0, 0, 0, 0, 0, 0x0C0020⟩,
   ⟨0x0C0030, [], 0xFFFFFFFF, 0, 0, 0, 0, 0, 0x0C0030⟩,
   ⟨0x0C0034, [], 0, 0, 0, 0, 0, 0, 0x0C0034⟩,
   ⟨0x0C0038, [], 0, 0, 0, 0, 0, 0, 0x0C0038⟩,
   ⟨0x0C003C, [], 0, 0, 0, 0, 0, 0, 0x0C003C⟩,
   ⟨0x0C0040, [], 0xFFFF0000, 0, 0, 0, 0, 0, 0x0C0040⟩,
   ⟨0x0C0044, [], 0x0001FFFF, 0, 0, 0, 0, 0, 0x0C0044⟩,
   ⟨0x0C0048, [], 0x0001FFFF, 0, 0, 0, 0, 0, 0x0C0048⟩,
   ⟨0x0C004C, [], 0xFFFFFFFF, 0, 0, 0, 0, 0, 0x0C004C⟩,
   ⟨0x0C0050, [], 0xFFFFFFFF, 0, 0, 0, 0, 0, 0x0C0050⟩,
   ⟨0x0C0054, [], 0xFFFFF000, 0, 0, 0, 0, 0, 0x0C0054⟩,
   ⟨0x0C0058, [], 0x000000FF, 0, 0, 0, 0, 0, 0x0C0058⟩,
   ⟨0x0C005C, [], 0, 0, 0, 0, 0, 0, 0x0C005C⟩,
   ⟨0x0C0060, [], 0, 0, 0, 0, 0, 0, 0x0C0060⟩,
   ⟨0x0C0064, [], 0, 0, 0, 0, 0, 0, 0x0C0064⟩,
   ⟨0x0C0068, [], 0, 0, 0, 0, 0, 0, 0x0C0068⟩,
   ⟨0x0C006C, [], 0, 0, 0, 0, 0, 0, 0x0C006C⟩]

/-- Registers of block 0x0C, part 2. -/
def regsBlock0Cp1 : List RegDesc :=
  [
   ⟨0x0C0070, [], 0, 0, 0, 0, 0, 0, 0x0C0070⟩,
   ⟨0x0C0074, [], 0, 0, 0, 0x00000001, 0, 0, 0x0C0074⟩,
   ⟨0x0C0078, [], 0, 0x0000001F, 0, 0, 0, 0, 0x0C0078⟩,
   ⟨0x0C007C, [], 0x0000001F, 0, 0, 0, 0, 0, 0x0C007C⟩,
   ⟨0x0C0080, [], 0, 0, 0, 0x0000007F, 0, 0, 0x0C0080⟩,
   ⟨0x0C0100, [(256, 4)], 0x7FF3FFFF, 0, 0, 0, 0, 0, 0x0C0100⟩,
   ⟨0x0C0104, [(256, 4)], 0, 0x40000000, 0, 0, 0, 0, 0x0C0104⟩,
   ⟨0x0C0108, [(256, 4)], 0xFFFFFFFF, 0, 0, 0, 0, 0, 0x0C0108⟩,
   ⟨0x0C010C, [(256, 4)], 0xFFFFFFFF, 0, 0, 0, 0, 0, 0x0C010C⟩,
   ⟨0x0C0110, [(256, 4)], 0xFFFFFFFF, 0, 0, 0, 0, 0, 0x0C0110⟩,
   ⟨0x0C0114, [(256, 4)], 0xFFFFFFFF, 0, 0, 0, 0, 0, 0x0C0114⟩,
   ⟨0x0C0140, [(256, 4), (4, 16)], 0xFFFFFFFF, 0, 0, 0, 0, 0, 0x0C0140⟩]

/-- Registers of block 0x0C. -/
def regsBlock0C : List RegDesc := regsBlock0Cp0 ++ regsBlock0Cp1

/-- Registers of block 0x0D. -/
def regsBlock0D : List RegDesc :=
  [
   ⟨0x0D0000, [], 0, 0, 0, 0, 0xF0003FFF, 0, 0x0D0000⟩,
   ⟨0x0D0004, [], 0, 0, 0, 0, 0xFFFFFFFF, 0, 0x0D0004⟩,
   ⟨0x0D0008, [], 0, 0, 0, 0, 0xFFFFFFFF, 0, 0x0D0008⟩,
   ⟨0x0D000C, [], 0x000000FF, 0, 0, 0, 0, 0, 0x0D000C⟩,
   ⟨0x0D0010, [], 0xFFFF003F, 0, 0, 0, 0, 0, 0x0D0010⟩,
   ⟨0x0D0014, [], 0x0003FFFF, 0, 0, 0, 0, 0, 0x0D0014⟩,
   ⟨0x0D0018, [], 0, 0, 0, 0, 0, 0, 0x0D0018⟩,
   ⟨0x0D0020, [], 0, 0, 0, 0, 0, 0, 0x0D0020⟩,
   ⟨0x0D0024, [], 0, 0, 0, 0, 0, 0, 0x0D0024⟩,
   ⟨0x0D0028, [], 0, 0, 0, 0, 0, 0, 0x0D0028⟩,
   ⟨0x0D002C, [], 0, 0, 0, 0, 0, 0, 0x0D002C⟩,
   ⟨0x0D0030, [], 0, 0, 0, 0, 0, 0, 0x0D0030⟩,
   ⟨0x0D0034, [], 0, 0, 0, 0, 0, 0, 0x0D0034⟩,
   ⟨0x0D0038, [], 0, 0, 0, 0, 0, 0, 0x0D0038⟩,
   ⟨0x0D003C, [], 0, 0, 0, 0x0000007F, 0, 0, 0x0D003C⟩]

/-- Registers of block 0x0E. -/
def regsBlock0E : List RegDesc :=
  [
   ⟨0x0E0000, [], 0, 0, 0, 0, 0, 0, 0x0E0000⟩,
   ⟨0x0E0004, [], 0, 0, 0, 0, 0, 0, 0x0E0004⟩,
   ⟨0x0E0100, [(16, 16)], 0, 0, 0, 0, 0, 0, 0x0E0100⟩,
   ⟨0x0E0104, [(16, 16)], 0, 0, 0, 0, 0, 0, 0x0E0104⟩,
   ⟨0x0E0108, [(16, 16)], 0, 0, 0, 0, 0, 0, 0x0E0108⟩,
   ⟨0x0E010C, [(16, 16)], 0, 0, 0, 0, 0, 0, 0x0E010C⟩]

/-- Registers of block 0x0F. -/
def regsBlock0F : List RegDesc :=
  [
   ⟨0x0F0000, [], 0, 0, 0, 0, 0x000FFFFF, 0, 0x0F0000⟩,
   ⟨0x0F0004, [], 0, 0, 0, 0, 0x000FFFFF, 0, 0x0F0004⟩,
   ⟨0x0F0008, [], 0, 0, 0, 0, 0x0003FFFF, 0, 0x0F0008⟩,
   ⟨0x0F000C, [], 0, 0, 0, 0, 0x0003FFFF, 0, 0x0F000C⟩,
   ⟨0x0F0010, [], 0, 0, 0, 0, 0x0003FFFF, 0, 0x0F0010⟩,
   ⟨0x0F0014, [], 0, 0, 0, 0, 0, 0, 0x0F0014⟩,
   ⟨0x0F0018, [], 0, 0, 0, 0x80000000, 0, 0, 0x0F0018⟩,
   ⟨0x0F001C, [], 0, 0, 0, 0, 0, 0, 0x0F001C⟩,
   ⟨0x0F0020, [], 0, 0, 0, 0, 0, 0, 0x0F0020⟩,
   ⟨0x0F0024, [], 0, 0, 0, 0, 0, 0, 0x0F0024⟩,
   ⟨0x0F0028, [], 0, 0, 0, 0, 0, 0, 0x0F0028⟩,
   ⟨0x0F0030, [], 0xFFFFFFE0, 0, 0, 0, 0, 0, 0x0F0030⟩,
   ⟨0x0F0034, [], 0x000000FF, 0, 0, 0, 0, 0, 0x0F0034⟩,
   ⟨0x0F0038, [], 0x0000000F, 0, 0, 0x00000100, 0, 0, 0x0F0038⟩,
   ⟨0x0F003C, [], 0, 0, 0, 0, 0, 0, 0x0F003C⟩,
   ⟨0x0F0040, [], 0x0000FFFF, 0, 0, 0, 0, 0, 0x0F0040⟩,
   ⟨0x0F0044, [], 0, 0x0000FFFF, 0, 0, 0, 0, 0x0F0044⟩,
   ⟨0x0F0048, [(4, 2)], 0, 0, 0, 0, 0, 0, 0x0F0048⟩,
   ⟨0x0F0080, [(8, 4)], 0x800FFFFF, 0, 0, 0, 0, 0, 0x0F0080⟩,
   ⟨0x0F0084, [(8, 4)], 0x000FFFFF, 0, 0, 0, 0, 0, 0x0F0084⟩]

/-- Registers of block 0x10. -/
def regsBlock10 : List RegDesc :=
  [
   ⟨0x100000, [], 0, 0xFFFFFFFF, 0, 0, 0, 0, 0x100000⟩,
   ⟨0x100004, [], 0xFFFFFFFF, 0, 0, 0, 0, 0, 0x100004⟩,
   ⟨0x100100, [(64, 16)], 0x000F0111, 0, 0, 0x00000006, 0, 0, 0x100100⟩,
   ⟨0x100104, [(64, 16)], 0xFFFFFFE0, 0, 0, 0, 0, 0, 0x100104⟩,
   ⟨0x100108, [(64, 16)], 0x000000FF, 0, 0, 0, 0, 0, 0x100108⟩,
   ⟨0x10010C, [(64, 16)], 0xFFFFFFF0, 0, 0, 0, 0, 0, 0x10010C⟩,
   ⟨0x100110, [(64, 16)], 0xFFFFFFFF, 0, 0, 0, 0, 0, 0x100110⟩,
   ⟨0x100114, [(64, 16)], 0x0000FFFF, 0, 0, 0, 0, 0, 0x100114⟩,
   ⟨0x100118, [(64, 16)], 0, 0, 0, 0, 0, 0, 0x100118⟩,
   ⟨0x10011C, [(64, 16)], 0, 0, 0, 0, 0, 0, 0x10011C⟩,
   ⟨0x100120, [(64, 16)], 0, 0, 0, 0, 0, 0, 0x100120⟩,
   ⟨0x100124, [(64, 16)], 0, 0, 0, 0, 0, 0, 0x100124⟩,
   ⟨0x100128, [(64, 16)], 0, 0, 0, 0, 0, 0, 0x100128⟩,
   ⟨0x10012C, [(64, 16)], 0, 0, 0, 0, 0, 0, 0x10012C⟩,
   ⟨0x100130, [(64, 16)], 0, 0, 0, 0, 0, 0, 0x100130⟩,
   ⟨0x100134, [(64, 16)], 0, 0, 0, 0, 0, 0, 0x100134⟩]

/-- Registers of block 0x11. -/
def regsBlock11 : List RegDesc :=
  [
   ⟨0x110000, [], 0, 0, 0x80000000, 0, 0, 0x00000001, 0x110000⟩,
   ⟨0x110004, [], 0xFFFFFFFF, 0, 0, 0, 0, 0, 0x110004⟩,
   ⟨0x110008, [], 0, 0, 0, 0, 0, 0, 0x110008⟩,
   ⟨0x11000C, [], 0, 0, 0, 0, 0, 0, 0x11000C⟩,
   ⟨0x110010, [], 0, 0, 0, 0, 0, 0, 0x110010⟩,
   ⟨0x110020, [], 0, 0, 0, 0, 0, 0, 0x110020⟩,
   ⟨0x110024, [], 0, 0, 0, 0, 0, 0, 0x110024⟩,
   ⟨0x110028, [], 0, 0, 0, 0, 0, 0, 0x110028⟩,
   ⟨0x11002C, [], 0, 0, 0, 0x00000007, 0, 0, 0x11002C⟩,
   ⟨0x110100, [(4, 7)], 0x77777777, 0, 0, 0, 0, 0, 0x110100⟩]

/-- Registers of block 0x12. -/
def regsBlock12 : List RegDesc :=
  [
   ⟨0x120000, [], 0x0000003F, 0, 0, 0, 0, 0, 0x120000⟩,
   ⟨0x120004, [], 0x0001FFFF, 0, 0, 0, 0, 0, 0x120004⟩,
   ⟨0x120008, [], 0, 0, 0, 0, 0, 0, 0x120008⟩,
   ⟨0x12000C, [], 0, 0xFFFFFFFF, 0, 0, 0, 0, 0x12000C⟩,
   ⟨0x120010, [], 0, 0, 0, 0, 0, 0, 0x120010⟩,
   ⟨0x120014, [], 0, 0, 0, 0x0000003F, 0, 0, 0x120014⟩]

/-- Registers of block 0x13. -/
def regsBlock13 : List RegDesc :=
  [
   ⟨0x130000, [], 0x00000001, 0, 0x80000000, 0, 0, 0x00000006, 0x130000⟩,
   ⟨0x130004, [], 0, 0, 0, 0, 0, 0xF9BF0AF2, 0x130000⟩,
   ⟨0x130008, [], 0, 0, 0, 0, 0, 0, 0x130008⟩,
   ⟨0x13000C, [], 0, 0x0003FFFF, 0, 0, 0, 0, 0x13000C⟩,
   ⟨0x130100, [(32, 16)], 0x0F0F0001, 0, 0, 0x00000004, 0, 0, 0x130100⟩,
   ⟨0x130104, [(32, 16)], 0xFFFFF000, 0, 0, 0, 0, 0, 0x130104⟩,
   ⟨0x130108, [(32, 16)], 0xFFFFFFFF, 0, 0, 0, 0, 0, 0x130108⟩,
   ⟨0x13010C, [(32, 16)], 0xFFFFF000, 0, 0, 0, 0, 0, 0x13010C⟩,
   ⟨0x130110, [(32, 16)], 0xFFFFFFFF, 0, 0, 0, 0, 0, 0x130110⟩,
   ⟨0x130114, [(32, 16)], 0xFFFFFFF0, 0, 0, 0, 0, 0, 0x130114⟩,
   ⟨0x130118, [(32, 16)], 0xFFFFFFFF, 0, 0, 0, 0, 0, 0x130118⟩,
   ⟨0x13011C, [(32, 16)], 0, 0, 0, 0, 0, 0, 0x13011C⟩]

/-- Registers of block 0x14. -/
def regsBlock14 : List RegDesc :=
  [
   ⟨0x140000, [], 0x0000000F, 0, 0, 0, 0, 0, 0x140000⟩,
   ⟨0x140004, [], 0, 0, 0, 0, 0, 0, 0x140004⟩,
   ⟨0x140008, [], 0, 0, 0, 0, 0xFFFFFFFF, 0, 0x140008⟩,
   ⟨0x14000C, [], 0, 0, 0, 0, 0xFFFF03FF, 0, 0x14000C⟩,
   ⟨0x140010, [], 0, 0, 0, 0, 0, 0, 0x140010⟩,
   ⟨0x140014, [], 0, 0, 0, 0, 0xFFFFFFFF, 0, 0x140014⟩,
   ⟨0x140018, [], 0, 0, 0, 0, 0, 0, 0x140018⟩,
   ⟨0x14001C, [], 0, 0, 0, 0, 0, 0, 0x14001C⟩,
   ⟨0x140020, [], 0, 0, 0, 0x0000003F, 0, 0, 0x140020⟩,
   ⟨0x140024, [], 0, 0x0000007F, 0, 0, 0, 0, 0x140024⟩,
   ⟨0x140028, [], 0x0000007F, 0, 0, 0, 0, 0, 0x140028⟩,
   ⟨0x140100, [(16, 4)], 0, 0, 0, 0, 0, 0, 0x140100⟩,
   ⟨0x140104, [(16, 4)], 0xFFFFFFFF, 0, 0, 0, 0, 0, 0x140104⟩,
   ⟨0x140108, [(16, 4)], 0, 0, 0, 0, 0, 0, 0x140108⟩,
   ⟨0x14010C, [(16, 4)], 0, 0, 0, 0, 0, 0, 0x14010C⟩]

/-- Registers of block 0x15. -/
def regsBlock15 : List RegDesc :=
  [
   ⟨0x150000, [], 0, 0, 0, 0, 0x00000007, 0, 0x150000⟩,
   ⟨0x150004, [], 0, 0, 0, 0, 0, 0, 0x150004⟩,
   ⟨0x150008, [], 0, 0, 0, 0, 0xFFFFFFFF, 0, 0x150008⟩,
   ⟨0x15000C, [], 0, 0, 0, 0, 0xFFFFFFFF, 0, 0x15000C⟩,
   ⟨0x150010, [], 0, 0, 0, 0, 0x001FFFFF, 0, 0x150010⟩,
   ⟨0x150014, [], 0, 0, 0, 0, 0, 0, 0x150014⟩,
   ⟨0x150018, [], 0, 0, 0, 0, 0, 0, 0x150018⟩,
   ⟨0x15001C, [], 0, 0, 0, 0, 0, 0, 0x15001C⟩,
   ⟨0x150020, [], 0, 0, 0, 0, 0, 0, 0x150020⟩,
   ⟨0x150024, [], 0, 0, 0, 0, 0, 0, 0x150024⟩,
   ⟨0x150028, [], 0, 0, 0, 0x00000001, 0, 0, 0x150028⟩]

/-- Registers of block 0x16. -/
def regsBlock16 : List RegDesc :=
  [
   ⟨0x160000, [], 0, 0x0000003F, 0, 0, 0, 0, 0x160000⟩,
   ⟨0x160004, [], 0x0000003F, 0, 0, 0, 0, 0, 0x160004⟩,
   ⟨0x160008, [], 0, 0, 0, 0x00000003, 0, 0, 0x160008⟩,
   ⟨0x160100, [(256, 2)], 0, 0, 0, 0, 0x80000007, 0, 0x160100⟩,
   ⟨0x160104, [(256, 2)], 0, 0, 0, 0, 0, 0, 0x160104⟩,
   ⟨0x160108, [(256, 2)], 0, 0, 0, 0, 0xFFFFFFFF, 0, 0x160108⟩,
   ⟨0x16010C, [(256, 2)], 0, 0, 0, 0, 0x0000FFFF, 0, 0x16010C⟩,
   ⟨0x160110, [(256, 2)], 0, 0, 0, 0, 0x00000FFF, 0, 0x160110⟩,
   ⟨0x160114, [(256, 2), (4, 4)], 0, 0, 0, 0, 0x0FFF0FFF, 0, 0x160114⟩,
   ⟨0x160124, [(256, 2)], 0xFFFFFFFF, 0, 0, 0, 0, 0, 0x160124⟩,
   ⟨0x160128, [(256, 2)], 0, 0, 0, 0, 0, 0, 0x160128⟩,
   ⟨0x16012C, [(256, 2)], 0, 0, 0, 0, 0, 0, 0x16012C⟩,
   ⟨0x160130, [(256, 2)], 0, 0, 0, 0, 0, 0, 0x160130⟩,
   ⟨0x160134, [(256, 2)], 0, 0, 0, 0, 0, 0, 0x160134⟩,
   ⟨0x160138, [(256, 2)], 0, 0, 0, 0, 0, 0, 0x160138⟩,
   ⟨0x160400, [(16, 2)], 0x27FFFF00, 0, 0, 0, 0, 0, 0x160400⟩,
   ⟨0x160404, [(16, 2)], 0xFFFFFFFF, 0, 0, 0, 0, 0, 0x160404⟩]

/-- Registers of block 0x17. -/
def regsBlock17 : List RegDesc :=
  [
   ⟨0x170000, [], 0, 0, 0, 0, 0, 0, 0x170000⟩,
   ⟨0x170004, [], 0, 0, 0, 0, 0, 0, 0x170004⟩,
   ⟨0x170008, [], 0, 0, 0x80000000, 0, 0, 0x000000FF, 0x170008⟩,
   ⟨0x17000C, [], 0, 0, 0, 0, 0, 0, 0x17000C⟩]

/-- Registers of block 0x18. -/
def regsBlock18 : List RegDesc :=
  [
   ⟨0x180000, [], 0x00000001, 0, 0x80000000, 0, 0, 0x00007F00, 0x180000⟩,
   ⟨0x180004, [], 0x80000007, 0, 0, 0, 0, 0, 0x180004⟩,
   ⟨0x180008, [], 0, 0, 0, 0, 0, 0, 0x180008⟩,
   ⟨0x18000C, [], 0x00FFFFFF, 0, 0, 0, 0, 0, 0x18000C⟩,
   ⟨0x180010, [(4, 3)], 0xFFFFFFFF, 0, 0, 0, 0, 0, 0x180010⟩,
   ⟨0x180020, [], 0, 0, 0, 0, 0xC70FFFFF, 0, 0x180020⟩,
   ⟨0x180024, [], 0, 0, 0, 0, 0xFFFFFFFF, 0, 0x180024⟩,
   ⟨0x180028, [], 0, 0, 0, 0, 0, 0, 0x180028⟩,
   ⟨0x180030, [], 0x0000FFFF, 0, 0, 0, 0, 0, 0x180030⟩,
   ⟨0x180034, [], 0, 0, 0, 0, 0, 0, 0x180034⟩,
   ⟨0x180038, [], 0, 0, 0, 0, 0, 0, 0x180038⟩,
   ⟨0x180040, [], 0x47FF007F, 0, 0, 0, 0, 0, 0x180040⟩,
   ⟨0x180044, [], 0xFFFFFFFF, 0, 0, 0, 0, 0, 0x180044⟩,
   ⟨0x180080, [(4, 16)], 0xFFFFFFFF, 0, 0, 0, 0, 0, 0x180080⟩,
   ⟨0x180100, [], 0, 0x001F007F, 0, 0, 0, 0, 0x180100⟩,
   ⟨0x180104, [], 0x0000007F, 0, 0, 0, 0, 0, 0x180104⟩,
   ⟨0x180108, [], 0x001F007F, 0, 0, 0, 0, 0, 0x180108⟩]

/-- Registers of block 0x19. -/
def regsBlock19 : List RegDesc :=
  [
   ⟨0x190000, [], 0, 0, 0, 0, 0, 0, 0x190000⟩,
   ⟨0x190004, [(4, 8)], 0, 0, 0, 0, 0, 0, 0x190004⟩,
   ⟨0x190024, [], 0, 0, 0, 0, 0, 0, 0x190024⟩,
   ⟨0x190028, [], 0, 0, 0, 0x80000000, 0, 0, 0x190028⟩,
   ⟨0x19002C, [], 0, 0, 0, 0, 0, 0, 0x19002C⟩,
   ⟨0x190030, [], 0, 0, 0, 0, 0x0000003F, 0, 0x190030⟩]

/-- Registers of block 0x1A. -/
def regsBlock1A : List RegDesc :=
  [
   ⟨0x1A0000, [], 0, 0, 0, 0, 0, 0, 0x1A0000⟩,
   ⟨0x1A0004, [], 0, 0x000003FF, 0, 0, 0, 0, 0x1A0004⟩,
   ⟨0x1A0008, [], 0, 0, 0, 0, 0, 0, 0x1A0008⟩,
   ⟨0x1A0100, [(4, 10)], 0, 0, 0, 0, 0, 0, 0x1A0100⟩]

/-- Registers of block 0x1B. -/
def regsBlock1B : List RegDesc :=
  [
   ⟨0x1B0100, [], 0, 0, 0x80000000, 0, 0, 0x00000001, 0x1B0100⟩,
   ⟨0x1B0104, [], 0, 0, 0, 0, 0, 0, 0x1B0104⟩,
   ⟨0x1B0108, [], 0, 0, 0, 0, 0, 0, 0x1B0108⟩,
   ⟨0x1B010C, [], 0, 0, 0, 0, 0, 0, 0x1B010C⟩,
   ⟨0x1B0110, [], 0, 0, 0, 0, 0, 0, 0x1B0110⟩,
   ⟨0x1B0114, [], 0, 0, 0, 0, 0, 0, 0x1B0114⟩]

/-- Registers of block 0x1C. -/
def regsBlock1C : List RegDesc :=
  [
   ⟨0x1C0000, [], 0x000003FF, 0, 0, 0, 0, 0, 0x1C0000⟩,
   ⟨0x1C0004, [], 0, 0, 0, 0, 0, 0, 0x1C0004⟩,
   ⟨0x1C0008, [], 0, 0, 0, 0, 0, 0, 0x1C0008⟩]

/-- Registers of block 0x1D. -/
def regsBlock1D : List RegDesc :=
  [
   ⟨0x1D0000, [], 0, 0, 0, 0, 0, 0, 0x1D0000⟩,
   ⟨0x1D0004, [], 0, 0, 0, 0, 0, 0, 0x1D0004⟩,
   ⟨0x1D0008, [], 0, 0, 0, 0, 0, 0, 0x1D0008⟩,
   ⟨0x1D000C, [], 0, 0, 0, 0, 0, 0, 0x1D000C⟩,
   ⟨0x1D0010, [(4, 8)], 0, 0, 0, 0, 0, 0, 0x1D0010⟩]

/-- Registers of block 0x1E. -/
def regsBlock1E : List RegDesc :=
  [
   ⟨0x1E0000, [], 0, 0, 0, 0, 0, 0, 0x1E0000⟩,
   ⟨0x1E0004, [], 0, 0, 0, 0, 0, 0, 0x1E0004⟩,
   ⟨0x1E0008, [], 0, 0, 0, 0, 0, 0, 0x1E0008⟩,
   ⟨0x1E000C, [], 0, 0x0000000F, 0, 0, 0, 0, 0x1E000C⟩,
   ⟨0x1E0010, [], 0, 0, 0, 0, 0, 0, 0x1E0010⟩,
   ⟨0x1E0014, [], 0, 0, 0, 0x03FFFFFF, 0, 0, 0x1E0014⟩,
   ⟨0x1E0018, [], 0x00000003, 0, 0, 0, 0, 0, 0x1E0018⟩,
   ⟨0x1E001C, [], 0, 0, 0, 0, 0, 0, 0x1E001C⟩,
   ⟨0x1E0020, [], 0, 0, 0, 0, 0, 0, 0x1E0020⟩]

/-- Registers of block 0x1F. -/
def regsBlock1F : List RegDesc :=
  [
   ⟨0x1F0000, [], 0x80000103, 0, 0, 0, 0, 0, 0x1F0000⟩,
   ⟨0x1F0004, [], 0, 0, 0, 0, 0xFFE00000, 0, 0x1F0004⟩,
   ⟨0x1F0008, [], 0, 0, 0, 0, 0x000000FF, 0, 0x1F0008⟩,
   ⟨0x1F000C, [], 0, 0, 0, 0, 0, 0, 0x1F000C⟩,
   ⟨0x1F0010, [], 0xFFFFFFFF, 0, 0, 0, 0, 0, 0x1F0010⟩,
   ⟨0x1F0014, [], 0x0001FFFF, 0, 0, 0, 0, 0, 0x1F0014⟩,
   ⟨0x1F0018, [], 0, 0, 0, 0, 0, 0, 0x1F0018⟩,
   ⟨0x1F001C, [], 0, 0, 0, 0, 0, 0, 0x1F001C⟩,
   ⟨0x1F0020, [(4, 4)], 0, 0, 0, 0, 0, 0, 0x1F0020⟩,
   ⟨0x1F0030, [], 0, 0, 0, 0, 0, 0, 0x1F0030⟩,
   ⟨0x1F0034, [], 0x000000FF, 0, 0, 0, 0, 0, 0x1F0034⟩,
   ⟨0x1F0038, [], 0, 0, 0, 0, 0, 0, 0x1F0038⟩,
   ⟨0x1F0040, [(4, 8)], 0, 0, 0, 0, 0, 0, 0x1F0040⟩,
   ⟨0x1F0060, [(4, 8)], 0, 0, 0, 0, 0, 0, 0x1F0060⟩,
   ⟨0x1F0080, [], 0, 0, 0, 0x00000007, 0, 0, 0x1F0080⟩]

/-- The registers of a block of 64 KB by its index (R553). -/
def regsOfBlock : Nat → List RegDesc
  | 0 => regsBlock00
  | 1 => regsBlock01
  | 2 => regsBlock02
  | 3 => regsBlock03
  | 4 => regsBlock04
  | 5 => regsBlock05
  | 6 => regsBlock06
  | 7 => regsBlock07
  | 8 => regsBlock08
  | 9 => regsBlock09
  | 10 => regsBlock0A
  | 11 => regsBlock0B
  | 12 => regsBlock0C
  | 13 => regsBlock0D
  | 14 => regsBlock0E
  | 15 => regsBlock0F
  | 16 => regsBlock10
  | 17 => regsBlock11
  | 18 => regsBlock12
  | 19 => regsBlock13
  | 20 => regsBlock14
  | 21 => regsBlock15
  | 22 => regsBlock16
  | 23 => regsBlock17
  | 24 => regsBlock18
  | 25 => regsBlock19
  | 26 => regsBlock1A
  | 27 => regsBlock1B
  | 28 => regsBlock1C
  | 29 => regsBlock1D
  | 30 => regsBlock1E
  | 31 => regsBlock1F
  | _ => []

/-- Reset values that are not 0, part 1. -/
def csrReset0 : List (Nat × Word) :=
  [
   (0x010008, 0x00000402), (0x020404, 0x00080000), (0x020424, 0x00080000), (0x020444, 0x00080000), 
   (0x020464, 0x00080000), (0x020484, 0x00080000), (0x0204A4, 0x00080000), (0x0204C4, 0x00080000), 
   (0x0204E4, 0x00080000), (0x030010, 0x000000E2), (0x030100, 0x2EE00000), (0x030104, 0x0781E0F0), 
   (0x030108, 0x007F7F7F), (0x030120, 0x2EE00000), (0x030124, 0x0781E0F0), (0x030128, 0x007F7F7F), 
   (0x030140, 0x2EE00000), (0x030144, 0x0781E0F0), (0x030148, 0x007F7F7F), (0x030160, 0x2EE00000), 
   (0x030164, 0x0781E0F0), (0x030168, 0x007F7F7F), (0x040000, 0x00000180), (0x041000, 0x00800000), 
   (0x041010, 0x00800000), (0x041020, 0x00800000), (0x041030, 0x00800000), (0x041040, 0x00800000), 
   (0x041050, 0x00800000), (0x041060, 0x00800000), (0x041070, 0x00800000), (0x041080, 0x00800000), 
   (0x041090, 0x00800000), (0x0410A0, 0x00800000), (0x0410B0, 0x00800000), (0x0410C0, 0x00800000), 
   (0x0410D0, 0x00800000), (0x0410E0, 0x00800000), (0x0410F0, 0x00800000), (0x041100, 0x00800000), 
   (0x041110, 0x00800000), (0x041120, 0x00800000), (0x041130, 0x00800000), (0x041140, 0x00800000), 
   (0x041150, 0x00800000), (0x041160, 0x00800000), (0x041170, 0x00800000), (0x041180, 0x00800000)]

/-- Reset values that are not 0, part 2. -/
def csrReset1 : List (Nat × Word) :=
  [
   (0x041190, 0x00800000), (0x0411A0, 0x00800000), (0x0411B0, 0x00800000), (0x0411C0, 0x00800000), 
   (0x0411D0, 0x00800000), (0x0411E0, 0x00800000), (0x0411F0, 0x00800000), (0x041200, 0x00800000), 
   (0x041210, 0x00800000), (0x041220, 0x00800000), (0x041230, 0x00800000), (0x041240, 0x00800000), 
   (0x041250, 0x00800000), (0x041260, 0x00800000), (0x041270, 0x00800000), (0x041280, 0x00800000), 
   (0x041290, 0x00800000), (0x0412A0, 0x00800000), (0x0412B0, 0x00800000), (0x0412C0, 0x00800000), 
   (0x0412D0, 0x00800000), (0x0412E0, 0x00800000), (0x0412F0, 0x00800000), (0x041300, 0x00800000), 
   (0x041310, 0x00800000), (0x041320, 0x00800000), (0x041330, 0x00800000), (0x041340, 0x00800000), 
   (0x041350, 0x00800000), (0x041360, 0x00800000), (0x041370, 0x00800000), (0x041380, 0x00800000), 
   (0x041390, 0x00800000), (0x0413A0, 0x00800000), (0x0413B0, 0x00800000), (0x0413C0, 0x00800000), 
   (0x0413D0, 0x00800000), (0x0413E0, 0x00800000), (0x0413F0, 0x00800000), (0x041400, 0x00800000), 
   (0x041410, 0x00800000), (0x041420, 0x00800000), (0x041430, 0x00800000), (0x041440, 0x00800000), 
   (0x041450, 0x00800000), (0x041460, 0x00800000), (0x041470, 0x00800000), (0x041480, 0x00800000)]

/-- Reset values that are not 0, part 3. -/
def csrReset2 : List (Nat × Word) :=
  [
   (0x041490, 0x00800000), (0x0414A0, 0x00800000), (0x0414B0, 0x00800000), (0x0414C0, 0x00800000), 
   (0x0414D0, 0x00800000), (0x0414E0, 0x00800000), (0x0414F0, 0x00800000), (0x041500, 0x00800000), 
   (0x041510, 0x00800000), (0x041520, 0x00800000), (0x041530, 0x00800000), (0x041540, 0x00800000), 
   (0x041550, 0x00800000), (0x041560, 0x00800000), (0x041570, 0x00800000), (0x041580, 0x00800000), 
   (0x041590, 0x00800000), (0x0415A0, 0x00800000), (0x0415B0, 0x00800000), (0x0415C0, 0x00800000), 
   (0x0415D0, 0x00800000), (0x0415E0, 0x00800000), (0x0415F0, 0x00800000), (0x041600, 0x00800000), 
   (0x041610, 0x00800000), (0x041620, 0x00800000), (0x041630, 0x00800000), (0x041640, 0x00800000), 
   (0x041650, 0x00800000), (0x041660, 0x00800000), (0x041670, 0x00800000), (0x041680, 0x00800000), 
   (0x041690, 0x00800000), (0x0416A0, 0x00800000), (0x0416B0, 0x00800000), (0x0416C0, 0x00800000), 
   (0x0416D0, 0x00800000), (0x0416E0, 0x00800000), (0x0416F0, 0x00800000), (0x041700, 0x00800000), 
   (0x041710, 0x00800000), (0x041720, 0x00800000), (0x041730, 0x00800000), (0x041740, 0x00800000), 
   (0x041750, 0x00800000), (0x041760, 0x00800000), (0x041770, 0x00800000), (0x041780, 0x00800000)]

/-- Reset values that are not 0, part 4. -/
def csrReset3 : List (Nat × Word) :=
  [
   (0x041790, 0x00800000), (0x0417A0, 0x00800000), (0x0417B0, 0x00800000), (0x0417C0, 0x00800000), 
   (0x0417D0, 0x00800000), (0x0417E0, 0x00800000), (0x0417F0, 0x00800000), (0x041800, 0x00800000), 
   (0x041810, 0x00800000), (0x041820, 0x00800000), (0x041830, 0x00800000), (0x041840, 0x00800000), 
   (0x041850, 0x00800000), (0x041860, 0x00800000), (0x041870, 0x00800000), (0x041880, 0x00800000), 
   (0x041890, 0x00800000), (0x0418A0, 0x00800000), (0x0418B0, 0x00800000), (0x0418C0, 0x00800000), 
   (0x0418D0, 0x00800000), (0x0418E0, 0x00800000), (0x0418F0, 0x00800000), (0x041900, 0x00800000), 
   (0x041910, 0x00800000), (0x041920, 0x00800000), (0x041930, 0x00800000), (0x041940, 0x00800000), 
   (0x041950, 0x00800000), (0x041960, 0x00800000), (0x041970, 0x00800000), (0x041980, 0x00800000), 
   (0x041990, 0x00800000), (0x0419A0, 0x00800000), (0x0419B0, 0x00800000), (0x0419C0, 0x00800000), 
   (0x0419D0, 0x00800000), (0x0419E0, 0x00800000), (0x0419F0, 0x00800000), (0x041A00, 0x00800000), 
   (0x041A10, 0x00800000), (0x041A20, 0x00800000), (0x041A30, 0x00800000), (0x041A40, 0x00800000), 
   (0x041A50, 0x00800000), (0x041A60, 0x00800000), (0x041A70, 0x00800000), (0x041A80, 0x00800000)]

/-- Reset values that are not 0, part 5. -/
def csrReset4 : List (Nat × Word) :=
  [
   (0x041A90, 0x00800000), (0x041AA0, 0x00800000), (0x041AB0, 0x00800000), (0x041AC0, 0x00800000), 
   (0x041AD0, 0x00800000), (0x041AE0, 0x00800000), (0x041AF0, 0x00800000), (0x041B00, 0x00800000), 
   (0x041B10, 0x00800000), (0x041B20, 0x00800000), (0x041B30, 0x00800000), (0x041B40, 0x00800000), 
   (0x041B50, 0x00800000), (0x041B60, 0x00800000), (0x041B70, 0x00800000), (0x041B80, 0x00800000), 
   (0x041B90, 0x00800000), (0x041BA0, 0x00800000), (0x041BB0, 0x00800000), (0x041BC0, 0x00800000), 
   (0x041BD0, 0x00800000), (0x041BE0, 0x00800000), (0x041BF0, 0x00800000), (0x041C00, 0x00800000), 
   (0x041C10, 0x00800000), (0x041C20, 0x00800000), (0x041C30, 0x00800000), (0x041C40, 0x00800000), 
   (0x041C50, 0x00800000), (0x041C60, 0x00800000), (0x041C70, 0x00800000), (0x041C80, 0x00800000), 
   (0x041C90, 0x00800000), (0x041CA0, 0x00800000), (0x041CB0, 0x00800000), (0x041CC0, 0x00800000), 
   (0x041CD0, 0x00800000), (0x041CE0, 0x00800000), (0x041CF0, 0x00800000), (0x041D00, 0x00800000), 
   (0x041D10, 0x00800000), (0x041D20, 0x00800000), (0x041D30, 0x00800000), (0x041D40, 0x00800000), 
   (0x041D50, 0x00800000), (0x041D60, 0x00800000), (0x041D70, 0x00800000), (0x041D80, 0x00800000)]

/-- Reset values that are not 0, part 6. -/
def csrReset5 : List (Nat × Word) :=
  [
   (0x041D90, 0x00800000), (0x041DA0, 0x00800000), (0x041DB0, 0x00800000), (0x041DC0, 0x00800000), 
   (0x041DD0, 0x00800000), (0x041DE0, 0x00800000), (0x041DF0, 0x00800000), (0x041E00, 0x00800000), 
   (0x041E10, 0x00800000), (0x041E20, 0x00800000), (0x041E30, 0x00800000), (0x041E40, 0x00800000), 
   (0x041E50, 0x00800000), (0x041E60, 0x00800000), (0x041E70, 0x00800000), (0x041E80, 0x00800000), 
   (0x041E90, 0x00800000), (0x041EA0, 0x00800000), (0x041EB0, 0x00800000), (0x041EC0, 0x00800000), 
   (0x041ED0, 0x00800000), (0x041EE0, 0x00800000), (0x041EF0, 0x00800000), (0x041F00, 0x00800000), 
   (0x041F10, 0x00800000), (0x041F20, 0x00800000), (0x041F30, 0x00800000), (0x041F40, 0x00800000), 
   (0x041F50, 0x00800000), (0x041F60, 0x00800000), (0x041F70, 0x00800000), (0x041F80, 0x00800000), 
   (0x041F90, 0x00800000), (0x041FA0, 0x00800000), (0x041FB0, 0x00800000), (0x041FC0, 0x00800000), 
   (0x041FD0, 0x00800000), (0x041FE0, 0x00800000), (0x041FF0, 0x00800000), (0x050000, 0x00000E10), 
   (0x050008, 0x80000000), (0x060000, 0x00000020), (0x060020, 0x00001770), (0x08000C, 0x0008FFFF), 
   (0x080018, 0x00C80064), (0x08001C, 0x03201E00), (0x080020, 0x9C4000C8), (0x090000, 0xFFFF40FF)]

/-- Reset values that are not 0, part 7. -/
def csrReset6 : List (Nat × Word) :=
  [
   (0x09000C, 0x003C0000), (0x0C0000, 0x0001FFFE), (0x0C0004, 0x00C81000), (0x0C0008, 0x0258012C), 
   (0x0C0030, 0x00124F80), (0x0C0040, 0x03E80000), (0x0C0048, 0x0001FFFE), (0x0C004C, 0x33000EFF), 
   (0x0D0000, 0x200005DC), (0x0D0010, 0x03840008), (0x0D0014, 0x00008000), (0x0F0038, 0x00000009), 
   (0x100100, 0x00040000), (0x100140, 0x00040000), (0x100180, 0x00040000), (0x1001C0, 0x00040000), 
   (0x100200, 0x00040000), (0x100240, 0x00040000), (0x100280, 0x00040000), (0x1002C0, 0x00040000), 
   (0x100300, 0x00040000), (0x100340, 0x00040000), (0x100380, 0x00040000), (0x1003C0, 0x00040000), 
   (0x100400, 0x00040000), (0x100440, 0x00040000), (0x100480, 0x00040000), (0x1004C0, 0x00040000), 
   (0x110004, 0x00FF003F), (0x110100, 0x11333370), (0x110104, 0x37644554), (0x110108, 0x22222222), 
   (0x11010C, 0x22222222), (0x110110, 0x66666666), (0x110114, 0x66666666), (0x110118, 0x00666666), 
   (0x130000, 0x00000006), (0x130004, 0xF9BF0AF2), (0x130100, 0x00040000), (0x130120, 0x00040000), 
   (0x130140, 0x00040000), (0x130160, 0x00040000), (0x130180, 0x00040000), (0x1301A0, 0x00040000), 
   (0x1301C0, 0x00040000), (0x1301E0, 0x00040000), (0x130200, 0x00040000), (0x130220, 0x00040000)]

/-- Reset values that are not 0, part 8. -/
def csrReset7 : List (Nat × Word) :=
  [
   (0x130240, 0x00040000), (0x130260, 0x00040000), (0x130280, 0x00040000), (0x1302A0, 0x00040000), 
   (0x1302C0, 0x00040000), (0x1302E0, 0x00040000), (0x140000, 0x0000000F), (0x14000C, 0x00180014), 
   (0x140014, 0x00B71B00), (0x150000, 0x00000003), (0x160400, 0x00A00000), (0x160410, 0x00A00000), 
   (0x170000, 0x31601F4A), (0x170008, 0x00000003), (0x17800C, 0x00000001), (0x17801C, 0x00000001), 
   (0x17802C, 0x00000001), (0x17803C, 0x00000001), (0x17804C, 0x00000001), (0x17805C, 0x00000001), 
   (0x17806C, 0x00000001), (0x17807C, 0x00000001), (0x17808C, 0x00000001), (0x17809C, 0x00000001), 
   (0x1780AC, 0x00000001), (0x1780BC, 0x00000001), (0x1780CC, 0x00000001), (0x1780DC, 0x00000001), 
   (0x1780EC, 0x00000001), (0x1780FC, 0x00000001), (0x17810C, 0x00000001), (0x17811C, 0x00000001), 
   (0x17812C, 0x00000001), (0x17813C, 0x00000001), (0x17814C, 0x00000001), (0x17815C, 0x00000001), 
   (0x17816C, 0x00000001), (0x17817C, 0x00000001), (0x17818C, 0x00000001), (0x17819C, 0x00000001), 
   (0x1781AC, 0x00000001), (0x1781BC, 0x00000001), (0x1781CC, 0x00000001), (0x1781DC, 0x00000001), 
   (0x1781EC, 0x00000001), (0x1781FC, 0x00000001), (0x17820C, 0x00000001), (0x17821C, 0x00000001)]

/-- Reset values that are not 0, part 9. -/
def csrReset8 : List (Nat × Word) :=
  [
   (0x17822C, 0x00000001), (0x17823C, 0x00000001), (0x17824C, 0x00000001), (0x17825C, 0x00000001), 
   (0x17826C, 0x00000001), (0x17827C, 0x00000001), (0x17828C, 0x00000001), (0x17829C, 0x00000001), 
   (0x1782AC, 0x00000001), (0x1782BC, 0x00000001), (0x1782CC, 0x00000001), (0x1782DC, 0x00000001), 
   (0x1782EC, 0x00000001), (0x1782FC, 0x00000001), (0x17830C, 0x00000001), (0x17831C, 0x00000001), 
   (0x17832C, 0x00000001), (0x17833C, 0x00000001), (0x17834C, 0x00000001), (0x17835C, 0x00000001), 
   (0x17836C, 0x00000001), (0x17837C, 0x00000001), (0x17838C, 0x00000001), (0x17839C, 0x00000001), 
   (0x1783AC, 0x00000001), (0x1783BC, 0x00000001), (0x1783CC, 0x00000001), (0x1783DC, 0x00000001), 
   (0x1783EC, 0x00000001), (0x1783FC, 0x00000001), (0x180000, 0x00005C00), (0x180004, 0x80000000), 
   (0x180104, 0x0000007F), (0x1B0104, 0x20000000), (0x1E0000, 0x0C581100), (0x1E0018, 0x00000003), 
   (0x1F0000, 0x00000002)]

/-- The registers at power-on reset, those at 0 not listed. -/
def csrReset : Sparse Word :=
  csrReset0 ++
  csrReset1 ++
  csrReset2 ++
  csrReset3 ++
  csrReset4 ++
  csrReset5 ++
  csrReset6 ++
  csrReset7 ++
  csrReset8

end Sys2Proof.Machine
end

