-- ==== Sys2Proof/Machine/State.lean ====
section
/-! DEFINITION. The state of the chip as plain data: every register by BAR0 offset, and beside the
registers the state that the chapters give each block. `State.reset` is the chip on power-on reset. -/

namespace Sys2Proof.Machine

/-- Why the block faults. No meaning of this model faults. -/
inductive Fault
  /-- Raised by nobody: the spec names no event that ends the block. Safe. -/
  | none
  deriving DecidableEq, Repr

/-- Why the model refuses. -/
inductive Refusal
  /-- A row that has no meaning yet, by its mnemonic. Safe: the model stops. -/
  | notModelled (mnemonic : String)
  deriving DecidableEq, Repr

/-- The operating modes (R469), in the order of their codes. -/
inductive Mode
  | cold
  | kindling
  | calibrate
  | service
  | banked
  | ember
  | test
  | quarantine
  deriving DecidableEq, Repr

/-- The mode code of R303 and R469. -/
def Mode.code : Mode → Nat
  | .cold => 0
  | .kindling => 1
  | .calibrate => 2
  | .service => 3
  | .banked => 4
  | .ember => 5
  | .test => 6
  | .quarantine => 7

/-- The mode with a code (R469). -/
def Mode.ofCode : Nat → Option Mode
  | 0 => some .cold
  | 1 => some .kindling
  | 2 => some .calibrate
  | 3 => some .service
  | 4 => some .banked
  | 5 => some .ember
  | 6 => some .test
  | 7 => some .quarantine
  | _ => none

/-- A record posted at most once in a window of time: when it was last posted, and the events since. -/
structure Limiter where
  last : Option Nat
  n : Nat
  deriving DecidableEq, Repr

def Limiter.reset : Limiter := ⟨none, 0⟩

/-! ### Planes and the Imter command model -/

/-- A reply on its way to its issuer (R28). -/
structure Reply where
  opcode : BitVec 16
  tag : BitVec 16
  status : BitVec 16
  completion : Quad
  data : List Byte
  ackReq : Bool
  deriving DecidableEq, Repr

/-- A command accepted and not yet started: in the schedule table or ready (R35). -/
structure Waiting where
  pkt : Packet
  /-- Arrival order over all transports (R36). -/
  seq : Nat
  /-- CALCNT at arrival. -/
  arrival : Nat
  /-- The command still lies in its queue (R45, R50): ring index of a fetched command that CI_CMD has not passed. -/
  slot : Option Nat
  deriving DecidableEq, Repr

/-- A command that has started and whose reply is still due. -/
structure Running where
  pkt : Packet
  seq : Nat
  /-- Its arrival order among all commands (R36). -/
  arrived : Nat
  start : Nat
  /-- Its ring was reset: its reply is discarded (R47). -/
  drop : Bool
  deriving DecidableEq, Repr

/-- A host ring pair beyond its registers (R44 to R47): indices are 16 bits and run freely. -/
structure Ring where
  piCmd : Nat
  /-- The next index to fetch, and CI_CMD. -/
  fetch : Nat
  ci : Nat
  /-- Indices past CI_CMD whose commands have started or been scheduled (R45). -/
  ahead : List Nat
  /-- A fetch may have been in progress when EN was written 0 (R562). -/
  inFlight : Bool
  piRep : Nat
  ciRep : Nat
  /-- Replies returned through CI_REP since the ring reset, modulo 2^32. -/
  returned : Nat
  /-- Replies held while the ring is stopped or disabled. -/
  held : List Reply
  /-- Unsignalled replies and the tick of the oldest (R31). -/
  unsig : Nat
  unsigAt : Nat
  /-- Fetches that ended in a completion error in succession. -/
  errs : Nat
  deriving DecidableEq, Repr

/-- The SMBus mailbox (R48) and the bus's answer to the last transaction. -/
structure Mailbox where
  mem : Sparse Byte
  high : Option Nat
  busy : Bool
  /-- A packet was submitted and has not yet arrived at the interpreter. -/
  submitted : Bool
  replyReady : Bool
  err : Bool
  readOff : Nat
  /-- A reply to a command with ACK_REQ is ready, and the alert has not been answered (R527). -/
  alert : Bool
  ack : Bool
  out : List Byte
  deriving DecidableEq, Repr

/-- An item of a hardware queue: a packet descriptor with the pages that hold it, or a command. -/
structure QItem where
  pages : List Nat
  data : List Byte
  /-- INGRESS, originator and arrival of R379. -/
  ingress : Nat
  orig : Nat
  time : Nat
  /-- Of a packet from Zoant: the chip it came from; of any other item what its queue's consumer needs. -/
  ref : Nat
  deriving DecidableEq, Repr

/-- One of the 64 hardware queues (R51 to R55): both pointers twice, and the items between them. -/
structure Queue where
  headA : Nat
  headB : Nat
  tailA : Nat
  tailB : Nat
  items : List QItem
  level : Nat
  levelIe : Bool
  /-- BACKPRESSURE mode (R51), and the items whose producers wait for room. -/
  backpressure : Bool
  waiting : List QItem
  deriving DecidableEq, Repr

def Queue.empty : Queue := ⟨0, 0, 0, 0, [], 0, false, false, []⟩

def Ring.empty : Ring := ⟨0, 0, 0, [], false, 0, 0, 0, [], 0, 0, 0⟩

/-- The command interpreter, its transports and the queue block. -/
structure Interp where
  sched : List Waiting
  ready : List Waiting
  running : List Running
  /-- Arrival number of the command that COMMAND_START is starting. -/
  starting : Option Nat
  nextSeq : Nat
  rings : Sparse Ring
  mbox : Mailbox
  queues : Sparse Queue
  /-- Replies to commands the firmware issued to itself (R50), oldest first. -/
  fwReplies : List Reply
  /-- The protocol cores run the firmware. -/
  cpRunning : Bool
  /-- The control plane was found stopped (R24), and when. -/
  cpStopped : Bool
  cpStoppedAt : Nat
  deriving DecidableEq, Repr

/-! ### Calendar, timers and captures -/

/-- CALCNT and what surrounds it beyond its registers (R61 to R71, R94). -/
structure Calendar where
  copyA : Quad
  copyB : Quad
  copyC : Quad
  /-- PORESET_N is low, or VDD_AON is below its threshold: the count is held at 0. -/
  porLow : Bool
  aonLost : Bool
  /-- Half of an MGT_CLK period: MGT_CLK has an edge on every second MAC_CLK tick. -/
  mgtHalf : Bool
  /-- Time since the last SLOW_CLK edge while MAC_CLK counts, in 1/64 ticks: an edge every 234,375 (R66). -/
  slowAcc : Nat
  /-- The slow advance begins at the next SLOW_CLK edge, for this SLOW_WHY (R69). -/
  slowPend : Option Nat
  /-- MAC_CLK cycles for which MAC_CLK has been stable in the slow advance (R70). -/
  stable : Nat
  /-- One update in every slewStep ticks is altered; slewCount of them have passed. -/
  slewStep : Nat
  slewCount : Nat
  /-- Tick of the last VOTE_CORRECTED record and the corrections since (R64). -/
  voteAt : Option Nat
  voteFolded : Nat
  /-- A TIME_RESYNC with SOURCE 4 that waits for a SYNC exchange: its sequence number and start (R93). -/
  resync : Option (Nat × Nat)
  /-- High-half snapshots of TMB_NOW_LO by requester (R95); a BAR0 reader is requester 0x100. -/
  nowHi : Sparse Word
  deriving DecidableEq, Repr

/-- A class-I timer beyond its registers (R78 to R82). Prescaler values have 16 fraction bits. Writes of CMP and COUNT
land at the next MGT_CLK edge. -/
structure TimerI where
  pWritten : Nat
  acc : Nat
  /-- Units that arrived since the previous MGT_CLK edge. -/
  units : Nat
  eq : Bool
  /-- COUNT stepped or was written at the last edge. -/
  stepped : Bool
  /-- CMP in force before a CMP write that landed at the last edge. -/
  oldCmp : Option Word
  /-- Writes of CMP and COUNT on their way. -/
  cmpW : Option Word
  cntW : Option Word
  /-- Matches (EQ rose) that have not been carried out. -/
  due : Nat
  deriving DecidableEq, Repr

def TimerI.reset : TimerI := ⟨65536, 0, 0, false, false, none, none, none, 0⟩

/-- A capture unit beyond its registers (R85). -/
structure Capture where
  value : Quad
  pending : Option (Quad × Bool)
  /-- Open read pairs: reader and the tick at which it opened. -/
  pairs : List (Nat × Nat)
  /-- High-half snapshots by requester (R95). -/
  snap : Sparse Word
  deriving DecidableEq, Repr

def Capture.reset : Capture := ⟨0, none, [], []⟩

/-- A write to a class-L timer on its way to its landing tick (R72, R74): the ticks left, the compare value it
carries, and whether it arms or disarms. -/
structure Landing where
  timer : Nat
  left : Nat
  value : Option Nat
  arm : Bool
  deriving DecidableEq, Repr

structure Timers where
  /-- Writes that have not landed, in order. -/
  landings : List Landing
  /-- CALCNT after which updates are tested against a class-L compare value (R73). -/
  since : Sparse Nat
  timerI : Sparse TimerI
  caps : Sparse Capture
  /-- Levels of GPT_IN0 to GPT_IN3 and PPS_IN after synchronisation. -/
  gptLevel : Sparse Bool
  ppsLevel : Bool
  deriving DecidableEq, Repr

/-! ### Radio front end -/

/-- A calibration of a pair or chain, running or deferred (R117 to R119). -/
structure Cal where
  bits : Nat
  force : Bool
  /-- The RADIO_CAL that asked for it. -/
  cmd : Option Nat
  /-- Effective start, and the last tick at which a deferred one may begin (0: no limit). -/
  asked : Nat
  limit : Nat
  start : Nat
  conflicts : Nat
  running : Bool
  /-- State to return to: a pair was ARMED, a chain was on. -/
  fromArmed : Bool
  deriving DecidableEq, Repr

/-- A receive pair beyond its registers (R98). -/
structure Pair where
  cal : Option Cal
  /-- RADIO_SPAN_SET commands that are answered at lock (R126). -/
  spanCmds : List Nat
  /-- ARMED when a warm reset began (R481). -/
  armedBefore : Bool
  /-- Tick since which both branches are blank-marked for want of an armed, locked pair (R98, R102). -/
  dark : Option Nat
  deriving DecidableEq, Repr

def Pair.reset : Pair := ⟨none, [], false, some 0⟩

/-- A blank interval [lo, hi) of branch 2 × pair + branch (R98, R114, R117). -/
structure Blank where
  branch : Nat
  /-- Chain 0 to 3 whose frame, or 4 + chain whose calibration, blanks the branch; 8: the pair itself. -/
  source : Nat
  lo : Nat
  hi : Nat
  deriving DecidableEq, Repr

/-- What a chain modulates: the precoded symbols of an FLR frame, or a SUN PPDU, which the standard builds from the
profile entry and the PSDU, after the PPDU of a mode switch where it names a new mode. -/
inductive Ppdu
  | flr (symbols : List Bool)
  | sun (newMode : Option Nat) (entry psdu : List Byte)
  deriving DecidableEq, Repr

/-- A descriptor in its front-end sequence (R109): start tick and, from the frame end on, that tick. -/
structure TxRun where
  desc : TxDesc
  start : Nat
  stop : Option Nat
  aborted : Bool
  /-- Drive code after the reduction, and PA_MODE (R110). -/
  drive : Nat
  paMode : Nat
  /-- What the chain modulates (R158 to R162). -/
  ppdu : Ppdu
  /-- Channel and FEAST entries charged (R214). -/
  dwell : Bool
  charged : List Nat
  deriving DecidableEq, Repr

/-- A transmit chain beyond its registers (R103 to R112). -/
structure Chain where
  /-- Tick of the enable of a chain whose bias settles: 2,400 ticks. -/
  enabledAt : Option Nat
  /-- Descriptors held, in DEADLINE order (R213). -/
  queue : List TxDesc
  run : Option TxRun
  /-- A tune in progress, and the frequency of the last lock. -/
  tuning : Bool
  lastKhz : Nat
  cal : Option Cal
  /-- The chain goes OFF at the end of RAMP_DOWN. -/
  offAfter : Bool
  /-- RFE_TEMP at the end of the last calibration of its output, in 1/16 °C (R119). -/
  calTemp : Option Int
  deriving DecidableEq, Repr

def Chain.reset : Chain := ⟨none, [], none, false, 0, none, false, none⟩

/-- Effective tightening of one band entry (R124): none where a field is not tightened. -/
structure Tighten where
  drive : Option Nat
  dwellMs : Option Nat
  dutyPpm : Option Nat
  lbt : Option Nat
  deriving DecidableEq, Repr

def Tighten.none : Tighten := ⟨.none, .none, .none, .none⟩

structure Radio where
  pairs : Sparse Pair
  chains : Sparse Chain
  /-- Blank intervals, those that ended long ago left out. -/
  blanks : List Blank
  /-- RSSI calibration of each branch, in 1/1,000 dB: the power at the RF ball of a full-scale signal (R116, R167). -/
  rssiCal : Sparse Int
  /-- Active regulatory profile: its 68 words; empty when the profile is empty or bad (R122). -/
  profile : List Word
  tighten : Sparse Tighten
  deriving DecidableEq, Repr

/-! ### Channelizer -/

/-- A change of a stream that waits for its block boundary (R140, R141): the new CFG and FREQ of a change. -/
inductive StreamPend
  | enable
  | disable
  | change (cfg freq : Word) (apply : Bool)
  deriving DecidableEq, Repr

/-- A stream, by its first slot, beyond its registers. -/
structure Stream where
  pend : Option StreamPend
  /-- PHY_CHAN_SET to answer when the pending change takes effect. -/
  cmd : Option Nat
  /-- A WINDOWED claim is open (R137). -/
  claim : Bool
  /-- Suspended by the thermal governor (R511). -/
  governed : Bool
  unfit : Bool
  /-- It has taken the entry that replaces its profile (R183). -/
  tookNew : Bool
  /-- A trim waiting for its block boundary, the one in effect and the tick since which it is (R143). -/
  trimPend : Option (BitVec 16)
  trim : BitVec 16
  trimSince : Nat
  /-- The trim as limited, in Hz. -/
  trimHz : Int
  /-- Number k of the last block boundary k × P that was carried out (R133). -/
  block : Nat
  /-- Its pool contexts have been taken by a WINDOWED claim (R137). -/
  preempted : Bool
  /-- The NCO (R142): frequency word, and phase accumulator at a tick. -/
  word : BitVec 32
  phase : BitVec 32
  phaseAt : Nat
  deriving DecidableEq, Repr

def Stream.reset : Stream :=
  { pend := none, cmd := none, claim := false, governed := false, unfit := false, tookNew := false, trimPend := none,
    trim := 0, trimSince := 0, trimHz := 0, block := 0, preempted := false, word := 0, phase := 0, phaseAt := 0 }

/-- A block record of a STREAM capture that waits for its place in the order (R148). -/
structure BlockRecord where
  start : Nat
  slot : Nat
  branchB : Bool
  bytes : List Byte
  deriving DecidableEq, Repr

/-- The capture of the capture store in progress or last made (R148 to R150). -/
structure StoreCapture where
  trig : Nat
  trigSlot : Nat
  source : Nat
  slots : List Nat
  length : Nat
  timeout : Nat
  avg : Nat
  startAt : Nat
  trigAt : Nat
  /-- STREAM records still to store after the trigger. -/
  remaining : Nat
  /-- Records stored so far, and where the next goes. -/
  stored : Nat
  waiting : List BlockRecord
  cmd : Option Nat
  deriving DecidableEq, Repr

structure Channelizer where
  streams : Sparse Stream
  cap : Option StoreCapture
  store : Sparse Byte
  /-- Bytes from offset 0 that hold samples of a RAW capture that was cut short, and the number of the first of the free
  values that they read as. -/
  fill : Nat × Nat
  /-- Streams whose block boundary came in this tick: their diversity claims are served at its end (R137). -/
  asks : List Nat
  deriving DecidableEq, Repr

/-! ### Demodulators and decoders -/

/-- A receive window that a lane has opened on a slot (R196, R197). -/
structure RxWindow where
  node : Nat
  lo : Nat
  hi : Nat
  tier : Nat
  deriving DecidableEq, Repr

/-- One payload codeword of a frame under reception. -/
structure CodewordRes where
  idx : Nat
  ok : Bool
  iters : Nat
  bits : List Bool
  deriving DecidableEq, Repr

/-- A frame from preamble detection until its outcome is decided (R164, R177, R180). -/
structure RxFrame where
  slot : Nat
  profile : Nat
  /-- Its PHY profile entry. -/
  entry : List Byte
  detectAt : Nat
  /-- Frequency hypothesis of the detection; only hypothesis 0 was searched (R165). -/
  hyp : Int
  narrow : Bool
  branchB : Bool
  /-- Tick at which the context entered SYNC. -/
  syncSince : Nat
  /-- Fixed symbol-rate correction from detection on, and de-rotation from SYNC_END on: phase and frequency (R170). -/
  rateCorr : Int
  derot : Int × Int
  compared : Bool
  rssiOther : Nat
  window : Option RxWindow
  syncEnd : Nat
  lead : Nat
  rssi : Nat
  lqi : Nat
  cfo : BitVec 16
  pilot : Bool
  erased : Bool
  taint : Bool
  tier : Nat
  /-- PHR: decoded, and its fields (R161); a SUN frame has only LEN and MCS. -/
  phrDone : Bool
  shortId : Nat
  fctr16 : Nat
  rate : Nat
  long : Bool
  len : Nat
  mcs : Nat
  combined : Bool
  /-- Payload codewords that became jobs, and those decoded or failed. -/
  jobs : Nat
  results : List CodewordRes
  /-- Soft values kept while the PHR waits (R176). -/
  holding : List (List (List Int))
  /-- The PHR codeword has become a job, and its iterations. -/
  phrJob : Bool
  phrIters : Nat
  /-- End of the last symbol. -/
  endAt : Option Nat
  outcome : Option Nat
  psdu : List Byte
  deriving DecidableEq, Repr

/-- The adaptive equaliser of a context (R173): feed-forward and feedback taps, complex, in units of 1/16,384, and
whether it adapts decision-directed. -/
structure Dfe where
  ff : List (Int × Int)
  fb : List (Int × Int)
  directed : Bool
  deriving DecidableEq, Repr

/-- As set at each detection: feed-forward tap 3 is 1.0 and every other tap 0. -/
def Dfe.reset : Dfe :=
  { ff := List.replicate 3 (0, 0) ++ [(16384, 0)] ++ List.replicate 4 (0, 0), fb := List.replicate 4 (0, 0),
    directed := false }

/-- A demodulator context beyond its register: the frame it is on, a mode switch (R158) and the equaliser. -/
structure DemodCtx where
  frame : Option Nat
  window : Option RxWindow
  msProfile : Option Nat
  dfe : Dfe
  deriving DecidableEq, Repr

def DemodCtx.reset : DemodCtx := ⟨none, none, none, Dfe.reset⟩

/-- A decoder job (R176). -/
structure Job where
  frame : Nat
  phr : Bool
  ready : Nat
  slot : Nat
  idx : Nat
  /-- Decoder input of R178, fill included. -/
  input : List Int
  long : Bool
  rate : Nat
  /-- The frame's PHY profile entry. -/
  entry : List Byte
  deriving DecidableEq, Repr

/-- A decoder at work, with its cap and the tick at which it started. -/
structure Decoder where
  job : Job
  cap : Nat
  start : Nat
  deriving DecidableEq, Repr

/-- An entry of the soft-combining store (R178, R179). -/
structure CombEntry where
  shortId : Nat
  fctr16 : Nat
  idx : Nat
  long : Bool
  rate : Nat
  len : Nat
  vals : List Int
  syncEnd : Nat
  /-- The frame in progress that uses it. -/
  frame : Option Nat
  /-- Its values lie in a spill frame (R381). -/
  spilled : Bool
  deriving DecidableEq, Repr

structure Demod where
  ctx : Sparse DemodCtx
  frames : Sparse (Option RxFrame)
  nextFrame : Nat
  /-- PHY profile table: 32-byte entries (R155); a replacement that waits for streams, with its command. -/
  profiles : Sparse (List Byte)
  replace : Option (Nat × List Byte × Nat)
  queue : List Job
  decoders : Sparse (Option Decoder)
  comb : List CombEntry
  /-- DEC_OVERLOAD and COMB_FULL records (R184). -/
  overloadLim : Limiter
  combFullLim : Limiter
  deriving DecidableEq, Repr

/-! ### Medium access -/

/-- An event delivered to a lane (R196 to R200). -/
structure RxEvent where
  node : Nat
  /-- Event counter, channel and start tick of the round. -/
  ctr : Nat
  ch : Nat
  anchor : Nat
  lo : Nat
  hi : Nat
  /-- 0 normal, 1 doubled guard, 2 search. -/
  kind : Nat
  /-- Channel of the old map that a search event also listens on (R195). -/
  oldCh : Option Nat
  /-- A shadow window of the old schedule: no event (R243). -/
  shadow : Bool
  prepared : Bool
  heard : Bool
  obstructed : Bool
  closed : Bool
  /-- The node was heard in an overlapping event of the same channel (R198, R200). -/
  clash : Bool
  /-- A part of the window lay in a calendar fault or before the resume round (R209); the channel was not served at some
  tick of it; a frame has updated the node's model (R204). -/
  skip : Bool
  unserved : Bool
  modelled : Bool
  /-- First and last tick of the one window that the lane opens for all events that overlap on the channel (R200). -/
  cover : Nat × Nat
  /-- Downlinks of the exchange sent so far, and the instant at which the last exchange ended (R212). -/
  sent : Nat
  lastEnd : Nat
  pendingBit : Bool
  /-- The downlink last sent waits for its acknowledgement. -/
  waiting : Bool
  deriving DecidableEq, Repr

/-- A lane sequencer beyond its registers (R196, R201). -/
structure Lane where
  due : List RxEvent
  active : List RxEvent
  /-- RUN is set and the lane starts at the next round boundary. -/
  starting : Bool
  imageValid : Bool
  /-- Downlinks of an event (R212). -/
  dlPerEvent : Nat
  /-- Class-L timers that the lane program waits on, by bit, and how often one has woken it (R75). -/
  waits : Nat
  wakes : Nat
  deriving DecidableEq, Repr

def Lane.reset : Lane := ⟨[], [], false, false, 4, 0, 0⟩

/-- A dwell ledger (R215, R569): Wd, DWELL_MS of the limit that applied last, and the µs charged by bucket number. -/
structure DwellLedger where
  wd : Nat
  ms : Nat
  buckets : Sparse Nat
  /-- Buckets with an uncorrectable ECC error. -/
  bad : List Nat
  deriving DecidableEq, Repr

def DwellLedger.empty : DwellLedger := ⟨0, 0, [], []⟩

/-- The parameters of an Almanac (R186, R187). -/
structure Almanac where
  slotLen : Nat
  roundsM1 : Nat
  baseSeed : Nat
  epoch0 : Nat
  evOfs : Nat
  ackTurn : Nat
  start : Nat
  /-- The MAC_ALMANAC_SET to answer at START. -/
  cmd : Option Nat
  deriving DecidableEq, Repr

/-- A Herald set that applies from an epoch (R189). -/
structure HeraldSet where
  epoch : Nat
  cfg : Word
  hset : List Word
  deriving DecidableEq, Repr

/-- A channel-map content that applies from an epoch (R195). -/
structure MapChange where
  idx : Nat
  epoch : Nat
  map : BitVec 256
  deriving DecidableEq, Repr

structure Mac where
  /-- The Almanac that runs, as it was started (R187), and the rounds of it that have begun. -/
  running : Almanac
  round : Nat
  /-- A Herald set has been given; start tick of the round whose Herald was last planned, plus 1. -/
  heraldOn : Bool
  heraldAt : Nat
  nextAlmanac : Option Almanac
  heraldPend : Option HeraldSet
  mapPend : List MapChange
  /-- Contents replaced at the last epoch roll, with that epoch: searched once more (R195). -/
  mapOld : List MapChange
  lanes : Sparse Lane
  /-- Changed association fields that wait for the end of the node's event (R223). -/
  assocPend : Sparse (Option (List Byte))
  /-- MAC_ASSOC_DROP commands that wait for the end of the node's event: node and command. -/
  dropPend : List (Nat × Nat)
  /-- ANCHOR of the last event that ended in BANKED, plus 1: the entry itself follows the mirror (R210). -/
  ended : Sparse Nat
  dwell : Sparse DwellLedger
  /-- Feast buckets by 16 × (ledger second + 7,200) + entry, in three copies (R216, R218). -/
  feast : List (Sparse Nat)
  feastSampled : Bool
  scrub : Nat
  voteAt : Option Nat
  /-- After a calendar fault transmission resumes at this tick (R209). -/
  txResume : Nat
  /-- TX duty ledger of each chain: µs by 100 ms bucket (R515). -/
  duty : List (Sparse Nat)
  deriving DecidableEq, Repr

/-! ### Scheduler -/

/-- An envelope record (R225, R227). -/
structure EnvRec where
  mode : Nat
  lo : Nat
  hi : Nat
  aux : Nat
  mask : BitVec 256
  /-- Set on its own since the last reset (pair and map records). -/
  own : Bool
  deriving DecidableEq, Repr

/-- A schedule update offered to a node (R242, R243). -/
structure SchedUpdate where
  node : Nat
  wake : Nat
  supv : Nat
  tier : Nat
  chmap : Nat
  shift : Nat
  eEff : Nat
  carried : Bool
  applied : Bool
  oldWake : Nat
  oldSupv : Nat
  oldTier : Nat
  oldChmap : Nat
  /-- Event counter and anchor that the old schedule gives its next event (shadow window). -/
  oldE : Nat
  oldAnchor : Nat
  deriving DecidableEq, Repr

/-- What the scheduler has measured of a node over its last 16 HEARD events (R230). -/
structure NodeStats where
  lqi : List Nat
  failed : List Nat
  combined : List Bool
  reports : List (Option Nat)
  /-- Failed attempts since the last HEARD event. -/
  fails : Nat
  heardSince : Nat
  reseeded : Bool
  rate : Nat
  requested : Nat
  candidates : List Candidate
  /-- Source-routed downlinks in succession that went unacknowledged, and the parent they went through (R241). -/
  routeFails : Nat
  routeParent : Nat
  reverted : Bool
  deriving DecidableEq, Repr

def NodeStats.empty : NodeStats := ⟨[], [], [], [], 0, 0, false, 0, 0, [], 0, 0, false⟩

/-- What the scheduler has measured of a channel in the review under way (R230, R232). -/
structure ChanStats where
  idle : List Nat
  heard : Nat
  miss : Nat
  /-- Reviews in succession at which the channel was poor. -/
  poor : Nat
  divA : Nat
  divB : Nat
  deriving DecidableEq, Repr

def ChanStats.empty : ChanStats := ⟨[], 0, 0, 0, 0, 0⟩

/-- A frame as the plan review counts it (R244): start tick, chain, lane, drive code, airtime in µs. -/
structure TxLog where
  at' : Nat
  chain : Nat
  lane : Nat
  drive : Nat
  us : Nat
  deriving DecidableEq, Repr

structure Sched where
  chipRec : List EnvRec
  pairRec : Sparse (Option EnvRec)
  mapRec : Sparse (Option EnvRec)
  /-- Override table: (short ID, decision) and record. -/
  override : List (Nat × Nat × EnvRec)
  thermal : Nat
  updates : List SchedUpdate
  nodes : Sparse NodeStats
  chans : Sparse ChanStats
  committed : Nat
  reverted : Nat
  mapChanges : Nat
  heldBound : Nat
  heldThermal : Nat
  lastChannelReview : Nat
  /-- A plan review is due at the next load review. -/
  planDue : Bool
  /-- Entry to SERVICE, and the load, channel and plan reviews since (R231). -/
  serviceAt : Nat
  loads : Nat
  channels : Nat
  plans : Nat
  /-- CHZ_CNT.DIV_SHORT at the last load review, and since then the deepest job queue and the lanes of TX_DWELL
  returns. -/
  lastDivShort : Nat
  queuePeak : Nat
  laneDwell : List Nat
  /-- FEAST entries whose headroom fell below the reserve (R246). -/
  feastLow : List Nat
  /-- Changes since the last channel review: WAKE, TIER, POWER, PARENT, commits, reverts. -/
  summary : List Nat
  /-- Channels that are excluded from each map, and the reviews in succession at which one could be readmitted, by
  256 × map + channel (R232). -/
  removed : Sparse (BitVec 256)
  readmit : Sparse Nat
  /-- Retunes that wait for a round without a window: pair, centre in kHz, tick of the decision (R237). -/
  retunes : List (Nat × Nat × Nat)
  /-- Events HEARD since the last load review: start of the round, node (R247). -/
  heardIn : List (Nat × Nat)
  /-- Channels that held an open window in the round, or changed their state (R230). -/
  noIdle : List Nat
  /-- Frames sent since the last plan review or in the last 60 s, and the tick of that review. -/
  txLog : List TxLog
  planAt : Nat
  deriving DecidableEq, Repr

/-! ### Frames, security and counters -/

/-- A frame with outcome OK on its way to the frame engine (R180). -/
structure RxRecord where
  syncEnd : Nat
  lead : Nat
  slot : Nat
  profile : Nat
  branchB : Bool
  compared : Bool
  pilot : Bool
  erased : Bool
  tier : Nat
  combined : Bool
  taint : Bool
  rssi : Nat
  rssiOther : Nat
  lqi : Nat
  iterMax : Nat
  cfo : BitVec 16
  shortId : Nat
  mcs : Nat
  fctr16 : Nat
  rate : Nat
  /-- The end of its last symbol, and the node whose window it began in. -/
  frameEnd : Nat
  window : Option Nat
  flr : Bool
  psdu : List Byte
  deriving DecidableEq, Repr

/-- A reassembly context (R280). -/
structure Reasm where
  sender : Nat
  size : Nat
  dtag : Nat
  /-- Offset and bytes of the fragments received. -/
  frags : List (Nat × List Byte)
  /-- Offsets of the IPv6 and UDP headers of a UDP checksum that its first fragment elided. -/
  udp : Option (Nat × Nat)
  start : Nat
  /-- The compression contexts that it began with. -/
  ctx : CtxTable
  deriving DecidableEq, Repr

/-- A frame that waits to be built and secured (R268, R270). -/
structure Build where
  kind : TxKind
  node : Nat
  slot : Nat
  lane : Nat
  /-- Tick at which its first symbol is due at the RF ball. -/
  first : Nat
  /-- Security level and key epoch of the frame that an acknowledgement answers. -/
  level : Nat
  epoch : Nat
  /-- Global round of a Herald; campaign and number of a rollout frame. -/
  ref : Nat
  num : Nat
  /-- Symbols of a rollout frame. -/
  payload : List Byte
  deriving DecidableEq, Repr

/-- A physical row of the counter store (R271). -/
structure CtrRow where
  lrow : Nat
  seq : Nat
  pcnt : Nat
  vals : Sparse Nat
  valid : Bool
  retired : Bool
  deriving DecidableEq, Repr

/-- A reservation that is not yet usable (R269, R276). -/
structure Resv where
  scope : Nat
  p : Nat
  rseq : Nat
  persisted : Bool
  acked : Bool
  mirrored : Bool
  deriving DecidableEq, Repr

/-- A row program in progress (R272): target row, logical row and the values written. -/
structure Programming where
  phys : Nat
  lrow : Nat
  vals : Sparse Nat
  deriving DecidableEq, Repr

structure Frames where
  rxq : List RxRecord
  builds : List Build
  /-- 6LoWPAN contexts: prefix length and prefix; length 0 is unset. -/
  ctx : CtxTable
  reasm : List Reasm
  dgramTag : Sparse Nat
  replayAt : Option Nat
  replayN : Nat
  groupLowAt : Option Nat
  /-- Physical rows that differ from the factory content. -/
  rows : Sparse (Option CtrRow)
  rowSeq : Nat
  writeQueue : List Nat
  programming : Option Programming
  /-- Halves of a scope's counters that a usable reservation covers, plus 1; 0: as many as `usable0`. -/
  usable : Sparse Nat
  usable0 : Nat
  resv : List Resv
  /-- Value last restored by the host, plus 1. -/
  restored : Sparse Nat
  /-- No CTR_RESTORE with DONE is owed (R277). -/
  restoreDone : Bool
  /-- Logical rows that had no valid copy at the last reset. -/
  lostRows : List Nat
  scopeExhAt : Option Nat
  scopeExh : List Nat
  /-- Half at which a scope's counter restarted when it was last cleared, plus 1; 0: at half 1, above a P of 0 (R268,
  R270). -/
  restart : Sparse Nat
  /-- Next logical row whose reservations the chip requests in the background; 512: none (R270). -/
  bgRow : Nat
  /-- CTR_RESV_FETCH commands that wait: sequence number, FROM_RSEQ, MAX, last tick. -/
  fetchWait : List (Nat × Nat × Nat × Nat)
  deriving DecidableEq, Repr

def Mailbox.reset : Mailbox := ⟨[], none, false, false, false, false, 0, false, true, []⟩

def Interp.reset : Interp :=
  { sched := [], ready := [], running := [], starting := none, nextSeq := 0, rings := [], mbox := Mailbox.reset,
    queues := [(43, { Queue.empty with backpressure := true })], fwReplies := [], cpRunning := false, cpStopped := false, cpStoppedAt := 0 }

def Calendar.reset : Calendar :=
  { copyA := 0, copyB := 0, copyC := 0, porLow := true, aonLost := false, mgtHalf := false,
    slowAcc := 0, slowPend := none, stable := 0, slewStep := 0, slewCount := 0, voteAt := none, voteFolded := 0,
    resync := none, nowHi := [] }

def Timers.reset : Timers :=
  { landings := [], since := [], timerI := [], caps := [], gptLevel := [], ppsLevel := false }

def Radio.reset : Radio :=
  { pairs := [], chains := [], blanks := [], rssiCal := [], profile := [], tighten := [] }

def Channelizer.reset : Channelizer := ⟨[], none, [], (0, 0), []⟩

def Demod.reset : Demod :=
  { ctx := [], frames := [], nextFrame := 0, profiles := [], replace := none, queue := [],
    decoders := [], comb := [], overloadLim := Limiter.reset, combFullLim := Limiter.reset }

def Mac.reset : Mac :=
  { running := ⟨8, 65535, 0, 0, 100, 200, 0, none⟩, round := 0, heraldOn := false, heraldAt := 0, nextAlmanac := none, heraldPend := none, mapPend := [], mapOld := [],
    lanes := [], assocPend := [], dropPend := [], ended := [], dwell := [], feast := [[], [], []],
    feastSampled := false, scrub := 0, voteAt := none, txResume := 0, duty := [[], [], [], []] }

def Sched.reset : Sched :=
  { chipRec := [], pairRec := [], mapRec := [], override := [], thermal := 0, updates := [],
    nodes := [], chans := [], committed := 0, reverted := 0, mapChanges := 0, heldBound := 0,
    heldThermal := 0, lastChannelReview := 0, planDue := false, serviceAt := 0, loads := 0, channels := 0,
    plans := 0, lastDivShort := 0, queuePeak := 0, laneDwell := [], feastLow := [], summary := [], removed := [], readmit := [], retunes := [], heardIn := [], noIdle := [],
    txLog := [], planAt := 0 }

def Frames.reset : Frames :=
  { rxq := [], builds := [], ctx := [], reasm := [], dgramTag := [],
    replayAt := none, replayN := 0, groupLowAt := none, rows := [], rowSeq := 0,
    writeQueue := [], programming := none, usable := [], usable0 := 0, resv := [], restored := [],
    restoreDone := false, lostRows := [], scopeExhAt := none, scopeExh := [], restart := [], bgRow := 512, fetchWait := [] }


/-! ### Keys, measurement and the debug gate -/

/-- A key slot (R287, R288): content as KEY_SLOT_INFO codes it, key bytes, epoch of an EK. -/
structure KeySlot where
  content : Nat
  key : List Byte
  gen : Nat
  epoch : Nat
  deriving DecidableEq, Repr

/-- An empty slot: GEN is 1 after every reset. -/
def KeySlot.empty : KeySlot := ⟨0, [], 1, 0⟩

/-- What names a derived key (R296): kind (0 KIN, 1 LK, 2 GK, 3 IMK), parent slot, the parent's GEN, context. -/
structure KeyTag where
  kind : Nat
  parent : Nat
  gen : Nat
  ctx : List Byte
  deriving DecidableEq, Repr

/-- A cache miss (R297): not yet served, or served; a served one has no key where the parent changed. -/
structure KeyMiss where
  tag : KeyTag
  served : Bool
  key : Option (List Byte)
  deriving DecidableEq, Repr

structure Keys where
  slots : Sparse KeySlot
  /-- The derived-key cache, most recently used first. -/
  cache : List (KeyTag × List Byte)
  misses : List KeyMiss
  /-- Epoch whose nodes are owed a key update that the firmware could not queue at the activation, and ACT_EPOCH
  (R295). -/
  owed : Option (Nat × Nat)
  /-- At-rest blobs in NV, and the epochs kept with the DK blob: CUR, and PREV where it is held (R289, R291). -/
  orkBlob : Option (List Byte)
  dkBlob : Option (List Byte)
  nvCur : Nat
  nvPrev : Option Nat
  deriving DecidableEq, Repr

def Keys.reset : Keys :=
  { slots := [], cache := [], misses := [], owed := none, orkBlob := none, dkBlob := none, nvCur := 0, nvPrev := none }
/-! ### Ledger tables -/

/-- An entry staged in a transaction: the bits staged and their values, and the compares made, by word (R338). -/
structure Staged where
  table : Nat
  index : Nat
  mask : BitVec 512
  data : BitVec 512
  cas : List (Nat × Quad × Quad)
  deriving DecidableEq, Repr

/-- A transaction context (R337): its owner, and the tick of the owner's last operation in it. -/
structure LdgCtx where
  owner : Option Nat
  staged : List Staged
  last : Nat
  deriving DecidableEq, Repr

def LdgCtx.free : LdgCtx := ⟨none, [], 0⟩

/-- A record of the mismatch FIFO (R342). -/
structure Mismatch where
  shortId : Nat
  xref : Bool
  ecc : Bool
  mask : Nat
  at24 : Nat
  deriving DecidableEq, Repr

/-- Ledger memory beyond FROUTE and PHY, which stand with their blocks, and the table engines (R311). -/
structure Ledger where
  ntab : Sparse (BitVec 512)
  /-- EMAP by slot; the stash from 0x20000. -/
  emap : Sparse (BitVec 96)
  digest : Sparse Word
  naux : Sparse Word
  bnt : Sparse (BitVec 128)
  chmap : Sparse (BitVec 256)
  /-- Campaign bitmaps by campaign × 256 + chunk. -/
  rollout : Sparse (BitVec 512)
  ctxs : Sparse LdgCtx
  /-- Learning tokens, and the tick of the last refill (R328); the same for BNT (R333). -/
  tokens : Nat
  tokenAt : Nat
  bntTokens : Nat
  bntTokenAt : Nat
  /-- Tick of the walker's last visit. -/
  visitAt : Nat
  mmf : List Mismatch
  /-- Words with an uncorrectable error: table, index, word of 8 bytes (R344). -/
  bad : List (Nat × Nat × Nat)
  agedLim : Limiter
  refusedLim : Limiter
  /-- Refusals for want of space since the last record (R330). -/
  refusedFull : Nat
  mismatchLim : Limiter
  deriving DecidableEq, Repr

/-- Ledger memory after a power-on reset: zeros (R312). -/
def Ledger.reset : Ledger :=
  { ntab := [], emap := [], digest := [], naux := [], bnt := [], chmap := [], rollout := [], ctxs := [],
    tokens := 0, tokenAt := 0, bntTokens := 0, bntTokenAt := 0, visitAt := 0, mmf := [], bad := [],
    agedLim := Limiter.reset, refusedLim := Limiter.reset, refusedFull := 0, mismatchLim := Limiter.reset }

/-! ### Forwarding and rollout -/

/-- A frame of a downlink queue (R356 to R358). -/
structure DlFrame where
  page : Nat
  at' : Nat
  /-- Its datagram, by number, and how many of its frames follow it. -/
  dgram : Nat
  /-- The Vazodex sub-elements and the payload, in clear; keys are added when it is built (R285). -/
  ie : List Byte
  payload : List Byte
  /-- The frame counter under which it was built, plus 1, and its secured bytes; kept when it is returned (R268). -/
  ctr : Nat
  psdu : List Byte
  /-- The IPv6 datagram that the frame is part of (R429), and its destination node where it is source-routed, plus 1. -/
  raw : List Byte
  dest : Nat
  /-- A KEY_UPDATE of an epoch (R295), plus 1; a campaign that it announces (R370), plus 1. -/
  keyUpd : Nat
  camp : Nat
  deriving DecidableEq, Repr

structure Forwarding where
  /-- Packets that wait for their forwarding decision, oldest first. -/
  ingress : List QItem
  /-- Routes 0 to 31: the 32 bytes of FWD_ROUTE_SET. -/
  routes : Sparse (List Byte)
  /-- Downlink queues by short ID. -/
  dlq : Sparse (List DlFrame)
  nextDgram : Nat
  /-- Drop counts at the last FWD_DROPS record, and its tick. -/
  dropsAt : Option Nat
  drops : List Nat
  deriving DecidableEq, Repr

def Forwarding.reset : Forwarding :=
  { ingress := [], routes := [], dlq := [], nextDgram := 0, dropsAt := none, drops := [] }

/-- A rollout campaign beyond its registers (R364 to R371). -/
structure Campaign where
  tCode : Nat
  kMax : Nat
  perFrame : Nat
  imageId : Nat
  length : Nat
  addr : Nat
  channel : Nat
  profile : Nat
  tier : Nat
  drive : Nat
  fwTag : Nat
  frameLimit : Nat
  seed : Nat
  crc : Nat
  winRounds : Nat
  period : Nat
  startEpoch : Nat
  startRound : Nat
  /-- Start tick, plus 1, of the window in which a frame was last planned, and the tick at which the next frame of that
  window is due (R366). -/
  winAt : Nat
  nextAt : Nat
  next : Nat
  /-- Frames left out for an encoder's fault or lateness (R367, R368). -/
  encSkips : Nat
  cause : Nat
  /-- Encoder read faults in succession. -/
  faults : Nat
  /-- Targets in the order of ROL_TARGET, with twice the events since the last announcement that brought no report, plus
  1 where the event in progress has brought one (R370). -/
  announce : List (Nat × Nat)
  deriving DecidableEq, Repr

def Campaign.reset : Campaign :=
  { tCode := 0, kMax := 0, perFrame := 0, imageId := 0, length := 0, addr := 0, channel := 0, profile := 0,
    tier := 0, drive := 0, fwTag := 0, frameLimit := 0, seed := 0, crc := 0, winRounds := 0, period := 0,
    startEpoch := 0, startRound := 0, winAt := 0, nextAt := 0, next := 0, encSkips := 0, cause := 0, faults := 0, announce := [] }

/-! ### Buffers, DMA and the arbiter -/

/-- A page-table entry (R376): its frame, the one below its number where none is named. -/
structure BufPage where
  alloc : Bool
  bad : Bool
  spill : Bool
  frame : Option Nat
  deriving DecidableEq, Repr

def BufPage.reset : BufPage := ⟨false, false, false, none⟩

/-- A DMA descriptor as latched (R382). -/
structure DmaDesc where
  kind : Nat
  irq : Bool
  len : Nat
  host : Nat
  dram : Nat
  tag : Nat
  bad : Bool
  deriving DecidableEq, Repr

/-- A fault record (R393). -/
structure FaultRec where
  cal : Nat
  req : Nat
  cause : Nat
  flags : Nat
  chan : Nat
  ref : Nat
  addr : Nat
  progress : Nat
  bursts : Nat
  seq : Nat
  deriving DecidableEq, Repr

/-- A DMA channel beyond its registers (R385). -/
structure DmaChan where
  ring : Nat
  cpl : Nat
  phase : Bool
  desc : Option DmaDesc
  item : Option QItem
  pages : List Nat
  /-- Waits for pages (R382). -/
  waiting : Bool
  /-- A record that waits for room or for the ring's repair. -/
  record : Option FaultRec
  /-- RAW windows, first byte and first byte after, that were enabled when the descriptor started (R467). -/
  windows : List (Nat × Nat)
  deriving DecidableEq, Repr

def DmaChan.reset : DmaChan := ⟨0, 0, false, none, none, [], false, none, []⟩

structure Buffers where
  /-- The free-page FIFO, head first, as runs of page numbers (R377). -/
  pool : List (Nat × Nat)
  pages : Sparse BufPage
  /-- POOL_LOW has been posted and the count has not risen above 2 × RSV since. -/
  lowPosted : Bool
  retireLim : Limiter
  dma : Sparse DmaChan
  fltSeq : Nat
  fltLimDma : Limiter
  fltLimOther : Limiter
  /-- Arbiter: grants in the window by requester, and the last requester granted by priority (R396, R397). -/
  arbCount : Sparse Nat
  arbLast : Sparse Nat
  /-- The next cycle is dead (R400). -/
  arbDead : Bool
  /-- Bursts of DRAM under an uncorrectable error that no whole write has replaced (R380, R392). -/
  badBursts : List Nat
  deriving DecidableEq, Repr

def Buffers.reset : Buffers :=
  { pool := [], pages := [], lowPosted := false, retireLim := Limiter.reset, dma := [], fltSeq := 0,
    fltLimDma := Limiter.reset, fltLimOther := Limiter.reset, arbCount := [], arbLast := [],
    arbDead := false, badBursts := [] }

/-! ### Zoant and redundant pairs -/

/-- A frame of the reliable classes that waits for its acknowledgement (R409). -/
structure Unacked where
  frame : ZFrame
  tries : Nat
  sentAt : Nat
  /-- Tick of the first attempt (PAR_MIRROR_LAG). -/
  firstAt : Nat
  deriving DecidableEq, Repr

/-- A frame at an egress port; a transit frame still stands in the receive buffer of the port it came in on (R408). -/
structure ZOut where
  frame : ZFrame
  via : Option Nat
  deriving DecidableEq, Repr

/-- A Zoant port beyond its registers (R404 to R408, R423). -/
structure ZPort where
  nbrSerial : Quad
  /-- CHIP_ID byte of R411. -/
  nbrId : Byte
  nbrEmber : Bool
  nbrCalFault : Bool
  nbrRole : Nat
  /-- Frames that wait for the lane, and DATA frames sent since the last BULK frame (R407). -/
  txq : List ZOut
  dataRun : Nat
  /-- Tick at which the lane has sent the last block of the frame before (R403). -/
  freeAt : Nat
  /-- By class: cells in use at the neighbour's receiver, and cells of this port's receiver not returned (R408). -/
  used : Sparse Nat
  taken : Sparse Nat
  /-- CTRL cells that are free but held back (R49). -/
  back : Nat
  /-- Frames that have left: the model's own output. -/
  sent : Nat
  lastRx : Nat
  /-- Tick at which the next HELLO is due. -/
  helloAt : Nat
  /-- Stamps of the exchange in progress (R423), in 1/16 ticks; calFault of its SYNC. -/
  t1 : Option Nat
  t2 : Option Nat
  t3 : Option Nat
  syncFault : Bool
  deriving DecidableEq, Repr

def ZPort.reset : ZPort :=
  { nbrSerial := 0, nbrId := 0, nbrEmber := false, nbrCalFault := false, nbrRole := 0, txq := [], dataRun := 0, freeAt := 0,
    used := [], taken := [], back := 0, sent := 0, lastRx := 0, helloAt := 0, t1 := none, t2 := none, t3 := none,
    syncFault := false }

/-- A handover in progress at either end (R428 to R431). -/
structure Handover where
  source : Bool
  eui : Quad
  node : Nat
  other : Nat
  newId : Nat
  /-- FRM_CELL_EUI of the target. -/
  cell : Nat
  /-- E_h, plus 1 (0: not fixed yet), and the anchor that event E_h has. -/
  eh : Nat
  ehAnchor : Nat
  leaseEvents : Nat
  /-- FAB_HANDOVER that waits; HO_READY has come; the switch has been made; HO_COMMIT sent. -/
  cmd : Option Nat
  ready : Bool
  switched : Bool
  committed : Bool
  /-- At the target: HANDOVER_ACK has been heard; a frame without it has been heard. -/
  acked : Bool
  plain : Bool
  /-- The offer as received, at the target; a HANDED_OFF entry was used. -/
  offer : Option HandoverNode
  reused : Bool
  /-- Tick of the last CTRL frame that concerned it (R427). -/
  heardAt : Nat
  deriving DecidableEq, Repr

structure Zoant where
  ports : Sparse ZPort
  /-- FROUTE, ledger table 7, by chip ID (R417). -/
  froute : Sparse (BitVec 128)
  unacked : List Unacked
  /-- Next SEQ to send, and next SEQ expected, by 64 × class + chip. -/
  txSeq : Sparse Nat
  rxSeq : Sparse Nat
  /-- The first message of the series being received, by the same key. -/
  rxFirst : List (Nat × ZMsg)
  lsdb : List (Lsa × Nat)
  ownSeq : Nat
  changedAt : Nat
  /-- Port on which the change of the database arrived (R413). -/
  changedBy : Option Nat
  registrar : Quad
  /-- The own LSA last sent, and its tick. -/
  lsaSent : Option Lsa
  lsaAt : Nat
  /-- Ticks at which the next SYNC and the next LEASE_RENEW are due. -/
  syncAt : Nat
  renewAt : Nat
  lastId : Option Nat
  fabFull : Bool
  /-- IDs granted by this chip as registrar, with their serials. -/
  grants : List (Nat × Quad)
  thetas : List Int
  handovers : List Handover
  /-- Last CTRL frame of each chip that concerned a ledger context (R427). -/
  ctxHeard : Sparse Nat
  /-- Commands over Zoant outstanding, and CTRL frames, with their ports, that wait behind the sixteenth (R49). -/
  outstanding : Nat
  rxHeld : List (Nat × ZOut)
  deriving DecidableEq, Repr

def Zoant.reset : Zoant :=
  { ports := [], froute := [], unacked := [], txSeq := [], rxSeq := [], rxFirst := [], lsdb := [], ownSeq := 0, changedAt := 0, changedBy := none,
    registrar := 0, lsaSent := none, lsaAt := 0, syncAt := 0, renewAt := 0, lastId := none, fabFull := false,
    grants := [], thetas := [], handovers := [], ctxHeard := [], outstanding := 0, rxHeld := [] }

structure PairUnit where
  /-- Consecutive MAC_CLK cycles with the line high while a claim is armed (R435). -/
  high : Nat
  /-- Tick of the last KICK (R437). -/
  kickAt : Nat
  /-- Tick at which the next heartbeat is due. -/
  beatAt : Nat
  /-- Of the partner's last heartbeat: mode, held, FLUSHED; and whether one has come. -/
  partnerMode : Nat
  partnerHeld : Bool
  flushed : Bool
  met : Bool
  /-- FRM_RX_OK at the last own heartbeat. -/
  rxOkAt : Nat
  /-- The sweep to the partner has been sent (R440). -/
  swept : Bool
  /-- What the partner has been sent: node images with DIGEST and NAUX, the ledgers, the plan. -/
  sentNodes : Sparse (BitVec 512 × Word × Word)
  sentDwell : Sparse DwellLedger
  sentFeast : Sparse Nat
  sentPlan : List MirrorItem
  /-- At a standby: mirrored reservations by scope, P plus 1, and the tick of the last ledger update (R442). -/
  mirrored : Sparse Nat
  ledgerAt : Nat
  /-- A claim made in BANKED that has not reached SERVICE; whether the mirror state was other than SYNCED (R442). -/
  takeover : Option Bool
  /-- A PAIR_SWITCH under way (R443): its command, and the step it is in, from 1. -/
  switch : Option (Nat × Nat)
  /-- First tick at which Heralds resume after a takeover (R442). -/
  heraldFrom : Nat
  deriving DecidableEq, Repr

def PairUnit.reset : PairUnit :=
  { high := 0, kickAt := 0, beatAt := 0, partnerMode := 0, partnerHeld := false, flushed := false, met := false,
    rxOkAt := 0, swept := false, sentNodes := [], sentDwell := [], sentFeast := [], sentPlan := [], mirrored := [],
    ledgerAt := 0, takeover := none, switch := none, heraldFrom := 0 }

/-! ### Host, backhaul and management -/

/-- An Ethernet port beyond its registers (R453, R455): TX_FAULT seen since EN was last written 1, and
the transmit timestamp FIFO (timestamp with taint, sequenceId, messageType). -/
structure EthPort where
  faultSeen : Bool
  stamps : List (Quad × Bool × Nat × Nat)
  /-- Frames that forwarding has queued for the port, oldest first. -/
  txq : List (List Byte)
  deriving DecidableEq, Repr

def EthPort.reset : EthPort := ⟨false, [], []⟩

/-- 1 PPS beyond its registers (R456, R457). -/
structure Pps where
  out : Bool
  /-- MGT_CLK cycles of the pulse still to run. -/
  left : Nat
  lastCap : Nat
  /-- Tick at which ALIGN was set. -/
  since : Nat
  /-- A PPS_IN edge was missing for 2 s. -/
  lost : Bool
  /-- A TIME_SLEW of the alignment is running. -/
  slewing : Bool
  deriving DecidableEq, Repr

structure HostPort where
  /-- MSI-X messages sent, by vector: the model's own output. -/
  msix : Sparse Nat
  eth : Sparse EthPort
  pps : Pps
  /-- Pin levels: GPIO inputs (R462). -/
  gpioIn : BitVec 24
  /-- Owner of a held resource, by resource ID (R463). -/
  owners : Sparse Req
  /-- Entries released while an operation on their bus goes on: free at its end (R467). -/
  releasing : List Nat
  /-- UART: bytes in the transmit buffer, and the part of a byte sent, in bits × ticks (R460). -/
  uart : Nat
  uartAcc : Nat
  deriving DecidableEq, Repr

/-! ### Modes, reset and boot -/

/-- A mode transition in progress (R470, R471), with the MODE_REQ that waits for it. -/
structure Transition where
  target : Mode
  cause : Nat
  cmd : Option Nat
  deriving DecidableEq, Repr

/-- What the boot ROM and then the firmware are doing in KINDLING (R488 to R494). -/
inductive BootPhase
  /-- No boot in progress. -/
  | idle
  /-- Loading images from the source: the TYPE expected next. -/
  | loading (next : Nat)
  /-- PCIe host boot: waiting for the doorbell; the tick at which the link reached L0. -/
  | doorbell (l0 : Option Nat)
  /-- Zoant boot: port, requests sent without an answer, offset asked for. -/
  | zoant (port tries off : Nat)
  /-- ROM recovery: waiting for BOOT_RECOVERY_LOAD. -/
  | recovery
  /-- A control-plane restart reloads the image of the protocol cores (R483). -/
  | restart
  deriving DecidableEq, Repr

structure Boot where
  phase : BootPhase
  source : Nat
  /-- Image set being tried, and whether the other one has been. -/
  setB : Bool
  otherTried : Bool
  /-- Header digests measured by TYPE since the last reset that ran the ROM (R302). -/
  measured : List (Nat × BitVec 256)
  /-- TYPE and SVN of accepted images with COMMIT_SVN (R301). -/
  commit : List (Nat × Nat)
  /-- The image stream received over Zoant or in recovery. -/
  stream : Sparse Byte
  streamLen : Nat
  /-- Offset of the directory within DRAM for a boot over PCIe (R491), and the tick of the last BOOT_REQ (R492). -/
  dirAt : Nat
  askedAt : Nat
  /-- The firmware of the management controller runs (R488). -/
  fwStarted : Bool
  /-- Types 1 to 5 accepted in this boot. -/
  accepted : List Nat
  deriving DecidableEq, Repr

structure Seq where
  mode : Mode
  prev : Mode
  cause : Nat
  trans : Option Transition
  /-- A warm reset kept the running Almanac, and the chip has not reached SERVICE or BANKED since (R498). -/
  resume : Bool
  /-- Mode that EMBER was entered from, and whether by reference loss (R476, R477). -/
  emberFrom : Mode
  emberByRef : Bool
  /-- A MODE_REQ that is held: an exit from EMBER while PLL_LOCK is 0 (R478), or a request of a chip that a claim
  takes from BANKED to SERVICE (R472). -/
  heldExit : Option (Mode × Nat)
  /-- Ticks at which a MODE_REQ EMBER was last accepted and at which the token was last released (R472). -/
  emberReqAt : Option Nat
  releasedAt : Option Nat
  /-- The chip armed a claim in CALIBRATE (R474), or while leaving EMBER (R476). -/
  claimWait : Bool
  /-- Transmission is stopped for an entry to EMBER (R475) or a PAIR_SWITCH (R443): now, or from a tick on
  (0: none). -/
  stopTx : Bool
  stopAt : Nat
  thermtrip : Bool
  strapsSampled : Bool
  kindlingAt : Nat
  boot : Boot
  /-- The warm reset that an answered SYS_RESET has started (R482). -/
  warmDue : Bool
  /-- A boot restarted by a reference loss in KINDLING (R478). -/
  refRestart : Bool
  calibrated : Bool
  /-- Step of the start-up calibrations that runs, 0 for none, and the tick at which it began (R116). -/
  calStep : Nat
  calAt : Nat
  /-- Boot list: the stored bytes, their state (0 absent, 1 valid, 2 failed), the staging copy. -/
  list : List Byte
  listState : Nat
  staging : Sparse Byte
  stagingLen : Nat
  /-- Replies due to a replayed list: 65,536 × OPCODE + TAG, and the entry's number (R496). -/
  replay : List (Nat × Nat)
  deriving DecidableEq, Repr

/-! ### Temperature, rails and the journal -/

/-- A journal record (R519). -/
structure JRec where
  cal : Quad
  src : Byte
  sev : Byte
  code : BitVec 16
  args : List Byte
  deriving DecidableEq, Repr

structure Journal where
  /-- Posted and not emitted, in posting order, with the tick of posting (R90). -/
  window : List (Nat × JRec)
  /-- Time and source of the record last emitted. -/
  last : Nat × Nat
  held : List JRec
  /-- Always-on ring by slot: record and read mark (R525). -/
  aon : Sparse (Option (JRec × Bool))
  fatal : Option JRec
  /-- Dropped and lost records of the second that began with the first of them, and its tick (R526). -/
  dropped : Nat
  lost : Nat
  dropAt : Option Nat
  deriving DecidableEq, Repr

/-- An action of the governor that takes effect at a tick (R512). -/
structure GovAction where
  tick : Nat
  take : Bool
  step : Nat
  tj : BitVec 16
  deriving DecidableEq, Repr

structure Thermal where
  /-- Tick at which the number of active steps last changed. -/
  changedAt : Nat
  /-- Last samples below 105 °C, at or above 100, at or above 95, at or above 115 °C. -/
  below105 : Nat
  above100 : Nat
  above95 : Nat
  above115 : Nat
  /-- Tick of the last release (R514). -/
  releasedAt : Nat
  /-- Steps decided, the ones that still wait for their tick included. -/
  decided : Nat
  actions : List GovAction
  /-- First slots of the streams that step 2 suspended. -/
  suspended : List Nat
  deriving DecidableEq, Repr

structure Rails where
  /-- Tick since which a faulted rail has been back in range, plus 1; 0: not in range. -/
  okSince : Sparse Nat
  /-- Rails in fault (R507). -/
  faulted : List Nat
  deriving DecidableEq, Repr

/-- Initial owners of the resource table with the standard profile (R463): the management controller holds
the QSPI bus; the protocol cores hold class-L timers 0–15, capture units 0–3 and the SFP buses. -/
def ownersInitial (consortium : Bool) : Sparse Req :=
  (List.range 16).map (fun i => (0x0500 + i, (0x02 : Req))) ++
  (if consortium then (List.range 8).map (fun i => (0x0600 + i, (0x02 : Req))) else []) ++
  (List.range 4).map (fun i => (0x0700 + i, (0x02 : Req))) ++
  [(0x0900, 0x01), (0x0A00, 0x02), (0x0A01, 0x02)]

def HostPort.reset : HostPort :=
  { msix := [], eth := [], pps := ⟨false, 0, 0, 0, false, false⟩, gpioIn := 0,
    owners := ownersInitial false, releasing := [], uart := 0, uartAcc := 0 }

def Boot.reset : Boot :=
  { phase := .idle, source := 0, setB := false, otherTried := false, measured := [], commit := [],
    stream := [], streamLen := 0, dirAt := 0, askedAt := 0, fwStarted := false, accepted := [] }

def Seq.reset : Seq :=
  { mode := .cold, prev := .cold, cause := 0, trans := none, resume := false, emberFrom := .cold,
    emberByRef := false, heldExit := none, emberReqAt := none, releasedAt := none, claimWait := false, stopTx := false, stopAt := 0, thermtrip := false,
    strapsSampled := false, kindlingAt := 0, boot := Boot.reset, warmDue := false,
    refRestart := false, calibrated := false, calStep := 0, calAt := 0, list := [], listState := 0, staging := [],
    stagingLen := 0, replay := [] }

def Journal.reset : Journal :=
  { window := [], last := (0, 0), held := [], aon := [], fatal := none, dropped := 0, lost := 0,
    dropAt := none }

def Thermal.reset : Thermal :=
  { changedAt := 0, below105 := 0, above100 := 0, above95 := 0, above115 := 0, releasedAt := 0,
    decided := 0, actions := [], suspended := [] }

def Rails.reset : Rails := ⟨[], []⟩

/-- The whole machine. -/
structure State where
  /-- Registers by BAR0 offset; an offset that is not listed holds 0. -/
  csr : Sparse Word
  interp : Interp
  cal : Calendar
  timers : Timers
  radio : Radio
  chz : Channelizer
  demod : Demod
  mac : Mac
  sched : Sched
  frames : Frames
  keys : Keys
  ledger : Ledger
  bufs : Buffers
  fwd : Forwarding
  camps : Sparse Campaign
  zoant : Zoant
  pairU : PairUnit
  host : HostPort
  seq : Seq
  journal : Journal
  thermal : Thermal
  rails : Rails
  /-- OTP words (R558). -/
  otp : Sparse Word
  /-- DRAM bytes by address within DRAM; a byte that nothing has written reads as 0. -/
  dram : Sparse Byte
  /-- Installed DRAM in bytes: the board's. -/
  dramBytes : Nat
  /-- Host memory as far as the chip has written it: rings, write-back blocks, DMA. -/
  hostMem : Sparse Byte
  /-- The answer of the last register or BAR2 read (R14). -/
  readData : Word
  /-- Fresh open values taken so far: the model's own field. -/
  free : Nat
  /-- Commands that wait, first in, first out. -/
  pending : List Instr
  deriving DecidableEq, Repr

/-- The chip on power-on reset, PORESET_N low (R470, R481). -/
def State.reset : State :=
  { csr := csrReset, interp := Interp.reset, cal := Calendar.reset, timers := Timers.reset,
    radio := Radio.reset, chz := Channelizer.reset, demod := Demod.reset, mac := Mac.reset,
    sched := Sched.reset, frames := Frames.reset, keys := Keys.reset, ledger := Ledger.reset, bufs := Buffers.reset,
    fwd := Forwarding.reset, camps := [], zoant := Zoant.reset,
    pairU := PairUnit.reset, host := HostPort.reset, seq := Seq.reset,
    journal := Journal.reset, thermal := Thermal.reset, rails := Rails.reset, otp := [], dram := [],
    dramBytes := 2 ^ 32,
    hostMem := [], readData := 0, free := 0, pending := [] }

end Sys2Proof.Machine
end

