-- ==== Sys2Proof/Machine/Ops.lean ====
section
/-! DEFINITION. The named operations over registers, time, memory and open values. -/

namespace Sys2Proof.Machine

/-! ### Registers -/

/-- The register at a BAR0 offset. -/
def State.word (s : State) (off : Nat) : Word := s.csr.get 0 off

/-- Set the register at a BAR0 offset. -/
def State.setWord (off : Nat) (v : Word) (s : State) : State :=
  { s with csr := s.csr.set 0 off v }

/-- A field of a word. -/
def Field.read (f : Field) (w : Word) : Nat := w.toNat / 2 ^ f.lo % 2 ^ f.width

/-- A word with a field replaced; bits of the value beyond the field's width are dropped. -/
def Field.write (f : Field) (v : Nat) (w : Word) : Word :=
  BitVec.ofNat 32 (2 ^ f.lo * (v % 2 ^ f.width) + (w.toNat - 2 ^ f.lo * f.read w))

/-- A field of the registers, as a number. -/
def State.fld (s : State) (f : Field) : Nat := f.read (s.word f.off)

/-- Whether a field is not 0. -/
def State.flag (s : State) (f : Field) : Bool := s.fld f != 0

/-- Set a field. -/
def State.setFld (f : Field) (v : Nat) (s : State) : State :=
  s.setWord f.off (f.write v (s.word f.off))

/-- Set or clear a one-bit field. -/
def State.setFlag (f : Field) (b : Bool) (s : State) : State := s.setFld f (if b then 1 else 0)

/-- Add to a count that saturates at its width. -/
def State.count (f : Field) (n : Nat) (s : State) : State :=
  s.setFld f (satAdd (2 ^ f.width - 1) (s.fld f) n)

/-- Add to a count that wraps. -/
def State.wrapCount (f : Field) (n : Nat) (s : State) : State :=
  s.setFld f ((s.fld f + n) % 2 ^ f.width)

/-- Lower a level by `n`, not below 0. -/
def State.uncount (f : Field) (n : Nat) (s : State) : State := s.setFld f (s.fld f - n)

/-- Bit `i` of a field. -/
def State.bit (s : State) (f : Field) (i : Nat) : Bool := s.fld f / 2 ^ i % 2 == 1

/-- Set bit `i` of a field to `b`. -/
def State.setBit (f : Field) (i : Nat) (b : Bool) (s : State) : State :=
  s.setFld f (if s.bit f i = b then s.fld f else if b then s.fld f + 2 ^ i else s.fld f - 2 ^ i)

/-- A field read as two's complement (R12). -/
def State.sfld (s : State) (f : Field) : Int := signedOf f.width (s.fld f)

/-- The 64-bit value of a register pair. -/
def State.pair (s : State) (lo hi : Nat) : Nat :=
  (s.word lo).toNat + 2 ^ 32 * (s.word hi).toNat

/-- Set a register pair. -/
def State.setPair (lo hi v : Nat) (s : State) : State :=
  (s.setWord lo (BitVec.ofNat 32 v)).setWord hi (BitVec.ofNat 32 (v / 2 ^ 32))

/-! ### Time -/

/-- The majority of three copies; the first where all three differ (R63, R65). -/
def vote {α : Type} [DecidableEq α] (a b c : α) : α := if a = b ∨ a = c then a else if b = c then b else a

/-- CALCNT as every reader sees it: the voted value, copy A during a calendar fault (R63, R65). -/
def State.now (s : State) : Nat :=
  if s.flag F.TMB_STAT_CAL_FAULT then s.cal.copyA.toNat
  else (vote s.cal.copyA s.cal.copyB s.cal.copyC).toNat

/-- Load all three copies (R63, R93). -/
def State.setNow (v : Nat) (s : State) : State :=
  { s with cal.copyA := BitVec.ofNat 64 v, cal.copyB := BitVec.ofNat 64 v,
           cal.copyC := BitVec.ofNat 64 v }

/-! ### Values that the spec leaves open -/

/-- A fresh open value, and the state that has taken it. -/
def State.draw (s : State) : Nat × State := (Config.free s.free, { s with free := s.free + 1 })

/-! ### Memory -/

/-- Write host memory by bus mastering. -/
def State.hostWrite (a : Nat) (bs : List Byte) (s : State) : State :=
  { s with hostMem := s.hostMem.setRun 0 a bs }

/-- Bytes of DRAM, by address within DRAM. -/
def State.dramRead (s : State) (a n : Nat) : List Byte := s.dram.getRun 0 a n

/-- Write a run of bytes into DRAM; a burst that is written whole is sound again. -/
def State.dramWrite (a : Nat) (bs : List Byte) (s : State) : State :=
  { s with dram := s.dram.setRun 0 a bs,
           bufs.badBursts := s.bufs.badBursts.filter (fun b => !(a ≤ 64 * b && 64 * b + 64 ≤ a + bs.length)) }

/-- Bytes of DRAM lie in a burst under an uncorrectable error. -/
def State.burstBad (s : State) (a n : Nat) : Bool := s.bufs.badBursts.any (fun b => 64 * b < a + n && a < 64 * b + 64)

/-- Internal address at which DRAM begins (R447). -/
def dramBase : Nat := 0x1000000000

/-- A run of `n` bytes at an internal address lies in installed DRAM. -/
def State.inDram (s : State) (a n : Nat) : Bool := dramBase ≤ a && a + n ≤ dramBase + s.dramBytes

/-! ### Modes -/

/-- The mode is one of a list. -/
def State.inMode (s : State) (ms : List Mode) : Bool := ms.contains s.seq.mode

/-- The protocol cores run and serve commands (R34); in EMBER they halt with CORE_CLK (R477). -/
def State.coresServe (s : State) : Bool :=
  s.interp.cpRunning && !s.inMode [.cold, .quarantine] && !(s.seq.mode == .ember && !s.flag F.CLK_GATE_CORE_RUN)

/-- The control plane works: it has not been found stopped (R24). -/
def State.coresWork (s : State) : Bool := s.coresServe && !s.interp.cpStopped

/-- The scheduler makes decisions (R229). -/
def State.schedActive (s : State) : Bool := s.inMode [.service] && s.coresWork && !s.flag F.TMB_STAT_CAL_FAULT

/-- No frame starts any more (R443, R475). -/
def State.txStopped (s : State) : Bool := s.seq.stopTx || (s.seq.stopAt != 0 && s.seq.stopAt ≤ s.now)

/-- The chip holds PAIR_TOKEN, or is in single role (R113, R433). -/
def State.held (s : State) : Bool :=
  s.fld F.PAR_STAT_ROLE == 0 || s.flag F.PAR_STAT_HELD

/-- The requester that holds a resource, 0 where none does (R463). -/
def State.ownerOf (s : State) (res : Nat) : Req := s.host.owners.get 0 res

/-- A writer holds a resource; BAR0 counts for every host ring (R464). -/
def State.holds (s : State) (w : Writer) (res : Nat) : Bool :=
  match w with
  | .bar0 => 0x80 ≤ (s.ownerOf res).toNat && (s.ownerOf res).toNat ≤ 0x8F
  | .req n => n != 0 && s.ownerOf res == n

/-- Blocks of the control and data planes by BAR0 index (R553): all but CLK, TMB, PAR and 0x18 to 0x1F. -/
def dataBlock (blk : Nat) : Bool := 2 ≤ blk && blk ≤ 0x17 && blk != 0x15

/-- A register write reaches its block: not in COLD; in QUARANTINE only the management plane and PCI (R557);
in EMBER not CHZ, DMD, LDP and LNS (R556). -/
def State.reaches (s : State) (off : Nat) : Bool :=
  let blk := off / 0x10000
  match s.seq.mode with
  | .cold => false
  | .quarantine => !dataBlock blk || blk == 0x17
  | .ember => !(4 ≤ blk && blk ≤ 7)
  | _ => true

/-- A write that reaches its block acts. -/
def atReg (off : Nat) (act : State → State) (s : State) : State := if s.reaches off then act s else s

/-- The number of a writer in LAST_REQ (R25): the spec gives a BAR0 access no number of its own, so that one is a
free value. -/
def writerNum (w : Writer) (s : State) : Nat × State :=
  match w with
  | .bar0 => (s.draw.1 % 256, s.draw.2)
  | .req n => (n.toNat, s)

/-- The writer is the firmware: a protocol core or the management controller (R14). -/
def writerIsFirmware : Writer → Bool
  | .bar0 => false
  | .req n => 0x01 ≤ n.toNat && n.toNat ≤ 0x05

end Sys2Proof.Machine
end

