-- ==== Sys2Proof/Machine/Flags.lean ====
section
/-! DEFINITION. Interrupts, causes and the journal: everything by which the chip signals. -/

namespace Sys2Proof.Machine

/-! ### MSI-X (R449) -/

/-- BAR0 offset of an entry of the MSI-X table, and of a word of the pending-bit array. -/
def msixEntry (v : Nat) : Nat := 0x178000 + 16 * v
def msixPend (v : Nat) : Field := ⟨0x179000 + 4 * (v / 32), v % 32, 1⟩

/-- Vector control bit 0 of an entry: masked. -/
def msixMask (v : Nat) : Field := ⟨msixEntry v + 12, 0, 1⟩

/-- Send the message of a vector: a write of the entry's data to its address. -/
def msixSend (v : Nat) (s : State) : State :=
  let a := s.pair (msixEntry v) (msixEntry v + 4)
  let s := s.hostWrite a (leBytes 4 (s.word (msixEntry v + 8)).toNat)
  { s with host.msix := s.host.msix.set 0 v (s.host.msix.get 0 v + 1) }

/-- A cause of a vector becomes true (R449): sent at once, or pending while the vector is masked or the
chip may not master the bus. -/
def signal (v : Nat) (s : State) : State :=
  if s.flag (msixMask v) || !s.flag F.PCI_LINK_BME then s.setFlag (msixPend v) true
  else msixSend v s

/-- Set bits of an interrupt register, and signal where a set bit is enabled. -/
def raise (int ie : Field) (mask v : Nat) (s : State) : State :=
  let s := s.setFld int (s.fld int ||| mask)
  if s.fld ie &&& mask ≠ 0 then signal v s else s

/-! ### Causes of FAULT_N and ALERT_N (R527, R528) -/

/-- A cause sets its bit; a change from 0 to 1 signals vector 38 where enabled. -/
def mgtCause (i : Nat) (s : State) : State :=
  let f : Field := ⟨0x180100, i, 1⟩
  if s.flag f then s
  else
    let s := s.setFlag f true
    if s.flag ⟨0x180108, i, 1⟩ then signal 38 s else s

/-- ALERT_N is asserted (R528). -/
def State.alertN (s : State) : Bool :=
  let c := s.fld F.MGT_INT_ALERT_CAUSE &&& s.fld F.MGT_ALERT_EN_EN
  c / 2 ≠ 0 || (c % 2 == 1 && s.flag F.MGT_SMB_CFG_REPLY_ALERT)

/-- FAULT_N is asserted (R528). -/
def State.faultN (s : State) : Bool := s.flag F.MGT_INT_FAULT_CAUSE

/-- EVJ_WR − EVJ_RD, the unread records (R522). -/
def State.evjUnread (s : State) : Nat :=
  (s.fld F.EVJ_WR_WR + 2 ^ 32 - s.fld F.EVJ_RD_RD) % 2 ^ 32

/-- The state of a state cause still holds (R527); an event cause has none. -/
def State.causeHolds (s : State) (i : Nat) : Bool :=
  match i with
  | 0 => s.interp.mbox.alert
  | 1 => s.flag F.THM_STAT_WARN
  | 3 => s.flag F.THM_STAT_CRIT
  | 4 | 20 => !s.rails.faulted.isEmpty
  | 5 => s.flag F.EVJ_CTL_HOLD && s.flag F.EVJ_LEVEL_LEVEL && s.fld F.EVJ_LEVEL_LEVEL ≤ s.evjUnread
  | 6 => s.host.pps.lost
  | 17 => s.flag F.MMU_FLT_STAT_REC_FAIL
  | 18 => s.flag F.PAR_STAT_WDT_FIRED
  | 19 => s.fld F.EVJ_STAT_STATE == 2
  | _ => false

/-! ### The journal (R88, R519, R564) -/

/-- Arguments of one, two, four and eight bytes; a two-byte count saturates. -/
def arg1 (v : Nat) : List Byte := leBytes 1 v
def arg2 (v : Nat) : List Byte := leBytes 2 (if v ≤ 0xFFFF then v else 0xFFFF)
def arg4 (v : Nat) : List Byte := leBytes 4 v
def arg8 (v : Nat) : List Byte := leBytes 8 v

/-- Severities (R520). -/
def sevInfo : Nat := 0
def sevRecovered : Nat := 1
def sevDegraded : Nat := 2
def sevFatal : Nat := 3

/-- A journal record (R519): unused argument bytes are 0. -/
def JRec.of (cal src sev code : Nat) (args : List Byte) : JRec :=
  ⟨BitVec.ofNat 64 cal, BitVec.ofNat 8 src, BitVec.ofNat 8 sev, BitVec.ofNat 16 code, sliceBytes args 0 20⟩

/-- Deliver a record with its own event time to the writer's reorder window (R88, R90). -/
def postAt (cal src sev code : Nat) (args : List Byte) (s : State) : State :=
  { s with journal.window := s.journal.window ++ [(s.now, JRec.of cal src sev code args)] }

/-- Post a record of an event that happens now. -/
def post (src sev code : Nat) (args : List Byte) (s : State) : State :=
  postAt s.now src sev code args s

/-- A block refuses an operation that names an entry which is not valid (R20): a record under its own source, with a
severity below FATAL and a code that the spec does not give. -/
def refusedEntry (src : Nat) (s : State) : State :=
  let r := s.draw
  post src (r.1 % 3) (r.1 / 3 % 65536) [] r.2

/-- The 32 bytes of a record (R519). -/
def JRec.bytes (r : JRec) : List Byte :=
  leBytes 8 r.cal.toNat ++ [r.src, r.sev] ++ leBytes 2 r.code.toNat ++ sliceBytes r.args 0 20

end Sys2Proof.Machine
end

