-- ==== Sys2Proof/Machine/Operands.lean ====
section
/-! DEFINITION. Every operand form of a command: its parameter bytes, the checks that commands share,
and the status codes of replies. -/

namespace Sys2Proof

/-- Parameter bytes as little-endian numbers (R11). -/
def Packet.u8 (p : Packet) (i : Nat) : Nat := leAt p.params i 1
def Packet.u16 (p : Packet) (i : Nat) : Nat := leAt p.params i 2
def Packet.u32 (p : Packet) (i : Nat) : Nat := leAt p.params i 4
def Packet.u64 (p : Packet) (i : Nat) : Nat := leAt p.params i 8

/-- Parameter bytes as two's complement numbers (R12). -/
def Packet.i16 (p : Packet) (i : Nat) : Int := signedOf 16 (p.u16 i)
def Packet.i32 (p : Packet) (i : Nat) : Int := signedOf 32 (p.u32 i)

/-- `n` parameter bytes from `i`. -/
def Packet.bytes (p : Packet) (i n : Nat) : List Byte := sliceBytes p.params i n

/-- Bits `hi … lo` of parameter byte `i`. -/
def Packet.bits (p : Packet) (i hi lo : Nat) : Nat := bitsOf (p.u8 i) hi lo

/-- Bit `b` of parameter byte `i`. -/
def Packet.bit (p : Packet) (i b : Nat) : Bool := p.bits i b b == 1

/-- Some parameter byte from `i` on, for `n` bytes, is not 0 where it must be (R560). -/
def Packet.dirty (p : Packet) (i n : Nat) : Bool := (p.bytes i n).any (· != 0)

/-- LEN, as a number. -/
def Packet.n (p : Packet) : Nat := p.len.toNat

/-- FLAGS (R27). -/
def Packet.ackReq (p : Packet) : Bool := p.flags.toNat % 2 == 1
def Packet.ordered (p : Packet) : Bool := p.flags.toNat / 2 % 2 == 1
def Packet.urgent (p : Packet) : Bool := p.flags.toNat / 4 % 2 == 1

/-- Class of the opcode. -/
def Packet.cls (p : Packet) : Nat := p.opcode.toNat / 0x1000

/-- The 16 header bytes and the parameters (R27). -/
def Packet.wire (p : Packet) : List Byte :=
  leBytes 2 p.opcode.toNat ++ leBytes 2 p.tag.toNat ++ leBytes 2 p.len.toNat ++ [p.flags, p.issuer] ++
    leBytes 8 p.notBefore.toNat ++ p.params

/-- The packet that bytes spell (R27). -/
def Packet.ofBytes (bs : List Byte) : Packet :=
  { opcode := BitVec.ofNat 16 (leAt bs 0 2), tag := BitVec.ofNat 16 (leAt bs 2 2),
    len := BitVec.ofNat 16 (leAt bs 4 2), flags := BitVec.ofNat 8 (leAt bs 6 1),
    issuer := BitVec.ofNat 8 (leAt bs 7 1), notBefore := BitVec.ofNat 64 (leAt bs 8 8),
    params := sliceBytes bs 16 (leAt bs 4 2) }

end Sys2Proof

namespace Sys2Proof.Machine

/-! ### Common status codes (R43) -/

def St.OK : Nat := 0x0000
def St.OK_PARTIAL : Nat := 0x0001
def St.CANCELLED : Nat := 0x0002
def St.BAD_OPCODE : Nat := 0x0100
def St.BAD_PARAM : Nat := 0x0101
def St.BAD_LENGTH : Nat := 0x0102
def St.NOT_PERMITTED : Nat := 0x0103
def St.BUSY : Nat := 0x0200
def St.RESOURCE_HELD : Nat := 0x0201
def St.NOT_IN_MODE : Nat := 0x0202
def St.TX_LATE : Nat := 0x0300
def St.TX_DUTY : Nat := 0x0301
def St.TX_DWELL : Nat := 0x0302
def St.TX_CAL_CONFLICT : Nat := 0x0303
def St.TX_NO_TOKEN : Nat := 0x0304
def St.TX_CTR_EXHAUSTED : Nat := 0x0305
def St.KEY_ABSENT : Nat := 0x0400
def St.AUTH_FAIL : Nat := 0x0401
def St.TBL_LOCKED : Nat := 0x0500
def St.TBL_CAS_FAIL : Nat := 0x0501
def St.FAULT_PENDING : Nat := 0x0600
def St.THERMAL_LIMIT : Nat := 0x0700
def St.INTERNAL : Nat := 0x0FFF

/-- The first check that fails gives the status (R30). -/
def firstFail : List (Bool × Nat) → Option Nat
  | [] => none
  | (true, st) :: _ => some st
  | (false, _) :: cs => firstFail cs

/-- Modes in which the protocol cores run (R34). -/
def coreModes : List Mode := [.kindling, .calibrate, .service, .banked, .ember, .test]

/-- Modes in which the radios serve. -/
def radioModes : List Mode := [.calibrate, .service, .banked, .test]

/-- Every mode except COLD. -/
def allButCold : List Mode := .quarantine :: coreModes

/-- The bytes of a reply (R28). -/
def Reply.wire (r : Reply) : List Byte :=
  leBytes 2 r.opcode.toNat ++ leBytes 2 r.tag.toNat ++ leBytes 2 r.data.length ++
    leBytes 2 r.status.toNat ++ leBytes 8 r.completion.toNat ++ r.data

/-- Any integer, from a free natural number. -/
def intOf (v : Nat) : Int := if v % 2 = 0 then (v / 2 : Nat) else -((v / 2 : Nat) : Int) - 1

/-! ### Rounding -/

/-- a/b to nearest, ties away from zero. -/
def rnd (a : Int) (b : Nat) : Int :=
  if b = 0 then 0
  else
    let m := (2 * a.natAbs + b) / (2 * b)
    if a < 0 then -(m : Int) else (m : Int)

/-- Lesser and greater of two integers. -/
def minInt (a b : Int) : Int := if a ≤ b then a else b
def maxInt (a b : Int) : Int := if a ≤ b then b else a

/-! ### Events and lanes -/

/-- Events that listen on a channel. -/
def RxEvent.on (e : RxEvent) (ch : Nat) : Bool := e.ch == ch || e.oldCh == some ch
def RxEvent.chans (e : RxEvent) : List Nat :=
  match e.oldCh with
  | some c => [e.ch, c]
  | none => [e.ch]

/-- Two events listen on a channel in windows that overlap (R200); the windows that the lane opens for them do. -/
def RxEvent.overlaps (a b : RxEvent) : Bool := decide (a.lo ≤ b.hi) && decide (b.lo ≤ a.hi) && a.chans.any b.on
def RxEvent.meets (a b : RxEvent) : Bool :=
  decide (a.cover.1 ≤ b.cover.2) && decide (b.cover.1 ≤ a.cover.2) && a.chans.any b.on

/-- Two records are of one event. -/
def RxEvent.same (a b : RxEvent) : Bool := a.node == b.node && a.anchor == b.anchor && a.shadow == b.shadow

/-- The events of a list that meet one of a group, directly or through others, with the group. -/
def joined (l : List RxEvent) : Nat → List RxEvent → List RxEvent
  | 0, g => g
  | n + 1, g =>
    match l.filter (fun x => !g.any x.same && g.any x.meets) with
    | [] => g
    | more => joined l n (g ++ more)

def State.lane (s : State) (n : Nat) : Lane := s.mac.lanes.get Lane.reset n
def State.setLane (n : Nat) (l : Lane) (s : State) : State :=
  { s with mac.lanes := s.mac.lanes.set Lane.reset n l }

/-- The lane that owns a channel. -/
def laneOf (ch : Nat) : Nat := ch / 16

/-- Every event that has been delivered and has not ended. -/
def State.delivered (s : State) : List RxEvent :=
  s.mac.lanes.flatMap (fun (l : Nat × Lane) => l.2.active ++ l.2.due)

/-- A sequence whose last symbol ends at `last` would reach the window of a delivered event on the channel (R366). -/
def State.reachesEvent (s : State) (ch last : Nat) : Bool :=
  s.delivered.any (fun e => e.on ch && !e.closed && decide (e.lo ≤ last + 1080))

/-- The events that share an event's one window, the event among them (R200). -/
def State.together (s : State) (e : RxEvent) : List RxEvent := joined s.delivered s.delivered.length [e]

/-- The event in progress or delivered of a node. -/
def State.eventOf (s : State) (id : Nat) : Option RxEvent := s.delivered.find? (fun e => e.node == id)

/-- NTAB follows this chip's own receptions: not in BANKED nor without the token (R210, R441), nor during a calendar
fault (R209). -/
def State.models (s : State) : Bool := s.held && !s.inMode [.banked] && !s.flag F.TMB_STAT_CAL_FAULT

end Sys2Proof.Machine
end

