-- ==== Sys2Proof/Machine/Codes.lean ====
section
/-! DEFINITION. The check codes of the spec: CRC-32 of R120 and CRC-16 of R161 and R300, and small list
operations shared by the tables. -/

namespace Sys2Proof.Machine

/-- One bit of the reflected CRC-32 (polynomial 0x04C11DB7 reflected). -/
def crc32Bit (c : Word) : Word := if c.getLsbD 0 then (c >>> 1) ^^^ 0xEDB88320#32 else c >>> 1

def crc32Byte (c : Word) (b : Byte) : Word :=
  let c := c ^^^ b.setWidth 32
  crc32Bit (crc32Bit (crc32Bit (crc32Bit (crc32Bit (crc32Bit (crc32Bit (crc32Bit c)))))))

/-- CRC-32 of R120: IEEE 802.3, reflected, initial value and final XOR all ones. -/
def crc32 (bs : List Byte) : Word := bs.foldl crc32Byte 0xFFFFFFFF#32 ^^^ 0xFFFFFFFF#32

/-- CRC-16 over bits, polynomial 0x1021, initial value all ones, no reflection (R161). -/
def crc16Bit (c : BitVec 16) (b : Bool) : BitVec 16 :=
  if c.getLsbD 15 != b then (c <<< 1) ^^^ 0x1021#16 else c <<< 1
def crc16 (bits : List Bool) : BitVec 16 := bits.foldl crc16Bit 0xFFFF#16

/-- Bits of a number, lowest first. -/
def bitsLow (n v : Nat) : List Bool := (List.range n).map (fun i => v / 2 ^ i % 2 == 1)

/-- The number that bits spell, lowest first. -/
def ofBitsLow : List Bool → Nat
  | [] => 0
  | b :: l => (if b then 1 else 0) + 2 * ofBitsLow l

/-- Count the elements that satisfy a test. -/
def countIf {α : Type} (f : α → Bool) (l : List α) : Nat := (l.filter f).length

/-- Sum of a list of numbers. -/
def sumOf (l : List Nat) : Nat := l.foldl (· + ·) 0

/-- Greatest of a list of numbers, 0 for none. -/
def greatest (l : List Nat) : Nat := l.foldl (fun a b => if a ≤ b then b else a) 0

/-- Least of two and greatest of two. -/
def least2 (a b : Nat) : Nat := if a ≤ b then a else b
def most2 (a b : Nat) : Nat := if a ≤ b then b else a

/-- Element `i` of a list of numbers, 0 past its end. -/
def nth (l : List Nat) (i : Nat) : Nat := l.getD i 0

/-- Replace element `i` of a list. -/
def setNth {α : Type} (i : Nat) (v : α) (l : List α) : List α := l.set i v

/-- Insert into a list ordered by a key, after the elements with no greater key. -/
def insertBy {α : Type} (key : α → Nat) (x : α) : List α → List α
  | [] => [x]
  | y :: l => if key y ≤ key x then y :: insertBy key x l else x :: y :: l

/-- Order a list by a key; equal keys keep their order. -/
def sortBy {α : Type} (key : α → Nat) (l : List α) : List α := l.foldl (fun acc x => insertBy key x acc) []

/-- An event under a limit of one record per `period` ticks: the count to record if one is due. -/
def limited (period now : Nat) (l : Limiter) : Option Nat × Limiter :=
  let due := match l.last with
    | none => true
    | some t => t + period ≤ now
  if due then (some (l.n + 1), ⟨some now, 0⟩) else (none, ⟨l.last, l.n + 1⟩)

end Sys2Proof.Machine
end

