-- ==== Sys2Proof/Machine/Fabric.lean ====
section
/-! DEFINITION. Sending over Zoant: routes, ports and the reliable classes (R407 to R409, R417, R418). -/

namespace Sys2Proof.Machine

/-- Bits of a 128-bit table entry, by byte and bit numbers within it. -/
def entryBits (e : BitVec 128) (byte lo width : Nat) : Nat := e.toNat / 2 ^ (8 * byte + lo) % 2 ^ width

/-- FROUTE of a chip ID (R417). -/
def State.froute (s : State) (chip : Nat) : BitVec 128 := s.zoant.froute.get 0 chip
def frValid (e : BitVec 128) : Bool := entryBits e 0 7 1 == 1
def frPrimary (e : BitVec 128) : Nat := entryBits e 0 0 2
def frAlt (e : BitVec 128) : Option Nat :=
  if entryBits e 0 4 1 = 1 then some (entryBits e 0 2 2) else none
def frSerial (e : BitVec 128) : Nat := entryBits e 4 0 64

/-- Port states (R404). -/
def portDown : Nat := 0
def portTraining : Nat := 1
def portHello : Nat := 2
def portUp : Nat := 3
def portForeign : Nat := 4
def portLow : Nat := 5

def State.portState (s : State) (p : Nat) : Nat := s.fld (F.ZFB_PORT_STAT_STATE p)
def State.zport (s : State) (p : Nat) : ZPort := s.zoant.ports.get ZPort.reset p
def State.setZport (p : Nat) (z : ZPort) (s : State) : State :=
  { s with zoant.ports := s.zoant.ports.set ZPort.reset p z }

/-- This chip's ID, where it holds one (R414). -/
def State.chipId (s : State) : Option Nat :=
  if s.flag F.ZFB_ID_VALID then some (s.fld F.ZFB_ID_ID) else none

/-- This chip's ID as a field: 0 without one (R410). -/
def State.chipNo (s : State) : Nat := s.chipId.getD 0

/-- This chip's serial, OTP words 0x0008 and 0x0009 (R558). -/
def State.serial (s : State) : Nat :=
  (s.otp.get 0 8).toNat + 2 ^ 32 * (s.otp.get 0 9).toNat

/-- A port carries a class: UP carries all, LOWPOWER only HELLO and CTRL (R404, R420). -/
def State.carries (s : State) (p cls : Nat) : Bool :=
  s.portState p == portUp || (s.portState p == portLow && cls == 1)

/-- Hops to a chip (R417), and its FLAGS: registrar, partner. -/
def frHops (e : BitVec 128) : Nat := entryBits e 1 0 8
def frRegistrar (e : BitVec 128) : Bool := entryBits e 2 0 1 == 1
def frPartner (e : BitVec 128) : Bool := entryBits e 2 1 1 == 1

/-- The port on which frames of a class leave toward a chip (R417, R418). -/
def State.egress (s : State) (chip cls : Nat) : Option Nat :=
  let e := s.froute chip
  if !frValid e || frHops e == 0 then none
  else if s.carries (frPrimary e) cls then some (frPrimary e)
  else match frAlt e with
    | some a => if s.carries a cls then some a else none
    | none => none

/-- Cells that a frame occupies, and the receive credit of a class (R407, R408). -/
def zCells (f : ZFrame) : Nat := (f.len + 12 + 63) / 64
def classCredit : Nat → Nat
  | 0 => 8
  | 1 => 128
  | 2 | 3 => 512
  | 4 => 256
  | _ => 0

/-- Commands that the chip takes over Zoant at a time (R49). -/
def zoantLimit : Nat := 16

/-- A frame of a class leaves the receive buffer of a port: its credit returns, but that of CTRL is held back while 16
commands are outstanding (R49, R408). -/
def cellsFree (p cls n : Nat) (s : State) : State :=
  let z := s.zport p
  if cls = 1 ∧ zoantLimit ≤ s.zoant.outstanding then s.setZport p { z with back := z.back + n }
  else s.setZport p { z with taken := z.taken.set 0 cls (z.taken.get 0 cls - n) }

/-- A frame of a class stands in the receive buffer of a port. -/
def cellsTake (p cls n : Nat) (s : State) : State :=
  let z := s.zport p
  s.setZport p { z with taken := z.taken.set 0 cls (z.taken.get 0 cls + n) }

/-- CTRL credit that was held back returns. -/
def cellsBack (s : State) : State :=
  if zoantLimit ≤ s.zoant.outstanding then s
  else (List.range 4).foldl (fun s p =>
    let z := s.zport p
    if z.back = 0 then s
    else s.setZport p { z with taken := z.taken.set 0 1 (z.taken.get 0 1 - z.back), back := 0 }) s

/-- Queue a frame at an egress port; `via`: the port it came in on, where it is in transit. -/
def portPut (p : Nat) (o : ZOut) (s : State) : State :=
  let z := s.zport p
  s.setZport p { z with txq := z.txq ++ [o] }
def portQueue (p : Nat) (f : ZFrame) (s : State) : State := portPut p ⟨f, none⟩ s

/-- A frame at an egress port is given up: a transit frame's cells are free. -/
def outDrop (o : ZOut) (s : State) : State :=
  match o.via with
  | some q => cellsFree q o.frame.cls (zCells o.frame) s
  | none => s

/-- The frame is for the neighbour alone: SYNC class, floods and boot messages. -/
def zHop (f : ZFrame) : Bool :=
  f.cls == 0 || f.bcast ||
    match f.msg with
    | .bootReq .. | .bootData .. => true
    | _ => false

/-- Key of a SEQ series (R409): class and chip. -/
def seqKey (cls chip : Nat) : Nat := 64 * cls + chip

/-- Set bits of ZFB_INT, and signal vector 35 where enabled. -/
def zfbRaise (mask : Nat) (s : State) : State := raise ⟨0x140024, 0, 7⟩ ⟨0x140028, 0, 7⟩ mask 35 s

/-- The link toward a chip is in LOWPOWER: MIRROR, DATA and BULK frames on it are discarded (R420). -/
def State.asleep (s : State) (dst cls : Nat) : Bool :=
  let e := s.froute dst
  frValid e && s.portState (frPrimary e) == portLow && cls != 1

/-- A DATA or BULK frame without a route is counted; one for a chip in EMBER is not (R418, R420). -/
def noRoute (f : ZFrame) (s : State) : State :=
  if f.cls = 1 ∨ f.cls = 2 ∨ s.asleep f.dst f.cls = true then s else s.count F.ZFB_CNT0_NO_ROUTE 1

/-- Put a frame on its way; a DATA or BULK frame without a route is discarded and counted (R418). -/
def zoantRoute (f : ZFrame) (s : State) : State :=
  match s.egress f.dst f.cls with
  | some p => portQueue p f s
  | none => noRoute f s

/-- Put a transit frame on its way: it stands in the receive buffer until it leaves (R408). -/
def zoantPass (via : Nat) (f : ZFrame) (s : State) : State :=
  match s.egress f.dst f.cls with
  | some p => portPut p ⟨f, some via⟩ (cellsTake via f.cls (zCells f) s)
  | none => noRoute f s

/-- Where a frame at an egress port goes when routes or the port's state have changed: it stays, moves to the port of its
route, or is discarded for want of one (R408, R418, R420). -/
def outMove (p : Nat) (o : ZOut) (s : State) : State :=
  if zHop o.frame then portPut p o s
  else match s.egress o.frame.dst o.frame.cls with
    | some q => portPut q o s
    | none => outDrop o (noRoute o.frame s)

/-- Look through a port's queue again. -/
def settleQueue (p : Nat) (s : State) : State :=
  let q := (s.zport p).txq
  q.foldl (fun s o => outMove p o s) (s.setZport p { s.zport p with txq := [] })

/-- A frame of this chip still waits at an egress port. -/
def State.waitsOut (s : State) (f : ZFrame) : Bool :=
  (List.range 4).any (fun p => (s.zport p).txq.any (fun o => o.via.isNone && o.frame == f))

/-- Send a message outside the reliable delivery: an acknowledgement, a boot message. -/
def zoantRaw (dst cls len : Nat) (msg : ZMsg) (s : State) : State :=
  zoantRoute ⟨dst, false, s.chipNo, cls, 8, 0, len, true, msg⟩ s

/-- Send a message to a chip. CTRL and MIRROR frames take a SEQ and wait for their acknowledgement; a DATA or
BULK frame without a route is discarded and counted (R418). -/
def zoantSend (dst cls len : Nat) (msg : ZMsg) (s : State) : State :=
  if s.asleep dst cls then s else
  let reliable := cls == 1 || cls == 2
  let k := seqKey cls dst
  let sq := if reliable then s.zoant.txSeq.get 0 k else 0
  let f : ZFrame := ⟨dst, false, s.chipNo, cls, 8, sq, len, true, msg⟩
  let s := if reliable then
      { s with zoant.txSeq := s.zoant.txSeq.set 0 k ((sq + 1) % 65536),
               zoant.unacked := s.zoant.unacked ++ [⟨f, 1, s.now, s.now⟩] }
    else s
  zoantRoute f s

/-- Flood a CTRL message on every port that carries CTRL but one (R412, R415, R420, R430). -/
def zoantFlood (except : Option Nat) (len : Nat) (msg : ZMsg) (s : State) : State :=
  let f : ZFrame := ⟨0, true, s.chipNo, 1, 8, 0, len, true, msg⟩
  (List.range 4).foldl (fun s p =>
    if s.carries p 1 = true ∧ except ≠ some p then portQueue p f s else s) s

/-- A chip of the district can be reached over CTRL. -/
def State.reachable (s : State) (chip : Nat) : Bool := (s.egress chip 1).isSome

end Sys2Proof.Machine
end

