-- ==== Sys2Proof/Machine/Reply.lean ====
section
/-! DEFINITION. Answering commands: the reply on each transport (R28, R29, R31, R44 to R49). -/

namespace Sys2Proof.Machine

def State.ring (s : State) (n : Nat) : Ring := s.interp.rings.get Ring.empty n
def State.setRing (n : Nat) (r : Ring) (s : State) : State :=
  { s with interp.rings := s.interp.rings.set Ring.empty n r }

/-- Slots of a ring. -/
def State.ringSlots (s : State) (n : Nat) : Nat := 2 ^ s.fld (F.CMD_RING_CTL_LOG2_SLOTS n)

/-- An index that passes the slots of a list as far as they follow it. -/
def passSlots : Nat → Nat → List Nat → Nat × List Nat
  | 0, c, l => (c, l)
  | k + 1, c, l => if l.contains c then passSlots k ((c + 1) % 65536) (l.erase c) else (c, l)

/-- A command of a ring was answered, started or scheduled: CI_CMD passes it once it has passed every command before
it (R45). -/
def passSlot (n slot : Nat) (s : State) : State :=
  let g := s.ring n
  let r := passSlots (g.ahead.length + 1) g.ci (slot :: g.ahead)
  s.setRing n { g with ci := r.1, ahead := r.2 }

/-- Write the write-back block of a ring (R44). -/
def writeBack (n : Nat) (s : State) : State :=
  let a := s.pair (R.CMD_RING_WBASE_LO n) (R.CMD_RING_WBASE_HI n)
  s.hostWrite a (leBytes 4 (s.word (R.CMD_RING_GRANTED n)).toNat ++ leBytes 2 (s.ring n).ci ++
    leBytes 2 (s.ring n).piRep ++ leBytes 1 (s.fld (F.CMD_RING_CTL_STOPPED n)) ++
    leBytes 1 (s.fld (F.CMD_RING_CTL_CAUSE n)) ++ leBytes 6 0)

/-- A ring stops (R46): the write-back block is updated where the chip may master the bus. -/
def ringStop (n cause : Nat) (s : State) : State :=
  if s.flag (F.CMD_RING_CTL_STOPPED n) then s
  else
    let s := s.setFlag (F.CMD_RING_CTL_STOPPED n) true
    let s := s.setFld (F.CMD_RING_CTL_CAUSE n) cause
    let s := s.setBit F.CMD_ERR_RING_ERR n true
    let s := if s.flag F.PCI_LINK_BME then writeBack n s else s
    post 32 sevDegraded 0x0102 (arg1 n ++ arg1 cause) (signal n s)

/-- Replies of a ring may be written (R46, R562). -/
def State.ringLive (s : State) (n : Nat) : Bool :=
  s.flag (F.CMD_RING_CTL_EN n) && !s.flag (F.CMD_RING_CTL_STOPPED n) && s.flag F.PCI_LINK_BME

/-- Write one reply: slot, write-back block, then the signal at once or coalesced (R31, R45). -/
def ringWrite (n : Nat) (r : Reply) (s : State) : State :=
  let g := s.ring n
  let a := s.pair (R.CMD_RING_RBASE_LO n) (R.CMD_RING_RBASE_HI n) + 512 * (g.piRep % s.ringSlots n)
  let s := s.hostWrite a r.wire
  let pi := (g.piRep + 1) % 65536
  let limit := 2 ^ (if s.fld (F.CMD_RING_CTL_COALESCE n) ≤ 8 then s.fld (F.CMD_RING_CTL_COALESCE n) else 8)
  if r.ackReq then signal n (writeBack n (s.setRing n { g with piRep := pi }))
  else if limit ≤ g.unsig + 1 then
    signal n (writeBack n (s.setRing n { g with piRep := pi, unsig := 0 }))
  else
    writeBack n (s.setRing n { g with piRep := pi, unsig := g.unsig + 1,
                                      unsigAt := if g.unsig = 0 then s.now else g.unsigAt })

/-- The reply index is out of range (R46). -/
def State.replyFull (s : State) (n : Nat) : Bool :=
  s.ringSlots n < ((s.ring n).piRep + 1 + 65536 - (s.ring n).ciRep) % 65536

/-- A reply for a ring: written, or held while the ring is stopped or disabled (R46, R562). -/
def ringReply (n : Nat) (r : Reply) (s : State) : State :=
  if !s.ringLive n then
    s.setRing n { s.ring n with held := (s.ring n).held ++ [r] }
  else if s.replyFull n then
    ringStop n 2 (s.setRing n { s.ring n with held := (s.ring n).held ++ [r] })
  else ringWrite n r s

/-- Held replies go first, in order, when a ring is enabled again (R46, R562). -/
def ringFlush (n : Nat) (s : State) : State :=
  let held := (s.ring n).held
  held.foldl (fun s r => ringReply n r s) (s.setRing n { s.ring n with held := [] })

/-- A reply for the mailbox (R48); with ACK_REQ it raises the REPLY cause (R459). -/
def smbReply (r : Reply) (s : State) : State :=
  let m := s.interp.mbox
  let s := { s with interp.mbox := { m with mem := m.mem.setRun 0 0 r.wire, replyReady := true,
                                            readOff := 0, alert := r.ackReq } }
  if r.ackReq then mgtCause 0 s else s

/-- A reply for a district chip: discarded where the chip can no longer be reached (R49). -/
def zoantReply (chip : Nat) (r : Reply) (s : State) : State :=
  let s := { s with zoant.outstanding := s.zoant.outstanding - 1 }
  if s.reachable chip then zoantSend chip 1 r.wire.length (.reply r.wire) s
  else
    let s := s.setFlag F.CMD_ERR_ZOANT_ERR true
    post (27 + frPrimary (s.froute chip)) sevDegraded 0x0104
      (arg1 chip ++ leBytes 2 r.opcode.toNat ++ leBytes 2 r.tag.toNat ++ leBytes 2 r.status.toNat) s

/-- A reply to the firmware's own command: a boot-list entry that fails is recorded (R50, R496). -/
def firmwareReply (r : Reply) (s : State) : State :=
  let s := { s with interp.fwReplies := s.interp.fwReplies ++ [r] }
  match s.seq.replay.find? (fun e => e.1 == 65536 * r.opcode.toNat + r.tag.toNat) with
  | some e =>
    let s := { s with seq.replay := s.seq.replay.erase e }
    if r.status.toNat = St.OK then s else post 1 sevDegraded 0x1305 (arg2 e.2 ++ leBytes 2 r.status.toNat) s
  | none => s

/-- Deliver a reply to its issuer's transport (R26, R29). -/
def deliver (issuer : Nat) (r : Reply) (s : State) : State :=
  if 0x80 ≤ issuer ∧ issuer ≤ 0x8F then ringReply (issuer - 0x80) r s
  else if issuer = 0x90 then smbReply r s
  else if 0x40 ≤ issuer ∧ issuer ≤ 0x7F then zoantReply (issuer - 0x40) r s
  else firmwareReply r s

/-- Answer a command now: COMPLETION is the current tick (R28, R39). -/
def reply (p : Packet) (status : Nat) (data : List Byte) (s : State) : State :=
  deliver p.issuer.toNat ⟨p.opcode, p.tag, BitVec.ofNat 16 status, BitVec.ofNat 64 s.now, data, p.ackReq⟩ s

/-- Check 6 of R30: the first failing check answers, else the operation acts. -/
def checked (p : Packet) (cs : List (Bool × Nat)) (act : State → State) (s : State) : State :=
  match firstFail cs with
  | some st => reply p st [] s
  | none => act s

/-- Answer OK with data. -/
def done (p : Packet) (data : List Byte) (s : State) : State := reply p St.OK data s

/-- Keep a command that has started until its reply is due. -/
def defer (p : Packet) (s : State) : Nat × State :=
  (s.interp.nextSeq,
   { s with interp.nextSeq := s.interp.nextSeq + 1,
            interp.running := s.interp.running ++ [⟨p, s.interp.nextSeq, s.interp.starting.getD s.interp.nextSeq, s.now, false⟩] })

/-- Answer a command that was kept, with its COMPLETION; a command whose ring was reset gets no reply (R47). -/
def finishAt (t seq status : Nat) (data : List Byte) (s : State) : State :=
  match s.interp.running.find? (fun r => r.seq == seq) with
  | none => s
  | some r =>
    let s := { s with interp.running := s.interp.running.filter (fun x => x.seq != seq) }
    let p := r.pkt
    if r.drop then s
    else deliver p.issuer.toNat ⟨p.opcode, p.tag, BitVec.ofNat 16 status, BitVec.ofNat 64 t, data, p.ackReq⟩ s

/-- Answer a command that was kept, complete now. -/
def finish (seq status : Nat) (data : List Byte) (s : State) : State := finishAt s.now seq status data s

/-- Answer an optional kept command. -/
def finishOpt (seq : Option Nat) (status : Nat) (data : List Byte) (s : State) : State :=
  match seq with
  | none => s
  | some q => finish q status data s

/-- A command of the interpreter as its row runs it: the row's opcode, LEN (R30, check 4), whether the cores
serve it (R34), its modes, then its operation. -/
def command (op : Nat) (lenOk : Packet → Bool) (modes : List Mode) (body : Packet → State → State)
    (p : Packet) (s : State) : State :=
  let p := { p with opcode := BitVec.ofNat 16 op }
  if !lenOk p then reply p St.BAD_LENGTH [] s
  else if !s.coresServe || !s.inMode modes then reply p St.NOT_IN_MODE [] s
  else body p s

/-- A command that the management controller executes, in every mode but COLD (R34). -/
def mgtCommand (op : Nat) (lenOk : Packet → Bool) (modes : List Mode) (body : Packet → State → State)
    (p : Packet) (s : State) : State :=
  let p := { p with opcode := BitVec.ofNat 16 op }
  if !lenOk p then reply p St.BAD_LENGTH [] s
  else if !s.inMode modes then reply p St.NOT_IN_MODE [] s
  else body p s

/-- LEN must have one value. -/
def lenIs (n : Nat) (p : Packet) : Bool := p.n == n

end Sys2Proof.Machine
end

