-- ==== Sys2Proof/Machine/Queues.lean ====
section
/-! DEFINITION. The buffer region, its pages and their pool, and the hardware queues (R51 to R55, R374 to R377,
R380). -/

namespace Sys2Proof.Machine

/-! ### The region (R374) -/

def State.bufBase (s : State) : Nat := s.fld F.MMU_BUF_BASE_BASE * 2 ^ 20
def State.bufFrames (s : State) : Nat := s.fld F.MMU_BUF_FRAMES_FRAMES
def State.bufPages (s : State) : Nat := s.fld F.MMU_BUF_PAGES_PAGES

/-- Frames of the page table. -/
def tableFrames (pages : Nat) : Nat := (pages + 1 + 511) / 512

/-- An address lies in the region, in its page table, in the fault ring. -/
def State.inRegion (s : State) (a : Nat) : Bool := s.bufBase ≤ a && a < s.bufBase + 2048 * s.bufFrames
def State.inTable (s : State) (a : Nat) : Bool :=
  s.inRegion a && s.bufBase + 2048 * (s.bufFrames - tableFrames s.bufPages) ≤ a
def State.fltBase (s : State) : Nat := s.fld F.MMU_FLT_BASE_LO_BASE * 32 + s.fld F.MMU_FLT_BASE_HI_BASE * 2 ^ 32
def State.fltSize (s : State) : Nat := 2 ^ s.fld F.MMU_FLT_CTL_LOG2
def State.inFltRing (s : State) (a : Nat) : Bool := s.fltBase ≤ a && a < s.fltBase + 32 * s.fltSize

def State.page (s : State) (p : Nat) : BufPage := s.bufs.pages.get BufPage.reset p
def State.setPage (p : Nat) (x : BufPage) (s : State) : State :=
  { s with bufs.pages := s.bufs.pages.set BufPage.reset p x }

/-- Frame of a page, and the page that a frame backs. -/
def State.frameOf (s : State) (p : Nat) : Nat := (s.page p).frame.getD (p - 1)
def State.pageOfFrame (s : State) (f : Nat) : Option Nat :=
  match s.bufs.pages.find? (fun e => e.2.frame == some f) with
  | some e => some e.1
  | none => if f < s.bufPages ∧ (s.page (f + 1)).frame = none then some (f + 1) else none

/-- The page-table entry of a page as the MMU keeps it in DRAM (R376). -/
def State.pageEntry (s : State) (p : Nat) : Word :=
  let x := s.page p
  BitVec.ofNat 32 (s.frameOf p % 2 ^ 19 + (if x.bad then 2 ^ 29 else 0) + (if x.spill then 2 ^ 30 else 0) +
    (if x.alloc then 2 ^ 31 else 0))

/-- Address of a page's first byte. -/
def State.pageAddr (s : State) (p : Nat) : Nat := s.bufBase + 2048 * s.frameOf p

/-! ### The pool (R377) -/

/-- Free pages and the reserve. -/
def State.freePages (s : State) : Nat := s.fld F.MMU_POOL_STAT_FREE

/-- The free count has changed: LOW_WATER and POOL_LOW. -/
def poolCount (free : Nat) (s : State) : State :=
  let was := s.freePages
  let rsv := s.fld F.MMU_RSV_RSV
  let s := s.setFld F.MMU_POOL_STAT_FREE free
  let s := if free < s.fld F.MMU_LOW_WATER_LOW_WATER then s.setFld F.MMU_LOW_WATER_LOW_WATER free else s
  let s := if 2 * rsv < free then { s with bufs.lowPosted := false } else s
  if free ≤ rsv ∧ rsv < was ∧ s.bufs.lowPosted = false then
    post 23 sevDegraded 0x1003 [] { s with bufs.lowPosted := true }
  else s

/-- Append a page to the pool's runs. -/
def runsPush (p : Nat) : List (Nat × Nat) → List (Nat × Nat)
  | [] => [(p, p)]
  | [(a, b)] => if p = b + 1 then [(a, p)] else [(a, b), (p, p)]
  | r :: l => r :: runsPush p l

/-- Take a page from the head of the pool. -/
def allocPage (s : State) : Option (Nat × State) :=
  match s.bufs.pool with
  | [] => none
  | (a, b) :: l =>
    let s := { s with bufs.pool := if a < b then (a + 1, b) :: l else l }
    some (a, poolCount (s.freePages - 1) (s.setPage a { s.page a with alloc := true }))

/-- Take `n` pages, or none. `rx`: an Ethernet or Zoant receive keeps the reserve. -/
def allocPages (rx : Bool) (n : Nat) (s : State) : Option (List Nat × State) :=
  if s.freePages < n ∨ (rx = true ∧ s.freePages < n + s.fld F.MMU_RSV_RSV) then none
  else
    (List.range n).foldl (fun (acc : Option (List Nat × State)) _ =>
      match acc with
      | none => none
      | some (ps, s) => (allocPage s).map (fun r => (ps ++ [r.1], r.2))) (some ([], s))

/-- PAGE_RETIRED, at most once per 120,000 ticks. -/
def postRetired (s : State) : State :=
  match limited 120000 s.now s.bufs.retireLim with
  | (some _, l) => post 23 sevDegraded 0x1002 [] { s with bufs.retireLim := l }
  | (none, l) => { s with bufs.retireLim := l }

/-- Return a page to the tail of the pool (R377); the frame of a BAD page is retired (R380). -/
def freePage (p : Nat) (s : State) : State :=
  let x := s.page p
  if p = 0 ∨ s.bufPages < p then s
  else if !x.alloc then s.count F.MMU_POOL_ERR_DOUBLE_FREE 1
  else if !x.bad then
    poolCount (s.freePages + 1)
      { s.setPage p { x with alloc := false } with bufs.pool := runsPush p s.bufs.pool }
  else
    let s := s.count F.MMU_POOL_ERR_RETIRED 1
    let spares := s.fld F.MMU_RETIRE_SPARES
    if spares = 0 then (s.setPage p { x with alloc := false }).count F.MMU_RETIRE_WITHHELD 1
    else
      let f := s.bufFrames - tableFrames s.bufPages - spares
      let s := s.setFld F.MMU_RETIRE_SPARES (spares - 1)
      poolCount (s.freePages + 1)
        { s.setPage p { x with alloc := false, bad := false, frame := some f } with
          bufs.pool := runsPush p s.bufs.pool }

def freePages (ps : List Nat) (s : State) : State := ps.foldl (fun s p => freePage p s) s

/-- Pages of a packet. -/
def pagesFor (len : Nat) : Nat := (len + 2047) / 2048

/-- Write a packet into its pages. -/
def writePages : List Nat → List Byte → State → State
  | [], _, s => s
  | p :: ps, bs, s => writePages ps (bs.drop 2048) (s.dramWrite (s.pageAddr p - dramBase) (bs.take 2048))

/-! ### Hardware queues (R51 to R55) -/

def State.queue (s : State) (q : Nat) : Queue := s.interp.queues.get Queue.empty q
def State.setQueue (q : Nat) (x : Queue) (s : State) : State :=
  { s with interp.queues := s.interp.queues.set Queue.empty q x }

/-- Items in a queue. -/
def Queue.fill (x : Queue) : Nat := x.items.length

/-- The two copies of the pointers agree. -/
def Queue.agrees (x : Queue) : Bool := x.headA == x.headB && x.tailA == x.tailB

/-- The QID that carries the firmware's own commands (R50). -/
def cmdQid : Nat := 43

/-- The commands of a queue that have not started: of QID 16 to 31 the fetched ones of a host ring, of the firmware's
queue the cores' and the management controller's own. -/
def queuedIn (q : Nat) (w : Waiting) : Bool :=
  if q = cmdQid then w.pkt.issuer.toNat ≤ 5 && w.slot.isSome
  else w.pkt.issuer.toNat == 0x70 + q && w.slot.isSome

/-- What a pointer mismatch discards beside pages: fetched commands of QID 16 to 31 are fetched again from CI_CMD
(R53); a command of the firmware is answered INTERNAL. -/
def discardCommands (q : Nat) (s : State) : State :=
  let gone := s.interp.ready.filter (queuedIn q)
  let s := { s with interp.ready := s.interp.ready.filter (fun w => !queuedIn q w) }
  if 16 ≤ q ∧ q ≤ 31 then s.setRing (q - 16) { s.ring (q - 16) with fetch := (s.ring (q - 16)).ci }
  else gone.foldl (fun s w => reply w.pkt St.INTERNAL [] s) s

/-- A pointer mismatch: the queue is emptied, its pages are freed, and the handshakes of producers that wait complete
with a discard (R52). -/
def queueFault (q : Nat) (s : State) : State :=
  let x := s.queue q
  let pages := (x.items ++ x.waiting).flatMap (·.pages)
  let s := s.setQueue q { x with headA := 0, headB := 0, tailA := 0, tailB := 0, items := [], waiting := [] }
  let s := discardCommands q (freePages pages s)
  let s := (s.count F.QUE_PTR_FAULT_CNT_COUNT 1).setFld F.QUE_PTR_FAULT_CNT_LAST_QID q
  post 26 sevRecovered 0x0105
    (arg1 q ++ arg2 x.headA ++ arg2 x.headB ++ arg2 x.tailA ++ arg2 x.tailB ++ arg2 x.fill) s

/-- Items that a queue holds: of QID 16 to 31 the ring's credit bounds them. -/
def queueDepth (q : Nat) : Nat := Config.queueDepth q + 1

/-- A queue has no room. -/
def State.queueFull (s : State) (q : Nat) : Bool :=
  !(decide (16 ≤ q ∧ q ≤ 31)) && decide (queueDepth q ≤ (s.queue q).fill)

/-- Credit of a producer: GRANTED for QID 16 to 31, none in BACKPRESSURE mode (R51). -/
def State.queueCredit (s : State) (q : Nat) : Nat :=
  if 16 ≤ q ∧ q ≤ 31 then (s.word (R.CMD_RING_GRANTED (q - 16))).toNat % 65536
  else if (s.queue q).backpressure then 0
  else queueDepth q - (s.queue q).fill

/-- An item enters a queue that has room; the level interrupt fires where the fill crosses LEVEL upward (R54). -/
def queueEnter (q : Nat) (it : QItem) (s : State) : State :=
  let x := s.queue q
  let t := (x.tailA + 1) % 65536
  let s := s.setQueue q { x with tailA := t, tailB := t, items := x.items ++ [it] }
  if x.level != 0 && x.fill < x.level && x.level ≤ x.fill + 1 && decide (q < 32) then
    let s := s.setBit F.QUE_LEVEL_INT_LEVEL_HIT q true
    if x.levelIe then signal 32 s else s
  else s

/-- Offer an item: whether the handshake completed with the item taken. In CREDIT mode a producer without credit does
not offer; in BACKPRESSURE mode the item waits for room. -/
def queuePush (q : Nat) (it : QItem) (s : State) : Bool × State :=
  let x := s.queue q
  if !x.agrees then (false, queueFault q s)
  else if s.queueFull q || !x.waiting.isEmpty then
    (x.backpressure, if x.backpressure then s.setQueue q { x with waiting := x.waiting ++ [it] } else s)
  else (true, queueEnter q it s)

/-- Room in a BACKPRESSURE queue: the producer that has waited longest completes its handshake. -/
def queueRoom (q : Nat) (s : State) : State :=
  let x := s.queue q
  match x.waiting with
  | [] => s
  | it :: l => if s.queueFull q then s else queueEnter q it (s.setQueue q { x with waiting := l })

/-- Take the front item. -/
def queuePop (q : Nat) (s : State) : Option QItem × State :=
  let x := s.queue q
  if !x.agrees then (none, queueFault q s)
  else match x.items with
    | [] => (none, s)
    | it :: l =>
      let h := (x.headA + 1) % 65536
      (some it, queueRoom q (s.setQueue q { x with headA := h, headB := h, items := l }))

/-- A command leaves its queue, answered, started or scheduled: its item is the one with its arrival number. An access
that finds a mismatch is refused. -/
def queueLeave (q seq : Nat) (s : State) : State :=
  let x := s.queue q
  if !x.agrees then queueFault q s
  else
    let h := (x.headA + 1) % 65536
    queueRoom q (s.setQueue q { x with headA := h, headB := h, items := x.items.filter (fun it => it.ref != seq) })

end Sys2Proof.Machine
end

