-- ==== Sys2Proof/Machine/Calendar.lean ====
section
/-! DEFINITION. The calendar counter: updates, votes, the slow advance, slews and reads (R61 to R71, R92 to
R95). -/

namespace Sys2Proof.Machine

/-- The increment and the new PHASE of a SLOW_CLK edge (R66). -/
def slowStep (phase : Nat) : Nat × Nat :=
  if 64 ≤ phase + 7 then (3663, phase + 7 - 64) else (3662, phase + 7)

/-- Advance all copies by `n`, each by its own incrementer (R63, R65). -/
def addTicks (n : Nat) (s : State) : State :=
  { s with cal.copyA := s.cal.copyA + BitVec.ofNat 64 n, cal.copyB := s.cal.copyB + BitVec.ofNat 64 n,
           cal.copyC := s.cal.copyC + BitVec.ofNat 64 n }

/-- One SLOW_CLK edge of the slow advance (R66). -/
def slowEdge (s : State) : State :=
  let st := slowStep (s.fld F.TMB_STAT_PHASE)
  addTicks st.1 (s.setFld F.TMB_STAT_PHASE st.2)

/-- The slow advance begins (R69, SLOW_WHY). -/
def slowBegin (why : Nat) (s : State) : State :=
  let s := s.setFlag F.TMB_STAT_SLOW true
  let s := s.setFld F.TMB_STAT_SLOW_WHY why
  post 0 sevInfo 0x0006 (arg1 why) { s with cal.slowPend := none, cal.stable := 0 }

/-- Enter the slow advance with a reason: at the next SLOW_CLK edge, S0 (R69); without SLOW_CLK the count holds from
now on (R61). -/
def enterSlow (why : Nat) (s : State) : State :=
  if s.flag F.TMB_STAT_SLOW then s.setFld F.TMB_STAT_SLOW_WHY why
  else if s.flag F.CLK_STAT_SLOW_OK then { s with cal.slowPend := some why }
  else slowBegin why s

/-- The slow advance is in use, or begins at the next SLOW_CLK edge. -/
def State.slowing (s : State) : Bool := s.flag F.TMB_STAT_SLOW || s.cal.slowPend.isSome

/-- MAC_CLK runs from a PLL locked to a reference within tolerance (R60, R70). -/
def State.macReady (s : State) : Bool :=
  s.flag F.CLK_STAT_PLL_LOCK && s.flag F.CLK_STAT_REF_OK && s.flag F.CLK_GATE_MAC_RUN

/-- A period in which the reference monitor counted `c` edges of REFCLK deviates: by more than 1 % of 1,171.875, or
of 585.9375 at 19.2 MHz (R60). -/
def State.deviates (s : State) (c : Nat) : Bool :=
  let e := if s.flag F.CLK_STAT_REFSEL then 9375 else 18750
  e < 100 * (if 16 * c ≤ e then e - 16 * c else 16 * c - e)

/-- A reference loss is declared (R60): the PLL has lost lock, or SLOW_CLK runs and the last four periods deviate. -/
def State.refLost (s : State) : Option (List Nat) → Bool
  | none => true
  | some l => s.flag F.CLK_STAT_SLOW_OK && 4 ≤ l.length && (l.drop (l.length - 4)).all s.deviates

/-- VOTE_CORRECTED (R63, R64): a copy that held `v` is reloaded from the majority. -/
def runVoteCorrected (copy : Fin 3) (v : Quad) (s : State) : State :=
  if s.flag F.TMB_STAT_CAL_FAULT || v.toNat == s.now then s
  else
    let s := s.count F.TMB_VOTE_ERRCNT_COUNT 1
    let s := s.setFld F.TMB_STAT_LAST_COPY copy.val
    let due := match s.cal.voteAt with
      | none => true
      | some t => t + 120000 ≤ s.now
    if due then
      let s := post 0 sevRecovered 0x0001 (arg1 copy.val ++ arg8 v.toNat ++ arg2 s.cal.voteFolded) s
      { s with cal.voteAt := some s.now, cal.voteFolded := 0 }
    else { s with cal.voteFolded := s.cal.voteFolded + 1 }

/-! ### Slews (R94) -/

/-- Start a slew of `ofs` ticks at `rate` ppm; the record of a replaced one carries the offset left. -/
def startSlew (ofs : Int) (rate : Nat) (s : State) : State :=
  let s := if s.flag F.TMB_STAT_SLEWING then
      post 0 sevInfo 0x0008 (arg4 (s.fld F.TMB_SLEW_REM_REMAINING)) s
    else s
  let s := s.setFld F.TMB_SLEW_REM_REMAINING (unsignedOf 32 ofs)
  let s := s.setFlag F.TMB_STAT_SLEWING true
  { s with cal.slewStep := (1000000 + rate - 1) / rate, cal.slewCount := 0 }

/-- SLEW_DONE (R94): due once the offset has been consumed. -/
def runSlewDone (s : State) : State :=
  if s.flag F.TMB_STAT_SLEWING && s.fld F.TMB_SLEW_REM_REMAINING == 0 then
    let s := s.setFlag F.TMB_STAT_SLEWING false
    post 0 sevInfo 0x0008 (arg4 0) { s with host.pps.slewing := false }
  else s

/-- Abandon a slew (R94). -/
def abandonSlew (s : State) : State :=
  let s := s.setFlag F.TMB_STAT_SLEWING false
  let s := s.setFld F.TMB_SLEW_REM_REMAINING 0
  { s with host.pps.slewing := false }

/-- The increment of one MAC_CLK tick, with the slew's part in it (R94). -/
def macIncrement (s : State) : Nat × State :=
  let rem := s.sfld F.TMB_SLEW_REM_REMAINING
  if !s.flag F.TMB_STAT_SLEWING || rem = 0 then (1, s)
  else if s.cal.slewCount + 1 < s.cal.slewStep then
    (1, { s with cal.slewCount := s.cal.slewCount + 1 })
  else
    let s := { s with cal.slewCount := 0 }
    if 0 < rem then (2, s.setFld F.TMB_SLEW_REM_REMAINING (unsignedOf 32 (rem - 1)))
    else (0, s.setFld F.TMB_SLEW_REM_REMAINING (unsignedOf 32 (rem + 1)))

/-! ### Reads -/

/-- Key of a reader in the snapshots of R95. -/
def writerKey : Writer → Nat
  | .bar0 => 0x100
  | .req n => n.toNat

/-- TMB_NOW_LO_READ (R95). -/
def runTmbNowLoRead (w : Writer) (s : State) : State :=
  let hi : Word := BitVec.ofNat 32 (s.now / 2 ^ 32)
  { s with cal.nowHi := s.cal.nowHi.set 0 (writerKey w) hi, readData := BitVec.ofNat 32 s.now }

/-! ### Commands -/

/-- TIME_READ (R92). -/
def opTimeRead (p : Packet) (s : State) : State :=
  let st := s.fld F.TMB_STAT_CAL_FAULT + 2 * s.fld F.TMB_STAT_SLOW + 4 * s.fld F.TMB_STAT_SLEWING
  done p (leBytes 8 s.now ++ leBytes 1 st ++ leBytes 3 0 ++ leBytes 4 (s.fld F.TMB_VOTE_ERRCNT_COUNT) ++
    leBytes 4 (s.fld F.TMB_SLOW_ERR_PPB)) s

def runTimeRead (p : Packet) (s : State) : State := command 0x1001 (lenIs 0) coreModes opTimeRead p s

/-- TIME_SLEW (R94). -/
def opTimeSlew (p : Packet) (s : State) : State :=
  checked p
    [(p.u16 4 < 1 || 1000 < p.u16 4 || p.dirty 6 2, St.BAD_PARAM),
     (s.flag F.TMB_STAT_CAL_FAULT, St.FAULT_PENDING)]
    (fun s => done p [] { startSlew (p.i32 0) (p.u16 4) s with host.pps.slewing := false }) s

def runTimeSlew (p : Packet) (s : State) : State := command 0x1003 (lenIs 8) radioModes opTimeSlew p s

/-- SLOW_CLK_START (R61, R544): SLOW_CLK is present from now on. -/
def runSlowClkStart (s : State) : State := s.setFlag F.CLK_STAT_SLOW_OK true

end Sys2Proof.Machine
end

