-- ==== Sys2Proof/Machine/Timers.lean ====
section
/-! DEFINITION. Class-L timers, class-I timers and capture units (R72 to R87). -/

namespace Sys2Proof.Machine

/-! ### Ownership (R87, R464) -/

/-- Count an ignored write in TMR_IGN_CNT. -/
def tmrIgnore (w : Writer) (s : State) : State :=
  let r := writerNum w s
  (r.2.count F.TMR_IGN_CNT_COUNT 1).setFld F.TMR_IGN_CNT_LAST_REQ r.1

/-- A write to a timer or unit acts only for its holder. -/
def tmrOwned (w : Writer) (res off : Nat) (act : State → State) (s : State) : State :=
  atReg off (fun s => if s.holds w res then act s else tmrIgnore w s) s

/-- Signal the owner of a timer or unit: a host ring has vector 37 (R449). -/
def signalOwner (res : Nat) (s : State) : State :=
  if s.holds .bar0 res then signal 37 s else s

/-- The timers run (R77): in every mode except COLD and QUARANTINE. -/
def State.timersRun (s : State) : Bool := !s.inMode [.cold, .quarantine]

/-! ### Capture units (R83 to R86) -/

def State.capture (s : State) (n : Nat) : Capture := s.timers.caps.get Capture.reset n
def State.setCapture (n : Nat) (c : Capture) (s : State) : State :=
  { s with timers.caps := s.timers.caps.set Capture.reset n c }

/-- A capture in progress is tainted (R86). -/
def State.taints (s : State) : Bool := s.flag F.TMB_STAT_CAL_FAULT || s.flag F.TMB_STAT_SLEWING

/-- In the slow advance only pins and class-L fires produce captures (R84). -/
def State.captures (s : State) (src : Nat) : Bool := !s.flag F.TMB_STAT_SLOW || src ≤ 5 || 0x20 ≤ src

/-- Put a value into VALUE (R85, rule 3). -/
def capStore (n : Nat) (v : Quad) (taint : Bool) (s : State) : State :=
  let s := if s.flag (F.TMR_CAP_STAT_VALID n) then s.setFlag (F.TMR_CAP_STAT_OVERWRITE n) true else s
  let s := s.setFlag (F.TMR_CAP_STAT_VALID n) true
  let s := s.setFlag (F.TMR_CAP_STAT_TAINT n) taint
  s.setCapture n { s.capture n with value := v }

/-- A capture of the present CALCNT by unit `n` (R85). -/
def capTake (n : Nat) (s : State) : State :=
  let c := s.capture n
  let v : Quad := BitVec.ofNat 64 s.now
  let s := match c.pairs, c.pending with
    | [], _ => capStore n v s.taints s
    | _, none =>
      (s.setFlag (F.TMR_CAP_STAT_PENDING n) true).setCapture n { c with pending := some (v, s.taints) }
    | _, some _ => s.count (F.TMR_CAP_STAT_OVERRUN n) 1
  if s.flag (F.TMR_CAP_CTL_IE n) then signalOwner (0x0700 + n) s else s

/-- Every unit whose source is `src` captures; pin sources also by edge (R83). -/
def capEvent (src : Nat) (falling : Option Bool) (s : State) : State :=
  if !s.captures src then s
  else (List.range 16).foldl (fun s n =>
    if s.fld (F.TMR_CAP_CTL_SRC n) = src ∧
        (falling = none ∨ falling = some (s.flag (F.TMR_CAP_CTL_EDGE n))) then capTake n s else s) s

/-- The read pairs that a test picks close (R85, rule 6). A pair of another requester stays open (R95), and PENDING
waits for the last of them. -/
def capClose (pick : Nat × Nat → Bool) (n : Nat) (s : State) : State :=
  let c := s.capture n
  let left := c.pairs.filter (fun x => !pick x)
  if !c.pairs.any pick then s
  else match c.pending with
    | none => (s.setCapture n { c with pairs := left }).setFlag (F.TMR_CAP_STAT_VALID n) false
    | some (v, t) =>
      if left.isEmpty then
        let s := s.setCapture n { c with pairs := [], pending := none, value := v }
        let s := s.setFlag (F.TMR_CAP_STAT_PENDING n) false
        (s.setFlag (F.TMR_CAP_STAT_VALID n) true).setFlag (F.TMR_CAP_STAT_TAINT n) t
      else s.setCapture n { c with pairs := left }

/-- CAP_VALUE_LO_READ (R85, R95). -/
def runCapValueLoRead (w : Writer) (n : Fin 16) (s : State) : State :=
  let c := s.capture n.val
  let hi : Word := BitVec.ofNat 32 (c.value.toNat / 2 ^ 32)
  let s := s.setCapture n.val { c with
    pairs := (writerKey w, s.now) :: c.pairs.filter (fun x => x.1 != writerKey w),
    snap := c.snap.set 0 (writerKey w) hi }
  { s with readData := BitVec.ofNat 32 c.value.toNat }

/-- CAP_VALUE_HI_READ (R85). -/
def runCapValueHiRead (w : Writer) (n : Fin 16) (s : State) : State :=
  let hi := (s.capture n.val).snap.get 0 (writerKey w)
  capClose (fun x => x.1 == writerKey w) n.val { s with readData := hi }

/-- CAP_READ_PAIR_TIMEOUT (R85): 64 CORE_CLK cycles are 16 ticks. -/
def runCapReadPairTimeout (n : Fin 16) (s : State) : State :=
  capClose (fun x => decide (x.2 + 16 ≤ s.now)) n.val s

/-- A source that a writer may select for a capture unit (R83, R87): reserved sources never; a pin or a timer's
event only where it is held. -/
def capSrcOk (w : Writer) (src : Nat) (s : State) : Option Bool :=
  if src = 0 ∨ src = 6 ∨ (8 ≤ src ∧ src ≤ 0x0F) then some true
  else if 1 ≤ src ∧ src ≤ 4 then some (s.holds w (0x0200 + (src - 1)))
  else if src = 5 then some (s.holds w 0x0300)
  else if 0x10 ≤ src ∧ src ≤ 0x17 then some (s.holds w (0x0600 + (src - 0x10)))
  else if 0x20 ≤ src ∧ src ≤ 0x3F then some (s.holds w (0x0500 + (src - 0x20)))
  else none

/-- A write of TMR_CAPn_CTL (R83): a reserved source leaves SRC as it was; a write that selects a source the owner does
not hold is refused, and changes nothing. -/
def capCtlWrite (w : Writer) (n : Nat) (v : Word) (s : State) : State :=
  tmrOwned w (0x0700 + n) (R.TMR_CAP_CTL n) (fun s =>
    let src := v.toNat % 64
    let s' := (s.setFlag (F.TMR_CAP_CTL_EDGE n) (v.toNat / 128 % 2 == 1)).setFlag (F.TMR_CAP_CTL_IE n)
      (v.toNat / 64 % 2 == 1)
    match capSrcOk w src s with
    | some true => s'.setFld (F.TMR_CAP_CTL_SRC n) src
    | some false => s
    | none => s') s

/-- A write of TMR_CAPn_STAT: OVR_CLR clears OVERRUN, OVERWRITE is W1C. -/
def capStatWrite (w : Writer) (n : Nat) (v : Word) (s : State) : State :=
  tmrOwned w (0x0700 + n) (R.TMR_CAP_STAT n) (fun s =>
    let s := if v.toNat / 16 % 2 = 1 then s.setFld (F.TMR_CAP_STAT_OVERRUN n) 0 else s
    if v.toNat / 4 % 2 = 1 then s.setFlag (F.TMR_CAP_STAT_OVERWRITE n) false else s) s

/-! ### Class-L timers (R72 to R77) -/

/-- V is passed by an update from `old` to `new` (R73). -/
def passes (v old new : Nat) : Bool := (v + 2 ^ 32 - old % 2 ^ 32 - 1) % 2 ^ 32 < new - old

/-- Distance from the landing to the match: 1 to 2^32. -/
def lapDistance (v old : Nat) : Nat := (v + 2 ^ 32 - old % 2 ^ 32 - 1) % 2 ^ 32 + 1

/-- Timer `n` is armed and its value has been passed since it landed. -/
def State.dueL (s : State) (n : Nat) : Bool :=
  s.timersRun && s.flag (F.TMR_L_CTL_ARM n) &&
    passes (s.fld (F.TMR_L_CMP_V n)) (s.timers.since.get 0 n) s.now

/-- Every lane program that waits on a class-L timer is woken (R75); what it waits on next is its own. -/
def wakeLanes (n : Nat) (s : State) : State :=
  s.mac.lanes.foldl (fun (s : State) (e : Nat × Lane) =>
    if e.2.waits / 2 ^ n % 2 = 0 then s
    else
      let r := s.draw
      let l := { e.2 with waits := r.1 % 2 ^ 32, wakes := e.2.wakes + 1 }
      { r.2 with mac.lanes := r.2.mac.lanes.set Lane.reset e.1 l }) s

/-- A class-L timer fires (R75). -/
def fireL (n : Nat) (s : State) : State :=
  let since := s.timers.since.get 0 n
  let v := s.fld (F.TMR_L_CMP_V n)
  let per := s.fld (F.TMR_L_PERIOD_PERIOD n)
  let s := s.setBit F.TMR_L_INT_FIRED n true
  let s := if s.bit F.TMR_L_IE_IE n then signalOwner (0x0500 + n) s else s
  let s := wakeLanes n (capEvent (0x20 + n) none s)
  if per = 0 then s.setFlag (F.TMR_L_CTL_ARM n) false
  else
    let k := (s.now - (since + lapDistance v since)) / per + 1
    let s := s.setFld (F.TMR_L_CMP_V n) (v + k * per)
    let s := s.count (F.TMR_L_CTL_MISSED n) (k - 1)
    { s with timers.since := s.timers.since.set 0 n s.now }

/-- TIMER_L_FIRE: timers that are due fire in ascending number (R76), so lower ones that are due too fire first. -/
def runTimerLFire (n : Fin 32) (s : State) : State :=
  if s.dueL n.val then (List.range (n.val + 1)).foldl (fun s m => if s.dueL m then fireL m s else s) s else s

/-- A match that falls on the landing tick of a write still fires (R74). -/
def fireOnLanding (n : Nat) (s : State) : State := if s.dueL n then fireL n s else s

/-- A write lands (R72, R74): the landing tick is recorded, and a compare value or a re-arm is tested from it on. -/
def landL (l : Landing) (s : State) : State :=
  let n := l.timer
  let s := (fireOnLanding n s).setFld (F.TMR_L_LAND_LANDED n) s.now
  let s := match l.value with
    | some v => (s.setFld (F.TMR_L_CMP_V n) v).setFld (F.TMR_L_CTL_MISSED n) 0
    | none => s
  if l.arm then
    let s := (s.setFlag (F.TMR_L_CTL_ARM n) true).setFlag (F.TMR_L_CTL_FAULT_DISARM n) false
    { s with timers.since := s.timers.since.set 0 n s.now }
  else s.setFlag (F.TMR_L_CTL_ARM n) false

/-- Writes on their way to a landing tick, as one update of CALCNT passes: a SLOW_CLK edge of the slow advance lands
them all (R72). -/
def landings (slow : Bool) (s : State) : State :=
  let due (l : Landing) : Bool := slow || decide (l.left ≤ 1)
  let rest := (s.timers.landings.filter (fun l => !due l)).map (fun l => { l with left := l.left - 1 })
  (s.timers.landings.filter due).foldl (fun s l => landL l s) { s with timers.landings := rest }

/-- A write to a class-L timer is under way: it lands 1 to 4 ticks on (R72), not before an earlier write to the timer. -/
def sendL (n : Nat) (value : Option Nat) (arm : Bool) (s : State) : State :=
  let r := s.draw
  let before := (s.timers.landings.filter (fun l => l.timer == n)).foldl (fun m l => max m l.left) 0
  { r.2 with timers.landings := r.2.timers.landings ++
      [{ timer := n, left := max (r.1 % 4 + 1) before, value := value, arm := arm }] }

/-- TMR_L_CMP_WRITE (R74). -/
def runTmrLCmpWrite (w : Writer) (n : Fin 32) (v : Word) (s : State) : State :=
  tmrOwned w (0x0500 + n.val) (R.TMR_L_CMP n.val) (sendL n.val (some v.toNat) true) s

/-- TMR_L_REARM (R74): ARM written 1. -/
def runTmrLRearm (w : Writer) (n : Fin 32) (s : State) : State :=
  tmrOwned w (0x0500 + n.val) (R.TMR_L_CTL n.val) (sendL n.val none true) s

/-- TMR_L_DISARM (R74): ARM written 0. -/
def runTmrLDisarm (w : Writer) (n : Fin 32) (s : State) : State :=
  tmrOwned w (0x0500 + n.val) (R.TMR_L_CTL n.val) (sendL n.val none false) s

/-- The class-L timers that a writer holds, as a mask (R87). -/
def State.heldL (s : State) (w : Writer) : Nat :=
  (List.range 32).foldl (fun m n => if s.holds w (0x0500 + n) then m + 2 ^ n else m) 0

/-- TMR_L_INT_WRITE: a write of TMR_L_INT (W1C) or TMR_L_IE acts on held bits only; counted once where it would
have changed another bit (R87). -/
def runTmrLIntWrite (w : Writer) (ie : Bool) (v : Word) (s : State) : State :=
  atReg (if ie then R.TMR_L_IE else R.TMR_L_INT) (fun s =>
    let m : Word := BitVec.ofNat 32 (s.heldL w)
    if ie then
      let old := s.word R.TMR_L_IE
      let s := s.setWord R.TMR_L_IE ((old &&& ~~~m) ||| (v &&& m))
      if (old ^^^ v) &&& ~~~m ≠ 0 then tmrIgnore w s else s
    else
      let old := s.word R.TMR_L_INT
      let s := s.setWord R.TMR_L_INT (old &&& ~~~(v &&& m))
      if v &&& ~~~m ≠ 0 then tmrIgnore w s else s) s

/-! ### Class-I timers (R78 to R82) -/

def State.timerI (s : State) (n : Nat) : TimerI := s.timers.timerI.get TimerI.reset n
def State.setTimerI (n : Nat) (t : TimerI) (s : State) : State :=
  { s with timers.timerI := s.timers.timerI.set TimerI.reset n t }

/-- Smallest prescaler of a source, with 16 fraction bits (R78). -/
def minPresc (src : Nat) : Nat :=
  match src with
  | 0 => 8 * 65536
  | 1 | 4 => 2 * 65536
  | _ => 65536

/-- The P in effect is the larger of the one written and the source's minimum; P_CLAMP says that a write left
it above the one written (R79). -/
def recomputeP (n : Nat) (s : State) : State :=
  let t := s.timerI n
  let lo := minPresc (s.fld (F.TMR_I_CTL_SRC n))
  let s := s.setWord (R.TMR_I_PRESC n) (BitVec.ofNat 32 (if t.pWritten ≤ lo then lo else t.pWritten))
  let s := if t.pWritten < lo then s.setFlag (F.TMR_I_STAT_P_CLAMP n) true else s
  s.setTimerI n { t with acc := 0 }

/-- The units that arrive at one MGT_CLK edge: of CORE_CLK and MAC_CLK while they run, of the other sources those that
came in since the edge before (R78). -/
def edgeUnits (src pending : Nat) (coreRuns macRuns : Bool) : Nat :=
  match src with
  | 0 => if coreRuns then 8 else 0
  | 1 => if macRuns then 2 else 0
  | 2 => 1
  | _ => pending

/-- One MGT_CLK edge of a timer (R79, R80), from COUNT, CMP and the rest: EQ follows what happened at the edge before;
then writes land, and COUNT steps at most once, but at the edge of a match with CLR_ON_MATCH it becomes 0 (R82). -/
def TimerI.edge (on clr : Bool) (p u : Nat) (cnt cmp : Word) (t : TimerI) : Word × Word × TimerI :=
  let eq := if t.stepped then cnt == t.oldCmp.getD cmp else if t.oldCmp.isSome then cnt == cmp else t.eq
  let rose := eq && !t.eq
  let acc := if on then t.acc + 65536 * u else t.acc
  let step := on && decide (p ≤ acc)
  let clear := rose && clr
  (if clear then 0 else t.cntW.getD (if step then cnt + 1 else cnt), t.cmpW.getD cmp,
   { t with acc := if step then acc - p else acc, units := 0, eq := eq,
            stepped := step || t.cntW.isSome || clear, oldCmp := t.cmpW.map (fun _ => cmp), cmpW := none, cntW := none,
            due := t.due + (if rose then 1 else 0) })

/-- Several edges in succession. -/
def TimerI.edges (on clr : Bool) (p : Nat) (unit : Nat → Nat) : Nat → Word → Word → TimerI → Word × Word × TimerI
  | 0, cnt, cmp, t => (cnt, cmp, t)
  | k + 1, cnt, cmp, t =>
    let r := TimerI.edge on clr p (unit t.units) cnt cmp t
    TimerI.edges on clr p unit k r.1 r.2.1 r.2.2

/-- A timer that does not count, with nothing on its way: an edge changes nothing. -/
def TimerI.quiet (t : TimerI) : Bool := !t.stepped && t.oldCmp.isNone && t.cmpW.isNone && t.cntW.isNone

/-- `k` MGT_CLK edges of timer `n`. -/
def edgeI (n k : Nat) (s : State) : State :=
  let t := s.timerI n
  let on := s.flag (F.TMR_I_CTL_EN n)
  if !on && t.quiet then s
  else
    let unit := fun u => edgeUnits (s.fld (F.TMR_I_CTL_SRC n)) u (s.flag F.CLK_GATE_CORE_RUN) (s.flag F.CLK_GATE_MAC_RUN)
    let r := TimerI.edges on (s.flag (F.TMR_I_CTL_CLR_ON_MATCH n)) (s.word (R.TMR_I_PRESC n)).toNat unit k
      (s.word (R.TMR_I_COUNT n)) (s.word (R.TMR_I_CMP n)) t
    ((s.setWord (R.TMR_I_COUNT n) r.1).setWord (R.TMR_I_CMP n) r.2.1).setTimerI n r.2.2

/-- Units of the pin, CALCNT and SLOW_CLK sources gather until the next MGT_CLK edge. -/
def gatherI (src units : Nat) (s : State) : State :=
  (List.range 8).foldl (fun s n =>
    if s.fld (F.TMR_I_CTL_SRC n) = src ∧ s.flag (F.TMR_I_CTL_EN n) = true then
      s.setTimerI n { s.timerI n with units := (s.timerI n).units + units }
    else s) s

/-- TMR_I_CMP_WRITE (R80): the write lands at the next MGT_CLK edge. -/
def runTmrICmpWrite (w : Writer) (n : Fin 8) (v : Word) (s : State) : State :=
  tmrOwned w (0x0600 + n.val) (R.TMR_I_CMP n.val)
    (fun s => s.setTimerI n.val { s.timerI n.val with cmpW := some v }) s

/-- TMR_I_COUNT_WRITE: an update under rule 1 of R80. -/
def runTmrICountWrite (w : Writer) (n : Fin 8) (v : Word) (s : State) : State :=
  tmrOwned w (0x0600 + n.val) (R.TMR_I_COUNT n.val)
    (fun s => s.setTimerI n.val { s.timerI n.val with cntW := some v }) s

/-- TMR_I_PRESC_WRITE (R79). -/
def runTmrIPrescWrite (w : Writer) (n : Fin 8) (v : Word) (s : State) : State :=
  tmrOwned w (0x0600 + n.val) (R.TMR_I_PRESC n.val) (fun s =>
    recomputeP n.val (s.setTimerI n.val { s.timerI n.val with pWritten := v.toNat })) s

/-- TMR_I_CTL_WRITE (R78, R79, R87): a write that selects a reserved source, or a pin that its owner does not hold,
changes nothing. -/
def runTmrICtlWrite (w : Writer) (n : Fin 8) (v : Word) (s : State) : State :=
  tmrOwned w (0x0600 + n.val) (R.TMR_I_CTL n.val) (fun s =>
    let src := v.toNat / 16 % 16
    if 9 ≤ src then s
    else if 5 ≤ src ∧ s.holds w (0x0200 + (src - 5)) = false then s
    else recomputeP n.val (s.setWord (R.TMR_I_CTL n.val) (v &&& 0xFF#32))) s

/-- A write of TMR_In_STAT: MATCH is W1C and clears MATCH_CNT with it; P_CLAMP is W1C. -/
def tmrIStatWrite (w : Writer) (n : Nat) (v : Word) (s : State) : State :=
  tmrOwned w (0x0600 + n) (R.TMR_I_STAT n) (fun s =>
    let s := if v.toNat % 2 = 1 then
        (s.setFlag (F.TMR_I_STAT_MATCH n) false).setFld (F.TMR_I_STAT_MATCH_CNT n) 0
      else s
    if v.toNat / 2 % 2 = 1 then s.setFlag (F.TMR_I_STAT_P_CLAMP n) false else s) s

/-- PPS_OUT rises for WIDTH MGT_CLK cycles on a match of its timer (R456). -/
def ppsPulse (n : Nat) (s : State) : State :=
  if s.flag F.MGT_PPS_CTL_OUT_EN && s.fld F.MGT_PPS_CTL_TIMER == n && !s.flag F.TMB_STAT_CAL_FAULT then
    capEvent 0x06 none { s with host.pps.out := true, host.pps.left := s.fld F.MGT_PPS_CTL_WIDTH }
  else s

/-- TIMER_I_MATCH (R82): due for every rise of EQ. -/
def runTimerIMatch (n : Fin 8) (s : State) : State :=
  let t := s.timerI n.val
  if t.due = 0 then s
  else
    let s := s.setTimerI n.val { t with due := t.due - 1 }
    let s := s.setFlag (F.TMR_I_STAT_MATCH n.val) true
    let s := s.count (F.TMR_I_STAT_MATCH_CNT n.val) 1
    let s := if s.flag (F.TMR_I_CTL_IE n.val) then signalOwner (0x0600 + n.val) s else s
    ppsPulse n.val (capEvent (0x10 + n.val) none s)

/-! ### Pins (R84) -/

/-- GPT_IN_EDGE: the synchronised level of a pin changes. -/
def runGptInEdge (pin : Fin 4) (rising : Bool) (s : State) : State :=
  if s.timers.gptLevel.get false pin.val == rising || !s.timersRun then s
  else
    let s := { s with timers.gptLevel := s.timers.gptLevel.set false pin.val rising }
    let s := (List.range 8).foldl (fun s n =>
      if s.fld (F.TMR_I_CTL_SRC n) = 5 + pin.val ∧ s.flag (F.TMR_I_CTL_EN n) = true ∧
          s.flag (F.TMR_I_CTL_EDGE n) = !rising then
        s.setTimerI n { s.timerI n with units := (s.timerI n).units + 1 }
      else s) s
    capEvent (1 + pin.val) (some (!rising)) s

/-- The error of a PPS_IN capture (R457). -/
def ppsError (c phase : Nat) : Int :=
  let e := (c + 120000000 - phase % 120000000) % 120000000
  if 60000000 ≤ e then (e : Int) - 120000000 else (e : Int)

/-- PPS_ALIGN (R457): on the timekeeper an untainted capture slews CALCNT. -/
def ppsAlign (s : State) : State :=
  if !s.flag F.MGT_PPS_CTL_ALIGN || s.taints then s
  else
    let e := ppsError s.now (s.fld F.MGT_PPS_PHASE_PHASE)
    let s := s.setFld F.MGT_PPS_ERR_E (unsignedOf 32 e)
    if s.flag F.ZFB_ID_REGISTRAR && !s.host.pps.slewing && 12 < e.natAbs then
      { startSlew (-e) (s.fld F.ZFB_TIME_CFG_RATE) s with host.pps.slewing := true }
    else s

/-- PPS_IN_EDGE. -/
def runPpsInEdge (rising : Bool) (s : State) : State :=
  if s.timers.ppsLevel == rising || !s.timersRun then s
  else
    let s := { s with timers.ppsLevel := rising }
    let unit := s.fld F.MGT_PPS_CTL_CAP
    let named := s.fld (F.TMR_CAP_CTL_SRC unit) == 5 && s.flag (F.TMR_CAP_CTL_EDGE unit) == !rising
    let s := capEvent 5 (some (!rising)) s
    if named then ppsAlign { s with host.pps.lastCap := s.now, host.pps.lost := false } else s

/-- PPS_LOST (R457): no capture for 2 s while ALIGN is set. -/
def runPpsLost (s : State) : State :=
  let from_ := if s.host.pps.lastCap ≤ s.host.pps.since then s.host.pps.since else s.host.pps.lastCap
  if s.flag F.MGT_PPS_CTL_ALIGN && !s.host.pps.lost && from_ + 240000000 ≤ s.now then
    mgtCause 6 (post 1 sevDegraded 0x1504 (arg8 s.host.pps.lastCap) { s with host.pps.lost := true })
  else s

end Sys2Proof.Machine
end

