-- ==== Sys2Proof/Machine/Interp.lean ====
section
/-! DEFINITION. The command interpreter and its transports: arrival, the schedule table, the order of starts,
host rings and the SMBus mailbox (R24 to R56, R560, R562). -/

namespace Sys2Proof.Machine

/-! ### Operations and who may ask for them (R30, R32) -/

/-- Opcodes with one accepted LEN. -/
def fixedLens : List (Nat × Nat) :=
  [(0x0002, 8), (0x0003, 0), (0x0010, 4), (0x0011, 0), (0x0012, 8),
   (0x1001, 0), (0x1002, 16), (0x1003, 8),
   (0x2001, 8), (0x2002, 4), (0x2003, 12), (0x2004, 272), (0x2005, 4),
   (0x3001, 16), (0x3002, 4), (0x3003, 48), (0x3004, 8), (0x3010, 40), (0x3011, 4),
   (0x4001, 32), (0x4002, 28), (0x4003, 40), (0x4004, 32), (0x4005, 4), (0x4006, 4), (0x4007, 12),
   (0x4008, 4), (0x5001, 52), (0x5002, 8), (0x5003, 0), (0x5004, 4)] ++
  [(0x6001, 84), (0x6002, 84), (0x6003, 84), (0x6004, 8), (0x6005, 0), (0x6006, 12), (0x6007, 4),
   (0x6101, 4), (0x6102, 12), (0x6103, 4),
   (0x7001, 96), (0x7002, 0), (0x7003, 4), (0x7004, 12), (0x7005, 4),
   (0x8001, 32), (0x8002, 4), (0x8003, 16), (0x8004, 4), (0x8101, 20), (0x8102, 20),
   (0x9001, 48), (0x9003, 12), (0x9004, 4), (0x9005, 4),
   (0xA001, 24), (0xA002, 0), (0xB001, 16), (0xB002, 0), (0xB003, 8), (0xB004, 12), (0xB005, 4),
   (0xB006, 0), (0xC003, 4), (0xC010, 24), (0xC020, 16), (0xD001, 0), (0xD002, 0),
   (0xF101, 32), (0xF102, 4), (0xF103, 4), (0xF201, 276), (0xF301, 8)]

/-- LEN of the operations whose LEN depends on a COUNT among their parameters: it is accepted where it fits a COUNT
that the operation allows. -/
def resLen (p : Packet) : Bool := p.n == 4 + 2 * p.u16 0 && 1 ≤ p.u16 0 && p.u16 0 ≤ 16
def targetLen (p : Packet) : Bool := p.n == 8 + 4 * p.u16 4 && p.u16 4 ≤ 120
def chunkLen (p : Packet) : Bool := p.n == 8 + p.u16 4 && p.u16 4 ≤ 480
def loadLen (p : Packet) : Bool := p.n == 8 + p.u16 4 && 1 ≤ p.u16 4 && p.u16 4 ≤ 480
def restoreLen (p : Packet) : Bool := p.n == 8 + 8 * p.u16 0 && p.u16 0 ≤ 61

/-- Whether an opcode is defined, and whether it accepts the packet's LEN (R30, checks 3 and 4). -/
def opLen (p : Packet) : Option Bool :=
  match p.opcode.toNat with
  | 0x0001 => some (p.n ≤ 496)
  | 0x0013 => some (chunkLen p)
  | 0xF001 => some (loadLen p)
  | 0x6104 => some (restoreLen p)
  | 0x9002 => some (targetLen p)
  | 0xC001 | 0xC002 => some (resLen p)
  | op => (fixedLens.find? (fun e => e.1 == op)).map (fun e => p.n == e.2)

/-- The class of a command is permitted for its issuer (R32, R33). -/
def State.permitted (s : State) (p : Packet) : Bool :=
  let i := p.issuer.toNat
  let c := p.cls
  if 0x80 ≤ i ∧ i ≤ 0x8F then c != 0xF
  else if i = 0x90 then s.bit F.CMD_CLASS_MASK_SMB_CLASSES c
  else if 0x40 ≤ i ∧ i ≤ 0x7F then
    s.flag F.CMD_CTL_ZOANT_EN && s.zoant.registrar != 0 && i == 0x40 + s.fld F.ZFB_ID_REG_ID &&
      s.bit F.CMD_CLASS_MASK_ZOANT_CLASSES c
  else if 2 ≤ i ∧ i ≤ 5 then c != 0xF
  else if i = 1 then c == 0xF || p.opcode == 0x0010
  else false

/-- The management controller interprets the command (R32, R34). -/
def byManagement (p : Packet) : Bool :=
  p.cls == 0xD || p.cls == 0xF || p.opcode == 0x0010 || p.opcode == 0x0011 || p.opcode == 0x0012

/-- Checks 1 to 5 of R30, then R40, R35 and R34, in the order of R30. -/
def State.arrivalFail (s : State) (p : Packet) : Option Nat :=
  let nb := p.notBefore.toNat
  firstFail
    [(496 < p.n, St.BAD_LENGTH),
     (8 ≤ p.flags.toNat, St.BAD_PARAM),
     (!s.permitted p, St.NOT_PERMITTED),
     (opLen p == none, St.BAD_OPCODE),
     (opLen p == some false, St.BAD_LENGTH),
     (s.now + 2 ^ 40 < nb, St.BAD_PARAM),
     (s.flag F.TMB_STAT_CAL_FAULT && nb != 0, St.FAULT_PENDING),
     (s.now < nb && 256 ≤ s.interp.sched.length, St.BUSY),
     (!byManagement p && !s.coresServe, St.NOT_IN_MODE)]

/-- A command that came through a queue leaves it (R45, R50). -/
def leaveQueue (p : Packet) (seq : Nat) (slot : Option Nat) (s : State) : State :=
  match slot with
  | none => s
  | some k =>
    let i := p.issuer.toNat
    if 0x80 ≤ i then writeBack (i - 0x80) (passSlot (i - 0x80) k (queueLeave (i - 0x70) seq s))
    else queueLeave cmdQid seq s

/-- A command arrives whole: answered, scheduled or ready (R30, R35). A ready one stays in its queue until it
starts. -/
def arrive (p : Packet) (slot : Option Nat) (s : State) : State :=
  let seq := s.interp.nextSeq
  let s := { s with interp.nextSeq := seq + 1 }
  match s.arrivalFail p with
  | some st => leaveQueue p seq slot (reply p st [] s)
  | none =>
    if s.now < p.notBefore.toNat then
      leaveQueue p seq slot { s with interp.sched := s.interp.sched ++ [⟨p, seq, s.now, none⟩] }
    else { s with interp.ready := s.interp.ready ++ [⟨p, seq, s.now, slot⟩] }

/-- A command enters a queue that has room, and arrives. -/
def arriveQueued (q slot : Nat) (p : Packet) (s : State) : State :=
  arrive p (some slot) (queueEnter q ⟨[], p.wire, 0, 0, s.now, s.interp.nextSeq⟩ s)

/-- Commands of the firmware that wait for room in their queue arrive as far as there is room (R50, R51). -/
def firmwareNext : Nat → State → State
  | 0, s => s
  | k + 1, s =>
    match (s.queue cmdQid).waiting with
    | [] => s
    | it :: l =>
      if s.queueFull cmdQid then s
      else firmwareNext k (arriveQueued cmdQid 0 (Packet.ofBytes it.data)
        (s.setQueue cmdQid { s.queue cmdQid with waiting := l }))

/-- A command that the firmware issues to itself (R26, R50): the core or the management controller has set ISSUER; one
that is not its own number is not permitted. -/
def firmwareCommand (own : Bool) (p : Packet) (s : State) : State :=
  if !own then
    firmwareReply ⟨p.opcode, p.tag, BitVec.ofNat 16 St.NOT_PERMITTED, BitVec.ofNat 64 s.now, [], p.ackReq⟩ s
  else if !(s.queue cmdQid).agrees then
    reply p St.INTERNAL [] (queueFault cmdQid s)
  else if s.queueFull cmdQid || !(s.queue cmdQid).waiting.isEmpty then
    s.setQueue cmdQid { s.queue cmdQid with
      waiting := (s.queue cmdQid).waiting ++ [⟨[], p.wire, 0, 0, s.now, 0⟩] }
  else arriveQueued cmdQid 0 p s

/-- The fetch engine may fetch from a ring (R24, R44, R46, R557, R562). -/
def State.mayFetch (s : State) (n : Nat) : Bool :=
  (s.ringLive n || ((s.ring n).inFlight && !s.flag (F.CMD_RING_CTL_STOPPED n) && s.flag F.PCI_LINK_BME)) &&
    s.flag F.CMD_CTL_HOST_EN && !s.interp.cpStopped &&
    !s.inMode [.cold, .quarantine] && (s.ring n).fetch != (s.ring n).piCmd

/-- COMMAND_ARRIVAL (R30): `none` is a fetch that ended in a completion error. -/
def runCommandArrival (t : Transport) (p : Option Packet) (s : State) : State :=
  match t, p with
  | .ring n, none =>
    if !s.mayFetch n.val then s
    else
      let g := s.ring n.val
      let s := s.setRing n.val { g with errs := g.errs + 1 }
      if 2 ≤ g.errs + 1 then ringStop n.val 3 s else s
  | .ring n, some p =>
    if !s.mayFetch n.val then s
    else
      let g := s.ring n.val
      let slot := g.fetch
      let g := { g with errs := 0, inFlight := false }
      if !(s.queue (16 + n.val)).agrees then queueFault (16 + n.val) (s.setRing n.val g)
      else
        let s := s.setRing n.val { g with fetch := (slot + 1) % 65536 }
        if g.ahead.contains slot then s
        else arriveQueued (16 + n.val) slot { p with issuer := BitVec.ofNat 8 (0x80 + n.val) } s
  | .smbus, _ =>
    let m := s.interp.mbox
    let p := { Packet.ofBytes (m.mem.getRun 0 0 512) with issuer := 0x90 }
    if !m.submitted || (s.interp.cpStopped && p.cls != 0xF) || s.inMode [.cold] then s
    else arrive p none { s with interp.mbox.submitted := false }
  | .zoant port chip, some p =>
    if s.inMode [.cold, .quarantine] then s
    else if zoantLimit ≤ s.zoant.outstanding then
      -- it waits in the receiver, whose credit is held back (R49)
      let f : ZFrame := ⟨s.chipNo, false, chip.val, 1, 8, 0, p.wire.length, true, .command p⟩
      { s with zoant.rxHeld := s.zoant.rxHeld ++ [(port.val, ⟨f, none⟩)] }
    else arrive { p with issuer := BitVec.ofNat 8 (0x40 + chip.val) } none
      { s with zoant.outstanding := s.zoant.outstanding + 1 }
  | .firmware _, some p =>
    if s.interp.cpRunning then firmwareCommand (2 ≤ p.issuer.toNat && p.issuer.toNat ≤ 5) p s else s
  | .management, some p => if s.inMode [.cold] then s else firmwareCommand (p.issuer == 0x01) p s
  | _, none => s

/-- Scheduled commands whose NOT_BEFORE has been reached become ready, unless the table is frozen (R35,
R40). -/
def releaseScheduled (s : State) : State :=
  if s.flag F.TMB_STAT_CAL_FAULT then s
  else
    let due (w : Waiting) : Bool := w.pkt.notBefore.toNat ≤ s.now
    { s with interp.ready := s.interp.ready ++ s.interp.sched.filter due,
             interp.sched := s.interp.sched.filter (fun w => !due w) }

/-- SCHEDULED_COMMAND_READY. -/
def runScheduledCommandReady (s : State) : State := releaseScheduled s

/-! ### The order of starts (R36 to R38) -/

/-- Effective start time: the later of arrival and NOT_BEFORE. -/
def Waiting.effective (w : Waiting) : Nat :=
  if w.arrival ≤ w.pkt.notBefore.toNat then w.pkt.notBefore.toNat else w.arrival

/-- Before in effective start time, then in arrival. -/
def Waiting.before (a b : Waiting) : Bool :=
  a.effective < b.effective || (a.effective == b.effective && a.seq < b.seq)

/-- An earlier command of the same issuer has not completed. -/
def State.earlierOpen (s : State) (w : Waiting) (orderedOnly : Bool) : Bool :=
  let hit (p : Packet) (seq : Nat) : Bool :=
    p.issuer == w.pkt.issuer && seq < w.seq && (!orderedOnly || p.ordered)
  s.interp.sched.any (fun x => hit x.pkt x.seq) || s.interp.ready.any (fun x => hit x.pkt x.seq) ||
    s.interp.running.any (fun x => hit x.pkt x.arrived)

/-- An ORDERED command from `w` on up to `x` itself holds `x` until `w` has completed (R37). -/
def State.heldBehind (s : State) (w x : Waiting) : Bool :=
  let hit (p : Packet) (seq : Nat) : Bool :=
    p.issuer == w.pkt.issuer && p.ordered && w.seq ≤ seq && seq ≤ x.seq
  s.interp.sched.any (fun y => hit y.pkt y.seq) || s.interp.ready.any (fun y => hit y.pkt y.seq)

/-- A ready command may start: in order within its issuer and class, and behind no barrier (R36, R37). -/
def State.mayStart (s : State) (w : Waiting) : Bool :=
  !(s.interp.ready.any (fun x => x.pkt.issuer == w.pkt.issuer && x.pkt.cls == w.pkt.cls && x.before w &&
      !s.heldBehind w x)) &&
    !(s.earlierOpen w true) && !(w.pkt.ordered && s.earlierOpen w false) &&
    (!s.interp.cpStopped || byManagement w.pkt)

/-- `a` goes before `b` where R36 leaves them unordered: URGENT, then requester number, then arrival. -/
def prefer (a b : Waiting) : Bool :=
  if a.pkt.urgent != b.pkt.urgent then a.pkt.urgent
  else if a.pkt.issuer != b.pkt.issuer then a.pkt.issuer.toNat < b.pkt.issuer.toNat
  else a.seq < b.seq

/-- The best of a list. -/
def pickBest (better : Waiting → Waiting → Bool) : List Waiting → Option Waiting
  | [] => none
  | w :: ws => match pickBest better ws with
    | none => some w
    | some v => if better v w then some v else some w

/-- The command that the interpreter starts next in a class. -/
def State.nextStart (s : State) (cls : Nat) : Option Waiting :=
  pickBest prefer (s.interp.ready.filter (fun w => w.pkt.cls == cls && s.mayStart w))

/-- Take a command out of its queue; CI_CMD passes it (R45), and a command that waits for the room arrives. -/
def takeReady (w : Waiting) (s : State) : State :=
  let s := { s with interp.ready := s.interp.ready.filter (fun x => x.seq != w.seq) }
  let s := leaveQueue w.pkt w.seq w.slot s
  firmwareNext (s.queue cmdQid).waiting.length s

/-- The queue that a ready command still lies in has lost its pointers. -/
def State.queueBroken (s : State) (w : Waiting) : Option Nat :=
  let q := if 0x80 ≤ w.pkt.issuer.toNat then w.pkt.issuer.toNat - 0x70 else cmdQid
  if w.slot.isSome && !(s.queue q).agrees then some q else none

/-- Answer the ready commands that a test picks without starting them. -/
def answerReady (pick : Packet → Bool) (status : Nat) (s : State) : State :=
  (s.interp.ready.filter (fun w => pick w.pkt)).foldl (fun s w =>
    if s.interp.ready.any (fun x => x.seq == w.seq) then takeReady w (reply w.pkt status [] s) else s) s

/-- Answer every scheduled command with a status and empty the table (R41). -/
def dropScheduled (status : Nat) (s : State) : State :=
  let l := s.interp.sched
  l.foldl (fun s w => reply w.pkt status [] s) { s with interp.sched := [] }

/-- Answer the started commands that a test picks. -/
def endRunning (pick : Packet → Bool) (status : Nat) (s : State) : State :=
  (s.interp.running.filter (fun r => pick r.pkt)).foldl (fun s r => finish r.seq status [] s) s

/-! ### Host rings (R44 to R47, R56, R562) -/

/-- Host doorbells reach the chip. -/
def State.hostUp (s : State) : Bool :=
  !s.inMode [.cold] && !s.flag F.STP_STRAPS_HOSTIF

/-- HOST_COMMAND_DOORBELL. -/
def runHostCommandDoorbell (n : Fin 16) (pi : BitVec 16) (s : State) : State :=
  if !s.hostUp || s.inMode [.quarantine] then s
  else
    let t := s.setRing n.val { s.ring n.val with piCmd := pi.toNat }
    if s.ringSlots n.val < (pi.toNat + 65536 - (s.ring n.val).ci) % 65536 then ringStop n.val 1 t else t

/-- Keep GRANTED: replies returned plus N (R44). -/
def regrant (n : Nat) (s : State) : State :=
  s.setWord (R.CMD_RING_GRANTED n) (BitVec.ofNat 32 ((s.ring n).returned + s.ringSlots n))

/-- HOST_REPLY_DOORBELL. -/
def runHostReplyDoorbell (n : Fin 16) (ci : BitVec 16) (s : State) : State :=
  if !s.hostUp || s.inMode [.quarantine] then s
  else
    let g := s.ring n.val
    let back := (ci.toNat + 65536 - g.ciRep) % 65536
    if s.ringSlots n.val < (g.piRep + 65536 - ci.toNat) % 65536 then
      ringStop n.val 2 (s.setRing n.val { g with ciRep := ci.toNat })
    else
      let s := s.setRing n.val { g with ciRep := ci.toNat, returned := (g.returned + back) % 2 ^ 32 }
      let s := regrant n.val s
      if s.ringLive n.val then writeBack n.val s else s

/-- A ring reset without its record (R47): the number of commands it drops. -/
def ringClear (n : Nat) (s : State) : Nat × State :=
  let mine (p : Packet) : Bool := p.issuer.toNat == 0x80 + n
  let dropped := (s.interp.sched.filter (fun w => mine w.pkt)).length +
    (s.interp.ready.filter (fun w => mine w.pkt)).length
  let s := { s with
    interp.sched := s.interp.sched.filter (fun w => !mine w.pkt),
    interp.ready := s.interp.ready.filter (fun w => !mine w.pkt),
    interp.running := s.interp.running.map (fun (r : Running) => if mine r.pkt then { r with drop := true } else r) }
  let s := s.setRing n Ring.empty
  let s := s.setQueue (16 + n) { s.queue (16 + n) with headA := 0, headB := 0, tailA := 0, tailB := 0, items := [] }
  let s := s.setFlag (F.CMD_RING_CTL_STOPPED n) false
  let s := s.setFld (F.CMD_RING_CTL_CAUSE n) 0
  let s := s.setBit F.CMD_ERR_RING_ERR n false
  (dropped, regrant n s)

/-- The writable settings of CMD_RINGn_CTL: COALESCE always, LOG2_SLOTS while EN is 0 and within 4 to 12. -/
def ringSettings (n : Nat) (v : Word) (s : State) : State :=
  let s := s.setFld (F.CMD_RING_CTL_COALESCE n) (v.toNat / 2 ^ 24)
  let log := v.toNat / 2 ^ 16 % 16
  if s.flag (F.CMD_RING_CTL_EN n) || log < 4 || 12 < log then s
  else s.setFld (F.CMD_RING_CTL_LOG2_SLOTS n) log

/-- EN written 1 (R46, R562): a stop ends where RING_ERR is clear; held replies go first; index checks run
again. -/
def ringOn (n : Nat) (s : State) : State :=
  let s := s.setFlag (F.CMD_RING_CTL_EN n) true
  let s := if s.flag (F.CMD_RING_CTL_STOPPED n) && !s.bit F.CMD_ERR_RING_ERR n then
      (s.setFlag (F.CMD_RING_CTL_STOPPED n) false).setFld (F.CMD_RING_CTL_CAUSE n) 0
    else s
  let s := regrant n (s.setRing n { s.ring n with inFlight := false })
  if s.ringLive n then
    let s := writeBack n (ringFlush n s)
    let g := s.ring n
    if s.ringSlots n < (g.piCmd + 65536 - g.ci) % 65536 then ringStop n 1 s
    else if s.ringSlots n < (g.piRep + 65536 - g.ciRep) % 65536 then ringStop n 2 s
    else s
  else s

/-- EN written 0 (R562): a command being fetched still enters its queue. -/
def ringOff (n : Nat) (s : State) : State :=
  let s := if s.mayFetch n then s.setRing n { s.ring n with inFlight := true } else s
  s.setFlag (F.CMD_RING_CTL_EN n) false

/-- REPLY_COALESCE_TIMEOUT: 12,000 ticks after the oldest unsignalled reply. -/
def runReplyCoalesceTimeout (n : Fin 16) (s : State) : State :=
  let g := s.ring n.val
  if g.unsig = 0 ∨ s.now < g.unsigAt + 12000 then s
  else signal n.val (s.setRing n.val { g with unsig := 0 })

/-! ### SMBus mailbox (R48, R458, R459) -/

/-- The target serves in every mode except COLD: elsewhere it does not acknowledge. -/
def smbServe (act : State → State) (s : State) : State :=
  if s.inMode [.cold] then { s with interp.mbox.ack := false, interp.mbox.out := [] }
  else act { s with interp.mbox.ack := true, interp.mbox.out := [] }

/-- Refuse the transaction on the bus. -/
def smbNack (s : State) : State := { s with interp.mbox.ack := false }

/-- SMB_STATUS_READ. -/
def runSmbStatusRead (s : State) : State :=
  smbServe (fun s =>
    let m := s.interp.mbox
    let st := (if m.busy then 1 else 0) + (if m.replyReady then 2 else 0) + (if m.err then 4 else 0)
    { s with interp.mbox.out := leBytes 1 st }) s

/-- SMB_BLOCK_WRITE. -/
def runSmbBlockWrite (pec : Bool) (off : BitVec 16) (data : List Byte) (s : State) : State :=
  smbServe (fun s =>
    let m := s.interp.mbox
    if !pec || m.busy || 253 < data.length || 512 < off.toNat + data.length then smbNack s
    else if data.isEmpty then s
    else
      let top := off.toNat + data.length - 1
      { s with interp.mbox.mem := m.mem.setRun 0 off.toNat data,
               interp.mbox.high := some (match m.high with
                 | some h => if h ≤ top then top else h
                 | none => top) }) s

/-- The packet in the mailbox is not whole, or nothing has been written (R48). -/
def Mailbox.incomplete (m : Mailbox) : Bool :=
  match m.high with
  | none => true
  | some h => h + 1 < 16 + leAt (m.mem.getRun 0 0 16) 4 2

/-- The ROM's recovery service takes the mailbox whatever SMB_EN holds. -/
def State.inRecovery (s : State) : Bool := s.seq.mode == .kindling && s.seq.boot.phase == .recovery

/-- SMB_SUBMIT. -/
def runSmbSubmit (pec : Bool) (s : State) : State :=
  smbServe (fun s =>
    let m := s.interp.mbox
    if !pec || m.busy then smbNack s
    else if m.incomplete || (!s.flag F.CMD_CTL_SMB_EN && !s.inRecovery) then
      { s with interp.mbox.err := true }.setFlag F.CMD_ERR_SMB_ERR true
    else { s with interp.mbox.busy := true, interp.mbox.err := false,
                  interp.mbox.submitted := true }) s

/-- SMB_SET_READ_OFFSET. -/
def runSmbSetReadOffset (pec : Bool) (off : BitVec 16) (s : State) : State :=
  smbServe (fun s => if pec then { s with interp.mbox.readOff := off.toNat } else smbNack s) s

/-- SMB_BLOCK_READ: up to 255 bytes of the reply. -/
def runSmbBlockRead (s : State) : State :=
  smbServe (fun s =>
    let m := s.interp.mbox
    if !m.replyReady then s
    else
      let total := 16 + leAt (m.mem.getRun 0 0 16) 4 2
      let n := if 255 ≤ total - m.readOff then 255 else total - m.readOff
      { s with interp.mbox.out := m.mem.getRun 0 m.readOff n, interp.mbox.readOff := m.readOff + n }) s

/-- SMB_RELEASE. -/
def runSmbRelease (pec : Bool) (s : State) : State :=
  smbServe (fun s =>
    let m := s.interp.mbox
    if !pec then smbNack s
    else if !m.busy then { s with interp.mbox.err := false }
    else if !m.replyReady then smbNack s
    else { s with interp.mbox.busy := false, interp.mbox.replyReady := false, interp.mbox.err := false,
                  interp.mbox.high := none, interp.mbox.alert := false }) s

/-- SMB_CLOCK_TIMEOUT (R458): the transaction in progress is discarded, the mailbox kept. -/
def runSmbClockTimeout (s : State) : State :=
  { s with interp.mbox.ack := false, interp.mbox.out := [] }

/-- SMB_ALERT_RESPONSE (R459): the chip answers with its address where it asserts ALERT_N, and the reply cause
ends. -/
def runSmbAlertResponse (s : State) : State :=
  smbServe (fun s =>
    if s.alertN then
      { s with interp.mbox.out := leBytes 1 (2 * s.fld F.MGT_SMB_CFG_ADDR),
               interp.mbox.alert := false }.setFlag ⟨0x180100, 0, 1⟩ false
    else smbNack s) s

/-! ### Commands of the interpreter -/

/-- CMD_NOP. -/
def opCmdNop (p : Packet) (s : State) : State := done p (p.bytes 0 p.n) s

def runCmdNop (p : Packet) (s : State) : State := command 0x0001 (fun p => p.n ≤ 496) coreModes opCmdNop p s

/-- CMD_CANCEL (R42). -/
def opCmdCancel (p : Packet) (s : State) : State :=
  checked p [(1 < p.u8 2 || p.dirty 3 5, St.BAD_PARAM)] (fun s =>
    let hit (w : Waiting) : Bool :=
      w.pkt.issuer == p.issuer && (p.u8 2 == 1 || w.pkt.tag.toNat == p.u16 0)
    let gone := s.interp.sched.filter hit
    let s := { s with interp.sched := s.interp.sched.filter (fun w => !hit w) }
    let s := gone.foldl (fun s w => reply w.pkt St.CANCELLED [] s) s
    done p (leBytes 2 gone.length ++ leBytes 2 0) s) s

def runCmdCancel (p : Packet) (s : State) : State := command 0x0002 (lenIs 8) coreModes opCmdCancel p s

/-- The least of a list of numbers, 0 for none. -/
def leastOf : List Nat → Nat
  | [] => 0
  | [x] => x
  | x :: y :: l => if x ≤ leastOf (y :: l) then x else leastOf (y :: l)

/-- CMD_SCHED_QUERY. -/
def opCmdSchedQuery (p : Packet) (s : State) : State :=
  let own := s.interp.sched.filter (fun w => w.pkt.issuer == p.issuer)
  done p (leBytes 2 own.length ++ leBytes 2 s.interp.sched.length ++
    leBytes 1 (s.fld F.TMB_STAT_CAL_FAULT) ++ leBytes 3 0 ++
    leBytes 8 (leastOf (own.map (fun w => w.pkt.notBefore.toNat)))) s

def runCmdSchedQuery (p : Packet) (s : State) : State :=
  command 0x0003 (lenIs 0) coreModes opCmdSchedQuery p s

end Sys2Proof.Machine
end

