-- ==== Sys2Proof/Machine/Resources.lean ====
section
/-! DEFINITION. The resource ownership table and the slow management pins: GPIO, QSPI, SFP I2C, 1 PPS (R456,
R461 to R468). -/

namespace Sys2Proof.Machine

/-! ### The table (R463 to R467) -/

/-- A resource ID names an entry (R463). -/
def resKnown (id : Nat) : Bool :=
  let i := id % 256
  match id / 256 with
  | 1 => i < 24
  | 2 => i < 4
  | 3 | 4 | 9 => i == 0
  | 5 => i < 32
  | 6 => i < 8
  | 7 => i < 16
  | 8 => i < 4
  | 0x0A => i < 2
  | _ => false

/-- The field of MGT_GPIO_FUNCk that a pin has. -/
def gpioFunc (pin : Nat) : Field := ⟨R.MGT_GPIO_FUNC (pin / 8), 4 * (pin % 8), 4⟩

/-- Capture units that name a source become disabled (R467). -/
def stopCaptures (src : Nat) (s : State) : State :=
  (List.range 16).foldl (fun s n =>
    if s.fld (F.TMR_CAP_CTL_SRC n) = src then s.setFld (F.TMR_CAP_CTL_SRC n) 0 else s) s

/-- Class-I timers that name a GPT_IN pin become disabled (R467). -/
def stopTimersI (src : Nat) (s : State) : State :=
  (List.range 8).foldl (fun s n =>
    if s.fld (F.TMR_I_CTL_SRC n) = src then s.setFlag (F.TMR_I_CTL_EN n) false else s) s

/-- Bring an entry to its idle state (R467). -/
def resIdle (id : Nat) (s : State) : State :=
  let i := id % 256
  match id / 256 with
  | 1 => s.setFld (gpioFunc i) 0
  | 2 => stopTimersI (5 + i) (stopCaptures (1 + i) s)
  | 3 => stopCaptures 5 s
  | 4 => { s.setFlag F.MGT_PPS_CTL_OUT_EN false with host.pps.out := false, host.pps.left := 0 }
  | 5 => (s.setFlag (F.TMR_L_CTL_ARM i) false).setBit F.TMR_L_IE_IE i false
  | 6 => (s.setFlag (F.TMR_I_CTL_EN i) false).setFlag (F.TMR_I_CTL_IE i) false
  | 7 => (s.setFld (F.TMR_CAP_CTL_SRC i) 0).setFlag (F.TMR_CAP_CTL_IE i) false
  | 8 => s.setFlag (F.MMU_RAW_BASE_EN i) false
  | _ => s

def setOwner (id : Nat) (o : Req) (s : State) : State :=
  { s with host.owners := s.host.owners.set 0 id o, host.releasing := s.host.releasing.filter (· != id) }

/-- An operation is in progress on the bus that an entry names. -/
def State.busBusy (s : State) (id : Nat) : Bool :=
  match id / 256 with
  | 9 => s.flag F.MGT_QSPI_CMD_BUSY
  | 0x0A => s.flag (F.ETH_I2C_CMD_BUSY (id % 256))
  | _ => false

/-- Return an entry to its idle state and free it; an operation in progress completes first. -/
def resFree (id : Nat) (s : State) : State :=
  if s.busBusy id then { s with host.releasing := id :: s.host.releasing.filter (· != id) }
  else setOwner id 0 (resIdle id s)

/-- An operation on a bus has ended: an entry whose release waited for it is free. -/
def busDone (id : Nat) (s : State) : State := if s.host.releasing.contains id then setOwner id 0 s else s

/-- Release of an entry whose owner vanished, with its record (R467). -/
def resVanish (cause id : Nat) (s : State) : State :=
  let o := s.ownerOf id
  post 1 sevInfo 0x1505 (arg2 id ++ arg1 o.toNat ++ arg1 cause) (resFree id s)

/-- Release every entry that an owner in a range holds. -/
def resVanishAll (cause lo hi : Nat) (s : State) : State :=
  (s.host.owners.filter (fun e => lo ≤ e.2.toNat && e.2.toNat ≤ hi)).foldl
    (fun s e => resVanish cause e.1 s) s

/-- The consortium profile gives the class-I timers to the protocol cores (R5). -/
def State.consortium (s : State) : Bool := s.flag F.STP_STRAPS_PROFILE

/-- Give back to the protocol cores the free entries that were theirs at first (R463). -/
def regainInitial (s : State) : State :=
  ((ownersInitial s.consortium).filter (fun e => e.2 == 0x02)).foldl
    (fun s e => if s.ownerOf e.1 == 0 || (s.ownerOf e.1 == 0x02 && s.host.releasing.contains e.1) then
        setOwner e.1 0x02 s
      else s) s

/-- The first entry of a claim that is refused: unknown, or held by another (R465, R466). -/
def claimRefusal (who : Req) (s : State) : List Nat → Option (Nat × Nat)
  | [] => none
  | id :: l =>
    if !resKnown id then some (id, 0x8C01)
    else if s.ownerOf id != 0 && s.ownerOf id != who then some (id, St.RESOURCE_HELD)
    else claimRefusal who s l

/-- The first entry of a release that the issuer does not hold. -/
def releaseRefusal (who : Req) (s : State) : List Nat → Option (Nat × Nat)
  | [] => none
  | id :: l =>
    if !resKnown id then some (id, 0x8C01)
    else if s.ownerOf id != who then some (id, 0x8C00)
    else releaseRefusal who s l

/-- The reply of RES_CLAIM, RES_RELEASE and PPS_SET. -/
def resReply (s : State) (id : Nat) : List Byte :=
  leBytes 2 id ++ [s.ownerOf id] ++ leBytes 1 0

/-- Refuse a claim or release. -/
def resRefuse (p : Packet) (id st : Nat) (s : State) : State :=
  let s := if st = St.RESOURCE_HELD then s.count F.MGT_RES_CNT_REFUSED 1 else s
  reply p st (resReply s id) s

/-- The resource IDs of a claim or release. -/
def resIds (p : Packet) : List Nat := (List.range (p.u16 0)).map (fun i => p.u16 (4 + 2 * i))

/-- RES_CLAIM (R465, R466). -/
def opResClaim (p : Packet) (s : State) : State :=
  checked p [(p.u16 0 < 1 || 16 < p.u16 0 || p.dirty 2 2, St.BAD_PARAM)] (fun s =>
    match claimRefusal p.issuer s (resIds p) with
    | some (id, st) => resRefuse p id st s
    | none => done p (leBytes 4 0) ((resIds p).foldl (fun s id => setOwner id p.issuer s) s)) s

def runResClaim (p : Packet) (s : State) : State := command 0xC001 resLen coreModes opResClaim p s

/-- RES_RELEASE (R466, R467). -/
def opResRelease (p : Packet) (s : State) : State :=
  checked p [(p.u16 0 < 1 || 16 < p.u16 0 || p.dirty 2 2, St.BAD_PARAM)] (fun s =>
    match releaseRefusal p.issuer s (resIds p) with
    | some (id, st) => resRefuse p id st s
    | none => done p (leBytes 4 0) ((resIds p).foldl (fun s id => resFree id s) s)) s

def runResRelease (p : Packet) (s : State) : State := command 0xC002 resLen coreModes opResRelease p s

/-- RES_QUERY. -/
def opResQuery (p : Packet) (s : State) : State :=
  checked p [(p.dirty 2 2, St.BAD_PARAM), (!resKnown (p.u16 0), 0x8C01)] (fun s =>
    let o := s.ownerOf (p.u16 0)
    done p (leBytes 1 (if o == 0 then 0 else 1) ++ [o] ++ leBytes 2 0) s) s

def runResQuery (p : Packet) (s : State) : State := command 0xC003 (lenIs 4) coreModes opResQuery p s

/-! ### 1 PPS (R456, R457) -/

/-- The class-I timer that drives PPS_OUT counts CALCNT by two and clears itself each second; its next match
falls at CALCNT ≡ PHASE. The firmware's values are the model's choice. -/
def ppsTimer (n phase : Nat) (s : State) : State :=
  let d := (phase + 120000000 - s.now % 120000000) % 120000000 / 2
  let s := s.setWord (R.TMR_I_CTL n) 0x45#32
  let s := recomputeP n (s.setTimerI n { TimerI.reset with pWritten := 2 * 65536 })
  let s := s.setWord (R.TMR_I_CMP n) (BitVec.ofNat 32 59999999)
  s.setWord (R.TMR_I_COUNT n) (BitVec.ofNat 32 ((60000000 - d) % 60000000))

/-- PPS_SET's entries of the table: the output with its timer, the input with its capture unit. -/
def ppsWant (p : Packet) : List Nat :=
  (if p.bit 0 0 then [0x0400, 0x0600 + p.u8 1] else []) ++ (if p.bit 0 1 then [0x0300, 0x0700 + p.u8 2] else [])

/-- The entries that the function holds now. -/
def State.ppsHas (s : State) : List Nat :=
  (if s.flag F.MGT_PPS_CTL_OUT_EN then [0x0400, 0x0600 + s.fld F.MGT_PPS_CTL_TIMER] else []) ++
    (if s.flag F.MGT_PPS_CTL_ALIGN then [0x0300, 0x0700 + s.fld F.MGT_PPS_CTL_CAP] else [])

/-- The entries change hands, and the settings are the request's. -/
def ppsSettings (p : Packet) (s : State) : State :=
  let want := ppsWant p
  let s := (s.ppsHas.filter (fun id => !want.contains id)).foldl (fun s id => resFree id s) s
  let s := want.foldl (fun s id => setOwner id 0x02 s) s
  let s := s.setFlag F.MGT_PPS_CTL_OUT_EN (p.bit 0 0)
  let s := s.setFlag F.MGT_PPS_CTL_ALIGN (p.bit 0 1)
  let s := s.setFld F.MGT_PPS_CTL_TIMER (p.u8 1)
  let s := s.setFld F.MGT_PPS_CTL_CAP (p.u8 2)
  let s := s.setFld F.MGT_PPS_CTL_WIDTH (p.u16 4)
  s.setFld F.MGT_PPS_PHASE_PHASE (p.u32 8)

/-- PPS_SET (R456, R457, R466): the protocol cores claim and release the pairs of entries as one request. -/
def opPpsSet (p : Packet) (s : State) : State :=
  checked p
    [(p.bits 0 7 2 != 0 || 7 < p.u8 1 || 15 < p.u8 2 || p.u8 3 != 0 || p.u16 4 == 0 || p.dirty 6 2 ||
      119999999 < p.u32 8 || p.dirty 12 4, St.BAD_PARAM)] (fun s =>
    match claimRefusal 0x02 s (ppsWant p) with
    | some (id, st) => resRefuse p id st s
    | none =>
      let wasAlign := s.flag F.MGT_PPS_CTL_ALIGN
      let s := ppsSettings p s
      let s := if p.bit 0 0 then ppsTimer (p.u8 1) (p.u32 8) s
        else { s with host.pps.out := false, host.pps.left := 0 }
      let s := if p.bit 0 1 then
          (s.setFld (F.TMR_CAP_CTL_SRC (p.u8 2)) 5).setFlag (F.TMR_CAP_CTL_EDGE (p.u8 2)) false
        else { s with host.pps.lost := false }
      let s := if p.bit 0 1 && !wasAlign then { s with host.pps.since := s.now } else s
      done p (leBytes 4 0) s) s

def runPpsSet (p : Packet) (s : State) : State := command 0xC020 (lenIs 16) coreModes opPpsSet p s

/-! ### GPIO (R462) -/

/-- Count a write that the holder did not make (R464). -/
def resIgnore (s : State) : State := s.count F.MGT_RES_CNT_IGNORED 1

/-- One pin of a function write: codes 4 to 15 are ignored; GPT_ALT needs the GPT_IN pin as well. -/
def gpioPin (w : Writer) (pin f : Nat) (s : State) : State :=
  if 4 ≤ f ∨ s.holds w (0x0100 + pin) = false ∨ (f = 2 ∧ s.holds w (0x0200 + pin % 4) = false) then s
  else s.setFld (gpioFunc pin) f

/-- MGT_GPIO_FUNC_WRITE: a write that would change a pin not held is counted once. -/
def runMgtGpioFuncWrite (w : Writer) (k : Fin 3) (v : Word) (s : State) : State :=
  atReg (R.MGT_GPIO_FUNC k.val) (fun s =>
    let f (j : Nat) : Nat := v.toNat / 2 ^ (4 * j) % 16
    let foreign := (List.range 8).any (fun j =>
      !s.holds w (0x0100 + 8 * k.val + j) && f j != s.fld (gpioFunc (8 * k.val + j)))
    let s := (List.range 8).foldl (fun s j => gpioPin w (8 * k.val + j) (f j) s) s
    if foreign then resIgnore s else s) s

/-- A write of MGT_GPIO_OUT: bits of pins not held are unchanged. -/
def gpioOutWrite (w : Writer) (v : Word) (s : State) : State :=
  atReg R.MGT_GPIO_OUT (fun s =>
    (List.range 24).foldl (fun s pin =>
      if s.holds w (0x0100 + pin) then s.setBit F.MGT_GPIO_OUT_OUT pin (v.toNat / 2 ^ pin % 2 == 1)
      else s) s) s

/-! ### QSPI and SFP I2C (R461, R464) -/

/-- A write by the holder of a bus acts; any other is ignored and counted. -/
def busOwned (w : Writer) (res off : Nat) (act : State → State) (s : State) : State :=
  atReg off (fun s => if s.holds w res then act s else resIgnore s) s

/-- MGT_QSPI_OP: ignored while BUSY. -/
def runMgtQspiOp (w : Writer) (v : Word) (s : State) : State :=
  busOwned w 0x0900 R.MGT_QSPI_CMD (fun s =>
    if s.flag F.MGT_QSPI_CMD_BUSY then s
    else (s.setWord R.MGT_QSPI_CMD (v &&& 0x47FF007F#32)).setFlag F.MGT_QSPI_CMD_BUSY true) s

/-- Store bytes into consecutive words from a register on. -/
def storeWords (off : Nat) (n : Nat) (bs : List Byte) (s : State) : State :=
  (List.range n).foldl (fun s k =>
    s.setWord (off + 4 * k) (BitVec.ofNat 32 (leAt bs (4 * k) 4))) s

/-- MGT_QSPI_DONE: the data of a read land in the data words. -/
def runMgtQspiDone (data : List Byte) (s : State) : State :=
  if !s.flag F.MGT_QSPI_CMD_BUSY then s
  else
    let n := s.fld F.MGT_QSPI_CMD_LEN
    let s := busDone 0x0900 (s.setFlag F.MGT_QSPI_CMD_BUSY false)
    if s.flag F.MGT_QSPI_CMD_WRITE then s
    else
      let n := if n ≤ 64 then n else 64
      storeWords (R.MGT_QSPI_DATA 0) ((n + 3) / 4) (sliceBytes data 0 n) s

/-- ETH_I2C_TRANSACTION: ignored while BUSY. -/
def runEthI2cTransaction (w : Writer) (b : Fin 2) (v : Word) (s : State) : State :=
  busOwned w (0x0A00 + b.val) (R.ETH_I2C_CMD b.val) (fun s =>
    if s.flag (F.ETH_I2C_CMD_BUSY b.val) then s
    else (s.setWord (R.ETH_I2C_CMD b.val) (v &&& 0x27FFFF00#32)).setFlag (F.ETH_I2C_CMD_BUSY b.val) true) s

/-- ETH_I2C_DONE. -/
def runEthI2cDone (b : Fin 2) (nack : Bool) (data : Word) (s : State) : State :=
  if !s.flag (F.ETH_I2C_CMD_BUSY b.val) then s
  else
    let s := busDone (0x0A00 + b.val) (s.setFlag (F.ETH_I2C_CMD_BUSY b.val) false)
    let s := s.setFlag (F.ETH_I2C_CMD_NACK b.val) nack
    if nack || s.flag (F.ETH_I2C_CMD_WRITE b.val) then s
    else
      let m := 2 ^ (8 * (s.fld (F.ETH_I2C_CMD_COUNT_M1 b.val) % 4 + 1))
      s.setWord (R.ETH_I2C_DATA b.val) (BitVec.ofNat 32 (data.toNat % m))

end Sys2Proof.Machine
end

