-- ==== Sys2Proof/Machine/HostPorts.lean ====
section
/-! DEFINITION. PCI Express and Ethernet ports as far as they do not forward: link, bus mastering, MSI-X,
SFP sideband and transmit timestamps (R445 to R455). -/

namespace Sys2Proof.Machine

/-! ### PCI Express -/

/-- PCIE_LINK_UP: in PCIe host boot the doorbell wait begins (R491). -/
def runPcieLinkUp (width speed : BitVec 4) (s : State) : State :=
  if s.flag F.STP_STRAPS_HOSTIF || s.inMode [.cold] then s
  else
    let s := s.setFlag F.PCI_LINK_UP true
    let s := s.setFld F.PCI_LINK_WIDTH width.toNat
    let s := s.setFld F.PCI_LINK_SPEED speed.toNat
    match s.seq.boot.phase with
    | .doorbell none => { s with seq.boot.phase := .doorbell (some s.now) }
    | _ => s

/-- PCIE_BME_SET: held replies of live rings go out, and pending messages of unmasked vectors. -/
def runPcieBmeSet (s : State) : State :=
  if !s.flag F.PCI_LINK_UP then s
  else
    let s := s.setFlag F.PCI_LINK_BME true
    let s := (List.range 16).foldl (fun s n => if s.ringLive n then writeBack n (ringFlush n s) else s) s
    (List.range 39).foldl (fun s v =>
      if s.flag (msixPend v) = true ∧ s.flag (msixMask v) = false then
        (msixSend v s).setFlag (msixPend v) false
      else s) s

/-- MSIX_UNMASK (R449): a pending vector sends one message. -/
def runMsixUnmask (n : Fin 64) (s : State) : State :=
  if !s.hostUp then s
  else
    let s := s.setFlag (msixMask n.val) false
    if s.flag (msixPend n.val) && s.flag F.PCI_LINK_BME then
      (msixSend n.val s).setFlag (msixPend n.val) false
    else s

/-! ### SFP sideband (R453) -/

def State.ethPort (s : State) (p : Nat) : EthPort := s.host.eth.get EthPort.reset p
def State.setEthPort (p : Nat) (e : EthPort) (s : State) : State :=
  { s with host.eth := s.host.eth.set EthPort.reset p e }

/-- TX_DISABLE is driven low, the laser on, only while the conditions of R453 hold. -/
def setLaser (p : Nat) (s : State) : State :=
  s.setFlag (F.ETH_PORT_STAT_LASER_ON p)
    (s.flag (F.ETH_PORT_CTL_EN p) && s.inMode radioModes && !s.flag (F.ETH_PORT_STAT_MOD_ABS p) &&
      !(s.ethPort p).faultSeen)

/-- Set bits of ETH_INT, and vector 36 where enabled. -/
def ethRaise (f : Field) (p : Nat) (s : State) : State :=
  raise ⟨0x160000, f.lo, f.width⟩ ⟨0x160004, f.lo, f.width⟩ (2 ^ p) 36 s

/-- SFP_TX_FAULT: the pin goes high. -/
def runSfpTxFault (p : Fin 2) (s : State) : State :=
  if s.flag (F.ETH_PORT_STAT_TX_FAULT p.val) then s
  else
    let s := s.setFlag (F.ETH_PORT_STAT_TX_FAULT p.val) true
    let s := s.setEthPort p.val { s.ethPort p.val with faultSeen := true }
    let s := ethRaise F.ETH_INT_SFP p.val (setLaser p.val s)
    post (33 + p.val) sevDegraded 0x1503 (arg1 p.val) s

/-- SFP_SIGNAL_CHANGE: pins and block lock as they now are. -/
def runSfpSignalChange (p : Fin 2) (modAbs rxLos txFault blockLock : Bool) (s : State) : State :=
  let s := if txFault then runSfpTxFault p s
    else if s.flag (F.ETH_PORT_STAT_TX_FAULT p.val) then
      ethRaise F.ETH_INT_SFP p.val (s.setFlag (F.ETH_PORT_STAT_TX_FAULT p.val) false)
    else s
  let s := if s.flag (F.ETH_PORT_STAT_MOD_ABS p.val) == modAbs then s
    else ethRaise F.ETH_INT_SFP p.val (s.setFlag (F.ETH_PORT_STAT_MOD_ABS p.val) modAbs)
  let s := s.setFlag (F.ETH_PORT_STAT_RX_LOS p.val) rxLos
  let s := setLaser p.val (s.setFlag (F.ETH_PORT_STAT_BLOCK_LOCK p.val) blockLock)
  let link := blockLock && !rxLos
  if s.flag (F.ETH_PORT_STAT_LINK p.val) == link then s
  else
    let s := ethRaise F.ETH_INT_LINK p.val (s.setFlag (F.ETH_PORT_STAT_LINK p.val) link)
    post (33 + p.val) sevInfo 0x1502 (arg1 p.val ++ arg1 (if link then 1 else 0)) s

/-! ### Ethernet ports (R450 to R455) -/

/-- A list holds some non-zero number twice. -/
def twice : List Nat → Bool
  | [] => false
  | x :: l => (x != 0 && l.contains x) || twice l

/-- ETH_PORT_SET. -/
def opEthPortSet (p : Packet) (s : State) : State :=
  let vids := (List.range 8).map (fun i => p.u16 (4 + 2 * i))
  checked p
    [(1 < p.u8 0 || p.bits 1 7 4 != 0 || p.dirty 20 4, St.BAD_PARAM),
     (4094 < p.u16 2 || vids.any (fun v => 4094 < v) || twice vids, 0x8C02)] (fun s =>
    let q := p.u8 0
    let en := p.bit 1 0
    let s := s.setFlag (F.ETH_PORT_CTL_EN q) en
    let s := s.setFld (F.ETH_PORT_CTL_PCP q) (p.bits 1 3 1)
    let s := if en then s.setEthPort q { s.ethPort q with faultSeen := s.flag (F.ETH_PORT_STAT_TX_FAULT q) }
      else s
    let s := s.setFld (F.ETH_PORT_VLAN_PVID q) (p.u16 2)
    let s := (List.range 4).foldl (fun s k =>
      (s.setFld (F.ETH_PORT_VID_VIDB q k) (p.u16 (4 + 4 * k))).setFld (F.ETH_PORT_VID_VIDA q k)
        (p.u16 (6 + 4 * k))) s
    done p [] (setLaser q s)) s

def runEthPortSet (p : Packet) (s : State) : State := command 0xC010 (lenIs 24) radioModes opEthPortSet p s

/-- The IEEE 1588 message in an Ethernet frame after any tag (R454): offset of its first byte. -/
def ptpOffset (frame : List Byte) : Option Nat :=
  let base := if beAt frame 12 2 = 0x8100 then 18 else 14
  let ethertype := beAt frame (base - 2) 2
  if ethertype = 0x88F7 then some base
  else if ethertype = 0x86DD ∧ leAt frame (base + 6) 1 = 17 ∧
      (beAt frame (base + 42) 2 = 319 ∨ beAt frame (base + 42) 2 = 320) then some (base + 48)
  else none

/-- An event message: Sync, Delay_Req, Pdelay_Req or Pdelay_Resp (R454). -/
def ptpEvent (frame : List Byte) (o : Nat) : Bool := leAt frame o 1 % 16 ≤ 3

/-- A stamp corrected by a signed adjustment in 1/16 ticks. -/
def adjusted (stamp : Quad) (adj : Int) : Quad := stamp + BitVec.ofInt 64 adj

/-- ETH_FRAME_TX (R455): the frame at the head of the port's queue leaves; the stamp of an event message that
asked for one enters the FIFO of 16, or counts as an overflow. -/
def runEthFrameTx (p : Fin 2) (stamp : Option Quad) (s : State) : State :=
  let e := s.ethPort p.val
  match e.txq with
  | [] => s
  | frame :: rest =>
    let s := (s.setEthPort p.val { e with txq := rest }).wrapCount (F.ETH_PORT_TX_OK_OK p.val) 1
    match stamp, ptpOffset frame with
    | some t, some o =>
      if !ptpEvent frame o then s
      else
        let s := s.wrapCount (F.ETH_PORT_TS_COUNT p.val) 1
        let e := s.ethPort p.val
        if 16 ≤ e.stamps.length then
          ethRaise F.ETH_INT_TS_OVR p.val (s.count (F.ETH_PORT_TS_OVR p.val) 1)
        else
          let t := adjusted t (s.sfld (F.ETH_PORT_TS_ADJ_TX_ADJ p.val))
          s.setEthPort p.val { e with stamps := e.stamps ++
            [(t, s.taints, beAt frame (o + 30) 2, leAt frame o 1 % 16)] }
    | _, _ => s

end Sys2Proof.Machine
end

