-- ==== Sys2Proof/Machine/Tables.lean ====
section
/-! DEFINITION. The ledger's tables: the node table's fields, EMAP, and the entry bytes of every table (R311 to
R320). -/

namespace Sys2Proof.Machine

/-! ### The node table (R313) -/

/-- A field of an NTAB entry: byte offset, lowest bit within it, width. -/
structure NField where
  byte : Nat
  lo : Nat
  width : Nat
  deriving DecidableEq, Repr

namespace N
def EUI64 : NField := ⟨0x00, 0, 64⟩
def STATE : NField := ⟨0x08, 0, 4⟩
def LOCAL : NField := ⟨0x08, 4, 1⟩
def MIRRORED : NField := ⟨0x08, 5, 1⟩
def LEARN_PENDING : NField := ⟨0x08, 6, 1⟩
def FROZEN : NField := ⟨0x08, 7, 1⟩
def OWNER_CHIP : NField := ⟨0x09, 0, 6⟩
def CHMAP_IDX : NField := ⟨0x0A, 0, 6⟩
def TIER : NField := ⟨0x0A, 6, 2⟩
def PHY_PROFILE : NField := ⟨0x0B, 0, 6⟩
def PARENT : NField := ⟨0x0C, 0, 17⟩
def RANK : NField := ⟨0x0C, 17, 15⟩
def ANCHOR : NField := ⟨0x10, 0, 64⟩
def WAKE_INTERVAL : NField := ⟨0x18, 0, 16⟩
def EVENT_CTR : NField := ⟨0x1A, 0, 16⟩
def SUPV_TIMEOUT : NField := ⟨0x1C, 0, 16⟩
def MISS_CNT : NField := ⟨0x1E, 0, 8⟩
def MISS : NField := ⟨0x1E, 0, 4⟩
def TRUST : NField := ⟨0x1E, 4, 4⟩
def TX_POWER : NField := ⟨0x1F, 0, 8⟩
def DRIFT_OFS : NField := ⟨0x20, 0, 32⟩
def DRIFT_RATE : NField := ⟨0x24, 0, 16⟩
def DRIFT_VAR : NField := ⟨0x26, 0, 16⟩
def CFO : NField := ⟨0x28, 0, 16⟩
def RSSI : NField := ⟨0x2A, 0, 8⟩
def LQI : NField := ⟨0x2B, 0, 8⟩
def IN_CTR : NField := ⟨0x2C, 0, 32⟩
def IN_WIN : NField := ⟨0x30, 0, 32⟩
def OUT_CTR : NField := ⟨0x34, 0, 32⟩
def KEY_EPOCH : NField := ⟨0x38, 0, 8⟩
def DL_QDEPTH : NField := ⟨0x39, 0, 8⟩
def LAST_HEARD : NField := ⟨0x3A, 0, 32⟩
def FW_TAG : NField := ⟨0x3E, 0, 16⟩
end N

def NField.shift (f : NField) : Nat := 8 * f.byte + f.lo

/-- A field of an entry, unsigned and in two's complement. -/
def NField.read (f : NField) (e : BitVec 512) : Nat := e.toNat / 2 ^ f.shift % 2 ^ f.width
def NField.readS (f : NField) (e : BitVec 512) : Int := signedOf f.width (f.read e)

/-- An entry with a field replaced. -/
def NField.write (f : NField) (v : Nat) (e : BitVec 512) : BitVec 512 :=
  BitVec.ofNat 512 (e.toNat - f.read e * 2 ^ f.shift + v % 2 ^ f.width * 2 ^ f.shift)

/-- The broadcast address (R316). -/
def broadcastId : Nat := 0x1FFFF

def State.node (s : State) (id : Nat) : BitVec 512 := s.ledger.ntab.get 0 id
def State.putNode (id : Nat) (e : BitVec 512) (s : State) : State :=
  { s with ledger.ntab := s.ledger.ntab.set 0 id e }

/-- The MIRRORED flag of an entry. -/
def mirroredBit : BitVec 512 := BitVec.ofNat 512 (2 ^ 69)

/-- Write an entry; a change of any field clears MIRRORED (R439). -/
def State.setNode (id : Nat) (e : BitVec 512) (s : State) : State :=
  if e ||| mirroredBit = s.node id ||| mirroredBit then s.putNode id e else s.putNode id (e &&& ~~~mirroredBit)

/-- A field of a node. -/
def State.nf (s : State) (id : Nat) (f : NField) : Nat := f.read (s.node id)
def State.nfS (s : State) (id : Nat) (f : NField) : Int := f.readS (s.node id)
def State.setNf (id : Nat) (f : NField) (v : Nat) (s : State) : State := s.setNode id (f.write v (s.node id))

/-- Node states (R192). -/
def nsFree : Nat := 0
def nsLearned : Nat := 1
def nsJoining : Nat := 2
def nsAssociated : Nat := 3
def nsDrifting : Nat := 4
def nsLapsed : Nat := 5
def nsHandedOff : Nat := 6

def State.nodeState (s : State) (id : Nat) : Nat := s.nf id N.STATE

/-- On the wheel: JOINING, ASSOCIATED or DRIFTING (R313). -/
def onWheel (st : Nat) : Bool := 2 ≤ st && st ≤ 4

/-- The nodes on the wheel, in ascending order of short ID. -/
def State.wheel (s : State) : List Nat :=
  (s.ledger.ntab.filter (fun e => onWheel (N.STATE.read e.2))).map (·.1)

def State.naux (s : State) (id : Nat) : Word := s.ledger.naux.get 0 id
def State.setNaux (id : Nat) (w : Word) (s : State) : State :=
  { s with ledger.naux := s.ledger.naux.set 0 id w }
def State.digest (s : State) (id : Nat) : Word := s.ledger.digest.get 0 id
def State.setDigest (id : Nat) (w : Word) (s : State) : State :=
  { s with ledger.digest := s.ledger.digest.set 0 id w }

/-- NAUX fields (R318). -/
def nauxReqWake (w : Word) : Nat := w.toNat % 65536
def nauxLearnChan (w : Word) : Nat := w.toNat / 65536 % 256
def nauxSetReqWake (v : Nat) (w : Word) : Word := BitVec.ofNat 32 (w.toNat / 65536 * 65536 + v % 65536)
def nauxSetLearnChan (v : Nat) (w : Word) : Word :=
  BitVec.ofNat 32 (w.toNat / 0x1000000 * 0x1000000 + v % 256 * 65536 + w.toNat % 65536)

/-- The lowest free short ID at or above `i` (R325). -/
def lowestFree : Sparse (BitVec 512) → Nat → Nat
  | [], i => i
  | (k, e) :: m, i =>
    if k < i then lowestFree m i
    else if k = i then (if N.STATE.read e = 0 then i else lowestFree m (i + 1))
    else i

/-- Free short IDs, of 1 to 0x1_FFFE. -/
def State.freeIds (s : State) : Nat :=
  131070 - countIf (fun e => 1 ≤ e.1 && e.1 < broadcastId && N.STATE.read e.2 != 0) s.ledger.ntab

/-! ### EMAP (R319, R320) -/

/-- A slot: EUI-64 and short ID; 0 is not valid. -/
def emapEntry (eui id : Nat) : BitVec 96 := BitVec.ofNat 96 (eui % 2 ^ 64 + 2 ^ 64 * (id % 2 ^ 17) + 2 ^ 95)
def emapValid (e : BitVec 96) : Bool := e.getLsbD 95
def emapEui (e : BitVec 96) : Nat := e.toNat % 2 ^ 64
def emapId (e : BitVec 96) : Nat := e.toNat / 2 ^ 64 % 2 ^ 17

/-- The two candidate buckets of an EUI-64. -/
def emapBuckets (eui : Nat) : Nat × Nat :=
  let c := (crc32 (beBytes 8 eui)).toNat
  let b1 := c % 0x8000
  let b2 := c / 0x8000 % 0x8000
  (b1, if b2 = b1 then (b1 ^^^ 0x4000) else b2)

def State.slot (s : State) (i : Nat) : BitVec 96 := s.ledger.emap.get 0 i
def State.setSlot (i : Nat) (e : BitVec 96) (s : State) : State :=
  { s with ledger.emap := s.ledger.emap.set 0 i e }

def bucketSlots (b : Nat) : List Nat := [4 * b, 4 * b + 1, 4 * b + 2, 4 * b + 3]
def stashSlots : List Nat := (List.range 16).map (· + 0x20000)

/-- The slot in which an EUI-64 is found. -/
def State.emapFind (s : State) (eui : Nat) : Option Nat :=
  let b := emapBuckets eui
  (bucketSlots b.1 ++ bucketSlots b.2 ++ stashSlots).find? (fun i =>
    emapValid (s.slot i) && emapEui (s.slot i) == eui)

/-- The short ID of an EUI-64. -/
def State.idOf (s : State) (eui : Nat) : Option Nat := (s.emapFind eui).map (fun i => emapId (s.slot i))

def State.freeSlot (s : State) (slots : List Nat) : Option Nat := slots.find? (fun i => !emapValid (s.slot i))

/-- The displacement path from a bucket (R320), found without writing: the moves, last first. A path that comes
back to a slot it has used is no path. -/
def displace (s : State) : Nat → Nat → Nat → List (Nat × Nat) → Option (List (Nat × Nat))
  | 0, _, _, _ => none
  | fuel + 1, step, b, acc =>
    let i := 4 * b + step % 4
    if acc.any (fun m => m.1 == i) then none
    else
      let bs := emapBuckets (emapEui (s.slot i))
      let other := if bs.1 = b then bs.2 else bs.1
      match s.freeSlot (bucketSlots other) with
      | some j => some ((i, j) :: acc)
      | none => displace s fuel (step + 1) other ((i, 4 * other + (step + 1) % 4) :: acc)

/-- Where an insert goes, with the state after the moves; nothing where it fails. -/
def emapPlace (eui : Nat) (s : State) : Option (Nat × State) :=
  let b := emapBuckets eui
  match s.freeSlot (bucketSlots b.1) with
  | some i => some (i, s)
  | none =>
    match s.freeSlot (bucketSlots b.2) with
    | some i => some (i, s)
    | none =>
      match displace s 64 0 b.1 [] with
      | some moves =>
        some (4 * b.1, moves.foldl (fun s m => (s.setSlot m.2 (s.slot m.1)).setSlot m.1 0) s)
      | none => (s.freeSlot stashSlots).map (fun i => (i, s))

/-- Stash slots in use. -/
def State.stashUsed (s : State) : Nat := countIf (fun i => emapValid (s.slot i)) stashSlots

/-! ### BNT (R333) -/

/-- Entry index of the first way of a key's set; the key is MAC and VID in their eight bytes. -/
def bntSet (key : Nat) : Nat := (crc32 (leBytes 8 key)).toNat % 1024 * 4
def bntKey (e : BitVec 128) : Nat := e.toNat % 2 ^ 64
def bntValid (e : BitVec 128) : Bool := entryBits e 8 7 1 == 1
def bntStatic (e : BitVec 128) : Bool := entryBits e 8 1 1 == 1
def bntPort (e : BitVec 128) : Nat := entryBits e 8 0 1
def bntSeen (e : BitVec 128) : Nat := entryBits e 12 0 32
def bntMake (key port seen : Nat) (static : Bool) : BitVec 128 :=
  BitVec.ofNat 128 (key % 2 ^ 64 + 2 ^ 64 * (port % 2 + (if static then 2 else 0) + 128) + 2 ^ 96 * (seen % 2 ^ 32))

def State.bntEntry (s : State) (i : Nat) : BitVec 128 := s.ledger.bnt.get 0 i
def State.setBnt (i : Nat) (e : BitVec 128) (s : State) : State :=
  { s with ledger.bnt := s.ledger.bnt.set 0 i e }

/-- Entry index of a key, where it is held. -/
def State.bntFind (s : State) (key : Nat) : Option Nat :=
  (bucketSlots (bntSet key / 4)).find? (fun i => bntValid (s.bntEntry i) && bntKey (s.bntEntry i) == key % 2 ^ 64)

/-- CALCNT[55:24] of a tick. -/
def at24 (t : Nat) : Nat := t / 2 ^ 24 % 2 ^ 32

/-- Where a new entry goes: the first invalid way, else the learned way with the oldest LAST_SEEN. -/
def State.bntWay (s : State) (key : Nat) : Option Nat :=
  let ways := bucketSlots (bntSet key / 4)
  match ways.find? (fun i => !bntValid (s.bntEntry i)) with
  | some i => some i
  | none => (sortBy (fun i => bntSeen (s.bntEntry i)) (ways.filter (fun i => !bntStatic (s.bntEntry i)))).head?

/-! ### Entry bytes of every table (R321) -/

/-- Entry size and number of entries. -/
def tableShape : Nat → Nat × Nat
  | 0 => (64, 131072)
  | 1 => (12, 131088)
  | 2 | 3 => (4, 131072)
  | 4 => (16, 4096)
  | 5 | 6 => (32, 64)
  | 7 => (16, 64)
  | 8 => (64, 4096)
  | _ => (0, 0)

/-- An entry as committed, its first byte lowest; bytes beyond its size are 0. -/
def State.row (s : State) (table i : Nat) : BitVec 512 :=
  match table with
  | 0 => s.node i
  | 1 => (s.slot i).setWidth 512
  | 2 => (s.digest i).setWidth 512
  | 3 => (s.naux i).setWidth 512
  | 4 => (s.bntEntry i).setWidth 512
  | 5 => (s.ledger.chmap.get 0 i).setWidth 512
  | 6 => BitVec.ofNat 512 (leNat (sliceBytes (s.demod.profiles.get [] i) 0 32))
  | 7 => (s.froute i).setWidth 512
  | 8 => s.ledger.rollout.get 0 i
  | _ => 0

/-- Replace an entry of a table that takes writes. -/
def State.setRow (table i : Nat) (v : BitVec 512) (s : State) : State :=
  match table with
  | 0 => s.setNode i v
  | 2 => s.setDigest i (v.setWidth 32)
  | 3 => s.setNaux i (v.setWidth 32)
  | 4 => s.setBnt i (v.setWidth 128)
  | _ => s

/-- Bits of `new` where the mask has a bit, of `old` elsewhere. -/
def mergeBits (mask old new : BitVec 512) : BitVec 512 := (old &&& ~~~mask) ||| (new &&& mask)

/-- The bits of `n` bytes from byte `i`. -/
def byteMask (i n : Nat) : BitVec 512 := BitVec.ofNat 512 ((2 ^ (8 * n) - 1) * 2 ^ (8 * i))

/-- The bits that a byte mask selects. -/
def bitMask (mask : Nat) : BitVec 512 :=
  BitVec.ofNat 512 (leNat ((List.range 64).map (fun i => if mask / 2 ^ i % 2 = 1 then 0xFF#8 else 0#8)))

/-- A word of an entry has an uncorrectable error (R344). -/
def State.rowBad (s : State) (table i : Nat) : Bool := s.ledger.bad.any (fun b => b.1 == table && b.2.1 == i)

/-- A mask covers a word of 8 bytes as far as the entry has it. -/
def coversWord (table w : Nat) (mask : BitVec 512) : Bool :=
  let size := (tableShape table).1
  let m := byteMask (8 * w) (if 8 * w + 8 ≤ size then 8 else size - 8 * w)
  mask &&& m == m

/-- A lookup of an EUI-64 meets an uncorrectable error in a slot that it examines (R319, R344). -/
def State.emapBad (s : State) (eui : Nat) : Bool :=
  let b := emapBuckets eui
  let slots := bucketSlots b.1 ++ bucketSlots b.2 ++ stashSlots
  let seen := match s.emapFind eui with
    | some i => slots.takeWhile (fun j => j != i) ++ [i]
    | none => slots
  seen.any (fun i => s.rowBad 1 i)

/-- A backhaul lookup meets one in the key's set. -/
def State.bntBad (s : State) (key : Nat) : Bool := (bucketSlots (bntSet key / 4)).any (fun i => s.rowBad 4 i)

/-- Every word in error of an entry is covered by a mask. -/
def State.heals (s : State) (table i : Nat) (mask : BitVec 512) : Bool :=
  s.ledger.bad.all (fun b => !(b.1 == table && b.2.1 == i) || coversWord table b.2.2 mask)

/-- Words that a write replaces whole are sound again (R344). -/
def healRow (table i : Nat) (mask : BitVec 512) (s : State) : State :=
  { s with ledger.bad := s.ledger.bad.filter (fun b =>
      !(b.1 == table && b.2.1 == i && coversWord table b.2.2 mask)) }

end Sys2Proof.Machine
end

