-- ==== Sys2Proof/Machine/Pending.lean ====
section
/-! DEFINITION. Campaign states and the pending set of a rollout (R364, R365). -/

namespace Sys2Proof.Machine

/-- Campaign states (R364). -/
def rsIdle : Nat := 0
def rsConfigured : Nat := 1
def rsAnnouncing : Nat := 2
def rsSending : Nat := 3
def rsDone : Nat := 4
def rsAborted : Nat := 5
def State.campState (s : State) (c : Nat) : Nat := s.fld (F.ROL_CAMP_STAT_STATE c)
def State.camp (s : State) (c : Nat) : Campaign := s.camps.get Campaign.reset c
def State.setCamp (c : Nat) (x : Campaign) (s : State) : State := { s with camps := s.camps.set Campaign.reset c x }

/-- Set a campaign's state; ROL_STAT follows. -/
def setCampState (c st : Nat) (s : State) : State :=
  ((s.setFld (F.ROL_CAMP_STAT_STATE c) st).setBit F.ROL_STAT_SENDING c (st == rsSending)).setBit F.ROL_STAT_IN_USE c
    (st != rsIdle)

/-- The campaign is CONFIGURED, ANNOUNCING or SENDING. -/
def State.campLive (s : State) (c : Nat) : Bool := 1 ≤ s.campState c && s.campState c ≤ 3

/-- A campaign that sends has nothing left to do, or has sent all it may: DONE. -/
def campDone (c : Nat) (s : State) : State :=
  let s := setCampState c rsDone (s.setCamp c { s.camp c with announce := [] })
  post 22 sevInfo 0x0F02 (arg2 (s.fld (F.ROL_CAMP_DONE_DONE c)) ++ arg2 (s.fld (F.ROL_CAMP_DONE_FAILED c))) s

/-- A node's bit in a campaign's pending set. -/
def State.pendBit (s : State) (c id : Nat) : Bool := (s.ledger.rollout.get 0 (256 * c + id / 512)).getLsbD (id % 512)

/-- A node enters the pending set. -/
def pendAdd (c id : Nat) (s : State) : State :=
  if s.pendBit c id then s
  else
    let k := 256 * c + id / 512
    let e := s.ledger.rollout.get 0 k
    { s with ledger.rollout := s.ledger.rollout.set 0 k (e ||| BitVec.ofNat 512 (2 ^ (id % 512))) }.count
      (F.ROL_CAMP_STAT_PENDING c) 1

/-- A node leaves the pending set; the last one ends a campaign that sends. -/
def pendDrop (c id : Nat) (s : State) : State :=
  if !s.pendBit c id || 131072 ≤ id then s
  else
    let k := 256 * c + id / 512
    let e := s.ledger.rollout.get 0 k
    let s := { s with ledger.rollout := s.ledger.rollout.set 0 k (e &&& ~~~BitVec.ofNat 512 (2 ^ (id % 512))) }
    let s := s.uncount (F.ROL_CAMP_STAT_PENDING c) 1
    let x := s.camp c
    let s := s.setCamp c { x with announce := x.announce.filter (fun a => a.1 != id) }
    if s.campState c = rsSending ∧ s.fld (F.ROL_CAMP_STAT_PENDING c) = 0 then campDone c s else s

/-- A node leaves every pending set: it is freed, or it leaves this chip by handover. -/
def pendLeave (id : Nat) (s : State) : State := (List.range 16).foldl (fun s c => pendDrop c id s) s

/-- The pending set is emptied. -/
def pendClear (c : Nat) (s : State) : State :=
  let s := { s with ledger.rollout := s.ledger.rollout.filter (fun e => e.1 / 256 != c) }
  (s.setCamp c { s.camp c with announce := [] }).setFld (F.ROL_CAMP_STAT_PENDING c) 0

/-- A campaign's pending nodes, in ascending order of short ID. -/
def State.pendList (s : State) (c : Nat) : List Nat :=
  (s.ledger.rollout.filter (fun e => e.1 / 256 == c)).flatMap (fun (e : Nat × BitVec 512) =>
    ((List.range 512).filter (fun i => e.2.getLsbD i)).map (fun i => e.1 % 256 * 512 + i))

end Sys2Proof.Machine
end

