-- ==== Sys2Proof/Machine/Ledger.lean ====
section
/-! DEFINITION. The ledger access unit, learning, transactions and the background compare (R321 to R346). -/

namespace Sys2Proof.Machine

/-! ### Status codes (R346) -/

def LDG_STATE : Nat := 0x8700
def LDG_FULL : Nat := 0x8701
def LDG_EXISTS : Nat := 0x8702
def LDG_NOT_FOUND : Nat := 0x8703
def LDG_STAGE_FULL : Nat := 0x8704
def LDG_NO_LOCK : Nat := 0x8705
def LDG_ECC : Nat := 0x8706

/-- Set a bit of LDG_INT, and vector 34 where enabled. -/
def ldgRaise (bit : Nat) (s : State) : State := raise ⟨0x0C0078, 0, 5⟩ ⟨0x0C007C, 0, 5⟩ (2 ^ bit) 34 s

/-! ### Contexts (R337, R340) -/

def State.ctx (s : State) (c : Nat) : LdgCtx := s.ledger.ctxs.get LdgCtx.free c
def State.setCtx (c : Nat) (x : LdgCtx) (s : State) : State :=
  { s with ledger.ctxs := s.ledger.ctxs.set LdgCtx.free c x }

/-- The context that a requester holds. -/
def State.ctxOf (s : State) (who : Nat) : Option Nat :=
  (List.range 4).find? (fun c => (s.ctx c).owner == some who)

/-- The staged copy of an entry in a context. -/
def LdgCtx.find (x : LdgCtx) (table i : Nat) : Option Staged :=
  x.staged.find? (fun e => e.table == table && e.index == i)

/-- An entry is staged by another than `who`. -/
def State.lockedFor (s : State) (who table i : Nat) : Bool :=
  (List.range 4).any (fun c => (s.ctx c).owner != some who && ((s.ctx c).find table i).isSome)

/-- An entry is staged in some transaction. -/
def State.stagedAny (s : State) (table i : Nat) : Bool :=
  (List.range 4).any (fun c => ((s.ctx c).find table i).isSome)

/-- The entry as a requester sees it: its own staged bits over the committed entry (R338). -/
def State.view (s : State) (who table i : Nat) : BitVec 512 :=
  match s.ctxOf who with
  | none => s.row table i
  | some c =>
    match (s.ctx c).find table i with
    | none => s.row table i
    | some e => mergeBits e.mask (s.row table i) e.data

/-- Abandon a context (R340). -/
def abandon (c cause : Nat) (s : State) : State :=
  let x := s.ctx c
  match x.owner with
  | none => s
  | some who =>
    let s := s.setCtx c LdgCtx.free
    let s := s.count F.LDG_ABANDON_CNT_COUNT 1
    let s := s.setFld F.LDG_ABANDON_CNT_LAST_OWNER who
    let s := s.setFld F.LDG_ABANDON_CNT_LAST_CAUSE cause
    let s := post 20 sevRecovered 0x0D04 (arg1 who ++ arg1 c ++ arg1 x.staged.length ++ arg1 cause) s
    ldgRaise 0 s

/-- Abandon the contexts whose owner's number lies in a range. -/
def abandonOf (cause lo hi : Nat) (s : State) : State :=
  (List.range 4).foldl (fun s c =>
    match (s.ctx c).owner with
    | some w => if lo ≤ w ∧ w ≤ hi then abandon c cause s else s
    | none => s) s

/-- LDG_LOCK_TIMEOUT (R340, cause 2): district chips have the lease in its place. -/
def runLdgLockTimeout (ctx : Fin 4) (s : State) : State :=
  match (s.ctx ctx.val).owner with
  | none => s
  | some who =>
    let tmo := most2 12000 (s.word R.LDG_LOCK_TMO).toNat
    if !(0x40 ≤ who && who ≤ 0x7F) && (s.ctx ctx.val).last + tmo ≤ s.now then abandon ctx.val 2 s else s

/-! ### Operations (R321 to R326) -/

/-- An operation on an entry, as a window or LDG_ACCESS gives it. -/
structure LOp where
  op : Nat
  table : Nat
  keyed : Bool
  txn : Bool
  word : Nat
  index : Nat
  mask : Nat
  cas : Quad
  data : BitVec 512
  deriving DecidableEq, Repr

/-- What an operation answers: status, index, PROTECTED and the data window. -/
structure LRes where
  status : Nat
  index : Nat
  prot : Bool
  data : BitVec 512
  deriving DecidableEq, Repr

/-- The table accepts the operation (R321). -/
def accepts (table op : Nat) : Bool :=
  match op with
  | 0 => table ≤ 8
  | 1 | 2 | 3 => table == 0 || table == 2 || table == 3 || table == 4
  | 4 => table == 4
  | 5 => table == 0 || table == 4
  | 6 => table == 0
  | _ => false

/-- A write of an entry: WRITE, WRITE_MASKED or CAS. -/
def LOp.writes (o : LOp) : Bool := 1 ≤ o.op && o.op ≤ 3

/-- The bits that a write supplies. -/
def LOp.bits (o : LOp) : BitVec 512 :=
  let all := byteMask 0 (tableShape o.table).1
  match o.op with
  | 1 => all
  | 2 => bitMask o.mask &&& all
  | 3 => byteMask (8 * o.word) 8 &&& all
  | _ => 0

/-- The bits that R323 keeps of an NTAB entry, and the bytes in which it keeps any. -/
def keptBits (wheel : Bool) : BitVec 512 :=
  byteMask 0 8 ||| BitVec.ofNat 512 (0xF * 2 ^ 64) ||| byteMask 9 1 |||
    (if wheel then byteMask 0x0A 2 ||| byteMask 0x10 14 else 0)

/-- The bits that a write may change, for an issuer under R323 or not. -/
def State.writable (s : State) (o : LOp) (restricted : Bool) : BitVec 512 :=
  if restricted && o.table == 0 then o.bits &&& ~~~keptBits (onWheel (s.nodeState o.index)) else o.bits

/-- A write to entry 0 or the broadcast entry, but for the OUT_CTR bytes of entry 0 (R316). -/
def reservedWrite (o : LOp) : Bool :=
  (o.table == 0 || o.table == 2 || o.table == 3) && (o.index == 0 || o.index == broadcastId) &&
    !(o.table == 0 && o.index == 0 && o.op == 2 && o.bits != 0 && o.bits &&& ~~~byteMask 0x34 4 == 0)

/-- Parameters that the tables refuse (R316, R321). -/
def badOp (o : LOp) : Bool :=
  !accepts o.table o.op ||
  (o.keyed && !(o.op == 0 && (o.table == 1 || o.table == 4))) ||
  (!(o.keyed || (o.op == 5 && o.table == 4)) && (tableShape o.table).2 ≤ o.index) ||
  (o.op == 3 && (tableShape o.table).1 ≤ 8 * o.word) ||
  (o.op == 5 && o.table == 0 && o.index == broadcastId) ||
  (o.writes && reservedWrite o)

/-- NTAB, DIGEST and NAUX are read-only in BANKED (R321). -/
def bankedRefuses (o : LOp) : Bool :=
  (o.table == 0 || o.table == 2 || o.table == 3) && (o.writes || o.op == 5 || o.op == 6)

/-- The node entry of a write is FREE (R321); entry 0 is not FREE for this rule. -/
def State.freeTarget (s : State) (o : LOp) : Bool :=
  o.writes && (o.table == 0 || o.table == 2 || o.table == 3) && o.index != 0 && s.nodeState o.index == nsFree

/-- The first failing check of an operation on a named entry. The spec gives no order; the model takes its
parameters, the mode, the context, the errors, the state and the locks in turn. -/
def State.opFail (s : State) (who : Nat) (restricted : Bool) (o : LOp) : Option Nat :=
  firstFail
    [(badOp o, St.BAD_PARAM),
     (s.inMode [.banked] && bankedRefuses o, St.NOT_IN_MODE),
     (o.txn && (s.ctxOf who).isNone, LDG_NO_LOCK),
     (!o.keyed && !(o.op == 5) && s.rowBad o.table o.index &&
       !(o.writes && s.heals o.table o.index (s.writable o restricted)), LDG_ECC),
     (s.freeTarget o, LDG_STATE),
     (!(o.op == 0) && !(o.op == 5) && s.lockedFor who o.table o.index, St.TBL_LOCKED)]

/-- Apply bits to the committed entry. -/
def putBits (table i : Nat) (mask data : BitVec 512) (s : State) : State :=
  healRow table i mask (s.setRow table i (mergeBits mask (s.row table i) data))

/-- Word `w` of an entry. -/
def wordOf (e : BitVec 512) (w : Nat) : Quad := BitVec.ofNat 64 (e.toNat / 2 ^ (64 * w))

/-- Merge bits into a context's slot for an entry, making the slot where there is none. A compare that was made keeps
its word, its value and the bits of it that the owner had not staged: those are compared again at the commit. -/
def stageBits (x : LdgCtx) (table i : Nat) (mask data : BitVec 512) (cas : List (Nat × Quad)) : LdgCtx :=
  match x.find table i with
  | some old =>
    let again := cas.map (fun c => (c.1, c.2, ~~~wordOf old.mask c.1))
    { x with staged := x.staged.map (fun (e : Staged) =>
        if e.table == table && e.index == i then
          { e with mask := e.mask ||| mask, data := mergeBits mask e.data data, cas := e.cas ++ again } else e) }
  | none => { x with staged := x.staged ++ [⟨table, i, mask, data, cas.map (fun c => (c.1, c.2, BitVec.allOnes 64))⟩] }

/-- WRITE, WRITE_MASKED and CAS, applied or staged. -/
def writeOp (who : Nat) (restricted : Bool) (o : LOp) (s : State) : LRes × State :=
  let old := s.view who o.table o.index
  let mask := s.writable o restricted
  let prot := restricted && o.table == 0 && o.bits &&& keptBits (onWheel (s.nodeState o.index)) != 0
  if o.op = 3 ∧ wordOf old o.word ≠ o.cas then (⟨St.TBL_CAS_FAIL, o.index, false, old⟩, s)
  else
    match (if o.txn then s.ctxOf who else none) with
    | none =>
      let s := putBits o.table o.index mask o.data s
      (⟨St.OK, o.index, prot, s.view who o.table o.index⟩, s)
    | some c =>
      let x := s.ctx c
      if (x.find o.table o.index).isNone ∧ 64 ≤ x.staged.length then
        (⟨LDG_STAGE_FULL, o.index, false, old⟩, s)
      else
        let s := s.setCtx c (stageBits x o.table o.index mask o.data
          (if o.op = 3 then [(o.word, o.cas)] else []))
        (⟨St.OK, o.index, prot, s.view who o.table o.index⟩, s)

/-- The key of a KEYED read or of an ALLOC: data bytes 0 to 7. -/
def LOp.key (o : LOp) : Nat := o.data.toNat % 2 ^ 64

/-- READ. -/
def readOp (who : Nat) (o : LOp) (s : State) : LRes :=
  let found := if o.keyed then (if o.table = 1 then s.emapFind o.key else s.bntFind o.key) else some o.index
  match found with
  | none => ⟨LDG_NOT_FOUND, 0, false, o.data⟩
  | some i =>
    if s.rowBad o.table i then ⟨LDG_ECC, i, false, s.view who o.table i⟩
    else ⟨St.OK, i, false, s.view who o.table i⟩

/-- The entry that ALLOC writes (R325). -/
def State.newNode (s : State) (eui : Nat) : BitVec 512 :=
  N.OWNER_CHIP.write s.chipNo (N.LOCAL.write 1 (N.STATE.write nsLearned (N.EUI64.write eui 0)))

/-- ALLOC on NTAB; where no entry is found the data window stays as the requester gave it. -/
def allocNode (who eui index : Nat) (data : BitVec 512) (s : State) : LRes × State :=
  match s.idOf eui with
  | some id => (⟨LDG_EXISTS, id, false, s.view who 0 id⟩, s)
  | none =>
    let id := if index = 0 then lowestFree s.ledger.ntab 1 else index
    if index ≠ 0 ∧ s.lockedFor who 0 index = true then (⟨St.TBL_LOCKED, index, false, s.row 0 index⟩, s)
    else if index ≠ 0 ∧ s.nodeState index ≠ nsFree then (⟨LDG_STATE, index, false, s.view who 0 index⟩, s)
    else if broadcastId ≤ id then (⟨LDG_FULL, 0, false, data⟩, s)
    else if s.rowBad 0 id then (⟨LDG_ECC, id, false, s.row 0 id⟩, s)
    else if s.lockedFor who 0 id then (⟨St.TBL_LOCKED, id, false, s.row 0 id⟩, s)
    else
      match emapPlace eui s with
      | none => (⟨LDG_FULL, index, false, if index = 0 then data else s.view who 0 index⟩, s)
      | some (slot, s) =>
        let s := (s.setSlot slot (emapEntry eui id)).setNode id (s.newNode eui)
        (⟨St.OK, id, false, s.node id⟩, s)

/-- ALLOC on BNT: a static entry (R325). -/
def allocBnt (who : Nat) (o : LOp) (s : State) : LRes × State :=
  let port := o.data.toNat / 2 ^ 64 % 2
  let target := match s.bntFind o.key with
    | some i => some i
    | none => s.bntWay o.key
  match target with
  | none => (⟨LDG_FULL, 0, false, o.data⟩, s)
  | some i =>
    if s.lockedFor who 4 i then (⟨St.TBL_LOCKED, i, false, s.row 4 i⟩, s)
    else
      let seen := if (s.bntFind o.key).isSome then bntSeen (s.bntEntry i) else at24 s.now
      let s := s.setBnt i (bntMake o.key port seen true)
      (⟨St.OK, i, false, s.row 4 i⟩, s)

/-- Free a node's short ID (R326): its slot, entry and words, its bits in the bitmaps, its soft-combining
entries (R179) and its overrides (R227). -/
def freeNode (id : Nat) (s : State) : State :=
  let s := match s.emapFind (s.nf id N.EUI64) with
    | some i => if emapId (s.slot i) = id then s.setSlot i 0 else s
    | none => s
  let s := ((s.setNode id 0).setDigest id 0).setNaux id 0
  let s := pendLeave id s
  { s with demod.comb := s.demod.comb.filter (fun e => e.shortId != id),
           sched.override := s.sched.override.filter (fun e => e.1 != id),
           frames.restart := s.frames.restart.set 0 id 1 }

/-- FREE on NTAB. -/
def freeOp (o : LOp) (s : State) : LRes × State :=
  let st := s.nodeState o.index
  if st ≠ nsLearned ∧ st ≠ nsLapsed then (⟨LDG_STATE, o.index, false, o.data⟩, s)
  else (⟨St.OK, o.index, false, o.data⟩, freeNode o.index s)

/-- One operation of the access unit, complete and indivisible (R324). -/
def ledgerOp (who : Nat) (restricted : Bool) (o : LOp) (s : State) : LRes × State :=
  let s := match (if o.txn then s.ctxOf who else none) with
    | some c => s.setCtx c { s.ctx c with last := s.now }
    | none => s
  match s.opFail who restricted o with
  | some st =>
    (⟨st, o.index, false, if badOp o then o.data else if o.op = 4 ∨ o.op = 6 then o.data
      else s.view who o.table o.index⟩, s)
  | none =>
    match o.op with
    | 0 => (readOp who o s, s)
    | 4 => (⟨St.OK, o.index, false, o.data⟩, healRow 4 o.index (byteMask 0 16) (s.setBnt o.index 0))
    | 5 => if o.table = 0 then allocNode who o.key o.index o.data s else allocBnt who o s
    | 6 => freeOp o s
    | _ => writeOp who restricted o s

/-! ### Access windows -/

/-- RESULT of LDG_WSTAT: the codes 8 and 9 that the register's text does not list follow the order of R346. -/
def resultCode (status : Nat) : Nat :=
  if status = St.OK then 0
  else if status = St.TBL_LOCKED then 1
  else if status = St.TBL_CAS_FAIL then 2
  else if status = St.BAD_PARAM then 3
  else if status = St.NOT_IN_MODE then 11
  else status - 0x8700 + 4

/-- The requester behind a window: the writer of windows 1 to 3, BAR0 for window 0. -/
def windowWho (w : Writer) (win : Nat) : Nat :=
  match w with
  | .bar0 => 0x100
  | .req n => if win = 0 then 0x100 else n.toNat

/-- A write of LDG_CMD: the operation runs. Windows 1 to 3 take writes of the firmware only, and TXN reads 0 in
window 0. -/
def ldgCmdWrite (w : Writer) (win : Nat) (v : Word) (s : State) : State :=
  atReg (R.LDG_CMD win) (fun s =>
    if win ≠ 0 ∧ writerIsFirmware w = false then s
    else
      let v : Word := if win = 0 then v &&& 0x7FF3FFFF#32 else v &&& 0xFFF3FFFF#32
      let n := v.toNat
      let o : LOp :=
        { op := n / 2 ^ 28 % 8, table := n / 2 ^ 24 % 16, keyed := n / 2 ^ 23 % 2 == 1, txn := n / 2 ^ 31 == 1,
          word := n / 2 ^ 20 % 8, index := n % 2 ^ 18,
          mask := s.pair (R.LDG_MASK_LO win) (R.LDG_MASK_HI win),
          cas := BitVec.ofNat 64 (s.pair (R.LDG_CAS_LO win) (R.LDG_CAS_HI win)),
          data := BitVec.ofNat 512 (leNat ((List.range 16).flatMap (fun k =>
            leBytes 4 (s.word (R.LDG_DATA win k)).toNat))) }
      let s := s.setWord (R.LDG_CMD win) v
      let (r, s) := ledgerOp (windowWho w win) (win == 0) o s
      let s := storeWords (R.LDG_DATA win 0) 16 (leBytes 64 r.data.toNat) s
      let s := s.setFlag (F.LDG_WSTAT_PROTECTED win) r.prot
      let s := s.setFld (F.LDG_WSTAT_RESULT win) (resultCode r.status)
      s.setFld (F.LDG_WSTAT_INDEX win) r.index) s

/-- A row that names the operation. -/
def ldgRow (op : Nat) (w : Writer) (win : Fin 4) (v : Word) (s : State) : State :=
  ldgCmdWrite w win.val ((v &&& 0x8FFFFFFF#32) ||| BitVec.ofNat 32 (op * 2 ^ 28)) s

def runLdgOpRead (w : Writer) (win : Fin 4) (v : Word) (s : State) : State := ldgRow 0 w win v s
def runLdgOpWrite (w : Writer) (win : Fin 4) (v : Word) (s : State) : State := ldgRow 1 w win v s
def runLdgOpWriteMasked (w : Writer) (win : Fin 4) (v : Word) (s : State) : State := ldgRow 2 w win v s
def runLdgOpCas (w : Writer) (win : Fin 4) (v : Word) (s : State) : State := ldgRow 3 w win v s
def runLdgOpInvalidate (w : Writer) (win : Fin 4) (v : Word) (s : State) : State := ldgRow 4 w win v s
def runLdgOpAlloc (w : Writer) (win : Fin 4) (v : Word) (s : State) : State := ldgRow 5 w win v s
def runLdgOpFree (w : Writer) (win : Fin 4) (v : Word) (s : State) : State := ldgRow 6 w win v s

/-! ### Commands -/

/-- R323 binds every issuer but the protocol cores and the management controller. -/
def restrictedIssuer (p : Packet) : Bool := !(1 ≤ p.issuer.toNat && p.issuer.toNat ≤ 5)

/-- LDG_ACCESS. -/
def opLdgAccess (p : Packet) (s : State) : State :=
  let o : LOp :=
    { op := p.u8 0, table := p.u8 1, keyed := p.bit 2 0, txn := p.bit 2 1, word := p.u8 3,
      index := p.u32 4, mask := p.u64 8, cas := BitVec.ofNat 64 (p.u64 16),
      data := BitVec.ofNat 512 (leNat (p.bytes 32 64)) }
  let (r, s) :=
    if 3 < p.u8 2 || 7 < p.u8 3 || p.dirty 24 8 then (⟨St.BAD_PARAM, o.index, false, o.data⟩, s)
    else ledgerOp p.issuer.toNat (restrictedIssuer p) o s
  reply p r.status (leBytes 4 r.index ++ leBytes 1 (if r.prot then 1 else 0) ++ leBytes 3 0 ++
    leBytes 64 r.data.toNat) s

def runLdgAccess (p : Packet) (s : State) : State := command 0x7001 (lenIs 96) coreModes opLdgAccess p s

/-- LDG_LOCK (R337). -/
def opLdgLock (p : Packet) (s : State) : State :=
  let who := p.issuer.toNat
  let answer (c : Nat) (s : State) : State :=
    done p (leBytes 1 c ++ leBytes 1 (s.ctx c).staged.length ++ leBytes 2 0) s
  match s.ctxOf who with
  | some c => answer c s
  | none =>
    match (List.range 4).find? (fun c => (s.ctx c).owner.isNone) with
    | none => reply p St.TBL_LOCKED [] s
    | some c => answer c (s.setCtx c ⟨some who, [], s.now⟩)

def runLdgLock (p : Packet) (s : State) : State := command 0x7002 (lenIs 0) coreModes opLdgLock p s

/-- A staged compare that no longer holds on the committed entry. -/
def State.casFails (s : State) (e : Staged) : Bool :=
  e.cas.any (fun c => (wordOf (s.row e.table e.index) c.1 ^^^ c.2.1) &&& c.2.2 != 0)

/-- LDG_UNLOCK (R339). -/
def opLdgUnlock (p : Packet) (s : State) : State :=
  checked p [(1 < p.u8 0 || p.dirty 1 3, St.BAD_PARAM),
    ((s.ctxOf p.issuer.toNat).isNone, LDG_NO_LOCK)] (fun s =>
    match s.ctxOf p.issuer.toNat with
    | none => s
    | some c =>
      let staged := (s.ctx c).staged
      let s := s.setCtx c LdgCtx.free
      if !p.bit 0 0 then done p (leBytes 8 0) s
      else
        match staged.find? s.casFails with
        | some e =>
          reply p St.TBL_CAS_FAIL (leBytes 2 0 ++ leBytes 2 e.table ++ leBytes 4 e.index) s
        | none =>
          let s := staged.foldl (fun s (e : Staged) => putBits e.table e.index e.mask e.data s) s
          done p (leBytes 2 staged.length ++ leBytes 6 0) s) s

def runLdgUnlock (p : Packet) (s : State) : State := command 0x7003 (lenIs 4) coreModes opLdgUnlock p s

/-- LDG_LEARN_SET. -/
def opLdgLearnSet (p : Packet) (s : State) : State :=
  checked p [(3 < p.u8 0 || p.u8 1 == 0 || p.u16 2 == 0 || 2000 < p.u16 2 || p.dirty 8 4, St.BAD_PARAM)]
    (fun s =>
    let s := s.setFlag F.LDG_LEARN_CTL_NODE_EN (p.bit 0 0)
    let s := s.setFlag F.LDG_LEARN_CTL_BNT_EN (p.bit 0 1)
    let s := s.setFld F.LDG_LEARN_CTL_BURST (p.u8 1)
    let s := s.setFld F.LDG_LEARN_CTL_RATE (p.u16 2)
    let s := s.setFld F.LDG_AGE_CFG_LEARN_AGE_S (p.u16 4)
    let s := s.setFld F.LDG_AGE_CFG_BNT_AGE_S (p.u16 6)
    done p [] { s with ledger.tokens := least2 s.ledger.tokens (p.u8 1) }) s

def runLdgLearnSet (p : Packet) (s : State) : State := command 0x7004 (lenIs 12) coreModes opLdgLearnSet p s

/-- A mismatch record in its 16 bytes. -/
def Mismatch.bytes (m : Mismatch) : List Byte :=
  leBytes 4 (m.shortId + (if m.ecc then 2 ^ 30 else 0) + (if m.xref then 2 ^ 31 else 0)) ++
    leBytes 8 m.mask ++ leBytes 4 m.at24

/-- LDG_MISMATCH_READ. -/
def opLdgMismatchRead (p : Packet) (s : State) : State :=
  checked p [(p.u8 0 == 0 || 29 < p.u8 0 || p.dirty 1 3, St.BAD_PARAM)] (fun s =>
    let out := s.ledger.mmf.take (p.u8 0)
    let s := { s with ledger.mmf := s.ledger.mmf.drop (p.u8 0) }
    done p (leBytes 1 out.length ++ leBytes 1 0 ++ leBytes 2 (s.fld F.LDG_MMF_STAT_OVERFLOW) ++
      out.flatMap Mismatch.bytes) s) s

def runLdgMismatchRead (p : Packet) (s : State) : State :=
  command 0x7005 (lenIs 4) coreModes opLdgMismatchRead p s

/-- LDG_MMF_POP. -/
def runLdgMmfPop (v : Word) (s : State) : State :=
  atReg R.LDG_MMF_POP (fun s =>
    if v.getLsbD 0 then { s with ledger.mmf := s.ledger.mmf.drop 1 } else s) s

/-! ### Learning (R327 to R333) -/

/-- LEARN_TOKEN_REFILL (R328). -/
def runLearnTokenRefill (s : State) : State :=
  let per := 120000000 / s.fld F.LDG_LEARN_CTL_RATE
  let k := (s.now - s.ledger.tokenAt) / per
  { s with ledger.tokens := least2 (s.fld F.LDG_LEARN_CTL_BURST) (s.ledger.tokens + k),
           ledger.tokenAt := s.ledger.tokenAt + k * per }

/-- BNT_TOKEN_REFILL (R333): 1,000 a second, to 64. -/
def runBntTokenRefill (s : State) : State :=
  let k := (s.now - s.ledger.bntTokenAt) / 120000
  { s with ledger.bntTokens := least2 64 (s.ledger.bntTokens + k),
           ledger.bntTokenAt := s.ledger.bntTokenAt + k * 120000 }

/-- A learn (R329): the new node's short ID, or nothing where ALLOC does not succeed. -/
def learnNode (eui slot profile rssi lqi syncEnd : Nat) (cfo : BitVec 16) (s : State) : Option (Nat × State) :=
  let (r, s') := allocNode 0x06 eui 0 0 s
  if r.status ≠ St.OK then none
  else
    let id := r.index
    let s := { s' with ledger.tokens := s'.ledger.tokens - 1 }
    let s := s.setNf id N.LEARN_PENDING 1
    let s := s.setNf id N.PHY_PROFILE profile
    let s := s.setNf id N.RSSI rssi
    let s := s.setNf id N.LQI lqi
    let s := s.setNf id N.CFO cfo.toNat
    let s := s.setNf id N.ANCHOR syncEnd
    let s := s.setNf id N.LAST_HEARD (at24 syncEnd)
    let s := s.setNaux id (nauxSetLearnChan slot (s.naux id))
    let s := s.count F.LDG_LEARN_CNT0_LEARNED 1
    let s := post 20 sevInfo 0x0D01 (arg4 id ++ arg8 eui ++ arg1 slot ++ arg1 rssi ++
      leBytes 2 cfo.toNat ++ arg4 (at24 syncEnd)) s
    some (id, s)

/-- A frame that could not be learned (R330): for want of a token, or of space. -/
def learnRefused (space : Bool) (s : State) : State :=
  let s := if space then s.count F.LDG_LEARN_CNT1_FULL 1 else s.count F.LDG_LEARN_CNT0_RATE_LIMITED 1
  let full := s.ledger.refusedFull + (if space then 1 else 0)
  match limited 120000000 s.now s.ledger.refusedLim with
  | (some n, l) =>
    post 20 sevDegraded 0x0D03 (arg2 (n - full) ++ arg2 full)
      { s with ledger.refusedLim := l, ledger.refusedFull := 0 }
  | (none, l) => { s with ledger.refusedLim := l, ledger.refusedFull := full }

/-- A refresh of a LEARNED entry (R331). -/
def learnRefresh (id slot profile rssi lqi syncEnd : Nat) (s : State) : State :=
  let s := s.setNf id N.RSSI rssi
  let s := s.setNf id N.LQI lqi
  let s := s.setNf id N.PHY_PROFILE profile
  let s := s.setNf id N.ANCHOR syncEnd
  s.setNaux id (nauxSetLearnChan slot (s.naux id))

/-- LEARN_AGED (R332): due for a LEARNED entry, neither FROZEN nor staged, past its age. -/
def runLearnAged (node : BitVec 17) (s : State) : State :=
  let id := node.toNat
  let age := s.fld F.LDG_AGE_CFG_LEARN_AGE_S * 120000000
  if age = 0 ∨ s.nodeState id ≠ nsLearned ∨ s.nf id N.FROZEN = 1 ∨ s.stagedAny 0 id = true ∨
      s.now ≤ s.nf id N.ANCHOR + age then s
  else
    let s := (freeNode id s).count F.LDG_LEARN_CNT1_AGED 1
    match limited 120000000 s.now s.ledger.agedLim with
    | (some n, l) => post 20 sevInfo 0x0D02 (arg2 n ++ arg4 id) { s with ledger.agedLim := l }
    | (none, l) => { s with ledger.agedLim := l }

/-- Learning of a backhaul neighbour (R333) from a frame of port `p` with source key `key`. -/
def bntLearn (p key : Nat) (s : State) : State :=
  if s.bntBad key then s
  else match s.bntFind key with
  | some i =>
    let e := s.bntEntry i
    if bntStatic e then s.setBnt i (bntMake key (bntPort e) (at24 s.now) true)
    else
      let s' := s.setBnt i (bntMake key p (at24 s.now) false)
      if bntPort e = p % 2 then s' else s'.count F.LDG_BNT_CNT0_MOVED 1
  | none =>
    if !s.flag F.LDG_LEARN_CTL_BNT_EN then s
    else if s.ledger.bntTokens = 0 then s.count F.LDG_BNT_CNT1_REFUSED 1
    else
      match s.bntWay key with
      | none => s.count F.LDG_BNT_CNT1_REFUSED 1
      | some i =>
        let s := { s with ledger.bntTokens := s.ledger.bntTokens - 1 }
        (s.setBnt i (bntMake key p (at24 s.now) false)).count F.LDG_BNT_CNT0_LEARNED 1

/-- BNT_AGE (R333): due for a learned entry not seen for longer than BNT_AGE_S. -/
def runBntAge (idx : Fin 4096) (s : State) : State :=
  let e := s.bntEntry idx.val
  let age := s.fld F.LDG_AGE_CFG_BNT_AGE_S * 120000000
  let unseen := (at24 s.now + 2 ^ 32 - bntSeen e) % 2 ^ 32 * 2 ^ 24
  if age = 0 ∨ bntValid e = false ∨ bntStatic e = true ∨ unseen ≤ age then s
  else (s.setBnt idx.val 0).count F.LDG_BNT_CNT1_AGED 1

/-! ### Background compare (R341 to R345) -/

/-- Address of the shadow, and whether its 8 MB lie in DRAM. -/
def State.shadowBase (s : State) : Nat :=
  s.fld F.LDG_BGC_BASE_LO_BASE * 4096 + s.fld F.LDG_BGC_BASE_HI_BASE * 2 ^ 32
def State.shadowOk (s : State) : Bool :=
  dramBase ≤ s.shadowBase && s.shadowBase + 2 ^ 23 ≤ dramBase + s.dramBytes

/-- BGC_CTL_WRITE: EN is refused where the shadow does not lie in DRAM; setting it begins a sweep at FIRST. -/
def runBgcCtlWrite (v : Word) (s : State) : State :=
  atReg R.LDG_BGC_CTL (fun s =>
    let was := s.flag F.LDG_BGC_CTL_EN
    let en := v.getLsbD 31 && s.shadowOk
    let s := (s.setWord R.LDG_BGC_CTL (v &&& 0xFFFF0000#32)).setFlag F.LDG_BGC_CTL_EN en
    let s := s.setFlag F.LDG_BGC_STAT_RUNNING en
    if en && !was then
      { s.setFld F.LDG_BGC_STAT_POSITION (s.fld F.LDG_BGC_FIRST_SHORT_ID) with ledger.visitAt := s.now }
    else s) s

/-- The bytes in which two entries differ, of those that a mask selects. -/
def diffBytes (mask : Nat) (a b : List Byte) : Nat :=
  sumOf ((List.range 64).map (fun i =>
    if mask / 2 ^ i % 2 = 1 ∧ a.getD i 0 ≠ b.getD i 0 then 2 ^ i else 0))

/-- A record enters the FIFO (R342). -/
def mismatch (m : Mismatch) (s : State) : State :=
  let s := if 64 ≤ s.ledger.mmf.length then ldgRaise 2 (s.count F.LDG_MMF_STAT_OVERFLOW 1)
    else { s with ledger.mmf := s.ledger.mmf ++ [m] }
  let s := ldgRaise 1 s
  match limited 120000 s.now s.ledger.mismatchLim with
  | (some n, l) => post 20 sevDegraded 0x0D05 (arg2 n) { s with ledger.mismatchLim := l }
  | (none, l) => { s with ledger.mismatchLim := l }

/-- The end of a sweep (R341). -/
def sweepEnd (s : State) : State :=
  let s := s.wrapCount F.LDG_BGC_STAT_SWEEPS 1
  let s := s.setFld F.LDG_BGC_STAT_POSITION (s.fld F.LDG_BGC_FIRST_SHORT_ID)
  if s.flag F.LDG_BGC_CTL_ONCE then
    let s := (s.setFlag F.LDG_BGC_CTL_EN false).setFlag F.LDG_BGC_STAT_RUNNING false
    post 20 sevInfo 0x0D07 [] (ldgRaise 3 s)
  else s

/-- BGC_VISIT (R341 to R343): due one every ⌊120,000 / RATE⌋ ticks. -/
def runBgcVisit (s : State) : State :=
  let per := 120000 / most2 1 (s.fld F.LDG_BGC_CTL_RATE)
  if !s.flag F.LDG_BGC_STAT_RUNNING ∨ s.now < s.ledger.visitAt + per then s
  else
    let id := s.fld F.LDG_BGC_STAT_POSITION
    let mask := s.pair R.LDG_BGC_MASK_LO R.LDG_BGC_MASK_HI
    let diff := diffBytes mask (leBytes 64 (s.node id).toNat)
      (s.dramRead (s.shadowBase + 64 * id - dramBase) 64)
    let ecc := s.rowBad 0 id
    let xref := s.flag F.LDG_BGC_CTL_XREF && s.nodeState id != nsFree && s.idOf (s.nf id N.EUI64) != some id
    let s := { s with ledger.visitAt := s.ledger.visitAt + per }
    let s := if diff ≠ 0 ∨ ecc = true ∨ xref = true then mismatch ⟨id, xref, ecc, diff, at24 s.now⟩ s else s
    if s.fld F.LDG_BGC_LAST_SHORT_ID ≤ id then sweepEnd s else s.setFld F.LDG_BGC_STAT_POSITION (id + 1)

/-- LDG_ECC_UNCORR (R344): a word of an entry of a table shows an uncorrectable error. -/
def runLdgEccUncorr (table : Fin 9) (idx : BitVec 18) (word : Fin 8) (s : State) : State :=
  if (tableShape table.val).2 ≤ idx.toNat ∨ (tableShape table.val).1 ≤ 8 * word.val then s
  else
    let e := (table.val, idx.toNat, word.val)
    let s := if s.ledger.bad.contains e then s else { s with ledger.bad := e :: s.ledger.bad }
    let s := s.count F.LDG_ECC_CNT_UNCORRECTABLE 1
    post 20 sevDegraded 0x0D06 (arg1 table.val ++ arg4 idx.toNat) (ldgRaise 4 s)

end Sys2Proof.Machine
end

