-- ==== Sys2Proof/Machine/Regulatory.lean ====
section
/-! DEFINITION. The regulatory profile and its tightening (R120 to R124), and the policy envelope as far as other
blocks consult it (R225 to R229). -/

namespace Sys2Proof.Machine

/-! ### The profile -/

/-- An entry of a profile (R120). -/
structure Band where
  valid : Bool
  feast : Bool
  maxDrive : Nat
  lo : Nat
  hi : Nat
  dwellMs : Nat
  dwellWin : Nat
  dutyPpm : Nat
  dutyWin : Nat
  thresh : Nat
  listen : Nat
  /-- Its reserved fields. -/
  spare : Nat
  deriving DecidableEq, Repr

/-- The entry in four words. -/
def Band.of (w : List Nat) : Band :=
  let w0 := nth w 0
  let w1 := nth w 1
  let w2 := nth w 2
  let w3 := nth w 3
  { valid := bitsOf w0 31 31 == 1, feast := bitsOf w0 30 30 == 1, maxDrive := bitsOf w0 28 22,
    lo := bitsOf w0 21 0, hi := bitsOf w1 21 0, dwellMs := bitsOf w1 31 22, dwellWin := bitsOf w2 11 0,
    dutyPpm := bitsOf w2 31 12, dutyWin := bitsOf w3 31 20, thresh := bitsOf w3 19 12,
    listen := bitsOf w3 11 4, spare := bitsOf w0 29 29 + bitsOf w3 3 0 }

/-- The four words of entry `e` of a profile. -/
def profileEntry (ws : List Word) (e : Nat) : List Nat := ((ws.drop (4 + 4 * e)).take 4).map (·.toNat)

/-- The ranges of R120 for a valid entry. -/
def Band.ok (b : Band) : Bool :=
  !b.valid ||
    (b.maxDrive ≤ 64 && b.lo < b.hi && b.dutyPpm ≤ 1000000 && (b.dwellMs == 0 || b.dwellWin != 0) &&
      (if b.feast then 60 ≤ b.dutyWin && b.dutyWin ≤ 3600 else b.dutyWin == 0) && b.spare == 0)

def wordBytes (ws : List Word) : List Byte := ws.flatMap (fun w => leBytes 4 w.toNat)

/-- The checks of R122 on a programmed image of 68 words. -/
def profileOk (ws : List Word) : Bool :=
  let w0 := (ws.getD 0 0).toNat
  w0 % 256 == 1 && w0 / 256 % 256 == 0 && ws.getD 2 0 == 0 && ws.getD 3 0 == 0 &&
    crc32 (wordBytes (ws.take 1 ++ ws.drop 4)) == ws.getD 1 0 &&
    (List.range 16).all (fun e => (Band.of (profileEntry ws e)).ok)

/-- The profile words of OTP, and the REGLOCK fuse. -/
def State.otpProfile (s : State) : List Word := s.otp.getRun 0 0x100 68
def State.regLock (s : State) : Bool := (s.otp.get 0 0x144).getLsbD 0

/-- RFE_REG_STAT.PROFILE_ID and FORMAT from a profile's first word. -/
def regStat (ws : List Word) (s : State) : State :=
  let w0 := (ws.getD 0 0).toNat
  (s.setFld F.RFE_REG_STAT_PROFILE_ID (w0 / 65536)).setFld F.RFE_REG_STAT_FORMAT (w0 % 256)

/-- The OTP profile becomes the active profile (R122, R123). -/
def adoptOtpProfile (s : State) : State :=
  let ws := s.otpProfile
  let empty := (ws.getD 0 0).toNat % 256 == 0
  let ok := profileOk ws
  let s := regStat ws { s with radio.profile := if ok then ws else [] }
  let s := s.setFlag F.RFE_REG_STAT_RAM_PROFILE false
  let s := s.setFlag F.RFE_REG_STAT_REGLOCK s.regLock
  let s := s.setFlag F.RFE_REG_STAT_PROFILE_BAD (!ok && !empty)
  if ok then s
  else if empty then post 6 sevInfo 0x0205 [] s
  else post 6 sevDegraded 0x0206 [] s

/-- Least of an optional limit and a value. -/
def lower (o : Option Nat) (v : Nat) : Nat :=
  match o with
  | none => v
  | some t => least2 t v

def State.tighten (s : State) (e : Nat) : Tighten := s.radio.tighten.get Tighten.none e

/-- The effective dwell limit and window of an entry (R124): none where it has no limit. -/
def bandDwell (b : Band) (t : Tighten) : Option (Nat × Nat) :=
  match t.dwellMs with
  | none => if b.dwellMs = 0 then none else some (b.dwellMs, b.dwellWin)
  | some v => if b.dwellMs = 0 then some (v, 1) else some (least2 b.dwellMs v, b.dwellWin)

/-- An entry of the active profile after tightening. -/
def State.band (s : State) (e : Nat) : Band :=
  let b := Band.of (profileEntry s.radio.profile e)
  let t := s.tighten e
  { b with maxDrive := lower t.drive b.maxDrive, dutyPpm := lower t.dutyPpm b.dutyPpm,
           thresh := if b.listen = 0 then b.thresh else lower t.lbt b.thresh }

def State.bandDwell (s : State) (e : Nat) : Option (Nat × Nat) :=
  Sys2Proof.Machine.bandDwell (Band.of (profileEntry s.radio.profile e)) (s.tighten e)

/-- The words of an entry after tightening (RADIO_REG_READ). -/
def State.bandWords (s : State) (e : Nat) : List Nat :=
  let w := profileEntry s.radio.profile e
  let b := s.band e
  let d := (s.bandDwell e).getD (0, bitsOf (nth w 2) 11 0)
  let put (v hi lo x : Nat) : Nat := v - bitsOf v hi lo * 2 ^ lo + x % 2 ^ (hi + 1 - lo) * 2 ^ lo
  [put (nth w 0) 28 22 b.maxDrive, put (nth w 1) 31 22 d.1, put (put (nth w 2) 31 12 b.dutyPpm) 11 0 d.2,
   put (nth w 3) 19 12 b.thresh]

/-- What applies to an occupied band (R121). -/
structure Effective where
  maxDrive : Nat
  dwell : Option (Nat × Nat)
  /-- Entry, ppm and window of each duty check (R217). -/
  duty : List (Nat × Nat × Nat)
  /-- Feast entries charged. -/
  charged : List Nat
  lbt : Option (Nat × Nat)
  deriving DecidableEq, Repr

/-- The entries that contain a band given by its edges in Hz. -/
def State.bandsOf (s : State) (lo hi : Int) : List Nat :=
  (List.range 16).filter (fun e =>
    let b := s.band e
    b.valid && (1000 * b.lo : Int) ≤ lo && hi ≤ (1000 * b.hi : Int))

/-- Least of a non-empty list. -/
def leastNat : List Nat → Nat
  | [] => 0
  | x :: l => l.foldl least2 x

/-- The strictest of the limits of several entries, by the first component. -/
def strictest (l : List (Nat × Nat)) : Option (Nat × Nat) := (sortBy (·.1) l).head?

/-- The effective entry of an occupied band: none where no entry contains it. -/
def State.effective (s : State) (lo hi : Int) : Option Effective :=
  let es := s.bandsOf lo hi
  if es.isEmpty then none
  else
    let feast := es.filter (fun e => (s.band e).feast)
    let ppm := leastNat (feast.map (fun e => (s.band e).dutyPpm))
    let lbt := es.filter (fun e => (s.band e).listen != 0)
    some
      { maxDrive := leastNat (es.map (fun e => (s.band e).maxDrive)),
        dwell := strictest (es.filterMap s.bandDwell),
        duty := (feast.filter (fun e => (s.band e).dutyPpm == ppm)).map (fun e => (e, ppm, (s.band e).dutyWin)),
        charged := feast,
        lbt := if lbt.isEmpty then none else
          some (leastNat (lbt.map (fun e => (s.band e).thresh)), greatest (lbt.map (fun e => (s.band e).listen))) }

/-! ### The policy envelope (R225 to R229) -/

/-- The default record of a decision (SCHED_ENVELOPE_SET): FREE. -/
def defaultEnv (d : Nat) : EnvRec :=
  match d with
  | 0 => ⟨0, 160000, 2500000, 0, 0, false⟩
  | 1 => ⟨0, 136000, 2524000, 4, 0, false⟩
  | 2 => ⟨0, 8, 0, 0, BitVec.allOnes 256, false⟩
  | 3 => ⟨0, 1, 65535, 6, 0, false⟩
  | 4 => ⟨0, 0, 3, 0, 0, false⟩
  | 5 => ⟨0, 0, 64, 120, 0, false⟩
  | 6 => ⟨0, 0, 8, 0, 0, false⟩
  | _ => ⟨0, 0, 4, 0, 0, false⟩

def State.chipEnv (s : State) (d : Nat) : EnvRec := s.sched.chipRec.getD d (defaultEnv d)

/-- The record of a pair for SPAN or CHAN, of a map, of a node (R227). -/
def State.pairEnv (s : State) (d p : Nat) : EnvRec := (s.sched.pairRec.get none (4 * d + p)).getD (s.chipEnv d)
def State.mapEnv (s : State) (m : Nat) : EnvRec := (s.sched.mapRec.get none m).getD (s.chipEnv 2)
def State.nodeEnv (s : State) (d id : Nat) : EnvRec :=
  match s.sched.override.find? (fun o => o.1 == id && o.2.1 == d) with
  | some o => o.2.2
  | none => s.chipEnv d

/-- Decisions behave as FROZEN in CALIBRATE, BANKED and TEST (R229). -/
def State.allFrozen (s : State) : Bool := s.inMode [.calibrate, .banked, .test]
def State.frozen (s : State) (r : EnvRec) : Bool := s.allFrozen || r.mode == 2

/-- The protocol cores issued the command. -/
def fromCores (p : Packet) : Bool := 2 ≤ p.issuer.toNat && p.issuer.toNat ≤ 5

end Sys2Proof.Machine
end

