-- ==== Sys2Proof/Machine/Airtime.lean ====
section
/-! DEFINITION. The airtime ledgers: charging, the dwell and duty checks, votes and rebuilds (R214 to R219,
R569). -/

namespace Sys2Proof.Machine

/-! ### Charging (R214) -/

/-- Whole µs of a number of ticks, rounded up. -/
def usUp (t : Nat) : Nat := (t + 119) / 120

/-- The µs that an interval [a, b) puts into each bucket of a width, by bucket number. The proportions are rounded
so that their sum is the airtime in whole µs. -/
def shares (width a b : Nat) : List (Nat × Nat) :=
  if b ≤ a then []
  else
    (List.range ((b - 1) / width - a / width + 1)).map (fun i =>
      let k := a / width + i
      (k, usUp (least2 b ((k + 1) * width) - a) - usUp (most2 a (k * width) - a)))

/-- Add or remove µs of one bucket. -/
def bump (add : Bool) (m : Sparse Nat) (k v : Nat) : Sparse Nat :=
  m.set 0 k (if add then m.get 0 k + v else m.get 0 k - v)

/-- Sum of the buckets `lo … hi`. -/
def runSum (m : Sparse Nat) (lo hi : Nat) : Nat :=
  sumOf ((m.filter (fun e => lo ≤ e.1 && e.1 ≤ hi)).map (·.2))

/-- Buckets are numbered from a point before tick 0, so that a ledger can hold what lies there (R219): ledger seconds
from 7,200 s before it, dwell buckets from 64 buckets before it. -/
def feastBase : Nat := 7200
def dwellBase : Nat := 64

/-- Number of the ledger second of a tick. -/
def feastSec (t : Nat) : Nat := t / 120000000 + feastBase

/-- Width of a dwell bucket. -/
def dwellWidth (wd : Nat) : Nat := wd * 3750000

/-- Number of the dwell bucket of a tick. -/
def dwellSec (wd t : Nat) : Nat := t / dwellWidth wd + dwellBase

/-- The shares of an interval in feast and in dwell buckets. -/
def feastShares (a b : Nat) : List (Nat × Nat) := (shares 120000000 a b).map (fun x => (x.1 + feastBase, x.2))
def dwellShares (wd a b : Nat) : List (Nat × Nat) := (shares (dwellWidth wd) a b).map (fun x => (x.1 + dwellBase, x.2))

/-! ### Dwell ledgers (R215, R569) -/

def State.dwellOf (s : State) (ch : Nat) : DwellLedger := s.mac.dwell.get DwellLedger.empty ch
def State.setDwell (ch : Nat) (d : DwellLedger) (s : State) : State :=
  { s with mac.dwell := s.mac.dwell.set DwellLedger.empty ch d }

/-- The voted µs of a bucket: one with an uncorrectable error reads as the whole limit. -/
def DwellLedger.read (d : DwellLedger) (limit k : Nat) : Nat :=
  if d.bad.contains k then limit else d.buckets.get 0 k

/-- Sum of the buckets `lo … hi`. -/
def DwellLedger.sum (d : DwellLedger) (limit lo hi : Nat) : Nat :=
  runSum (d.buckets.filter (fun e => !d.bad.contains e.1)) lo hi + limit * countIf (fun b => lo ≤ b && b ≤ hi) d.bad

/-- Sum of 33 consecutive buckets from `k`. -/
def DwellLedger.run (d : DwellLedger) (limit k : Nat) : Nat := d.sum limit k (k + 32)

/-- Number of the last bucket that a ledger holds anything in. -/
def DwellLedger.last (d : DwellLedger) : Nat := greatest (d.buckets.map (·.1) ++ d.bad)

/-- All that a ledger holds of its last window, and what is charged to buckets that lie ahead. -/
def DwellLedger.held (d : DwellLedger) (t : Nat) : Nat := d.sum (d.ms * 1000) (dwellSec d.wd t - 32) d.last

/-- The limit of a channel as it applies from a tick on: a ledger whose window changes is rebuilt, its sum going into
the current bucket (R569). -/
def DwellLedger.rebuild (d : DwellLedger) (ms wd t : Nat) : DwellLedger :=
  if wd = 0 then d
  else if d.wd = wd ∨ d.wd = 0 then { d with ms := ms, wd := wd }
  else { wd := wd, ms := ms, buckets := Sparse.set 0 [] (dwellSec wd t) (d.held t), bad := [] }

/-- Every run that includes a bucket of the frame stays within the limit. -/
def DwellLedger.permits (d : DwellLedger) (limit : Nat) (sh : List (Nat × Nat)) : Bool :=
  match sh with
  | [] => true
  | (first, _) :: _ =>
    (List.range (32 + sh.length)).all (fun i => d.run limit (first + i - 32) ≤ limit)

/-- Charge a ledger, dropping buckets older than any run can reach. -/
def DwellLedger.charge (add : Bool) (d : DwellLedger) (sh : List (Nat × Nat)) : DwellLedger :=
  let b := sh.foldl (fun m e => bump add m e.1 e.2) d.buckets
  match sh with
  | [] => d
  | (first, _) :: _ => { d with buckets := b.filter (fun e => first ≤ e.1 + 64), bad := d.bad.filter (fun k => first ≤ k + 64) }

/-! ### Feast ledgers (R216 to R218) -/

/-- Key of a bucket: 16 × number of its ledger second + entry. -/
def feastKey (e sec : Nat) : Nat := 16 * sec + e

def State.feastCopy (s : State) (c : Nat) : Sparse Nat := s.mac.feast.getD c []
def State.feastVoted (s : State) (k : Nat) : Nat :=
  let a := (s.feastCopy 0).get 0 k
  let b := (s.feastCopy 1).get 0 k
  let c := (s.feastCopy 2).get 0 k
  if a = b ∨ a = c then a else if b = c then b else least2 4000000 (greatest [a, b, c])

/-- Write a bucket in all copies. -/
def feastPut (k v : Nat) (s : State) : State :=
  { s with mac.feast := s.mac.feast.map (fun m => m.set 0 k v) }

/-- A read of a bucket votes its copies and rewrites what differs. -/
def feastVote (k : Nat) (s : State) : State :=
  let a := (s.feastCopy 0).get 0 k
  let b := (s.feastCopy 1).get 0 k
  let c := (s.feastCopy 2).get 0 k
  if a = b ∧ b = c then s
  else
    let args := arg1 (k % 16) ++ arg2 (k / 16 % 3600)
    let two := a = b ∨ a = c ∨ b = c
    let s := feastPut k (s.feastVoted k) s
    if two then
      let s := s.count F.MAC_LEDGER_VOTE_ERRCNT_COUNT 1
      let due := match s.mac.voteAt with
        | none => true
        | some t => t + 120000 ≤ s.now
      if due then post 6 sevRecovered 0x0806 args { s with mac.voteAt := some s.now } else s
    else post 6 sevDegraded 0x0807 args (s.count F.MAC_LEDGER_FAULT_VOTE_FAULT 1)

/-- The buckets that some copy holds. -/
def State.feastKeys (s : State) : List Nat :=
  let a := (s.feastCopy 0).map (·.1)
  let b := ((s.feastCopy 1).map (·.1)).filter (fun k => !a.contains k)
  a ++ b ++ ((s.feastCopy 2).map (·.1)).filter (fun k => !a.contains k && !b.contains k)

/-- Vote the buckets that satisfy a test. -/
def feastVoteIf (p : Nat → Bool) (s : State) : State :=
  (s.feastKeys.filter p).foldl (fun s k => feastVote k s) s

/-- Vote every bucket of an entry in a range of seconds. -/
def feastVoteRange (e lo hi : Nat) (s : State) : State :=
  feastVoteIf (fun k => k % 16 == e && lo ≤ k / 16 && k / 16 ≤ hi) s

/-- A write of a bucket votes what it finds there. -/
def feastWrite (k : Nat) (f : Nat → Nat) (s : State) : State :=
  let s := feastVote k s
  feastPut k (f (s.feastVoted k)) s

/-- Voted sum of an entry's buckets in a range of seconds. -/
def State.feastSum (s : State) (e lo hi : Nat) : Nat :=
  sumOf ((s.feastKeys.filter (fun k => k % 16 == e && lo ≤ k / 16 && k / 16 ≤ hi)).map s.feastVoted)

/-- Every run of the window that includes a second of the frame stays within the budget. -/
def State.feastPermits (s : State) (e ppm win : Nat) (sh : List (Nat × Nat)) : Bool :=
  match sh with
  | [] => true
  | (first, _) :: _ =>
    ppm != 0 && (List.range (win + sh.length - 1)).all (fun i =>
      s.feastSum e (first + i + 1 - win) (first + i) ≤ ppm * win)

/-- Charge feast ledgers, voting what is read. -/
def feastCharge (add : Bool) (es : List Nat) (sh : List (Nat × Nat)) (s : State) : State :=
  es.foldl (fun s e => sh.foldl (fun s x =>
    feastWrite (feastKey e x.1) (fun v => if add then v + x.2 else v - x.2) s) s) s

/-- Drop buckets that no window can reach. -/
def feastPrune (s : State) : State :=
  let cur := feastSec s.now
  { s with mac.feast := s.mac.feast.map (fun (m : Sparse Nat) => m.filter (fun e => cur ≤ e.1 / 16 + 7200)) }

/-! ### Frames -/

/-- Charge or uncharge an interval to a channel's dwell ledger and to feast ledgers. The dwell ledger of a channel
that has no limit and no window keeps nothing. -/
def chargeAir (add dwell : Bool) (ch : Nat) (es : List Nat) (a b : Nat) (s : State) : State :=
  let d := s.dwellOf ch
  let s := if !dwell || d.wd == 0 then s else s.setDwell ch (d.charge add (dwellShares d.wd a b))
  feastCharge add es (feastShares a b) s

/-- Checks 4 and 5 of R111 for an interval, with the ledgers charged where both pass. -/
def airtimeCheck (ch : Nat) (eff : Effective) (a b : Nat) (s : State) : Option Nat × State :=
  let s := match eff.dwell with
    | some (ms, wd) => s.setDwell ch ((s.dwellOf ch).rebuild ms wd s.now)
    | none => s
  let d := s.dwellOf ch
  let dwellBad := match eff.dwell with
    | some (ms, wd) =>
      let sh := dwellShares wd a b
      !(d.charge true sh).permits (ms * 1000) sh
    | none => false
  if dwellBad then (some St.TX_DWELL, s)
  else
    let sh := feastShares a b
    let first := feastSec a
    let s := feastPrune (eff.duty.foldl (fun s x =>
      feastVoteRange x.1 (first + 1 - x.2.2) (first + sh.length - 1 + x.2.2) s) s)
    let after := chargeAir true eff.dwell.isSome ch eff.charged a b s
    if eff.duty.all (fun x => after.feastPermits x.1 x.2.1 x.2.2 sh) then (none, after)
    else (some St.TX_DUTY, s)

/-! ### Streams and their bands (R131, R135) -/

/-- Width of a stream in Hz, its slots and its block period in ticks, by width code (R131). -/
def widthHz (c : Nat) : Nat := nth [12500, 25000, 50000, 100000, 200000, 400000, 800000, 1200000] c
def widthSlots (c : Nat) : Nat := nth [1, 1, 1, 1, 1, 1, 2, 3] c
def blockPeriod (c : Nat) : Nat := nth [76800, 38400, 19200, 9600, 4800, 2400, 1200, 800] c

/-- An enabled stream has its first slot here. -/
def State.isHead (s : State) (n : Nat) : Bool := s.flag (F.CHZ_CH_CFG_EN n) && s.flag (F.CHZ_CH_CFG_HEAD n)
def State.streamWidth (s : State) (n : Nat) : Nat := s.fld (F.CHZ_CH_CFG_WIDTH n)
def State.streamHz (s : State) (n : Nat) : Nat := s.fld (F.CHZ_CH_FREQ_F_HZ n)

/-- The effective entry of a channel, from the occupied band of its stream. -/
def State.channelEff (s : State) (n : Nat) : Option Effective :=
  if s.isHead n then
    let f : Int := s.streamHz n
    let h : Int := widthHz (s.streamWidth n) / 2
    s.effective (f - h) (f + h)
  else none

/-- A change of limits rebuilds the ledgers whose window changed (R569). -/
def dwellRefresh (s : State) : State :=
  (s.mac.dwell.map (·.1)).foldl (fun s ch =>
    match s.channelEff ch with
    | some eff =>
      match eff.dwell with
      | some (ms, wd) => s.setDwell ch ((s.dwellOf ch).rebuild ms wd s.now)
      | none => s
    | none => s) s

/-! ### The ledgers over the chip's life (R219) -/

/-- FEAST_COLD at the START of the first Almanac: every bucket of the last 3,600 seconds holds the budget rate. -/
def feastCold (start : Nat) (s : State) : State :=
  (List.range 16).foldl (fun s e =>
    let b := s.band e
    if b.valid && b.feast then
      (List.range 3600).foldl (fun s i => feastWrite (feastKey e (feastSec start - i)) (fun _ => b.dutyPpm) s) s
    else s) s

/-- TIME_RESYNC: every ledger keeps its history relative to the current second or bucket; what would lie before the
first bucket that is numbered is beyond every window. -/
def ledgerShift (old new : Nat) (s : State) : State :=
  let move (w k : Nat) : Option Nat := if old / w ≤ k + new / w then some (k + new / w - old / w) else none
  let feast := s.mac.feast.map (fun (m : Sparse Nat) =>
    m.filterMap (fun e => (move 120000000 (e.1 / 16)).map (fun k => (16 * k + e.1 % 16, e.2))))
  let dwell := s.mac.dwell.map (fun (x : Nat × DwellLedger) =>
    let d := x.2
    let w := dwellWidth d.wd
    (x.1, { d with buckets := d.buckets.filterMap (fun e => (move w e.1).map (fun k => (k, e.2))),
                   bad := d.bad.filterMap (move w) }))
  { s with mac.feast := feast, mac.dwell := dwell }

/-- An upset of the ledger memories. -/
def upset (u : Upset) (s : State) : State :=
  match u with
  | .feast e sec copy v =>
    let k := feastKey e.val (sec + feastBase)
    { s with mac.feast := s.mac.feast.set copy.val ((s.feastCopy copy.val).set 0 k v) }
  | .dwell ch b =>
    let d := s.dwellOf ch.val
    let s := s.setDwell ch.val { d with bad := (b + dwellBase) :: d.bad }
    post 6 sevDegraded 0x0808 (arg1 ch.val ++ arg8 b) (s.count F.MAC_LEDGER_FAULT_DWELL_ECC 1)

/-- LEDGER_SCRUB (R218): one bucket of every ledger is read, in ascending order. -/
def runLedgerScrub (upsets : List Upset) (s : State) : State :=
  let s := upsets.foldl (fun s u => upset u s) s
  let i := s.mac.scrub
  let cur := feastSec s.now
  let sec := cur - (cur + 3600 - i) % 3600
  let s := (List.range 16).foldl (fun s e => feastVote (feastKey e sec) s) s
  { s with mac.scrub := (i + 1) % 3600 }

end Sys2Proof.Machine
end

