-- ==== Sys2Proof/Machine/Soft.lean ====
section
/-! DEFINITION. The FLR code: base matrix, layered normalised min-sum decoding and soft combining (R161 to R163,
R174, R175, R178). -/

namespace Sys2Proof.Machine

/-- Clamp to ±m. -/
def clampAbs (m v : Int) : Int := if m < v then m else if v < -m then -m else v

/-! ### The code (R163) -/

/-- Base rows of a rate code; information columns are 24 less these. -/
def baseRows (rate : Nat) : Nat := nth [12, 8, 4] rate

/-- Codeword length and lifting factor. -/
def codeLen (long : Bool) : Nat := if long then 1152 else 576
def lifting (long : Bool) : Nat := codeLen long / 24

/-- Information bits of a codeword (R162). -/
def infoBits (long : Bool) (rate : Nat) : Nat := (24 - baseRows rate) * lifting long

/-- Shift of base entry (i, j), where it is present. -/
def baseShift (mb z i j : Nat) : Option Nat :=
  let kb := 24 - mb
  if j < kb then
    let p := (5 * i + 3 * j) % 8
    if (mb = 12 ∧ 5 ≤ p) ∨ (mb = 8 ∧ 6 ≤ p) then none else some ((17 * i * j + 7 * i + 3 * j) % z)
  else if j = kb then
    if i = 0 ∨ i = mb - 1 then some 1 else if i = mb / 2 then some 0 else none
  else if i = j - kb - 1 ∨ i = j - kb then some 0 else none

/-- The entries of a base row: column and shift. -/
def baseRow (mb z i : Nat) : List (Nat × Nat) :=
  (List.range 24).filterMap (fun j => (baseShift mb z i j).map (fun sh => (j, sh)))

/-! ### Decoding (R175) -/

/-- Posteriors of the codeword's bits, and check-to-variable messages by base row, column and row within the
layer. -/
structure Beliefs where
  post : Array Int
  msgs : Array Int

def absInt (v : Int) : Int := if v < 0 then -v else v

/-- Update one check: `edges` are (variable, message index). -/
def checkUpdate (edges : List (Nat × Nat)) (b : Beliefs) : Beliefs :=
  let ins := edges.map (fun e => (e.1, e.2, clampAbs 63 (b.post.getD e.1 0 - b.msgs.getD e.2 0)))
  ins.foldl (fun b e =>
    let others := ins.filter (fun o => o.1 != e.1)
    let mag := others.foldl (fun m o => if absInt o.2.2 < m then absInt o.2.2 else m) (63 : Int)
    let neg := countIf (fun o => decide (o.2.2 < 0)) others % 2 == 1
    let m : Int := 3 * mag / 4
    let m := if neg then -m else m
    { post := b.post.setIfInBounds e.1 (clampAbs 63 (e.2.2 + m)),
      msgs := b.msgs.setIfInBounds e.2.1 m }) b

/-- The edges of check `x` of base row `i`. -/
def checkEdges (mb z i x : Nat) : List (Nat × Nat) :=
  (baseRow mb z i).map (fun c => (c.1 * z + (x + c.2) % z, (i * 24 + c.1) * z + x))

/-- One iteration over all layers. -/
def iterateCode (mb z : Nat) (b : Beliefs) : Beliefs :=
  (List.range mb).foldl (fun b i =>
    (List.range z).foldl (fun b x => checkUpdate (checkEdges mb z i x) b) b) b

/-- Hard decision: bit 0 where the posterior is not negative. -/
def hard (b : Beliefs) : List Bool := b.post.toList.map (fun v => decide (v < 0))

/-- The syndrome of the hard decisions is zero. -/
def syndromeZero (mb z : Nat) (b : Beliefs) : Bool :=
  (List.range mb).all (fun i => (List.range z).all (fun x =>
    countIf (fun e => decide (b.post.getD e.1 0 < 0)) (checkEdges mb z i x) % 2 == 0))

/-- Iterate to the cap: iterations run, whether the syndrome became zero, and the bits. -/
def decodeLoop (mb z : Nat) : Nat → Nat → Beliefs → Nat × Bool × List Bool
  | 0, n, b => (n, false, hard b)
  | fuel + 1, n, b =>
    let b := iterateCode mb z b
    if syndromeZero mb z b then (n + 1, true, hard b) else decodeLoop mb z fuel (n + 1) b

/-- Decode a job's input. -/
def decodeJob (j : Job) (cap : Nat) : Nat × Bool × List Bool :=
  let mb := baseRows j.rate
  let z := lifting j.long
  decodeLoop mb z cap 0 ⟨(sliceInts j.input (codeLen j.long)).toArray, (List.replicate (mb * 24 * z) 0).toArray⟩
where
  /-- Exactly `n` values. -/
  sliceInts (l : List Int) (n : Nat) : List Int := l.take n ++ List.replicate (n - l.length) 0

/-- Ticks of a job of `i` iterations: 24 + I × mb × c cycles of SAMP_CLK, two to a tick. -/
def jobTicks (j : Job) (i : Nat) : Nat := (24 + i * baseRows j.rate * (if j.long then 11 else 6) + 1) / 2

/-! ### Soft combining (R178) -/

/-- One position: the retained value and the copies to the stored value and the decoder's input. -/
def combineOne (s : Int) : List Int → Int × Int
  | [] => (s, clampAbs 15 s)
  | [l] => (s, clampAbs 15 (s + l))
  | l :: ls => combineOne (clampAbs 7 (s + l)) ls

/-- Value `i` of a list, 0 past its end. -/
def intAt (l : List Int) (i : Nat) : Int := l.getD i 0

/-- All transmitted positions: decoder inputs. -/
def combine (n : Nat) (retained : List Int) (copies : List (List Int)) : List Int :=
  (List.range n).map (fun i => (combineOne (intAt retained i) (copies.map (fun c => intAt c i))).2)

/-- Fill `fill` information positions from `k − fill` with +15 (R162, R174). -/
def insertFill (k fill : Nat) (sent : List Int) : List Int :=
  sent.take (k - fill) ++ List.replicate fill 15 ++ sent.drop (k - fill)

/-- The values kept for a retry: of a decoded codeword ±7 by bit, else the inputs saturated (R178). -/
def retainedVals (k fill : Nat) (inputs : List Int) (bits : Option (List Bool)) : List Int :=
  match bits with
  | some bs => (bs.take (k - fill) ++ bs.drop k).map (fun b => if b then -7 else 7)
  | none => inputs.map (clampAbs 7)

/-! ### The PHR (R161) -/

/-- The fields of a PHR of 72 bits. -/
structure Phr where
  shortId : Nat
  fctr16 : Nat
  tier : Nat
  rate : Nat
  long : Bool
  len : Nat
  crcOk : Bool
  deriving DecidableEq, Repr

def Phr.of (bits : List Bool) : Phr :=
  let v := ofBitsLow (bits.take 72)
  { shortId := bitsOf v 16 0, fctr16 := bitsOf v 32 17, tier := bitsOf v 34 33, rate := bitsOf v 36 35,
    long := bitsOf v 37 37 == 1, len := bitsOf v 48 38,
    crcOk := (crc16 (bits.take 56)).toNat == bitsOf v 71 56 }

/-- Codewords of a PSDU, and the fill of the last (R162). -/
def codewords (len rate : Nat) (long : Bool) : Nat := (8 * len + infoBits long rate - 1) / infoBits long rate
def fillOf (len rate : Nat) (long : Bool) (idx : Nat) : Nat :=
  let k := infoBits long rate
  let n := codewords len rate long
  if idx + 1 = n then n * k - 8 * len else 0

/-- Bytes of a PSDU from its information bits, least significant bit first. -/
def bytesOfBits (len : Nat) (bits : List Bool) : List Byte :=
  (List.range len).map (fun i => BitVec.ofNat 8 (ofBitsLow ((bits.drop (8 * i)).take 8)))

end Sys2Proof.Machine
end

