-- ==== Sys2Proof/Machine/Demod.lean ====
section
/-! DEFINITION. Demodulator contexts, the frames under reception, the decoder pool and the soft-combining store
(R153 to R184). -/

namespace Sys2Proof.Machine

/-! ### Profiles (R154 to R157) -/

def State.stream (s : State) (n : Nat) : Stream := s.chz.streams.get Stream.reset n
def State.setStream (n : Nat) (t : Stream) (s : State) : State :=
  { s with chz.streams := s.chz.streams.set Stream.reset n t }

def State.dctx (s : State) (n : Nat) : DemodCtx := s.demod.ctx.get DemodCtx.reset n
def State.setDctx (n : Nat) (c : DemodCtx) (s : State) : State :=
  { s with demod.ctx := s.demod.ctx.set DemodCtx.reset n c }

/-- Entry of a profile as the table holds it. -/
def State.profile (s : State) (i : Nat) : List Byte := s.demod.profiles.get [] i
def profByte (e : List Byte) (i : Nat) : Nat := leAt e i 1
def profType (e : List Byte) : Nat := profByte e 0
def profWidth (e : List Byte) : Nat := profByte e 1

/-- A profile is loaded: 63, the monitor profile, always. -/
def State.profLoaded (s : State) (i : Nat) : Bool := i == 63 || profType (s.profile i) != 0

/-- The entry that a stream's demodulator uses (R158, R183). -/
def State.streamProf (s : State) (n : Nat) : List Byte :=
  let i := s.fld (F.CHZ_CH_CFG_PHY_PROFILE n)
  match (s.dctx n).msProfile with
  | some m => s.profile m
  | none =>
    match s.demod.replace with
    | some (j, e, _) => if j = i ∧ (s.stream n).tookNew = true then e else s.profile i
    | none => s.profile i

/-- Its index, after any mode switch. -/
def State.streamProfIdx (s : State) (n : Nat) : Nat :=
  (s.dctx n).msProfile.getD (s.fld (F.CHZ_CH_CFG_PHY_PROFILE n))

/-- A field with the value that 0 selects. -/
def orDefault (v d : Nat) : Nat := if v = 0 then d else v

/-- Ticks of a symbol; MR-OFDM has the standard's 120 µs. -/
def symTicks (e : List Byte) : Nat := if profType e = 3 then 14400 else 1200000 / leAt e 2 2

/-- Preamble and sync word of an FLR frame in symbols (R160). -/
def flrLead (tier : Nat) : Nat := 32 + 64 * 2 ^ tier + 32

/-- Symbols of the longest preamble of a profile. -/
def longestPreamble (e : List Byte) : Nat :=
  match profType e with
  | 1 =>
    let tiers := (List.range 4).filter (fun t => profByte e 18 / 2 ^ t % 2 == 1)
    32 + 64 * 2 ^ greatest tiers
  | 2 => 8 * orDefault (leAt e 25 2) 8
  | _ => 6

def divSyms (e : List Byte) : Nat := orDefault (profByte e 4) 16
def syncTimeoutSyms (e : List Byte) : Nat := orDefault (leAt e 6 2) (longestPreamble e + 64)

/-- T_det of R197: the detection window in ticks. -/
def detTicks (e : List Byte) (tier : Nat) : Nat :=
  match profType e with
  | 1 => orDefault (profByte e 16) 48 * 2 ^ tier * symTicks e
  | _ => longestPreamble e * symTicks e

/-- The checks of R156 on an entry of 32 bytes. -/
def profileBad (e : List Byte) : Bool :=
  let b := profByte e
  let zero (i n : Nat) : Bool := (sliceBytes e i n).all (· == 0)
  let range0 (v lo hi : Nat) : Bool := v == 0 || (lo ≤ v && v ≤ hi)
  let rate := leAt e 2 2
  !zero 8 8 || 6 < b 1 || !range0 (b 4) 8 32 ||
  (match b 0 with
   | 0 => false
   | 1 =>
     !((rate == 250 && b 1 == 1) || (rate == 500 && b 1 == 2) || (rate == 1000 && b 1 == 3) ||
       (rate == 2000 && b 1 == 4)) ||
     !range0 (b 16) 16 64 || 4 < b 17 || b 18 == 0 || 15 < b 18 || 3 < b 19 || 32 < b 20 || 31 < b 21 ||
     !(2 ≤ b 21 / 2 && b 21 / 2 ≤ 12) || 50 < b 22 || 7 < b 23 || b 23 / 2 == 3 ||
     !zero 24 8
   | 2 =>
     rate == 0 || 3000 < rate || 1 < b 16 || 7 < b 17 || b 17 % 4 == 3 || 1 < b 20 ||
     (List.range 4).any (fun i => 63 < b (21 + i) && b (21 + i) != 255) ||
     !range0 (leAt e 25 2) 4 1000 || !zero 27 5 ||
     widthHz (b 1) < Config.fskSpacing rate (b 16) (leAt e 18 2)
   | 3 =>
     rate != 0 || 127 < b 17 || !zero 18 14 ||
     (match b 16 with
      | 2 => b 1 != 6 || b 17 &&& 0x40 != 0
      | 3 => b 1 != 5 || b 17 &&& 0x01 != 0
      | 4 => b 1 != 4 || b 17 &&& 0x03 != 0
      | _ => true)
   | _ => true)

/-! ### Demodulator states (R164) -/

def dIdle : Nat := 0
def dSearch : Nat := 1
def dDiversity : Nat := 2
def dSync : Nat := 3
def dHeader : Nat := 4
def dPayload : Nat := 5

def State.dstate (s : State) (n : Nat) : Nat := s.fld (F.DMD_CH_STAT_STATE n)
def setDstate (n v : Nat) (s : State) : State := s.setFld (F.DMD_CH_STAT_STATE n) v

/-- Stream states (R139). -/
def stOff : Nat := 0
def stSuspended : Nat := 1
def stSingle : Nat := 2
def stDual : Nat := 3
def stLocked : Nat := 4
def State.chState (s : State) (n : Nat) : Nat := s.fld (F.CHZ_CH_STAT_STATE n)

/-- PRIMARY is B. -/
def State.primaryB (s : State) (n : Nat) : Bool := s.flag (F.CHZ_CH_CFG_PRIMARY n)

/-! ### The capture store's triggers (R149) -/

/-- A trigger of kind 1 (detection) or 2 (frame failure) on a stream. -/
def capTrigger (kind slot : Nat) (s : State) : State :=
  match s.chz.cap with
  | some c =>
    if s.fld F.CHZ_CAP_STAT_STATE = 1 ∧ c.trig = kind ∧ c.trigSlot = slot then
      { s.setFld F.CHZ_CAP_STAT_STATE 2 with chz.cap := some { c with trigAt := s.now, remaining := c.length } }
    else s
  | none => s

/-! ### Frames -/

def State.frame (s : State) (f : Nat) : Option RxFrame := s.demod.frames.get none f
def State.setFrame (f : Nat) (x : Option RxFrame) (s : State) : State :=
  { s with demod.frames := s.demod.frames.set none f x }

/-- The frame that a slot's context is on. -/
def State.slotFrame (s : State) (n : Nat) : Option (Nat × RxFrame) :=
  match (s.dctx n).frame with
  | some f => (s.frame f).map (fun x => (f, x))
  | none => none

/-- Outcome codes (R181). -/
def oSyncTimeout : Nat := 1
def oPhrFail : Nat := 2
def oDecFail : Nat := 3
def oBlanked : Nat := 4
def oLost : Nat := 5
def oOverload : Nat := 6
def oCombFull : Nat := 7
def oMsFail : Nat := 8

/-- The counters and records of a frame failure (R181, R184). -/
def countOutcome (code : Nat) (s : State) : State :=
  match code with
  | 1 => s.count F.DMD_CNT0_SYNC_TIMEOUT 1
  | 2 => s.count F.DMD_CNT1_PHR_FAIL 1
  | 4 => s.count F.DMD_CNT1_BLANKED 1
  | 5 | 8 => s.count F.DMD_CNT2_LOST 1
  | 6 =>
    match limited 120000 s.now s.demod.overloadLim with
    | (some n, l) => post 16 sevDegraded 0x0601 (arg2 n) { s with demod.overloadLim := l }
    | (none, l) => { s with demod.overloadLim := l }
  | 7 =>
    match limited 120000 s.now s.demod.combFullLim with
    | (some n, l) => post 16 sevDegraded 0x0602 (arg2 n) { s with demod.combFullLim := l }
    | (none, l) => { s with demod.combFullLim := l }
  | _ => s

/-- A failed attempt of the node that a frame's PHR names counts for the scheduler: it may update the node's model, as
R206 says, but for its outcome (R230). -/
def State.attemptCounts (s : State) (x : RxFrame) : Bool :=
  let t := x.syncEnd - x.lead
  s.models && !x.taint && x.phrDone && s.delivered.any (fun e =>
    e.node == x.shortId && e.on x.slot && e.prepared && !e.skip && decide (e.cover.1 ≤ t) && decide (t ≤ e.cover.2))

/-- A frame's outcome is decided, and it is no success. -/
def frameFails (f code : Nat) (s : State) : State :=
  match s.frame f with
  | none => s
  | some x =>
    if x.outcome.isSome then s
    else
      let s := s.setFrame f (some { x with outcome := some code })
      let s := countOutcome code (s.setFld (F.DMD_CH_STAT_OUTCOME x.slot) code)
      let s := if (code = oDecFail ∨ code = oCombFull) ∧ s.attemptCounts x = true then
          let st := s.sched.nodes.get NodeStats.empty x.shortId
          { s with sched.nodes := s.sched.nodes.set NodeStats.empty x.shortId { st with fails := st.fails + 1 } }
        else s
      capTrigger 2 x.slot s

/-- The context of a slot searches again; after the PPDU of a mode switch with its own profile (R158). -/
def ctxSearch (n : Nat) (s : State) : State :=
  setDstate n dSearch (s.setDctx n { s.dctx n with frame := none, msProfile := none })

/-- Free the store's entries of a frame. -/
def freeEntries (f : Nat) (s : State) : State :=
  { s with demod.comb := s.demod.comb.filter (fun e => e.frame != some f) }

/-- A frame ends without delivery, before any of its payload is decided. -/
def dropFrame (n f code : Nat) (s : State) : State :=
  let s := freeEntries f (frameFails f code s)
  ctxSearch n (s.setFrame f none)

/-- A stream loses its frame in progress (R164). -/
def frameLost (n : Nat) (s : State) : State :=
  match (s.dctx n).frame with
  | some f => dropFrame n f oLost s
  | none => s

/-! ### Blanking as the demodulator sees it (R147) -/

def State.pairOf (s : State) (p : Nat) : Pair := s.radio.pairs.get Pair.reset p
def State.setPairU (p : Nat) (x : Pair) (s : State) : State :=
  { s with radio.pairs := s.radio.pairs.set Pair.reset p x }

/-- Number of a branch: 2 × pair + branch. -/
def branchNo (pair : Nat) (branchB : Bool) : Nat := 2 * pair + (if branchB then 1 else 0)

/-- Branch `b` is blank-marked at some tick of [lo, hi): a blank interval, or a pair that is not armed and locked. -/
def State.blankIn (s : State) (b lo hi : Nat) : Bool :=
  s.radio.blanks.any (fun x => x.branch == b && x.lo < x.hi && x.lo < hi && lo < x.hi) ||
    (match (s.pairOf (b / 2)).dark with
     | some t => decide (t < hi)
     | none => false)

/-- A branch is blank-marked now. -/
def State.blankNow (s : State) (pair : Nat) (branchB : Bool) : Bool :=
  s.blankIn (branchNo pair branchB) s.now (s.now + 1)

/-- Some sample instant of a branch, a multiple of `g` in [lo, hi), is blank-marked. -/
def State.blankInstant (s : State) (b g lo hi : Nat) : Bool :=
  let hit (a e : Nat) : Bool := decide ((most2 lo a + g - 1) / g * g < least2 hi e)
  s.radio.blanks.any (fun x => x.branch == b && hit x.lo x.hi) ||
    (match (s.pairOf (b / 2)).dark with
     | some t => hit t hi
     | none => false)

/-- A block with its first sample instant at `start` is blank-marked: one of its 16 instants lies in a blank
interval (R147). -/
def State.blockBlank (s : State) (b start per : Nat) : Bool := s.blankInstant b (per / 16) start (start + per)

def State.streamPair (s : State) (n : Nat) : Nat := s.fld (F.CHZ_CH_CFG_PAIR n)

/-- The ticks [a, b) of a stream's branch lie in part in a blank-marked block. -/
def State.spanBlank (s : State) (n : Nat) (branchB : Bool) (a b : Nat) : Bool :=
  let per := blockPeriod (s.streamWidth n)
  decide (a < b) &&
    s.blankInstant (branchNo (s.streamPair n) branchB) (per / 16) (a / per * per) ((b - 1) / per * per + per)

/-! ### The equaliser (R173) -/

/-- A coefficient of 16 bits: it saturates at ±2.0. -/
def tapClamp (v : Int) : Int := if 32767 < v then 32767 else if v < -32768 then -32768 else v

/-- Product of complex values; the flag takes the conjugate of the second. -/
def cMul (conj : Bool) (a b : Int × Int) : Int × Int :=
  let i := if conj then -b.2 else b.2
  (a.1 * b.1 - a.2 * i, a.1 * i + a.2 * b.1)

/-- Sum of products of taps and inputs. -/
def tapSum (w x : List (Int × Int)) : Int × Int :=
  (w.zip x).foldl (fun acc p => let m := cMul false p.1 p.2; (acc.1 + m.1, acc.2 + m.2)) (0, 0)

/-- One LMS step: w ← w + 2^(−MU_K) × e × conj(x), with e the error of the equaliser's output. -/
def Dfe.step (muK : Nat) (d : Dfe) (l : LmsStep) : Dfe :=
  let a := tapSum d.ff l.x
  let b := tapSum d.fb l.past
  let e : Int × Int := (l.want.1 - rnd (a.1 + b.1) 16384, l.want.2 - rnd (a.2 + b.2) 16384)
  let move (w x : Int × Int) : Int × Int :=
    let m := cMul true e x
    (tapClamp (w.1 + rnd m.1 (2 ^ (14 + muK))), tapClamp (w.2 + rnd m.2 (2 ^ (14 + muK))))
  let all (ws xs : List (Int × Int)) : List (Int × Int) :=
    (List.range ws.length).map (fun i => move (ws.getD i (0, 0)) (xs.getD i (0, 0)))
  { d with ff := all d.ff l.x, fb := all d.fb l.past }

/-- The equaliser of a slot adapts over steps, where its profile enables it. -/
def dfeAdapt (n : Nat) (entry : List Byte) (steps : List LmsStep) (s : State) : State :=
  if profType entry ≠ 1 ∨ profByte entry 21 % 2 = 0 then s
  else
    let c := s.dctx n
    s.setDctx n { c with dfe := steps.foldl (Dfe.step (profByte entry 21 / 2)) c.dfe }

/-! ### Measured codes (R166 to R168) -/

/-- A value clamped to a byte. -/
def byteCode (v : Int) : Nat := if v < 0 then 0 else if 255 < v then 255 else v.toNat

/-- RSSI code of a power in 1/1,000 dB relative to full scale, on a branch. -/
def State.rssiCode (s : State) (b : Nat) (power : Int) : Nat :=
  byteCode (rnd (2 * (power + s.radio.rssiCal.get 0 b + 160000)) 1000)

/-- LQI code of a signal-to-noise ratio in 1/1,000 dB. -/
def lqiCode (snr : Int) : Nat := byteCode (rnd (4 * (snr + 20000)) 1000)

/-! ### Detection to sync word -/

/-- Conditions 1, 2, 3 and 5 of R170 for a frame in a window. -/
def State.preKnown (s : State) (n : Nat) (w : RxWindow) : Bool :=
  s.inMode [.service, .banked] && s.nodeState w.node == nsAssociated &&
    (at24 s.now - s.nf w.node N.LAST_HEARD) * 2 ^ 24 ≤ s.fld F.DMD_CTL_CFO_VALID_S * 120000000 &&
    ((s.stream n).trimHz == 10 * s.nfS w.node N.CFO && (s.stream n).trimSince ≤ w.lo)

/-- The scheduled window that is open on a slot. -/
def State.openWindow (s : State) (n : Nat) : Option RxWindow :=
  match (s.dctx n).window with
  | some w => if w.lo ≤ s.now then some w else none
  | none => none

/-- Only frequency hypothesis 0 is searched (R165). -/
def State.narrowSearch (s : State) (n : Nat) : Bool :=
  match s.openWindow n with
  | some w => s.preKnown n w
  | none => false

/-- A branch that a stream holds. -/
def State.onBranch (s : State) (n : Nat) (branchB : Bool) : Bool :=
  let st := s.chState n
  st == stDual || (st == stSingle && s.primaryB n == branchB) ||
    (st == stLocked && s.flag (F.CHZ_CH_STAT_BRANCH n) == branchB)

/-- The detection window of a slot in symbols: that of the expected node's tier in a scheduled window (R165). -/
def State.detWindow (s : State) (n : Nat) : Nat :=
  let e := s.streamProf n
  let tier := match s.openWindow n with
    | some w => w.tier
    | none => profByte e 19
  if profType e = 1 then orDefault (profByte e 16) 48 * 2 ^ tier else longestPreamble e

/-- A detection is one that the context declares (R165): on a branch it holds, at a hypothesis it searches, above the
threshold of its profile, over its detection window. -/
def State.detects (s : State) (n : Nat) (branchB : Bool) (d : Detection) : Bool :=
  let e := s.streamProf n
  let range := if profType e ≠ 1 ∨ s.narrowSearch n = true then 0 else profByte e 17
  s.dstate n == dSearch && s.onBranch n branchB && decide (d.hyp.natAbs ≤ range) &&
    d.symbols == s.detWindow n && decide (256 * orDefault (profByte e 5) 96 < d.corr)

/-- PREAMBLE_DETECT (R164, R165): due while the context searches. The equaliser starts anew (R173), and the resampler
takes the node's clock rate where it is known (R170). -/
def runPreambleDetect (slot : Fin 256) (branchB : Bool) (d : Detection) (s : State) : State :=
  let n := slot.val
  if !s.detects n branchB d then s
  else
    let dual := s.chState n == stDual
    let f := s.demod.nextFrame
    let window := s.openWindow n
    let narrow := s.narrowSearch n
    let x : RxFrame :=
      { slot := n, profile := s.streamProfIdx n, entry := s.streamProf n, detectAt := s.now, hyp := d.hyp,
        narrow := narrow, branchB := branchB, syncSince := s.now,
        rateCorr := match window with
          | some w => if narrow then s.nfS w.node N.DRIFT_RATE else 0
          | none => 0,
        derot := (0, 0), compared := false, rssiOther := 0,
        window := window, syncEnd := 0, lead := 0, rssi := 0, lqi := 0, cfo := 0, pilot := true,
        erased := false, taint := false, tier := 0, phrDone := false, shortId := broadcastId, fctr16 := 0,
        rate := 0, long := false, len := 0, mcs := 0, combined := false, jobs := 0, results := [],
        holding := [], phrJob := false, phrIters := 0, endAt := none, outcome := none, psdu := [] }
    let s := s.setFrame f (some x)
    let s := { s with demod.nextFrame := f + 1 }
    let s := s.setDctx n { s.dctx n with frame := some f, dfe := Dfe.reset }
    let s := s.count F.DMD_CNT0_DETECT 1
    capTrigger 1 n (setDstate n (if dual then dDiversity else dSync) s)

/-- The ticks of symbol `i` of a comparison. -/
def RxFrame.symbolAt (x : RxFrame) (i : Nat) : Nat × Nat :=
  let t := symTicks x.entry
  (x.detectAt + i * t, x.detectAt + (i + 1) * t)

/-- Energy of a branch over the comparison: a symbol in a blank-marked block adds nothing. -/
def State.energySum (s : State) (x : RxFrame) (branchB : Bool) (energy : List Nat) : Nat :=
  sumOf ((List.range (divSyms x.entry)).map (fun i =>
    let t := x.symbolAt i
    if s.spanBlank x.slot branchB t.1 t.2 then 0 else nth energy i))

/-- At some symbol of the comparison so far both branches were blank-marked. -/
def State.bothBlank (s : State) (x : RxFrame) : Bool :=
  (List.range (divSyms x.entry)).any (fun i =>
    let t := x.symbolAt i
    decide (t.1 < s.now) && s.spanBlank x.slot false t.1 t.2 && s.spanBlank x.slot true t.1 t.2)

/-- DIVERSITY_DECISION (R166): due DIV_SYMS symbols after detection, or as soon as both branches are blank. The energies
are those at the frequency hypothesis of the detection. -/
def runDiversityDecision (slot : Fin 256) (energyA energyB : List Nat) (hyp : Int) (powerA powerB : Int)
    (s : State) : State :=
  let n := slot.val
  match s.slotFrame n with
  | none => s
  | some (f, x) =>
    if s.dstate n ≠ dDiversity then s
    else if s.bothBlank x then dropFrame n f oBlanked s
    else if s.now < x.detectAt + divSyms x.entry * symTicks x.entry ∨ hyp ≠ x.hyp then s
    else
      let a := s.energySum x false energyA
      let b := s.energySum x true energyB
      let toB := if a = b then s.primaryB n else decide (a < b)
      let other := s.rssiCode (branchNo (s.streamPair n) (!toB)) (if toB then powerA else powerB)
      let s := s.setFrame f (some { x with branchB := toB, compared := true, rssiOther := other, syncSince := s.now })
      let s := s.count (if toB then F.DMD_DIV_CNT_DIV_B else F.DMD_DIV_CNT_DIV_A) 1
      let c := s.sched.chans.get ChanStats.empty n
      let c := if toB then { c with divB := c.divB + 1 } else { c with divA := c.divA + 1 }
      setDstate n dSync { s with sched.chans := s.sched.chans.set ChanStats.empty n c }

/-- The locked branch has been blank-marked before the sync word's end. -/
def State.syncBlank (s : State) (x : RxFrame) : Bool := s.spanBlank x.slot x.branchB x.syncSince (s.now + 1)

/-- SYNC_TIMEOUT symbols have passed since detection. -/
def RxFrame.syncLimit (x : RxFrame) : Nat := x.detectAt + syncTimeoutSyms x.entry * symTicks x.entry

/-- The four sync words of FLR by tier code (R160). -/
def flrSync (tier : Nat) : Nat := nth [0x7A31C4E5, 0x4C9B6D12, 0x2E56B38F, 0x1B7C59E4] tier

/-- The tier that a sync word names; a SUN profile has no tiers. -/
def syncTier (entry : List Byte) (w : Word) : Option Nat :=
  if profType entry = 1 then (List.range 4).find? (fun t => flrSync t == w.toNat) else some 0

/-- PRE mode at SYNC_END (R170): the five conditions, with a residual frequency in Hz within PRE_RANGE × 0.1 % of
SYM_RATE; 1.0 % for MR-FSK, which has no field for it. MR-OFDM always tracks its pilots. -/
def State.preMode (s : State) (x : RxFrame) (residual : Int) : Bool :=
  let range := if profType x.entry = 1 then orDefault (profByte x.entry 22) 10 else 10
  profType x.entry != 3 && (x.narrow || profType x.entry == 2) &&
    (match x.window with
     | some w => s.preKnown x.slot w
     | none => false) &&
    decide (10 * residual.natAbs ≤ range * leAt x.entry 2 2)

/-- SYNC_END (R164, R167, R168, R170, R173): the sync word of a frame ends. -/
def runSyncEnd (slot : Fin 256) (lead : Nat) (power snr : Int) (m : SyncMeasure) (residual : Int)
    (training : List LmsStep) (s : State) : State :=
  let n := slot.val
  match s.slotFrame n with
  | none => s
  | some (f, x) =>
    if s.dstate n ≠ dSync then s
    else if s.syncBlank x then dropFrame n f oBlanked s
    else if x.syncLimit < s.now then dropFrame n f oSyncTimeout s
    else
      match syncTier x.entry m.sync with
      | none => s
      | some tier =>
        let pre := s.preMode x residual
        let rssi := s.rssiCode (branchNo (s.streamPair n) x.branchB) power
        let x := { x with
          syncEnd := s.now, lead := lead, rssi := rssi, lqi := lqiCode snr, pilot := !pre,
          derot := if pre then (m.phase, residual) else (0, 0), rateCorr := if pre then x.rateCorr else 0,
          cfo := BitVec.ofInt 16 (rnd ((s.stream n).trimHz + residual) 10), taint := s.flag F.TMB_STAT_CAL_FAULT,
          tier := tier }
        let s := s.setFrame f (some x)
        let s := (s.setFld (F.DMD_CH_STAT_RSSI n) rssi).setFld (F.DMD_CH_STAT_LQI n) (lqiCode snr)
        let s := if profType x.entry = 1 ∧ x.pilot = true then s.count F.DMD_CNT2_PILOT 1 else s
        let s := dfeAdapt n x.entry training s
        setDstate n dHeader (s.setDctx n { s.dctx n with dfe := { (s.dctx n).dfe with directed := true } })

/-- SYNC_TIMEOUT (R164): due at the limit, or when the locked branch is blank. -/
def runSyncTimeout (slot : Fin 256) (s : State) : State :=
  let n := slot.val
  match s.slotFrame n with
  | none => s
  | some (f, x) =>
    if s.dstate n ≠ dSync then s
    else if s.syncBlank x then dropFrame n f oBlanked s
    else if x.syncLimit ≤ s.now then dropFrame n f oSyncTimeout s
    else s

/-! ### Delivery -/

/-- The receive record of a frame with outcome OK (R180). -/
def rxRecord (x : RxFrame) (flr : Bool) (psdu : List Byte) (now : Nat) : RxRecord :=
  { syncEnd := x.syncEnd, lead := x.lead, slot := x.slot, profile := x.profile, branchB := x.branchB,
    compared := x.compared, pilot := x.pilot, erased := x.erased, tier := x.tier, combined := x.combined,
    taint := x.taint, rssi := x.rssi, rssiOther := x.rssiOther, lqi := x.lqi,
    iterMax := greatest (x.phrIters :: x.results.map (·.iters)), cfo := x.cfo, shortId := x.shortId, mcs := x.mcs,
    fctr16 := x.fctr16, rate := x.rate, frameEnd := x.endAt.getD now, window := x.window.map (·.node),
    flr := flr, psdu := psdu }

/-- Deliver a frame to the frame engine. -/
def deliverFrame (f : Nat) (x : RxFrame) (flr : Bool) (psdu : List Byte) (s : State) : State :=
  let s := (s.setFld (F.DMD_CH_STAT_OUTCOME x.slot) 0).setFrame f none
  let s := if x.combined then s.count F.LDP_COMB_CNT_COMBINED 1 else s
  let s := freeEntries f s
  { s with frames.rxq := s.frames.rxq ++ [rxRecord x flr psdu s.now] }

/-! ### The soft-combining store (R178, R179, R381) -/

def CombEntry.units (e : CombEntry) : Nat := if e.long then 10 else 5

/-- Units in use on the die. -/
def State.combUnits (s : State) : Nat :=
  sumOf ((s.demod.comb.filter (fun e => !e.spilled)).map CombEntry.units)

/-- Two entries belong to one frame. -/
def CombEntry.mate (a b : CombEntry) : Bool :=
  a.shortId == b.shortId && a.fctr16 == b.fctr16 && a.frame == b.frame

/-- Distinct frames among entries. -/
def distinctFrames : List CombEntry → List CombEntry
  | [] => []
  | e :: l => e :: (distinctFrames l).filter (fun o => !e.mate o)

/-- Frames with retained entries. -/
def State.combRetained (s : State) : Nat :=
  (distinctFrames (s.demod.comb.filter (fun e => e.frame.isNone))).length

/-- Frames in spill pages. -/
def State.spilledFrames (s : State) : List CombEntry :=
  distinctFrames (s.demod.comb.filter (fun e => e.spilled))

/-- Remove a retained frame. -/
def dropComb (e : CombEntry) (s : State) : State :=
  { s with demod.comb := s.demod.comb.filter (fun o => !e.mate o) }

/-- Evict a retained frame: to a spill page where it fits and there are spill pages, else away (R381). -/
def evict (e : CombEntry) (s : State) : State :=
  let s := s.count F.LDP_COMB_CNT_EVICTED 1
  let n := countIf (fun o => e.mate o) s.demod.comb
  let pages := s.fld F.MMU_SPILL_CFG_SPILL_PAGES
  if pages = 0 ∨ (if e.long then 3 else 6) < n then dropComb e s
  else
    let s := if pages ≤ s.spilledFrames.length then
        match (sortBy CombEntry.syncEnd (s.spilledFrames.filter (fun o => o.frame.isNone))).head? with
        | some o => dropComb o s
        | none => s
      else s
    if pages ≤ s.spilledFrames.length then dropComb e s
    else { s with demod.comb := s.demod.comb.map (fun (o : CombEntry) => if e.mate o then { o with spilled := true } else o) }

/-- Make room for units: retained frames go whole, the oldest SYNC_END first. -/
def makeRoom (units : Nat) : Nat → State → State
  | 0, s => s
  | fuel + 1, s =>
    if s.combUnits + units ≤ 32768 then s
    else
      match (sortBy CombEntry.syncEnd (s.demod.comb.filter (fun o => o.frame.isNone && !o.spilled))).head? with
      | some e => makeRoom units fuel (evict e s)
      | none => s

/-- Match the retained entries of a sender with a new PHR (R179): those that match join the frame, others go. -/
def matchEntries (f : Nat) (p : Phr) (s : State) : State :=
  if p.shortId = broadcastId then s
  else
    let keep := s.demod.comb.filter (fun e => e.shortId != p.shortId || e.frame.isSome ||
      (e.fctr16 == p.fctr16 && e.rate == p.rate && e.long == p.long && e.len == p.len))
    { s with demod.comb := keep.map (fun (e : CombEntry) =>
        if e.shortId == p.shortId && e.frame.isNone then { e with frame := some f } else e) }

/-- COMB_RETENTION_EXPIRED (R179). -/
def runCombRetentionExpired (shortId : Nat) (s : State) : State :=
  let hold := s.fld F.LDP_COMB_CTL_HOLD * 1200000
  { s with demod.comb := s.demod.comb.filter (fun e =>
      !(e.shortId == shortId && e.frame.isNone && e.syncEnd + hold ≤ s.now)) }

/-- SPILL_RESTORE (R381): a matched spilled frame comes back into on-die units, or is freed. -/
def runSpillRestore (shortId : Nat) (s : State) : State :=
  match s.demod.comb.find? (fun e => e.shortId == shortId && e.spilled && e.frame.isSome) with
  | none => s
  | some e =>
    let units := sumOf ((s.demod.comb.filter (fun o => e.mate o)).map CombEntry.units)
    let s := makeRoom units s.demod.comb.length s
    if s.combUnits + units ≤ 32768 then
      { s with demod.comb := s.demod.comb.map (fun (o : CombEntry) => if e.mate o then { o with spilled := false } else o) }
    else dropComb e s

/-! ### Decoder jobs (R176, R177) -/

/-- Payload codewords that a frame has. -/
def RxFrame.total (x : RxFrame) : Nat := codewords x.len x.rate x.long

/-- The end of a frame whose codewords are all accounted for: delivered, or its entries retained (R179). -/
def closeFrame (f : Nat) (s : State) : State :=
  match s.frame f with
  | none => s
  | some x =>
    if x.phrDone && x.results.length == x.total then
      match x.outcome with
      | none =>
        let bits := (sortBy CodewordRes.idx x.results).flatMap (fun r => r.bits)
        deliverFrame f x true (bytesOfBits x.len bits) s
      | some code =>
        let s := s.setFrame f none
        if (code = oDecFail ∨ code = oOverload ∨ code = oCombFull) ∧ x.shortId ≠ broadcastId ∧
            s.fld F.LDP_COMB_CTL_HOLD ≠ 0 then
          { s with demod.comb := s.demod.comb.map (fun (e : CombEntry) =>
              if e.frame == some f then { e with frame := none } else e) }
        else freeEntries f s
    else s

/-- Record the result of a payload codeword. -/
def addResult (f : Nat) (r : CodewordRes) (code : Nat) (s : State) : State :=
  match s.frame f with
  | none => s
  | some x =>
    let s := s.setFrame f (some { x with results := x.results ++ [r] })
    closeFrame f (if r.ok then s else frameFails f code s)

/-- Queue a job; with the queue full the codeword is not decoded. -/
def queueJob (j : Job) (s : State) : Option State :=
  if 128 ≤ s.demod.queue.length then none
  else
    let s := { s with demod.queue := s.demod.queue ++ [j] }
    some s

/-- Soft values of log-likelihood ratios in units of 1/1,000 (R174). -/
def softValues (llr : List (List Int)) : List (List Int) :=
  llr.map (fun c => c.map (fun v => clampAbs 15 (rnd (2 * v) 1000)))

/-- First tick of data symbol `d` of a frame: pilots stand before every 32nd (R160). -/
def RxFrame.dataAt (x : RxFrame) (d : Nat) : Nat := x.syncEnd + (d + 4 * (d / 32)) * symTicks x.entry

/-- The soft values of erased symbols are 0 (R169): `d` is the first data symbol of the copies, `n` the bits of one. -/
def State.erase (s : State) (x : RxFrame) (d n : Nat) (copies : List (List Int)) : List (List Int) :=
  ((List.range copies.length).zip copies).map (fun c => ((List.range c.2.length).zip c.2).map (fun v =>
    let a := x.dataAt (d + c.1 * n + v.1)
    if s.spanBlank x.slot x.branchB a (a + symTicks x.entry) then 0 else v.2))

/-- First data symbol of a payload codeword, and the bits of one copy. -/
def RxFrame.codewordAt (x : RxFrame) (idx : Nat) : Nat × Nat :=
  (2 ^ x.tier * (360 + idx * codeLen x.long), codeLen x.long - fillOf x.len x.rate x.long idx)

/-- The tick from which the soft values of the last copy are available: 64 ticks after the delivery of the block that
holds its last symbol (R174). -/
def State.softAt (s : State) (x : RxFrame) (d n : Nat) : Nat :=
  let per := blockPeriod (s.streamWidth x.slot)
  (x.dataAt (d + 2 ^ x.tier * n - 1) + symTicks x.entry - 1) / per * per + per + 64

/-- A payload codeword is ready: its values are combined and it becomes a job. -/
def payloadReady (f : Nat) (copies : List (List Int)) (s : State) : State :=
  match s.frame f with
  | none => s
  | some x =>
    let idx := x.jobs
    let at' := x.codewordAt idx
    let copies := s.erase x at'.1 at'.2 copies
    let k := infoBits x.long x.rate
    let fill := fillOf x.len x.rate x.long idx
    let s := s.setFrame f (some { x with jobs := idx + 1 })
    let mine (e : CombEntry) : Bool := e.frame == some f && e.idx == idx
    let s := { s with demod.comb := s.demod.comb.filter (fun e => !(mine e && e.spilled)) }
    let old := s.demod.comb.find? mine
    let s := if old.isSome then s else makeRoom (if x.long then 10 else 5) s.demod.comb.length s
    if old.isNone ∧ 32768 < s.combUnits + (if x.long then 10 else 5) then
      addResult f ⟨idx, false, 0, []⟩ oCombFull s
    else
      let retained := match old with
        | some e => e.vals
        | none => []
      let ins := combine (codeLen x.long - fill) retained copies
      let e : CombEntry := ⟨x.shortId, x.fctr16, idx, x.long, x.rate, x.len, retainedVals k fill ins none, x.syncEnd,
        some f, false⟩
      let s := { s with demod.comb := s.demod.comb.filter (fun o => !mine o) ++ [e] }
      let s := if old.isSome then
          match s.frame f with
          | some y => s.setFrame f (some { y with combined := true })
          | none => s
        else s
      let j : Job := ⟨f, false, s.now, x.slot, idx, insertFill k fill ins, x.long, x.rate, x.entry⟩
      match queueJob j s with
      | some s => s
      | none => addResult f ⟨idx, false, 0, []⟩ oOverload (s.count F.LDP_CNT_FAIL_OVERLOAD 1)

/-- Soft values that a context holds while its PHR waits. -/
def holdingSize (x : RxFrame) : Nat := sumOf (x.holding.map (fun c => sumOf (c.map (·.length))))

/-- The oldest FLR frame of a slot that still awaits a codeword. -/
def State.awaiting (s : State) (n : Nat) : Option (Nat × RxFrame) :=
  (s.demod.frames.filterMap (fun (e : Nat × Option RxFrame) =>
    match e.2 with
    | some x =>
      if x.slot == n && x.syncEnd != 0 && (!x.phrDone || x.jobs < x.total) then some (e.1, x) else none
    | none => none)).head?

/-- LDPC_JOB_READY (R174, R176): the soft values of the next codeword of the slot's frame are available. The equaliser
adapts meanwhile, decision-directed (R173). -/
def runLdpcJobReady (slot : Fin 256) (b : SoftBlock) (s : State) : State :=
  match s.awaiting slot.val with
  | none => s
  | some (f, x) =>
    let copies := softValues b.llr
    if profType x.entry ≠ 1 then s
    else if !x.phrJob then
      if s.now < s.softAt x 0 360 then s
      else
        let s := dfeAdapt x.slot x.entry b.steps (s.setFrame f (some { x with phrJob := true }))
        let j : Job := ⟨f, true, s.now, x.slot, 0, insertFill 288 216 (combine 360 [] (s.erase x 0 360 copies)), false, 0, x.entry⟩
        match queueJob j s with
        | some s => s
        | none => dropFrame slot.val f oOverload (s.count F.LDP_CNT_FAIL_OVERLOAD 1)
    else if !x.phrDone then
      let s := dfeAdapt x.slot x.entry b.steps s
      let x := { x with holding := x.holding ++ [copies] }
      if 8192 < holdingSize x then dropFrame slot.val f oLost s else s.setFrame f (some x)
    else if s.now < s.softAt x (x.codewordAt x.jobs).1 (x.codewordAt x.jobs).2 then s
    else payloadReady f copies (dfeAdapt x.slot x.entry b.steps s)

/-- The order of jobs (R176). -/
def Job.before (a b : Job) : Bool :=
  if a.phr != b.phr then a.phr
  else if a.ready ≠ b.ready then a.ready < b.ready
  else if a.slot ≠ b.slot then a.slot < b.slot
  else a.idx ≤ b.idx

/-- The job that starts next. -/
def nextJob : List Job → Option Job
  | [] => none
  | j :: l =>
    match nextJob l with
    | none => some j
    | some k => if j.before k then some j else some k

def State.decoder (s : State) (d : Nat) : Option Decoder := s.demod.decoders.get none d

/-- The cap of a job that starts now (R175). -/
def State.iterCap (s : State) (entry : List Byte) : Nat :=
  let own := orDefault (profByte entry 20) 12
  let chip := s.fld F.LDP_CTL_ITER_CAP
  least2 own (if chip = 0 ∨ 32 < chip then 32 else chip)

/-- LDPC_JOB_START (R176): on the lowest-numbered idle decoder. -/
def runLdpcJobStart (s : State) : State :=
  match nextJob s.demod.queue, (List.range 8).find? (fun d => (s.decoder d).isNone) with
  | some j, some d =>
    let s := { s with demod.queue := s.demod.queue.erase j }
    { s with demod.decoders := s.demod.decoders.set none d (some ⟨j, s.iterCap j.entry, s.now⟩) }
  | _, _ => s

/-- A PHR has been decoded or has failed (R164). -/
def phrResult (f : Nat) (ok : Bool) (iters : Nat) (bits : List Bool) (s : State) : State :=
  match s.frame f with
  | none => s
  | some x =>
    if s.dstate x.slot ≠ dHeader ∨ (s.dctx x.slot).frame ≠ some f then s
    else
      let p := Phr.of bits
      let tiers := profByte x.entry 18
      if !ok || !p.crcOk || p.len == 0 || p.tier != x.tier || p.rate == 3 || tiers / 2 ^ p.tier % 2 == 0 then
        dropFrame x.slot f oPhrFail s
      else
        let s := s.setFrame f (some { x with
          phrDone := true, phrIters := iters, shortId := p.shortId, fctr16 := p.fctr16, rate := p.rate, long := p.long,
          len := p.len, holding := [] })
        let s := setDstate x.slot dPayload (matchEntries f p s)
        x.holding.foldl (fun s c => payloadReady f c s) s

/-- LDPC_JOB_DONE (R175, R177): due when the job's iterations have run. -/
def runLdpcJobDone (decoder : Fin 8) (s : State) : State :=
  match s.decoder decoder.val with
  | none => s
  | some d =>
    let r := decodeJob d.job d.cap
    if s.now < d.start + jobTicks d.job r.1 then s
    else
      let s := { s with demod.decoders := s.demod.decoders.set none decoder.val none }
      let s := s.wrapCount F.LDP_CNT_ITER_ITERATIONS r.1
      let s := if r.2.1 then s.wrapCount F.LDP_CNT_CW_COUNT 1 else s.count F.LDP_CNT_FAIL_FAIL 1
      let j := d.job
      if j.phr then phrResult j.frame r.2.1 r.1 r.2.2 s
      else
        let k := infoBits j.long j.rate
        let fill := match s.frame j.frame with
          | some x => fillOf x.len x.rate x.long j.idx
          | none => 0
        let s := if r.2.1 then
            { s with demod.comb := s.demod.comb.map (fun (e : CombEntry) =>
                if e.frame == some j.frame && e.idx == j.idx then
                  { e with vals := retainedVals k fill [] (some r.2.2) } else e) }
          else s
        addResult j.frame ⟨j.idx, r.2.1, r.1, r.2.2.take (k - fill)⟩ oDecFail s

/-! ### SUN frames and the end of a frame (R158, R164) -/

/-- PHR_END of a SUN frame. -/
def runPhrEnd (slot : Fin 256) (phr : SunPhr) (s : State) : State :=
  let n := slot.val
  match s.slotFrame n with
  | none => s
  | some (f, x) =>
    let e := x.entry
    if s.dstate n ≠ dHeader ∨ profType e = 1 then s
    else
      match (if profType e = 2 ∧ phr.valid = true then phr.modeSwitch else none) with
      | some m =>
        let i := profByte e (21 + m.val)
        if 63 ≤ i ∨ s.profLoaded i = false ∨ profWidth (s.profile i) ≠ profWidth e then dropFrame n f oMsFail s
        else
          let s := ctxSearch n (s.setFrame f none)
          s.setDctx n { s.dctx n with msProfile := some i }
      | none =>
        let mcsOk := profType e != 3 || profByte e 17 / 2 ^ phr.mcs % 2 == 1
        if !phr.valid || phr.len == 0 || 2047 < phr.len || !mcsOk then dropFrame n f oPhrFail s
        else
          setDstate n dPayload (s.setFrame f (some { x with
            phrDone := true, len := phr.len, mcs := if profType e = 3 then phr.mcs else 0 }))

/-- RX_FRAME_END: the last symbol of a frame ends. ERASED tells of a blank-marked block after SYNC_END (R169); in PILOT
mode the frequency offset is that of the whole frame (R171). A SUN frame is delivered; the codewords of an FLR frame
finish in the pool. -/
def runRxFrameEnd (slot : Fin 256) (offset : Int) (soft : List Int) (s : State) : State :=
  let n := slot.val
  match s.slotFrame n with
  | none => s
  | some (f, x) =>
    if s.dstate n ≠ dPayload then s
    else
      let cfo := if x.pilot then BitVec.ofInt 16 (rnd ((s.stream n).trimHz + offset) 10) else x.cfo
      let x := { x with endAt := some s.now, erased := s.spanBlank n x.branchB x.syncEnd s.now, cfo := cfo }
      let s := ctxSearch n (s.setFrame f (some x))
      if profType x.entry = 1 then s
      else deliverFrame f x false (sliceBytes (Config.sunPsdu x.entry x.mcs x.len soft) 0 x.len) s

/-- MODE_SWITCH_TIMEOUT (R158): the stream returns to its own profile where no PPDU has followed. -/
def runModeSwitchTimeout (slot : Fin 256) (s : State) : State :=
  let c := s.dctx slot.val
  if c.frame.isNone then s.setDctx slot.val { c with msProfile := none } else s

end Sys2Proof.Machine
end

