-- ==== Sys2Proof/Machine/Ppdu.lean ====
section
/-! DEFINITION. What a chain modulates: the FLR frame from preamble to last codeword (R159 to R163), and the PPDU of a mode
switch (R158). -/

namespace Sys2Proof.Machine

/-! ### The encoder (R163) -/

/-- Bit `i` of a list, 0 past its end. -/
def bitAt (l : List Bool) (i : Nat) : Bool := l.getD i false

/-- What the systematic columns add to check `x` of base row `i`. -/
def rowSum (mb z : Nat) (u : Array Bool) (i x : Nat) : Bool :=
  (List.range (24 - mb)).foldl (fun b j =>
    match baseShift mb z i j with
    | some sh => b != u.getD (j * z + (x + sh) % z) false
    | none => b) false

/-- The first parity block: all rows together leave only its entry of shift 0. -/
def parityFirst (mb z : Nat) (u : Array Bool) : List Bool :=
  (List.range z).map (fun x => (List.range mb).foldl (fun b i => b != rowSum mb z u i x) false)

/-- The parity blocks that follow, row by row: row `i` gives block `i + 1` from block `i`. -/
def parityNext (mb z : Nat) (u : Array Bool) (first : List Bool) : List Nat → List Bool → List (List Bool)
  | [], _ => []
  | i :: l, p =>
    let q := (List.range z).map (fun x =>
      let own := if i = 0 then bitAt first ((x + 1) % z) else bitAt p x != (i == mb / 2 && bitAt first x)
      rowSum mb z u i x != own)
    q :: parityNext mb z u first l q

/-- Parity bits of the information bits of a codeword. -/
def parityBits (long : Bool) (rate : Nat) (info : List Bool) : List Bool :=
  let mb := baseRows rate
  let z := lifting long
  let u := info.toArray
  let first := parityFirst mb z u
  first ++ (parityNext mb z u first (List.range (mb - 1)) []).flatten

/-- The transmitted bits of a codeword: its information bits but for the fill, then its parity (R161, R162). -/
def encodeSent (long : Bool) (rate : Nat) (info : List Bool) : List Bool :=
  info ++ parityBits long rate (info ++ List.replicate (infoBits long rate - info.length) false)

/-! ### The frame (R160 to R162) -/

/-- The 72 bits of a PHR. -/
def phrBits (shortId fctr16 tier rate : Nat) (long : Bool) (len : Nat) : List Bool :=
  let body := bitsLow 17 shortId ++ bitsLow 16 fctr16 ++ bitsLow 2 tier ++ bitsLow 2 rate ++ [long] ++ bitsLow 11 len ++
    bitsLow 7 0
  body ++ bitsLow 16 (crc16 body).toNat

/-- A list cut into pieces of a size, at most `fuel` of them. -/
def pieces (size : Nat) : Nat → List Bool → List (List Bool)
  | 0, _ => []
  | fuel + 1, l => if l.isEmpty then [] else l.take size :: pieces size fuel (l.drop size)

/-- The codewords of a PSDU, each as transmitted (R162). -/
def payloadSent (long : Bool) (rate : Nat) (psdu : List Byte) : List (List Bool) :=
  (pieces (infoBits long rate) (codewords psdu.length rate long) (psdu.flatMap (fun b => bitsLow 8 b.toNat))).map
    (encodeSent long rate)

/-- The pilots 0, 1, 1, 0 before data symbol 32i for each i ≥ 1. -/
def withPilots (data : List Bool) : List Bool :=
  match pieces 32 (data.length / 32 + 1) data with
  | [] => []
  | p :: l => p ++ l.flatMap (fun q => [false, true, true, false] ++ q)

/-- The bits of an FLR frame before precoding. -/
def flrBits (entry : List Byte) (tier shortId fctr16 : Nat) (psdu : List Byte) : List Bool :=
  let long := profByte entry 23 % 2 == 1
  let rate := profByte entry 23 / 2 % 4
  let t := 2 ^ tier
  let words := encodeSent false 0 (phrBits shortId fctr16 tier rate long psdu.length) :: payloadSent long rate psdu
  let preamble := (List.range (32 + 64 * t)).map (fun k => k % 2 == 1)
  preamble ++ bitsLow 32 (flrSync tier) ++ withPilots (words.flatMap (fun w => (List.replicate t w).flatten))

/-- Differential precoding: each symbol is its bit and the bit before it, from 0 on (R159). -/
def precode (prev : Bool) : List Bool → List Bool
  | [] => []
  | b :: l => (b != prev) :: precode b l

/-- The new mode that a profile's map gives a target profile (R158). -/
def newMode (entry : List Byte) (target : Nat) : Option Nat :=
  (List.range 4).find? (fun m => profByte entry (21 + m) == target)

/-- What the chain modulates for a descriptor: a target profile that the map names follows its mode-switch PPDU. -/
def State.ppduOf (s : State) (d : TxDesc) : Ppdu :=
  if profType d.entry = 1 then .flr (precode false (flrBits d.entry d.tier d.node d.fctr16 d.psdu))
  else
    match d.target with
    | none => .sun none d.entry d.psdu
    | some i =>
      match newMode d.entry i with
      | some m => .sun (some m) (s.profile i) d.psdu
      | none => .sun none d.entry d.psdu

end Sys2Proof.Machine
end

