-- ==== Sys2Proof/Machine/Channelizer.lean ====
section
/-! DEFINITION. Channel streams, diversity claims, frequency trims, block compression and the capture store
(R129 to R152). -/

namespace Sys2Proof.Machine

/-! ### Fit and resources (R130, R135, R136) -/


/-- Pair states (R98). -/
def State.pairState (s : State) (p : Nat) : Nat := s.fld (F.RFE_PAIR_STAT_STATE p)

/-- ARMED, or in CAL from ARMED. -/
def State.pairArmed (s : State) (p : Nat) : Bool :=
  s.pairState p == 1 ||
    (s.pairState p == 2 && (match (s.pairOf p).cal with
      | some c => c.fromArmed
      | none => false))

/-- Distance of two integers. -/
def distInt (a b : Int) : Nat := (a - b).natAbs

/-- The bin of a stream of frequency `f` Hz and width `w` Hz on a span centre `fc` Hz (R130). -/
def fitBin (fc f : Int) (w : Nat) : Option Int :=
  if 2 * distInt f fc + w ≤ 48000000 then
    let bins := ((List.range 39).map (fun i => ((i : Nat) : Int) - 19)).filter (fun j =>
      2 * distInt f (fc + j * 1250000) + w ≤ 2000000)
    (sortBy (fun j => distInt f (fc + j * 1250000)) bins).head?
  else none

def State.centreHz (s : State) (p : Nat) : Int := 1000 * (s.fld (F.RFE_PAIR_STAT_CENTRE_KHZ p) : Int)

/-- The bin of a slot's stream on its pair as tuned. -/
def State.streamFit (s : State) (n : Nat) : Option Int :=
  fitBin (s.centreHz (s.streamPair n)) (s.streamHz n) (widthHz (s.streamWidth n))

/-- A slot is enabled; the first slot of the stream that holds it. -/
def State.slotEn (s : State) (k : Nat) : Bool := s.flag (F.CHZ_CH_CFG_EN k)
def State.headOf (s : State) (k : Nat) : Option Nat :=
  if !s.slotEn k then none
  else [k, k - 1, k - 2].find? (fun h => h ≤ k && s.isHead h && k < h + widthSlots (s.streamWidth h))

/-- First slots of the enabled streams. -/
def State.heads (s : State) : List Nat := (List.range 256).filter s.isHead

/-- Enabled slots, and free contexts of the pool. -/
def State.slotsEnabled (s : State) : Nat := countIf s.slotEn (List.range 256)
def State.ctxFree (s : State) : Nat :=
  384 - s.slotsEnabled -
    sumOf ((s.heads.filter (fun n => s.chState n == stDual && !(s.stream n).preempted)).map (fun n =>
      widthSlots (s.streamWidth n)))

/-- The channel's round is none of those whose idle power is recorded (R230). -/
def notIdle (n : Nat) (s : State) : State :=
  if s.sched.noIdle.contains n then s else { s with sched.noIdle := n :: s.sched.noIdle }

def setChState (n v : Nat) (s : State) : State :=
  (if s.chState n = v then s else notIdle n s).setFld (F.CHZ_CH_STAT_STATE n) v

/-- Arguments of the fit records: slot, F, span centre. -/
def fitArgs (s : State) (n : Nat) : List Byte :=
  arg1 n ++ arg4 (s.streamHz n) ++ arg4 (s.fld (F.RFE_PAIR_STAT_CENTRE_KHZ (s.streamPair n)))

/-- A pair has been armed from OFF (`arming`), retuned, or left CAL for ARMED: each of its suspended streams that does
not fit is recorded once per arming (R140). -/
def spanChanged (arming : Bool) (p : Nat) (s : State) : State :=
  s.heads.foldl (fun s n =>
    let known := (s.stream n).unfit && !arming
    if s.streamPair n = p ∧ s.chState n = stSuspended ∧ known = false ∧ (s.streamFit n).isNone then
      post 14 sevInfo 0x0401 (fitArgs s n) (s.setStream n { s.stream n with unfit := true })
    else s) s

/-! ### The frequency trim and the NCO (R142, R143) -/

/-- A trim write, in 10 Hz: it waits for the block boundary, and TRIM_CLAMPED clears. -/
def trimWrite (n : Nat) (v : BitVec 16) (s : State) : State :=
  let s := (s.setFld (F.CHZ_CH_TRIM_TRIM n) v.toNat).setFlag (F.CHZ_CH_STAT_TRIM_CLAMPED n) false
  s.setStream n { s.stream n with trimPend := some v }

/-- Offset of a stream's centre from its bin, in Hz; none where it fits no bin. -/
def State.binOffset (s : State) (n : Nat) : Option Int :=
  match s.streamFit n with
  | none => none
  | some j => some (s.streamHz n - (s.centreHz (s.streamPair n) + j * 1250000))

/-- A trim as applied, in Hz, and whether it was limited: to half the width and, on a bin, to the bin's flat part. -/
def State.trimLimit (s : State) (n : Nat) (v : BitVec 16) : Int × Bool :=
  let w : Int := widthHz (s.streamWidth n)
  let t : Int := 10 * v.toInt
  let most : Int := match s.binOffset n with
    | none => w / 2
    | some d => minInt (w / 2) (if t < 0 then 1000000 - w / 2 + d else 1000000 - w / 2 - d)
  if most < t then (most, true) else if t < -most then (-most, true) else (t, false)

/-- The frequency word of a stream's NCO at an offset in Hz. -/
def ncoWord (hz : Int) : BitVec 32 := BitVec.ofInt 32 (rnd (hz * 2 ^ 32) 2500000)

/-- The phase accumulator at a tick: it runs at the 2.5 MS/s bin rate. -/
def Stream.phaseOf (x : Stream) (t : Nat) : BitVec 32 := x.phase + x.word * BitVec.ofNat 32 (t / 48 - x.phaseAt / 48)

/-- A waiting trim takes effect, and the limit is held to the stream as it is placed now; the phase stays continuous. -/
def applyTrim (take : Bool) (n : Nat) (s : State) : State :=
  let x := s.stream n
  let x := match x.trimPend with
    | some v => if take then { x with trimPend := none, trim := v, trimSince := s.now } else x
    | none => x
  let r := s.trimLimit n x.trim
  let s := if r.2 then s.setFlag (F.CHZ_CH_STAT_TRIM_CLAMPED n) true else s
  let word := match s.binOffset n with
    | none => x.word
    | some d => ncoWord (d + r.1)
  s.setStream n { x with trimHz := r.1, word := word, phase := x.phaseOf s.now, phaseAt := s.now }

/-! ### Block-floating-point blocks (R144 to R147) -/

/-- x / 2^e to nearest, ties away from zero. -/
def rndShift (x : Int) (e : Nat) : Int :=
  let m := (2 * x.natAbs + 2 ^ e) / 2 ^ (e + 1)
  if x < 0 then -(m : Int) else m

/-- The exponent of a block. -/
def blockExp (xs : List Int) : Nat :=
  ((List.range 10).find? (fun e => xs.all (fun x => (rndShift x e).natAbs ≤ 127))).getD 9

/-- Mantissas of a block. -/
def blockMantissas (xs : List Int) : List Int := xs.map (fun x => rndShift x (blockExp xs))

/-- The 40-byte record of a block (R146). -/
def blockRecord (slot k start : Nat) (branchB blank clip : Bool) (xs : List Int) : List Byte :=
  let xs := if blank then List.replicate 32 0 else xs.map (clampAbs 32767)
  let e := if blank then 0 else blockExp xs
  let flags := e + (if blank then 16 else 0) + (if branchB then 32 else 0) + (if clip then 64 else 0)
  leBytes 1 flags ++ leBytes 1 slot ++ leBytes 2 k ++ leBytes 4 start ++
    (xs.map (fun x => BitVec.ofInt 8 (rndShift x e)))

/-! ### The capture store (R148 to R150) -/

/-- The capture ends: its state, T0, count, record and reply (R152). -/
def capFinish (result t0 count : Nat) (wrapped : Bool) (s : State) : State :=
  match s.chz.cap with
  | none => s
  | some c =>
    let s := s.setFld F.CHZ_CAP_STAT_STATE (if result = 3 then 4 else 3)
    let s := (s.setFld F.CHZ_CAP_STAT_COUNT count).setFlag F.CHZ_CAP_STAT_WRAPPED wrapped
    let s := s.setPair R.CHZ_CAP_T0_LO R.CHZ_CAP_T0_HI t0
    let s := { s with chz.cap := none }
    let s := post 14 sevInfo 0x0404 (arg1 (s.fld F.CHZ_CAP_STAT_MODE) ++ arg1 result ++ arg4 count) s
    finishOpt c.cmd St.OK (leBytes 8 t0 ++ leBytes 8 c.trigAt ++ leBytes 4 count ++ leBytes 1 result ++
      leBytes 1 (if wrapped then 1 else 0) ++ leBytes 2 0) s

def ringRecords : Nat := 104857
def ringSamples : Nat := 1048576

/-- First sample instant of the block that a stream has in progress, and its place among equal ones. -/
def State.blockKey (s : State) (n : Nat) : Nat := ((s.stream n).block * blockPeriod (s.streamWidth n)) * 512 + 2 * n
def BlockRecord.key (r : BlockRecord) : Nat := r.start * 512 + 2 * r.slot + (if r.branchB then 1 else 0)

/-- Store one block record. -/
def capStore40 (r : BlockRecord) (c : StoreCapture) (s : State) : StoreCapture × State :=
  let s := if c.stored = 0 then s.setPair R.CHZ_CAP_T0_LO R.CHZ_CAP_T0_HI r.start else s
  let recording := s.fld F.CHZ_CAP_STAT_STATE == 2
  let s := { s with chz.store := s.chz.store.setRun 0 (40 * (c.stored % ringRecords)) r.bytes }
  let c := { c with stored := c.stored + 1, remaining := if recording then c.remaining - 1 else c.remaining }
  let s := s.setFld F.CHZ_CAP_STAT_COUNT (least2 c.stored ringRecords)
  (c, s.setFlag F.CHZ_CAP_STAT_WRAPPED (ringRecords < c.stored))

/-- Write waiting records in the order of R148 until LENGTH of them follow the trigger: those that no stream's next
block can precede, or all. -/
def capWrite (all : Bool) : List BlockRecord → StoreCapture → State → StoreCapture × State
  | [], c, s => ({ c with waiting := [] }, s)
  | r :: l, c, s =>
    let behind := c.slots.any (fun m => s.isHead m && stSingle ≤ s.chState m && decide (s.blockKey m < r.key))
    let full := s.fld F.CHZ_CAP_STAT_STATE == 2 && c.remaining == 0
    if full || (behind && !all) then ({ c with waiting := r :: l }, s)
    else
      let x := capStore40 r c s
      capWrite all l x.1 x.2

/-- End a STREAM capture with a RESULT; the records that wait are stored first. -/
def streamCapEnd (result : Nat) (s : State) : State :=
  match s.chz.cap with
  | none => s
  | some c =>
    let x := capWrite true c.waiting c s
    let result := if s.fld F.CHZ_CAP_STAT_STATE == 2 && x.1.remaining == 0 then 0 else result
    let s := x.2
    capFinish result (s.pair R.CHZ_CAP_T0_LO R.CHZ_CAP_T0_HI) (least2 x.1.stored ringRecords)
      (ringRecords < x.1.stored) { s with chz.cap := some x.1 }

/-- Records that may be written are written; the capture ends with its last one. -/
def capFlush (s : State) : State :=
  match s.chz.cap with
  | none => s
  | some c =>
    if s.fld F.CHZ_CAP_STAT_MODE ≠ 1 then s
    else
      let x := capWrite false c.waiting c s
      let s := { x.2 with chz.cap := some x.1 }
      if s.fld F.CHZ_CAP_STAT_STATE == 2 && x.1.remaining == 0 then streamCapEnd 0 s else s

/-- The first sample instant of a RAW capture: a multiple of 2 ticks from its start on (R148). -/
def StoreCapture.t0 (c : StoreCapture) : Nat := c.startAt + c.startAt % 2

/-- Samples that a RAW capture has taken by a tick, and those it takes in all once it is triggered. -/
def StoreCapture.taken (c : StoreCapture) (t : Nat) : Nat := (t + 1 - c.t0) / 2
def StoreCapture.total (c : StoreCapture) : Nat := (if c.trig = 0 then 0 else c.taken c.trigAt) + c.length

/-- The tick at which a RAW or SPECTRUM capture has its last sample. -/
def StoreCapture.endsAt (c : StoreCapture) (mode : Nat) : Nat :=
  if mode = 2 then c.startAt + 2048 * 2 ^ c.avg else c.t0 + 2 * c.total

/-- Samples of a RAW capture up to now. -/
def State.rawCount (s : State) (c : StoreCapture) : Nat :=
  if s.fld F.CHZ_CAP_STAT_STATE = 2 then least2 c.total (c.taken s.now) else c.taken s.now

/-- End a RAW capture: count and WRAPPED. -/
def rawEnd (result : Nat) (s : State) : State :=
  match s.chz.cap with
  | none => s
  | some c =>
    let n := s.rawCount c
    capFinish result c.t0 (least2 n ringSamples) (ringSamples < n) s

/-- End a capture early with a RESULT (R149). The samples that a RAW capture has stored are whatever the converters
gave: they read as free values. The averages of a SPECTRUM capture are not complete: it has stored no bins. -/
def capStop (result : Nat) (s : State) : State :=
  match s.chz.cap with
  | none => s
  | some c =>
    match s.fld F.CHZ_CAP_STAT_MODE with
    | 0 =>
      let bytes := 4 * least2 (s.rawCount c) ringSamples
      rawEnd result { s with chz.fill := (bytes, s.free), free := s.free + bytes }
    | 1 => streamCapEnd result s
    | _ => capFinish result c.startAt 0 false s

/-- The captured pair goes OFF (R149). -/
def capPairOff (p : Nat) (s : State) : State :=
  match s.chz.cap with
  | some c => if s.fld F.CHZ_CAP_STAT_MODE ≠ 1 ∧ c.source % 4 = p then capStop 3 s else s
  | none => s

/-- A byte of the capture store. -/
def State.storeByte (s : State) (o : Nat) : Byte :=
  if o < s.chz.fill.1 then BitVec.ofNat 8 (Config.free (s.chz.fill.2 + o)) else s.chz.store.get 0 o

/-- One branch's block of a stream ends: CLIP and SAT are counted and the block is kept where a capture names the
stream. -/
def branchBlock (n start : Nat) (branchB clip : Bool) (xs : List Int) (s : State) : State :=
  let per := blockPeriod (s.streamWidth n)
  let b := branchNo (s.streamPair n) branchB
  let blank := s.blockBlank b start per
  let s := if clip then s.count (F.CHZ_BR_CNT_CLIP b) 1 else s
  let s := s.count (F.CHZ_BR_CNT_SAT b) (countIf (fun x => decide (32767 < x.natAbs)) xs)
  match s.chz.cap with
  | some c =>
    let st := s.fld F.CHZ_CAP_STAT_STATE
    if s.fld F.CHZ_CAP_STAT_MODE = 1 ∧ c.slots.contains n = true ∧ (st = 1 ∨ st = 2) ∧ c.startAt ≤ start then
      let bytes := blockRecord n (start / per) start branchB blank clip (xs.take 32 ++ List.replicate (32 - xs.length) 0)
      { s with chz.cap := some { c with waiting := insertBy BlockRecord.key ⟨start, n, branchB, bytes⟩ c.waiting } }
    else s
  | none => s

/-! ### Stream transitions (R137, R140, R141) -/

/-- Release every slot of a stream. -/
def clearSlots (n : Nat) (s : State) : State :=
  let w := widthSlots (s.streamWidth n)
  (List.range w).foldl (fun s i => s.setWord (R.CHZ_CH_CFG (n + i)) 0x00800000#32) s

/-- Write CFG for the slots of a stream. -/
def writeSlots (n : Nat) (cfg freq : Word) (s : State) : State :=
  let w := widthSlots ((F.CHZ_CH_CFG_WIDTH n).read cfg)
  let s := (List.range w).foldl (fun s i =>
    s.setWord (R.CHZ_CH_CFG (n + i)) (if i = 0 then cfg else (F.CHZ_CH_CFG_HEAD n).write 0 cfg)) s
  s.setWord (R.CHZ_CH_FREQ n) freq

/-- The reply of PHY_CHAN_SET. -/
def chanReply (n : Nat) (s : State) : List Byte :=
  let bin : Nat := if s.isHead n ∧ stSingle ≤ s.chState n then unsignedOf 8 ((s.streamFit n).getD 0) else 0x80
  leBytes 1 (s.chState n) ++ leBytes 1 bin ++ leBytes 2 s.ctxFree ++ leBytes 4 0

/-- Answer the PHY_CHAN_SET that waits for this boundary. -/
def chanAnswer (n : Nat) (s : State) : State :=
  let q := (s.stream n).cmd
  finishOpt q St.OK (chanReply n s) (s.setStream n { s.stream n with cmd := none })

/-- Enter SINGLE: bind to PRIMARY and search (R140, R164). -/
def enterSingle (n : Nat) (s : State) : State :=
  let s := setChState n stSingle s
  if s.fld (F.CHZ_CH_CFG_PHY_PROFILE n) = 63 then setDstate n dIdle s
  else if s.dstate n = dIdle then setDstate n dSearch s else s

/-- The stream may run: its pair is armed, it fits and the governor has not suspended it. -/
def State.mayRun (s : State) (n : Nat) : Bool :=
  s.pairArmed (s.streamPair n) && (s.streamFit n).isSome && !(s.stream n).governed

/-- A replacement is complete when every stream that uses the profile has taken it (R183). -/
def settleReplace (s : State) : State :=
  match s.demod.replace with
  | none => s
  | some (i, e, q) =>
    let users := s.heads.filter (fun m => s.fld (F.CHZ_CH_CFG_PHY_PROFILE m) == i)
    if users.all (fun m => (s.stream m).tookNew) then
      let s := users.foldl (fun s m => s.setStream m { s.stream m with tookNew := false }) s
      let s := { s with demod.profiles := s.demod.profiles.set [] i e, demod.replace := none }
      finish q St.OK [] (post 15 sevInfo 0x0501 (arg1 i) s)
    else s

/-- A stream is disabled. -/
def disableStream (n : Nat) (s : State) : State :=
  let s := frameLost n s
  let s := setDstate n dIdle (setChState n stOff s)
  let x := s.stream n
  let s := (clearSlots n s).setStream n
    { Stream.reset with cmd := x.cmd, trim := x.trim, trimPend := x.trimPend, trimSince := x.trimSince, word := x.word,
                        phase := x.phaseOf s.now, phaseAt := s.now }
  settleReplace (s.setDctx n DemodCtx.reset)

/-- The next block boundary of a stream lies ahead of now. -/
def boundaryAhead (n : Nat) (s : State) : State :=
  s.setStream n { s.stream n with block := s.now / blockPeriod (s.streamWidth n) }

/-- A stream is enabled: its slots are its own at once, and it runs from its next block boundary on. -/
def streamEnable (n : Nat) (cfg freq : Word) (s : State) : State :=
  let s := boundaryAhead n (writeSlots n cfg freq s)
  s.setStream n { s.stream n with pend := some .enable }

/-- A stream takes a new CFG and FREQ: a change of PAIR or WIDTH is a disable and an enable at one boundary (R141). A
stream that ran searches anew. -/
def streamChange (n : Nat) (cfg freq : Word) (s : State) : State :=
  let st := s.chState n
  let moved := (F.CHZ_CH_CFG_PAIR n).read cfg != s.streamPair n ||
    (F.CHZ_CH_CFG_WIDTH n).read cfg != s.streamWidth n
  let s := frameLost n s
  let old := s.stream n
  let s := if moved then
      let s := disableStream n s
      s.setStream n { s.stream n with governed := old.governed, unfit := old.unfit }
    else s
  let s := writeSlots n cfg freq s
  let s := if moved then boundaryAhead n s else s
  let s := s.setStream n { s.stream n with pend := none }
  let s := if stSingle ≤ st then enterSingle n s else setChState n stSuspended s
  settleReplace (dwellRefresh s)

/-- The pending change of a stream takes effect; with APPLY = 1 not while the stream is LOCKED. -/
def applyPend (n : Nat) (s : State) : State :=
  match (s.stream n).pend with
  | none => s
  | some .enable =>
    dwellRefresh (setChState n stSuspended (s.setStream n { s.stream n with pend := none }))
  | some .disable => disableStream n s
  | some (.change cfg freq apply) => if apply && s.chState n == stLocked then s else streamChange n cfg freq s

/-- Suspension and resumption at a boundary (R140). -/
def applyRun (n : Nat) (s : State) : State :=
  let st := s.chState n
  if st = stSuspended then
    if s.mayRun n then
      let s := enterSingle n s
      if (s.stream n).unfit then
        post 14 sevInfo 0x0403 (fitArgs s n) (s.setStream n { s.stream n with unfit := false })
      else s
    else s
  else if st ≠ stOff ∧ s.mayRun n = false then
    let s := setDstate n dIdle (frameLost n s)
    let s := setDstate n dIdle (setChState n stSuspended s)
    let s := s.setStream n { s.stream n with preempted := false }
    if s.pairArmed (s.streamPair n) && (s.streamFit n).isNone then
      post 14 sevDegraded 0x0402 (fitArgs s n) (s.setStream n { s.stream n with unfit := true })
    else s
  else s

/-- A stream whose pool contexts were taken returns to PRIMARY, with a frame that was still to be compared. -/
def applyPreempt (n : Nat) (s : State) : State :=
  if !(s.stream n).preempted then s
  else
    let s := s.setStream n { s.stream n with preempted := false }
    let s := if s.chState n = stDual then setChState n stSingle s else s
    match s.slotFrame n with
    | some (f, x) =>
      if s.dstate n = dDiversity then setDstate n dSync (s.setFrame f (some { x with branchB := s.primaryB n })) else s
    | none => s

/-- A stream follows its demodulator: LOCKED while a frame is on it, SINGLE when it has ended (R140). -/
def applyLock (n : Nat) (s : State) : State :=
  let st := s.chState n
  match s.slotFrame n with
  | some (_, x) =>
    if st = stSingle ∨ (st = stDual ∧ dSync ≤ s.dstate n) then
      (setChState n stLocked s).setFlag (F.CHZ_CH_STAT_BRANCH n) x.branchB
    else s
  | none =>
    if st = stLocked then setChState n stSingle s
    else if st = stDual ∧ s.fld (F.CHZ_CH_CFG_DIV n) = 1 ∧ (s.stream n).claim = false then setChState n stSingle s
    else s

/-- The ALWAYS stream that a WINDOWED claim pre-empts (R137). -/
def State.preemptVictim (s : State) : Option Nat :=
  (s.heads.filter (fun n => s.fld (F.CHZ_CH_CFG_DIV n) == 2 && s.chState n == stDual && !(s.stream n).preempted &&
    (s.dctx n).frame.isNone)).getLast?

/-- Serve the diversity claim of a stream (R137). A stream that loses its contexts leaves DUAL at its own boundary. -/
def serveClaim (n : Nat) (s : State) : State :=
  let need := widthSlots (s.streamWidth n)
  if s.isHead n = false ∨ s.chState n ≠ stSingle ∨ (s.dctx n).frame.isSome then s
  else
    match s.fld (F.CHZ_CH_CFG_DIV n) with
    | 1 =>
      if !(s.stream n).claim then s
      else if need ≤ s.ctxFree then setChState n stDual s
      else
        match s.preemptVictim with
        | none => s.count F.CHZ_CNT_DIV_SHORT 1
        | some v =>
          let s := (s.setStream v { s.stream v with preempted := true }).count F.CHZ_CNT_PREEMPT 1
          if need ≤ s.ctxFree then setChState n stDual s else s.count F.CHZ_CNT_DIV_SHORT 1
    | 2 => if need ≤ s.ctxFree then setChState n stDual s else s
    | _ => s

/-- The claims of the streams whose boundaries this tick has brought, once every release of the tick has taken effect:
WINDOWED before ALWAYS, lower slots first (R137). -/
def serveClaims (s : State) : State :=
  let order (n : Nat) : Nat := (if s.fld (F.CHZ_CH_CFG_DIV n) = 1 then 0 else 256) + n
  let asks := s.chz.asks
  if asks.isEmpty then s else (sortBy order asks).foldl (fun s n => serveClaim n s) { s with chz.asks := [] }

/-- The stream takes the entry that replaces its profile, as a change with APPLY = 1 (R183). -/
def applyProfile (n : Nat) (s : State) : State :=
  match s.demod.replace with
  | none => s
  | some (i, _, _) =>
    if s.fld (F.CHZ_CH_CFG_PHY_PROFILE n) ≠ i ∨ s.chState n = stLocked ∨ (s.stream n).tookNew = true then s
    else
      let s := frameLost n s
      settleReplace (s.setStream n { s.stream n with tookNew := true })

/-- The blocks of a stream that end at its boundary: those of the branches that it processes. -/
def blocksEnd (n start : Nat) (a b : List Int) (clipA clipB : Bool) (s : State) : State :=
  let st := s.chState n
  let useA := st == stDual || (st == stSingle && !s.primaryB n) ||
    (st == stLocked && !s.flag (F.CHZ_CH_STAT_BRANCH n))
  let useB := st == stDual || (st == stSingle && s.primaryB n) ||
    (st == stLocked && s.flag (F.CHZ_CH_STAT_BRANCH n))
  let s := if useA then branchBlock n start false clipA a s else s
  if useB then branchBlock n start true clipB b s else s

/-- What a block boundary brings a stream (R140). -/
def streamTurn (n : Nat) (s : State) : State :=
  let waiting := (s.stream n).pend.isSome
  let s := applyPend n s
  let answer (s : State) : State := if waiting && (s.stream n).pend.isNone then chanAnswer n s else s
  if !s.isHead n then answer s
  else
    let s := answer (applyRun n (applyProfile n s))
    let s := applyLock n (applyPreempt n s)
    let s := applyTrim (s.chState n != stLocked) n s
    let s := if stSingle ≤ s.chState n then s.setFld (F.CHZ_CH_STAT_BIN n) (unsignedOf 6 ((s.streamFit n).getD 0)) else s
    { s with chz.asks := n :: s.chz.asks }

/-- STREAM_BLOCK_BOUNDARY (R133, R140): due when CALCNT has reached a multiple k × P of the stream's block period that
was not yet carried out; a slew may pass it by. `a` and `b` are the 32 components of each branch's block that ends
there. -/
def runStreamBlockBoundary (slot : Fin 256) (a b : List Int) (clipA clipB : Bool) (s : State) : State :=
  let n := slot.val
  let per := blockPeriod (s.streamWidth n)
  let k := s.now / per
  if !s.isHead n ∨ k ≤ (s.stream n).block then s
  else
    let s := s.setStream n { s.stream n with block := k }
    capFlush (streamTurn n (blocksEnd n ((k - 1) * per) a b clipA clipB s))

/-! ### Commands (R151, R152) -/

def CHZ_NO_FIT : Nat := 0x8300
def CHZ_SLOT_CONFLICT : Nat := 0x8301
def CHZ_PAIR_FULL : Nat := 0x8302
def CHZ_SCHED_OWNED : Nat := 0x8303
def PHY_PROFILE_IN_USE : Nat := 0x8304
def PHY_PROFILE_BAD : Nat := 0x8305
def PHY_PROFILE_FIXED : Nat := 0x8306

/-- CFG as PHY_CHAN_SET gives it. -/
def chanCfg (p : Packet) : Word :=
  BitVec.ofNat 32 (2 ^ 31 + p.bits 4 1 0 * 2 ^ 29 + p.bits 2 2 0 * 2 ^ 26 + p.bits 3 1 0 * 2 ^ 24 +
    (if p.bit 3 2 then 0 else 2 ^ 23) + 2 ^ 22 + p.bits 5 5 0 * 2 ^ 16)

/-- The envelope does not leave channel placement to this issuer (R151). -/
def chanOwned (p : Packet) (s : State) : Bool :=
  let n := p.u8 0
  let pairs := (if p.u8 1 = 1 then [p.u8 4] else []) ++ (if s.isHead n then [s.streamPair n] else [])
  !fromCores p && pairs.any (fun q => !s.frozen (s.pairEnv 1 q))

/-- The slots that the command asks for are taken or misplaced (R135). -/
def slotConflict (n width : Nat) (s : State) : Bool :=
  let w := widthSlots width
  4 < n % 4 + w || (List.range w).any (fun i => match s.headOf (n + i) with
    | some h => h != n
    | none => s.slotEn (n + i))

/-- Enabled slots of a pair but for those of one stream. -/
def State.pairSlots (s : State) (q n : Nat) : Nat :=
  countIf (fun k => s.slotEn k && s.streamPair k == q && s.headOf k != some n) (List.range 256)

/-- A PHY_CHAN_SET waits for the block boundary. -/
def chanWait (p : Packet) (n : Nat) (s : State) : State :=
  let r := defer p s
  r.2.setStream n { r.2.stream n with cmd := some r.1 }

/-- Keep a PHY_CHAN_SET until the block boundary. -/
def chanPend (p : Packet) (n : Nat) (x : StreamPend) (s : State) : State :=
  chanWait p n (s.setStream n { s.stream n with pend := some x })

/-- PHY_CHAN_SET. -/
def opPhyChanSet (p : Packet) (s : State) : State :=
  let n := p.u8 0
  let width := p.u8 2
  let prof := p.u8 5
  if p.u8 1 = 0 then
    checked p
      [(15 < p.u8 3 || p.bits 3 1 0 == 3 || p.dirty 6 2 || p.dirty 12 4, St.BAD_PARAM),
       (chanOwned p s, CHZ_SCHED_OWNED),
       (s.slotEn n && !s.isHead n, CHZ_SLOT_CONFLICT),
       ((s.stream n).cmd.isSome, St.BUSY)] (fun s =>
      if s.isHead n then chanPend p n .disable s else done p (chanReply n s) s) s
  else
    checked p
      [(1 < p.u8 1 || 7 < width || 15 < p.u8 3 || p.bits 3 1 0 == 3 || 3 < p.u8 4 || 63 < prof ||
        p.dirty 6 2 || p.dirty 12 4 || !s.profLoaded prof ||
        (prof != 63 && width != 7 && profWidth (s.profile prof) != width), St.BAD_PARAM),
       (chanOwned p s, CHZ_SCHED_OWNED),
       (!s.isHead n && 2 ≤ s.fld F.THM_STAT_STEPS, St.THERMAL_LIMIT),
       ((s.slotEn n && !s.isHead n) || slotConflict n width s, CHZ_SLOT_CONFLICT),
       (64 < s.pairSlots (p.u8 4) n + widthSlots width, CHZ_PAIR_FULL),
       ((width == 7 && prof != 63) ||
        (s.pairArmed (p.u8 4) && (fitBin (s.centreHz (p.u8 4)) (p.u32 8) (widthHz width)).isNone), CHZ_NO_FIT),
       ((s.stream n).cmd.isSome, St.BUSY)] (fun s =>
      let cfg := chanCfg p
      let freq : Word := BitVec.ofNat 32 (p.u32 8)
      if s.isHead n then
        let s := (List.range (widthSlots width)).foldl (fun s i =>
          if s.slotEn (n + i) then s
          else s.setWord (R.CHZ_CH_CFG (n + i)) ((F.CHZ_CH_CFG_HEAD n).write 0 cfg)) s
        chanPend p n (.change cfg freq (p.bit 3 3)) s
      else chanWait p n (streamEnable n cfg freq s)) s

def runPhyChanSet (p : Packet) (s : State) : State := command 0x3001 (lenIs 16) radioModes opPhyChanSet p s

/-- PHY_CHAN_READ. -/
def opPhyChanRead (p : Packet) (s : State) : State :=
  checked p [(p.dirty 1 3, St.BAD_PARAM)] (fun s =>
    done p ((List.range 4).flatMap (fun k => leBytes 4 (s.word (R.CHZ_CH_CFG (p.u8 0) + 4 * k)).toNat)) s) s

def runPhyChanRead (p : Packet) (s : State) : State := command 0x3002 (lenIs 4) coreModes opPhyChanRead p s

/-- The parameters of a PHY_CAPTURE start are out of range. -/
def captureBad (p : Packet) : Bool :=
  let mode := p.u8 1
  2 < mode || 2 < p.u8 3 || p.u8 7 != 0 || p.dirty 32 16 ||
  (match mode with
   | 0 => 7 < p.u8 2 || p.u32 8 == 0 || 1048576 < p.u32 8
   | 1 => p.u8 6 == 0 || 16 < p.u8 6 || p.u32 8 == 0 || ringRecords < p.u32 8
   | _ => 7 < p.u8 2 || 10 < p.u8 5 || p.u8 3 != 0)

/-- PHY_CAPTURE (R149, R152). -/
def opPhyCapture (p : Packet) (s : State) : State :=
  if p.u8 0 = 0 then done p [] (capStop 1 s)
  else
    checked p [(1 < p.u8 0 || captureBad p, St.BAD_PARAM), (s.chz.cap.isSome, St.BUSY)] (fun s =>
      let (q, s) := defer p s
      let c : StoreCapture :=
        { trig := p.u8 3, trigSlot := p.u8 4, source := p.u8 2,
          slots := ((List.range (p.u8 6)).map (fun i => p.u8 (16 + i))), length := p.u32 8, timeout := p.u32 12,
          avg := p.u8 5, startAt := s.now, trigAt := 0, remaining := p.u32 8, stored := 0, waiting := [],
          cmd := some q }
      let s := s.setFld F.CHZ_CAP_STAT_STATE (if p.u8 3 = 0 then 2 else 1)
      let s := s.setFld F.CHZ_CAP_STAT_MODE (p.u8 1)
      let s := (s.setFlag F.CHZ_CAP_STAT_WRAPPED false).setFld F.CHZ_CAP_STAT_COUNT 0
      { s with chz.cap := some c, chz.fill := (0, 0) }) s

def runPhyCapture (p : Packet) (s : State) : State := command 0x3003 (lenIs 48) radioModes opPhyCapture p s

/-- PHY_CAPTURE_READ. -/
def opPhyCaptureRead (p : Packet) (s : State) : State :=
  checked p [(p.u16 4 == 0 || 480 < p.u16 4 || p.dirty 6 2 || 4194304 < p.u32 0 + p.u16 4, St.BAD_PARAM)] (fun s =>
    done p ((List.range (p.u16 4)).map (fun i => s.storeByte (p.u32 0 + i))) s) s

def runPhyCaptureRead (p : Packet) (s : State) : State := command 0x3004 (lenIs 8) coreModes opPhyCaptureRead p s

/-- The bytes of converter samples: I then Q, 14-bit values. -/
def sampleBytes (is qs : List Int) : List Byte :=
  (is.zip qs).flatMap (fun x => [x.1, x.2].flatMap (fun v => leBytes 2 ((BitVec.ofInt 14 v).signExtend 16).toNat))

/-- The samples that the store holds of a RAW capture, in the store's order, and the capture's end. -/
def rawFinish (result : Nat) (is qs : List Int) (s : State) : State :=
  match s.chz.cap with
  | none => s
  | some c =>
    let n := least2 (s.rawCount c) ringSamples
    rawEnd result { s with chz.store := s.chz.store.setRun 0 0 (sampleBytes (is.take n) (qs.take n)) }

/-- The 1,024 levels of a SPECTRUM capture, in 1/8 dB below a full-scale tone, and its end. -/
def spectrumFinish (levels : List Int) (s : State) : State :=
  match s.chz.cap with
  | none => s
  | some c =>
    let words := (List.range 1024).flatMap (fun k => leBytes 2 (least2 0xFFFF (levels.getD k 0xFFFF).toNat))
    capFinish 0 c.startAt 1024 false { s with chz.store := s.chz.store.setRun 0 0 words }

/-- CAPTURE_TIMEOUT (R149): due TIMEOUT ticks after the start without a trigger. `is` and `qs` are the components of
the samples that the store of a RAW capture holds. -/
def runCaptureTimeout (is qs : List Int) (s : State) : State :=
  match s.chz.cap with
  | none => s
  | some c =>
    if s.fld F.CHZ_CAP_STAT_STATE ≠ 1 ∨ c.timeout = 0 ∨ s.now < c.startAt + c.timeout then s
    else if s.fld F.CHZ_CAP_STAT_MODE = 1 then streamCapEnd 2 s
    else rawFinish 2 is qs s

/-- CAPTURE_END (R149): due when the last sample or set is stored. `is` and `qs` are the components of the samples that
the store of a RAW capture holds; `is` the levels of a SPECTRUM capture. A STREAM capture ends with its last record
(STREAM_BLOCK_BOUNDARY). -/
def runCaptureEnd (is qs : List Int) (s : State) : State :=
  match s.chz.cap with
  | none => s
  | some c =>
    let mode := s.fld F.CHZ_CAP_STAT_MODE
    if mode = 1 ∨ s.fld F.CHZ_CAP_STAT_STATE ≠ 2 ∨ s.now < c.endsAt mode then s
    else if mode = 2 then spectrumFinish is s
    else rawFinish 0 is qs s

/-! ### PHY profiles (R183) -/

/-- Load an entry into the table. -/
def loadProfile (i : Nat) (e : List Byte) (s : State) : State :=
  let s := { s with demod.profiles := s.demod.profiles.set [] i (if profType e = 0 then [] else e) }
  let s := s.setBit (if i < 32 then F.DMD_PROF_VALID_LO_LOADED else F.DMD_PROF_VALID_HI_LOADED) (i % 32)
    (profType e != 0)
  post 15 sevInfo 0x0501 (arg1 i) s

/-- PHY_PROFILE_LOAD. -/
def opPhyProfileLoad (p : Packet) (s : State) : State :=
  let i := p.u8 0
  let e := p.bytes 8 32
  let users := s.heads.filter (fun n => s.fld (F.CHZ_CH_CFG_PHY_PROFILE n) == i)
  checked p
    [(63 < i || 1 < p.u8 1 || p.dirty 2 2, St.BAD_PARAM),
     (i == 63, PHY_PROFILE_FIXED),
     ((crc32 e).toNat != p.u32 4 || profileBad e, PHY_PROFILE_BAD),
     (!users.isEmpty && (profType e == 0 || !p.bit 1 0 || profWidth e != profWidth (s.profile i)), PHY_PROFILE_IN_USE),
     (!users.isEmpty && s.demod.replace.isSome, St.BUSY)] (fun s =>
    if users.isEmpty then done p [] (loadProfile i e s)
    else
      let (q, s) := defer p s
      let s := users.foldl (fun s n => s.setStream n { s.stream n with tookNew := false }) s
      { s with demod.replace := some (i, e, q) }) s

def runPhyProfileLoad (p : Packet) (s : State) : State := command 0x3010 (lenIs 40) radioModes opPhyProfileLoad p s

/-- PHY_PROFILE_READ. -/
def opPhyProfileRead (p : Packet) (s : State) : State :=
  checked p [(63 < p.u8 0 || p.dirty 1 3, St.BAD_PARAM)] (fun s =>
    done p (if p.u8 0 = 63 then [0xFF, 7] ++ leBytes 30 0 else sliceBytes (s.profile (p.u8 0)) 0 32) s) s

def runPhyProfileRead (p : Packet) (s : State) : State := command 0x3011 (lenIs 4) coreModes opPhyProfileRead p s

end Sys2Proof.Machine
end

