-- ==== Sys2Proof/Machine/Rounds.lean ====
section
/-! DEFINITION. The arithmetic of rounds, epochs, hops and windows (R185 to R188, R194, R203, R205). -/

namespace Sys2Proof.Machine

/-! ### Rounds and epochs -/

/-- Ticks of a slot (R185), rounds of an epoch. -/
def Almanac.ticks (a : Almanac) : Nat := a.slotLen * 150000
def Almanac.rounds (a : Almanac) : Nat := a.roundsM1 + 1

/-- The values of the Almanac that runs are those it was started with: the registers that show them are the firmware's to
write, and a write changes nothing here (R187). -/
def State.slotTicks (s : State) : Nat := s.mac.running.ticks
def State.almStart (s : State) : Nat := s.mac.running.start
def State.rounds (s : State) : Nat := s.mac.running.rounds

/-- EV_OFS and ACK_TURN in ticks. -/
def State.evOfs (s : State) : Nat := 1200 * s.mac.running.evOfs
def State.ackTurn (s : State) : Nat := 1200 * s.mac.running.ackTurn

/-- An Almanac is running. -/
def State.almanacRuns (s : State) : Bool := s.flag F.MAC_ALM_STAT_RUNNING

/-- Global round of a tick, and start of a global round (R186). -/
def State.roundOf (s : State) (t : Nat) : Nat :=
  if s.slotTicks = 0 then 0 else (t - s.almStart) / s.slotTicks
def State.roundStart (s : State) (g : Nat) : Nat := s.almStart + g * s.slotTicks

/-- Epoch of a global round (R186), and the seed of an epoch (R188). -/
def State.epochOf (s : State) (g : Nat) : Nat := (s.mac.running.epoch0 + g / s.rounds) % 2 ^ 32
def State.seedOf (s : State) (e : Nat) : Nat := (s.mac.running.baseSeed + 167 * e) % 256

/-- Current epoch. -/
def State.epoch (s : State) : Nat := s.fld F.MAC_EPOCH_EPOCH

/-- Distance from one epoch number to another, modulo 2^32. -/
def epochDiff (a b : Nat) : Nat := (a % 2 ^ 32 + 2 ^ 32 - b % 2 ^ 32) % 2 ^ 32

/-- A tick is the start of a round, at least two rounds after now (MAC_TOO_LATE). -/
def State.roundAligned (s : State) (t : Nat) : Bool :=
  s.almStart ≤ t && s.slotTicks != 0 && (t - s.almStart) % s.slotTicks == 0
def State.tooLate (s : State) (t : Nat) : Bool := t < s.now + 2 * s.slotTicks

/-- Start tick of the first round of an epoch that lies ahead. -/
def State.epochStart (s : State) (e : Nat) : Nat :=
  let g := s.roundOf s.now
  let cur := s.epochOf g
  s.roundStart ((g / s.rounds + epochDiff e cur) * s.rounds)

/-! ### Channel maps and the hop function (R194, R195) -/

/-- Content of a channel map for rounds of an epoch. -/
def State.mapAt (s : State) (i e : Nat) : BitVec 256 :=
  let due := s.mac.mapPend.filter (fun c => c.idx == i && epochDiff e c.epoch < 2 ^ 31)
  match due.getLast? with
  | some c => c.map
  | none => s.ledger.chmap.get 0 i

/-- Channels whose bit is set, upward. -/
def mapChannels (m : BitVec 256) : List Nat := (List.range 256).filter (fun c => m.getLsbD c)

/-- A map without the bits of slots that are not the first of their stream (R135). -/
def State.headMap (s : State) (m : BitVec 256) : BitVec 256 :=
  let other := (List.range 256).filter (fun k => s.slotEn k && !s.isHead k)
  other.foldl (fun m k => m &&& ~~~(1#256 <<< k)) m

/-- The channel of event `e` of node `n` under a map and a seed (R194). -/
def hop (m : BitVec 256) (e n seed : Nat) : Nat :=
  let raw := (e * 40503 + n * 45 + seed) % 256
  if m.getLsbD raw then raw
  else
    let used := mapChannels m
    if used.isEmpty then raw else nth used (raw % used.length)

/-- Channel of event `e` of a node whose round begins at `anchor`, under map `i`. -/
def State.hopAt (s : State) (id i e anchor : Nat) : Nat :=
  let ep := s.epochOf (s.roundOf anchor)
  hop (s.headMap (s.mapAt i ep)) e id (s.seedOf ep)

/-- The map of an event names a channel: it holds a bit of a slot that can be one (R20). -/
def State.mapServes (s : State) (i anchor : Nat) : Bool :=
  s.headMap (s.mapAt i (s.epochOf (s.roundOf anchor))) != 0

/-- The channel of a node's next event. -/
def State.hopOf (s : State) (id : Nat) : Nat :=
  s.hopAt id (s.nf id N.CHMAP_IDX) (s.nf id N.EVENT_CTR) (s.nf id N.ANCHOR)

/-- A channel is served: the first slot of an enabled stream in SINGLE, DUAL or LOCKED (R194). -/
def State.served (s : State) (ch : Nat) : Bool :=
  s.isHead ch && (s.chState ch == stSingle || s.chState ch == stDual || s.chState ch == stLocked)

/-- The channel of the old map that a search event also listens on, in the first epoch after a change (R195). -/
def State.oldHop (s : State) (id e anchor : Nat) : Option Nat :=
  let ep := s.epochOf (s.roundOf anchor)
  match s.mac.mapOld.find? (fun c => c.idx == s.nf id N.CHMAP_IDX && c.epoch == ep) with
  | some c =>
    let x := hop (s.headMap c.map) e id (s.seedOf ep)
    if s.served x then some x else none
  | none => none

/-! ### The drift model (R203 to R205) -/

/-- Limit an integer. -/
def satInt (lo hi v : Int) : Int := if v < lo then lo else if hi < v then hi else v

/-- The correction sent for an offset, in µs (R205). -/
def State.corr (s : State) (x : Int) : Int :=
  if x.natAbs < 120 * s.fld F.MAC_DRIFT_CFG_CORR_MIN then 0 else satInt (-2047) 2047 (rnd x 120)

/-- Nominal instant of a node's next event (R197). -/
def State.nominal (s : State) (id : Nat) : Nat := s.nf id N.ANCHOR + s.evOfs

/-- Ticks from one event of a node to its next. -/
def State.interval (s : State) (id : Nat) : Nat := s.nf id N.WAKE_INTERVAL * s.slotTicks

/-- A node's window: bounds, guard, rate uncertainty and event type (0 normal, 1 doubled guard, 2 search). -/
structure Window where
  lo : Nat
  hi : Nat
  g : Nat
  u : Nat
  kind : Nat
  deriving DecidableEq, Repr

/-- The window of a node's event at an anchor under a wake interval (R203); a search event takes the whole round
(R207), and DRIFTING has no other (R192). -/
def State.windowAt (s : State) (id anchor wake : Nat) : Window :=
  let miss := s.nf id N.MISS
  let i := wake * s.slotTicks
  let k := miss + 1
  let ofs := s.nfS id N.DRIFT_OFS
  let d := rnd (s.nfS id N.DRIFT_RATE * i) 1000000000
  let pl := ofs + (k - 1) * d
  let pa := pl - 120 * s.corr ofs
  let u := most2 (s.fld F.MAC_DRIFT_U_U_MAX / 2 ^ s.nf id N.TRUST) (s.fld F.MAC_DRIFT_U_U_MIN)
  let g := least2 (s.fld F.MAC_DRIFT_CFG_G_MIN + 4 * s.nf id N.DRIFT_VAR + k * i * u / 1000000000) 1200000
  let g := if miss = 1 then least2 (2 * g) 1200000 else g
  let n : Int := anchor + s.evOfs
  let last : Int := anchor + s.slotTicks - 1
  if 2 ≤ miss ∨ s.nodeState id = nsDrifting then ⟨anchor, last.toNat, g, u, 2⟩
  else
    { lo := (maxInt (n + minInt pa pl - g) anchor).toNat, hi := (minInt (n + maxInt pa pl + g) last).toNat,
      g := g, u := u, kind := if miss = 1 then 1 else 0 }

/-- The window of a node's next event. -/
def State.window (s : State) (id : Nat) : Window := s.windowAt id (s.nf id N.ANCHOR) (s.nf id N.WAKE_INTERVAL)

/-! ### Lanes -/

/-- Lane states (R201). -/
def laneOff : Nat := 0
def laneWait : Nat := 1
def laneWindow : Nat := 2
def laneExchange : Nat := 3
def laneFaulted : Nat := 4
def State.laneState (s : State) (n : Nat) : Nat := s.fld (F.LNS_LANE_STAT_STATE n)
def State.laneRuns (s : State) (n : Nat) : Bool := 1 ≤ s.laneState n && s.laneState n ≤ 3

end Sys2Proof.Machine
end

