-- ==== Sys2Proof/Machine/Radio.lean ====
section
/-! DEFINITION. The radio front end: receive pairs, synthesisers, transmit chains, blanking, calibration and the
commands of the regulatory profile (R96 to R128, R214, R515, R568). -/

namespace Sys2Proof.Machine

/-! ### Status codes (R125) -/

def RF_OUT_OF_BAND : Nat := 0x8200
def RF_LBT_BUSY : Nat := 0x8201
def RF_ABORTED : Nat := 0x8202
def RF_SCHED_OWNED : Nat := 0x8203
def RF_REGLOCKED : Nat := 0x8204
def RF_CAL_NO_GAP : Nat := 0x8205
def RF_PROFILE_BAD : Nat := 0x8206

/-! ### States and pins -/

def State.chain (s : State) (n : Nat) : Chain := s.radio.chains.get Chain.reset n
def State.setChain (n : Nat) (c : Chain) (s : State) : State :=
  { s with radio.chains := s.radio.chains.set Chain.reset n c }

/-- The places of RFE_STAT. -/
def txStateField (n : Nat) : Field := ⟨0x030000, 16 + 3 * n, 3⟩
def txLockField (n : Nat) : Field := ⟨0x030000, 12 + n, 1⟩
def rxLockField (n : Nat) : Field := ⟨0x030000, 8 + n, 1⟩
def rxStateField (n : Nat) : Field := ⟨0x030000, 2 * n, 2⟩

/-- Chain states. -/
def txOff : Nat := 0
def txIdle : Nat := 1
def txReady : Nat := 2
def txRampUp : Nat := 3
def txTx : Nat := 4
def txRampDown : Nat := 5
def txCal : Nat := 6
def State.txState (s : State) (n : Nat) : Nat := s.fld (txStateField n)
def State.txLock (s : State) (n : Nat) : Bool := s.flag (txLockField n)
def setTxState (n v : Nat) (s : State) : State := s.setFld (txStateField n) v
def setTxLock (n : Nat) (b : Bool) (s : State) : State := s.setFlag (txLockField n) b

/-! ### Blank intervals (R98, R102, R114, R117) -/

/-- Ticks for which a blank interval is kept after its end: longer than any listen window or block. -/
def blankKept : Nat := 4000000

/-- A blank interval that ended at `t` still concerns a block, a listen window or a frame under reception. -/
def State.blankMatters (s : State) (t : Nat) : Bool :=
  decide (s.now < t + blankKept) || s.demod.frames.any (fun (e : Nat × Option RxFrame) =>
    match e.2 with
    | some x => decide (x.detectAt < t)
    | none => false)

/-- Branch `b` is blank-marked over [lo, hi). -/
def blankAdd (b source lo hi : Nat) (s : State) : State :=
  if hi ≤ lo then s
  else { s with radio.blanks := s.radio.blanks.filter (fun x => s.blankMatters x.hi) ++ [⟨b, source, lo, hi⟩] }

/-- The blank intervals of a source end at a tick at the latest. -/
def blankCut (source t : Nat) (s : State) : State :=
  { s with radio.blanks := s.radio.blanks.map (fun (x : Blank) =>
      if x.source = source ∧ t < x.hi then { x with hi := t } else x) }

/-- Both branches of a pair are blank-marked while it is not armed and locked. -/
def darken (p : Nat) (s : State) : State :=
  let x := s.pairOf p
  let dark := s.fld (F.RFE_PAIR_STAT_STATE p) != 1 || !s.flag (F.RFE_PAIR_STAT_LOCK p)
  match x.dark with
  | none => if dark then s.setPairU p { x with dark := some s.now } else s
  | some t =>
    if dark then s
    else blankAdd (2 * p + 1) 8 t s.now (blankAdd (2 * p) 8 t s.now (s.setPairU p { x with dark := none }))

def setPairState (p v : Nat) (s : State) : State :=
  darken p ((s.setFld (F.RFE_PAIR_STAT_STATE p) v).setFld (rxStateField p) v)
def setPairLock (p : Nat) (b : Bool) (s : State) : State :=
  darken p ((s.setFlag (F.RFE_PAIR_STAT_LOCK p) b).setFlag (rxLockField p) b)

/-- From the start tick to the first modulated symbol, and to the output ramp (R109). -/
def State.rampLead (s : State) (n : Nat) : Nat := s.fld (F.RFE_TX_SEQ_TRSW_LEAD n) + s.fld (F.RFE_TX_SEQ_PA_LEAD n)
def State.txLead (s : State) (n : Nat) : Nat := s.rampLead n + 960

/-- From the last symbol to the end of PA_LAG. -/
def State.txTail (s : State) (n : Nat) : Nat := 960 + s.fld (F.RFE_TX_SEQ_PA_LAG n)

/-- A chain's request of PA_EN in the sequence of R109. -/
def State.paRequest (s : State) (n : Nat) : Bool :=
  match (s.chain n).run with
  | none => false
  | some r =>
    !r.aborted && r.start + s.fld (F.RFE_TX_SEQ_TRSW_LEAD n) ≤ s.now &&
      (match r.stop with
       | none => true
       | some e => s.now < e + 960)

/-- Pins of a chain in TEST under override, and otherwise by the sequence (RFE_TXn_PINCTL). -/
def State.pinOverride (s : State) (n : Nat) : Bool := s.inMode [.test] && s.flag (F.RFE_TX_PINCTL_OVR_EN n)

/-- PA_ENn (R113): the request and the held-token indication; an aborted frame's falls at once (R112). -/
def State.paEn (s : State) (n : Nat) : Bool :=
  s.held && (if s.pinOverride n then s.flag (F.RFE_TX_PINCTL_PA_EN n) else s.paRequest n)
def State.trsw (s : State) (n : Nat) : Bool :=
  if s.pinOverride n then s.flag (F.RFE_TX_PINCTL_TRSW n) else (s.chain n).run.isSome
def State.lnaByp (s : State) (n : Nat) : Bool :=
  if s.pinOverride n then s.flag (F.RFE_TX_PINCTL_LNA_BYP n) else (s.chain n).run.isSome
def State.paMode (s : State) (n : Nat) : Nat :=
  if s.pinOverride n then s.fld (F.RFE_TX_PINCTL_PA_MODE n)
  else match (s.chain n).run with
    | none => 0
    | some r => r.paMode

/-! ### Synthesiser bands (R96, R99) -/

/-- A pair's centre may be set to this many kHz (R96). -/
def centreOk (khz : Nat) : Bool := (160000 ≤ khz && khz ≤ 1000000) || (2380000 ≤ khz && khz ≤ 2500000)

/-- A carrier in Hz lies within a synthesiser band (R99). -/
def inSynthBand (hz : Int) : Bool :=
  (160000000 ≤ hz && hz ≤ 480000000) || (480001000 ≤ hz && hz ≤ 1000000000) ||
    (2380000000 ≤ hz && hz ≤ 2500000000)

/-- The carrier of a descriptor: its channel's frequency and the offset for the node (R172, R568). -/
def State.carrier (s : State) (d : TxDesc) : Int :=
  (s.streamHz d.slot.val : Int) + (if d.node = broadcastId then 0 else 10 * s.nfS d.node N.CFO)

/-- Frequency in kHz that a descriptor's tune takes: its carrier, cut to whole kHz (DESIGN CHOICE). -/
def State.tuneKhz (s : State) (d : TxDesc) : Nat := (s.carrier d / 1000).toNat

/-- A descriptor needs no tune at a synthesiser frequency (R101). -/
def State.inReach (s : State) (d : TxDesc) (khz : Nat) : Bool :=
  distInt (s.carrier d) (1000 * (khz : Int)) ≤ 200000

/-- The level that a GPIO is driven to by its function: as an output, or as the antenna switch of a pair, which is held
low while that chain's TRSW is high (R462). -/
def State.gpioDrive (s : State) (pin : Nat) : Option Bool :=
  let out := s.bit F.MGT_GPIO_OUT_OUT pin
  match s.fld (gpioFunc pin) with
  | 1 => some out
  | 3 => some (out && !s.trsw (pin % 4))
  | _ => none

/-- The level of a GPIO: as it is driven, or as the board has it. -/
def State.gpioLevel (s : State) (pin : Nat) : Bool := (s.gpioDrive pin).getD (s.host.gpioIn.getLsbD pin)

/-! ### Descriptors that are returned (R220, R367, R516) -/

/-- Order of descriptors of one chain: DEADLINE, then kind (R213). -/
def kindRank : TxKind → Nat
  | .herald => 0
  | .ack => 1
  | .downlink => 2
  | .rollout => 3
def descKey (d : TxDesc) : Nat := 8 * d.deadline + kindRank d.kind

/-- Counters by status. -/
def countReturn (n status : Nat) (s : State) : State :=
  if status = St.TX_LATE then s.count (F.RFE_TX_CNT_LATE n) 1
  else if status = St.TX_NO_TOKEN then s.count (F.RFE_TX_CNT_NO_TOKEN n) 1
  else if status = St.TX_CAL_CONFLICT then s.count (F.RFE_TX_CNT_CAL_CONFLICT n) 1
  else if status = St.TX_DWELL then s.count F.MAC_REG_CNT_DWELL 1
  else if status = St.TX_DUTY then s.count F.MAC_REG_CNT_DUTY 1
  else if status = RF_LBT_BUSY then s.count F.MAC_REG_CNT2_LBT_BUSY 1
  else if status = St.THERMAL_LIMIT then s.count F.THM_CNT_TX_REFUSED 1
  else s

/-- A node's exchange ends without its acknowledgement or its downlink (R212): no further downlink follows in this
event. -/
def exchangeEnds (id : Nat) (s : State) : State :=
  let g := fun (e : RxEvent) => if e.node = id then { e with waiting := false, pendingBit := false } else e
  { s with mac.lanes := s.mac.lanes.map (fun (l : Nat × Lane) =>
      (l.1, { l.2 with due := l.2.due.map g, active := l.2.active.map g })) }

/-- What becomes of a descriptor that is returned (R191, R220, R367): a downlink stays in its node's queue. -/
def returnDesc (n status : Nat) (d : TxDesc) (s : State) : State :=
  let s := countReturn n status s
  let s := if status = St.TX_DWELL then { s with sched.laneDwell := d.lane.val :: s.sched.laneDwell } else s
  match d.kind with
  | .herald => s.count F.MAC_TX_CNT_HERALD_FAIL 1
  | .rollout =>
    if status = St.TX_CTR_EXHAUSTED then s.count (F.ROL_CAMP_SKIP_SKIPPED_CTR d.ref) 1
    else s.count (F.ROL_CAMP_SKIP_SKIPPED_TX d.ref) 1
  | .ack | .downlink => exchangeEnds d.node s

def returnAll (n status : Nat) (ds : List TxDesc) (s : State) : State :=
  ds.foldl (fun s d => returnDesc n status d s) s

/-! ### Tuning (R101, R103, R107) -/

/-- Start a tune of a chain. -/
def tune (n khz : Nat) (s : State) : State :=
  let s := s.setChain n { s.chain n with tuning := true }
  let s := s.setFld (F.RFE_TX_FREQ_KHZ n) khz
  setTxState n txReady (setTxLock n false s)

/-- A chain that is free tunes for the first descriptor it holds, where that needs a tune. -/
def tuneForQueue (n : Nat) (s : State) : State :=
  if s.txState n ≠ txIdle ∧ s.txState n ≠ txReady then s
  else match (s.chain n).queue with
    | [] => s
    | d :: _ =>
      if (s.txLock n || (s.chain n).tuning) && s.inReach d (s.fld (F.RFE_TX_FREQ_KHZ n)) then s
      else tune n (s.tuneKhz d) s

/-! ### Charges -/

/-- The chain's duty ledger: 100 ms buckets (R515). -/
def dutyCharge (add : Bool) (n a b : Nat) (s : State) : State :=
  let m : Sparse Nat := (shares 12000000 a b).foldl (fun m e => bump add m e.1 e.2) (s.mac.duty.getD n [])
  { s with mac.duty := s.mac.duty.set n (m.filter (fun e => a / 12000000 ≤ e.1 + 20)) }

/-- Some run of ten buckets that includes a bucket of [a, b) holds more than 500,000 µs once charged. -/
def State.dutyFull (s : State) (n a b : Nat) : Bool :=
  let sh := shares 12000000 a b
  let m : Sparse Nat := sh.foldl (fun m e => bump true m e.1 e.2) (s.mac.duty.getD n [])
  match sh with
  | [] => false
  | (first, _) :: _ =>
    (List.range (9 + sh.length)).any (fun i => 500000 < runSum m (first + i - 9) (first + i))

/-- Remove the charge of a frame's part after `t` (R112, R214). -/
def unchargeAfter (n t : Nat) (r : TxRun) (s : State) : State :=
  let a := r.start + s.rampLead n
  let b := r.start + s.txLead n + r.desc.airTicks + 960
  let ch := r.desc.slot.val
  let s := chargeAir false r.dwell ch r.charged a b s
  let s := chargeAir true r.dwell ch r.charged a (least2 (most2 a t) b) s
  let us := usUp (least2 (most2 a t) b - a)
  let s := { s with sched.txLog := s.sched.txLog.map (fun (x : TxLog) =>
    if x.chain = n ∧ x.at' = r.start then { x with us := us } else x) }
  dutyCharge true n a (least2 (most2 a t) b) (dutyCharge false n a b s)

/-! ### Aborts and shutdown (R103, R112) -/

/-- Abort the frame of a chain in RAMP_UP or TX: the driver passes through RAMP_DOWN. -/
def abortTx (n status : Nat) (s : State) : State :=
  if s.txState n ≠ txRampUp ∧ s.txState n ≠ txTx then s
  else match (s.chain n).run with
    | none => s
    | some r =>
      let s := unchargeAfter n s.now r s
      let s := s.setChain n { s.chain n with run := some { r with stop := some s.now, aborted := true } }
      let s := blankCut n (s.now + s.txTail n + 240) (setTxState n txRampDown s)
      post (6 + n) sevDegraded 0x0202 [] (returnDesc n status r.desc s)

/-- Abort on every chain: a token loss or a calendar fault. -/
def abortAll (status : Nat) (s : State) : State := (List.range 4).foldl (fun s n => abortTx n status s) s

/-- A calibration's end: reply, record and RFE_CAL_STAT. -/
def calAnswer (src : Nat) (fail : Field) (result : Nat) (c : Cal) (s : State) : State :=
  let s := s.setFlag fail (result != 0)
  let s := post src sevInfo 0x0203 [] s
  finishOpt c.cmd St.OK (leBytes 8 c.start ++ leBytes 8 s.now ++ leBytes 1 result ++
    leBytes 1 (least2 c.conflicts 255) ++ leBytes 2 0) s

def chainFail (n : Nat) : Field := ⟨0x030300, 12 + n, 1⟩
def pairFail (n : Nat) : Field := ⟨0x030300, 8 + n, 1⟩
def chainPend (n : Nat) : Field := ⟨0x030300, 4 + n, 1⟩
def pairPend (n : Nat) : Field := ⟨0x030300, n, 1⟩

/-- A chain goes OFF now. -/
def chainPowerDown (n : Nat) (s : State) : State :=
  let s := match (s.chain n).cal with
    | some c =>
      if c.running then
        calAnswer (6 + n) (chainFail n) 3 c (blankCut (4 + n) s.now (s.setChain n { s.chain n with cal := none }))
      else s
    | none => s
  let s := s.setChain n { s.chain n with run := none, tuning := false, offAfter := false, enabledAt := none }
  setTxState n txOff (setTxLock n false s)

/-- A chain is forced OFF (R103): from RAMP_UP or TX through RAMP_DOWN; its queue is returned. -/
def chainOff (n : Nat) (s : State) : State :=
  let st := s.txState n
  let q := (s.chain n).queue
  let s := returnAll n RF_ABORTED q (s.setChain n { s.chain n with queue := [] })
  if st = txRampUp ∨ st = txTx ∨ st = txRampDown then
    let s := abortTx n RF_ABORTED s
    s.setChain n { s.chain n with offAfter := true }
  else chainPowerDown n s

/-- THERMTRIP stops the output at once (R103). -/
def chainKill (n : Nat) (s : State) : State :=
  let s := abortTx n RF_ABORTED s
  let q := (s.chain n).queue
  blankCut n s.now (chainPowerDown n (returnAll n RF_ABORTED q (s.setChain n { s.chain n with queue := [] })))

/-- A pair goes OFF (R98): a running calibration is abandoned, and a capture on it ends. -/
def pairOff (p : Nat) (s : State) : State :=
  let x := s.pairOf p
  let s := match x.cal with
    | some c =>
      if c.running then calAnswer (10 + p) (pairFail p) 3 c (s.setPairU p { s.pairOf p with cal := none }) else s
    | none => s
  let cmds := (s.pairOf p).spanCmds
  let s := s.setPairU p { s.pairOf p with spanCmds := [] }
  let s := setPairLock p false (setPairState p 0 s)
  let s := cmds.foldl (fun s q => finish q St.INTERNAL [] s) s
  capPairOff p s

/-! ### Pair and chain commands -/

/-- RADIO_SPAN_SET (R98, R126). -/
def opRadioSpanSet (p : Packet) (s : State) : State :=
  let u := p.u8 0
  let arm := p.u8 1 == 1
  checked p
    [(3 < u || 1 < p.u8 1 || p.dirty 2 2 || (arm && !centreOk (p.u32 4)), St.BAD_PARAM),
     (!fromCores p && !s.frozen (s.pairEnv 0 u), RF_SCHED_OWNED),
     (arm && s.pairState u == 2, St.BUSY)]
    (fun s =>
      if !arm then done p [] (pairOff u s)
      else
        let was := s.pairState u
        let same := was == 1 && s.fld (F.RFE_PAIR_STAT_CENTRE_KHZ u) == p.u32 4
        if same && s.flag (F.RFE_PAIR_STAT_LOCK u) then done p [] s
        else
          let s := if was == 1 && !same then s.count (F.RFE_PAIR_CNT_RETUNES u) 1 else s
          let s := { s.setFld (F.RFE_PAIR_STAT_CENTRE_KHZ u) (p.u32 4) with sched.planDue := s.sched.planDue || !same }
          let s := setPairLock u false (setPairState u 1 s)
          let r := defer p s
          let s := r.2.setPairU u { r.2.pairOf u with spanCmds := (r.2.pairOf u).spanCmds ++ [r.1] }
          if same then s else spanChanged (was == 0) u s) s

def runRadioSpanSet (p : Packet) (s : State) : State := command 0x2001 (lenIs 8) radioModes opRadioSpanSet p s

/-- EN, RETURN and TOL of a chain take new values. EN = 1 starts the bias of a chain that is OFF, or was when its
calibration began; one that is on its way to OFF stays on. -/
def chainCtl (n : Nat) (en : Bool) (ret tol : Nat) (s : State) : State :=
  let s := s.setFlag (F.RFE_TX_CTL_EN n) en
  let s := s.setFld (F.RFE_TX_CTL_RETURN n) ret
  let s := s.setFld (F.RFE_TX_CTL_TOL n) tol
  let off := s.txState n == txOff || (match (s.chain n).cal with
    | some c => c.running && !c.fromArmed
    | none => false)
  if !en then chainOff n s
  else
    let since := if off && (s.chain n).enabledAt.isNone then some s.now else (s.chain n).enabledAt
    s.setChain n { s.chain n with enabledAt := since, offAfter := false }

/-- RADIO_TX_CONFIG (R103). -/
def opRadioTxConfig (p : Packet) (s : State) : State :=
  checked p [(3 < p.u8 0 || 3 < p.u8 1, St.BAD_PARAM)]
    (fun s => done p [] (chainCtl (p.u8 0) (p.bit 1 0) (p.bits 1 1 1) (if p.u16 2 = 0 then 12000 else p.u16 2) s)) s

def runRadioTxConfig (p : Packet) (s : State) : State := command 0x2002 (lenIs 4) radioModes opRadioTxConfig p s

/-- CHAIN_BIAS_SETTLED (R103): due 2,400 ticks after the enable. -/
def runChainBiasSettled (n : Fin 4) (s : State) : State :=
  match (s.chain n.val).enabledAt with
  | none => s
  | some t =>
    if s.txState n.val = txOff ∧ t + 2400 ≤ s.now then
      tuneForQueue n.val (setTxState n.val txIdle (s.setChain n.val { s.chain n.val with enabledAt := none }))
    else s

/-! ### Synthesisers -/

/-- SYNTH_LOCK (R100): due while the unit is tuning. -/
def runSynthLock (u : RfUnit) (s : State) : State :=
  match u with
  | .chain n =>
    let c := s.chain n.val
    if !c.tuning then s
    else
      let s := s.setChain n.val { c with tuning := false, lastKhz := s.fld (F.RFE_TX_FREQ_KHZ n.val) }
      setTxLock n.val true s
  | .pair p =>
    if s.pairState p.val ≠ 1 ∨ s.flag (F.RFE_PAIR_STAT_LOCK p.val) = true then s
    else
      let cmds := (s.pairOf p.val).spanCmds
      let s := s.setPairU p.val { s.pairOf p.val with spanCmds := [] }
      cmds.foldl (fun s q => finish q St.OK [] s) (setPairLock p.val true s)

/-- SYN_UNLOCK (R102): a synthesiser that was locked loses lock. -/
def runSynUnlock (u : RfUnit) (s : State) : State :=
  match u with
  | .chain n =>
    if !s.txLock n.val then s
    else
      let s := setTxLock n.val false (s.setChain n.val { s.chain n.val with tuning := true })
      post (6 + n.val) sevDegraded 0x0201 [] (abortTx n.val RF_ABORTED s)
  | .pair p =>
    if !s.flag (F.RFE_PAIR_STAT_LOCK p.val) then s
    else post (10 + p.val) sevDegraded 0x0201 [] (setPairLock p.val false s)

/-! ### The transmit sequence -/

/-- TX_DESCRIPTOR_ISSUE (R213): an acknowledgement must reach its chain 240 ticks before DEADLINE (R211); a carrier
outside every synthesiser band is returned (R568); a chain that is off holds it like one that is not locked (R106). -/
def runTxDescriptorIssue (n : Fin 4) (d : TxDesc) (s : State) : State :=
  if d.kind = .ack ∧ d.deadline < s.now + 240 then exchangeEnds d.node (s.count F.MAC_TX_CNT_ACK_LATE 1)
  else if !inSynthBand (s.carrier d) then returnDesc n.val RF_OUT_OF_BAND d s
  else
    let c := s.chain n.val
    tuneForQueue n.val (s.setChain n.val { c with queue := insertBy descKey d c.queue })

/-- The chain is locked and free, and its first descriptor's start tick has come (R106, R213). -/
def State.startDue (s : State) (n : Nat) (d : TxDesc) : Bool :=
  !(d.kind == .rollout && s.reachesEvent d.slot.val (s.now + s.txLead n + d.airTicks)) &&
  !s.txStopped && s.txState n == txReady && s.txLock n && !(s.chain n).tuning && s.inReach d (s.fld (F.RFE_TX_FREQ_KHZ n)) &&
    d.deadline ≤ s.now && s.now ≤ d.deadline + s.fld (F.RFE_TX_CTL_TOL n)

/-- Drive code in use (R110). -/
def driveOf (d : TxDesc) (eff : Effective) : Nat := least2 (least2 d.drive 64) eff.maxDrive

/-- PA_MODE for a drive code (R110). -/
def State.paModeOf (s : State) (n drive : Nat) : Nat :=
  countIf (fun t => t ≤ drive) [s.fld (F.RFE_TX_PA_CFG_THR1 n), s.fld (F.RFE_TX_PA_CFG_THR2 n),
    s.fld (F.RFE_TX_PA_CFG_THR3 n)]

/-- The coupled power of chain `n` at pair `p` exceeds the blanking threshold (R114), in half dB. -/
def State.couples (s : State) (n p drive mode : Nat) : Bool :=
  let gain := signedOf 8 ((s.word (R.RFE_TX_PA_GAIN n)).toNat / 2 ^ (8 * mode))
  let iso : Int := ((s.word (R.RFE_ISOLATION n)).toNat / 2 ^ (8 * p) % 256 : Nat)
  2 * s.sfld F.RFE_BLANK_THR_THR < -48 + (drive : Int) + 2 * gain - 2 * iso

/-- The blanking of a frame up to a tick (R114, R115). -/
def blankFor (n drive mode t : Nat) (s : State) : State :=
  (List.range 4).foldl (fun s p =>
    let c := s.couples n p drive mode
    if p = n ∨ c = true then
      let s := s.count (F.RFE_PAIR_CNT_BLANKS p) 1
      let s := blankAdd (2 * p) n s.now t s
      if c then blankAdd (2 * p + 1) n s.now t s else s
    else s) s

/-- The governor refuses a descriptor that passed R111 (R515, R516). -/
def State.governorRefuses (s : State) (n : Nat) (d : TxDesc) (a b : Nat) : Bool :=
  d.kind != .herald && (s.flag F.THM_STAT_CRIT || (3 ≤ s.fld F.THM_STAT_STEPS && s.dutyFull n a b))

/-- A branch of an armed pair whose span covers an occupied band was unblanked through the `t` ticks before now. -/
def State.listened (s : State) (lo hi : Int) (t : Nat) : Bool :=
  (List.range 4).any (fun p =>
    s.centreHz p - 24000000 ≤ lo && hi ≤ s.centreHz p + 24000000 &&
      (!s.blankIn (2 * p) (s.now - t) s.now || !s.blankIn (2 * p + 1) (s.now - t) s.now))

/-- The channel is busy at a listen-before-talk threshold and window (R111): `energy` is the greatest measured in it on
the unblanked branches that cover the band. -/
def State.lbtBusy (s : State) (lo hi : Int) (limit : Option (Nat × Nat)) (energy : Option Byte) : Bool :=
  match limit, energy with
  | none, _ => false
  | some _, none => true
  | some (thresh, listen), some e => !s.listened lo hi (1200 * listen) || decide (thresh < e.toNat)

/-- The checks of R111 and the governor's: a status that returns the descriptor, or the state with the ledgers
charged and what applies to the band. -/
def startChecks (n : Nat) (d : TxDesc) (lbt : Option Byte) (s : State) : (Nat ⊕ Effective) × State :=
  let f := s.carrier d
  let h : Int := widthHz (s.streamWidth d.slot.val) / 2
  let a := s.now + s.rampLead n
  let b := s.now + s.txLead n + d.airTicks + 960
  if s.flag F.TMB_STAT_CAL_FAULT then (.inl St.FAULT_PENDING, s)
  else match s.effective (f - h) (f + h) with
    | none => (.inl RF_OUT_OF_BAND, s)
    | some eff =>
      if !s.held || d.unbuilt then (.inl St.TX_NO_TOKEN, s)
      else
        let ch := d.slot.val
        let r := airtimeCheck ch eff a b s
        match r.1 with
        | some st => (.inl st, r.2)
        | none =>
          let busy := s.lbtBusy (f - h) (f + h) eff.lbt lbt
          let undo := chargeAir false eff.dwell.isSome ch eff.charged a b r.2
          if busy then (.inl RF_LBT_BUSY, undo)
          else if s.governorRefuses n d a b then (.inl St.THERMAL_LIMIT, undo)
          else (.inr eff, dutyCharge true n a b r.2)

/-- TX_START_TICK (R109 to R111): due when the chain is locked and free from DEADLINE to DEADLINE + TOL. A frame whose
carrier has moved out of reach tunes the chain (R101). -/
def runTxStartTick (n : Fin 4) (lbt : Option Byte) (s : State) : State :=
  let n := n.val
  match (s.chain n).queue with
  | [] => s
  | d :: rest =>
    if !s.startDue n d then tuneForQueue n s
    else
      let s := s.setChain n { s.chain n with queue := rest }
      match startChecks n d lbt s with
      | (.inl st, s) => tuneForQueue n (returnDesc n st d s)
      | (.inr eff, s) =>
        let drive := driveOf d eff
        let mode := s.paModeOf n drive
        let s := if drive < least2 d.drive 64 then s.count (F.RFE_TX_CNT_CLAMP n) 1 else s
        let e := s.now + s.txLead n + d.airTicks
        let s := blankFor n drive mode (e + s.txTail n + 240) s
        let s := s.setChain n { s.chain n with
          run := some ⟨d, s.now, none, false, drive, mode, s.ppduOf d, eff.dwell.isSome, eff.charged⟩ }
        let us := usUp (d.airTicks + 1920)
        let s := { s with sched.txLog := s.sched.txLog ++ [⟨s.now, n, d.lane.val, drive, us⟩] }
        setTxState n txRampUp s

/-- TX_LATE (R106): due at DEADLINE + TOL + 1 while the descriptor is held and no calibration runs. -/
def runTxLate (n : Fin 4) (s : State) : State :=
  let n := n.val
  match (s.chain n).queue with
  | [] => s
  | d :: rest =>
    if s.txState n ≠ txCal ∧ d.deadline + s.fld (F.RFE_TX_CTL_TOL n) < s.now then
      tuneForQueue n (returnDesc n St.TX_LATE d (s.setChain n { s.chain n with queue := rest }))
    else s

/-- TX_FIRST_SYMBOL (R103): due TRSW_LEAD + PA_LEAD + 960 ticks after the start tick. -/
def runTxFirstSymbol (n : Fin 4) (s : State) : State :=
  match (s.chain n.val).run with
  | none => s
  | some r =>
    if s.txState n.val = txRampUp ∧ r.start + s.txLead n.val ≤ s.now then
      capEvent (0x08 + n.val) none (setTxState n.val txTx s)
    else s

/-- TX_FRAME_END (R103): due when the last symbol ends. -/
def runTxFrameEnd (n : Fin 4) (s : State) : State :=
  match (s.chain n.val).run with
  | none => s
  | some r =>
    if s.txState n.val = txTx ∧ r.start + s.txLead n.val + r.desc.airTicks ≤ s.now then
      let s := s.setChain n.val { s.chain n.val with run := some { r with stop := some s.now } }
      let s := if r.desc.kind = .rollout then s.wrapCount (F.ROL_CAMP_SENT_SENT r.desc.ref) 1 else s
      setTxState n.val txRampDown s
    else s

/-! ### Calibrations (R117 to R119) -/

/-- A step of the start-up sequence of R116 as a calibration of a unit. -/
def startupBits : Nat := 64

/-- Total of the durations of R117. -/
def calTicks (bits : Nat) : Nat :=
  sumOf (((List.range 6).filter (fun i => bits / 2 ^ i % 2 = 1)).map
    (fun i => nth [60000, 240000, 480000, 720000, 360000, 600000] i))

/-- A descriptor's sequence, from the tick at which it can start, overlaps a calibration that starts now. -/
def overlapsCal (total : Nat) (d : TxDesc) (s : State) : Bool := d.deadline < s.now + total

/-- A schedule of a node: event counter and anchor of the next event, wake interval and channel map. -/
structure Course where
  ctr : Nat
  anchor : Nat
  wake : Nat
  map : Nat
  deriving DecidableEq, Repr

/-- The schedules by which a node has receive windows: its own, and the old one of an applied update (R243). -/
def State.courses (s : State) (id : Nat) : List Course :=
  ⟨s.nf id N.EVENT_CTR, s.nf id N.ANCHOR, s.nf id N.WAKE_INTERVAL, s.nf id N.CHMAP_IDX⟩ ::
    (s.sched.updates.filter (fun u => u.node == id && u.applied)).map (fun u =>
      ⟨u.oldE, u.oldAnchor, u.oldWake, u.oldChmap⟩)

/-- Some window of a schedule on a channel of a pair lies within [a, b): the next event's and, where they begin before
`b`, the later ones'. -/
def State.courseMeets (s : State) (id p a b : Nat) (c : Course) : Bool :=
  let step := c.wake * s.slotTicks
  let count := if step = 0 then 1 else 1 + (b - c.anchor) / step
  (List.range count).any (fun k =>
    let anchor := c.anchor + k * step
    let w := s.windowAt id anchor c.wake
    let own := s.hopAt id c.map (c.ctr + k) anchor
    let chs := own :: (if w.kind = 2 then (s.oldHop id (c.ctr + k) anchor).toList else [])
    a ≤ w.hi && w.lo < b && chs.any (fun ch => s.isHead ch && s.streamPair ch == p))

/-- The Almanac schedules no receive window on a channel of a pair's span while a calibration that starts now lasts
(R118). -/
def State.pairGap (s : State) (p total : Nat) : Bool :=
  let b := s.now + total
  !s.almanacRuns ||
    (s.delivered.all (fun e => e.hi < s.now || b ≤ e.lo || e.chans.all (fun ch => !s.isHead ch || s.streamPair ch != p)) &&
      s.wheel.all (fun id => !(s.courses id).any (s.courseMeets id p s.now b)))

/-- Start the calibration of a chain where it may start now. -/
def chainCalTry (n : Nat) (s : State) : State :=
  match (s.chain n).cal with
  | none => s
  | some c =>
    let total := calTicks c.bits + 24000
    let q := (s.chain n).queue
    if c.running || (s.txState n != txIdle && s.txState n != txReady) then s
    else if !c.force && (q.any (fun d => overlapsCal total d s) || (c.limit != 0 && c.limit < s.now)) then s
    else
      let hit := q.filter (fun d => overlapsCal total d s)
      let s := s.setChain n { s.chain n with
        queue := q.filter (fun d => !overlapsCal total d s), tuning := false,
        cal := some { c with running := true, start := s.now, conflicts := hit.length, fromArmed := true } }
      let s := returnAll n St.TX_CAL_CONFLICT hit s
      let s := blankAdd (2 * n) (4 + n) s.now (s.now + total) ((setTxLock n false s).setFlag (chainPend n) false)
      let s := if c.force then post (6 + n) sevInfo 0x0204 [] s else s
      setTxState n txCal s

/-- Both branches of a pair take new RSSI calibrations: what was measured is open (R116, R167). -/
def rssiCalibrate (p : Nat) (s : State) : State :=
  let a := s.draw
  let b := a.2.draw
  let s := b.2
  { s with radio.rssiCal := (s.radio.rssiCal.set 0 (2 * p) (intOf a.1)).set 0 (2 * p + 1) (intOf b.1) }

/-- Start the calibration of a pair where it may start now. -/
def pairCalTry (p : Nat) (s : State) : State :=
  match (s.pairOf p).cal with
  | none => s
  | some c =>
    let total := calTicks c.bits + 24000
    if c.running then s
    else if !c.force && (!s.pairGap p total || (c.limit != 0 && c.limit < s.now)) then s
    else
      let s := s.setPairU p { s.pairOf p with
        cal := some { c with running := true, start := s.now, fromArmed := s.pairState p == 1 } }
      let s := setPairState p 2 (s.setFlag (pairPend p) false)
      if c.force then post (10 + p) sevInfo 0x0204 [] s else s

/-- CAL_START (R118, R119): due when a deferred calibration finds its gap or a forced one its start time. -/
def runCalStart (u : RfUnit) (s : State) : State :=
  match u with
  | .chain n => chainCalTry n.val s
  | .pair p => pairCalTry p.val s

/-- RADIO_CAL (R117 to R119). -/
def opRadioCal (p : Packet) (s : State) : State :=
  let chain := p.bit 0 7
  let n := p.bits 0 1 0
  let force := p.bit 2 0
  let allowed := if chain then 0x31 else 0x0F
  checked p
    [(p.bits 0 6 2 != 0 || p.u8 1 &&& allowed != p.u8 1 || p.bits 2 7 1 != 0 || p.dirty 3 1 || p.dirty 8 4, St.BAD_PARAM),
     (if chain then s.txState n == txOff || (s.chain n).cal.isSome else (s.pairOf n).cal.isSome, St.BUSY),
     (force && s.flag F.THM_STAT_CRIT, St.THERMAL_LIMIT)]
    (fun s =>
      let r := defer p s
      let c : Cal := ⟨p.u8 1, force, some r.1, r.2.now, if p.u32 4 = 0 then 0 else r.2.now + p.u32 4, 0, 0, false, false⟩
      let s := r.2
      if chain then chainCalTry n ((s.setFlag (chainPend n) (!force)).setChain n { s.chain n with cal := some c })
      else pairCalTry n ((s.setFlag (pairPend n) (!force)).setPairU n { s.pairOf n with cal := some c })) s

def runRadioCal (p : Packet) (s : State) : State := command 0x2003 (lenIs 12) radioModes opRadioCal p s

/-- CAL_DONE (R117): due once the durations have passed; RESULT as the hardware found it. -/
def runCalDone (u : RfUnit) (result : Byte) (s : State) : State :=
  match u with
  | .chain n =>
    match (s.chain n.val).cal with
    | none => s
    | some c =>
      if !c.running || c.bits = startupBits || s.now < c.start + calTicks c.bits then s
      else
        let temp := if c.bits / 16 = 0 then (s.chain n.val).calTemp else some (s.sfld F.RFE_TEMP_TEMP)
        let s := blankCut (4 + n.val) s.now (s.setChain n.val { s.chain n.val with cal := none, calTemp := temp })
        let s := calAnswer (6 + n.val) (chainFail n.val) result.toNat c (setTxState n.val txIdle s)
        tuneForQueue n.val s
  | .pair p =>
    match (s.pairOf p.val).cal with
    | none => s
    | some c =>
      if !c.running || c.bits = startupBits || s.now < c.start + calTicks c.bits then s
      else
        let s := s.setPairU p.val { s.pairOf p.val with cal := none }
        let s := if c.bits / 8 % 2 = 1 ∧ result = 0 then rssiCalibrate p.val s else s
        let s := setPairState p.val (if c.fromArmed then 1 else 0) (setPairLock p.val false s)
        let s := calAnswer (10 + p.val) (pairFail p.val) result.toNat c s
        if c.fromArmed then spanChanged false p.val s else s

/-- CAL_DEFER_EXPIRED (R118): due after MAX_DEFER. -/
def runCalDeferExpired (u : RfUnit) (s : State) : State :=
  let late (c : Cal) : Bool := !c.running && !c.force && c.limit != 0 && c.limit < s.now
  match u with
  | .chain n =>
    match (s.chain n.val).cal with
    | none => s
    | some c =>
      if late c then
        finishOpt c.cmd RF_CAL_NO_GAP [] ((s.setFlag (chainPend n.val) false).setChain n.val { s.chain n.val with cal := none })
      else s
  | .pair p =>
    match (s.pairOf p.val).cal with
    | none => s
    | some c =>
      if late c then
        finishOpt c.cmd RF_CAL_NO_GAP [] ((s.setFlag (pairPend p.val) false).setPairU p.val { s.pairOf p.val with cal := none })
      else s

/-- RAMP_DOWN_END (R103, R104, R107): due 960 ticks and PA_LAG after the frame's end. -/
def runRampDownEnd (n : Fin 4) (s : State) : State :=
  let n := n.val
  match (s.chain n).run with
  | none => s
  | some r =>
    match r.stop with
    | none => s
    | some e =>
      if s.txState n ≠ txRampDown ∨ s.now < e + s.txTail n then s
      else if (s.chain n).offAfter then chainPowerDown n s
      else
        let s := s.setChain n { s.chain n with run := none }
        let stay := !(s.chain n).queue.isEmpty || s.flag (F.RFE_TX_CTL_RETURN n)
        let s := if stay then setTxState n txReady s
          else setTxState n txIdle (setTxLock n false (s.setChain n { s.chain n with tuning := false }))
        tuneForQueue n (match (s.chain n).cal with
          | some c => if c.force then chainCalTry n s else s
          | none => s)

/-! ### The regulatory profile's commands (R122 to R124, R127) -/

/-- The words of an image. -/
def imageWords (p : Packet) : List Word := (List.range 68).map (fun i => BitVec.ofNat 32 (p.u32 (4 * i)))

/-- RADIO_REG_LOAD (R123). -/
def opRadioRegLoad (p : Packet) (s : State) : State :=
  let ws := imageWords p
  checked p [(s.regLock, RF_REGLOCKED), (!profileOk ws, RF_PROFILE_BAD)]
    (fun s =>
      let s := regStat ws { s with radio.profile := ws, radio.tighten := [] }
      let s := (s.setFlag F.RFE_REG_STAT_RAM_PROFILE true).setFlag F.RFE_REG_STAT_TIGHTENED false
      done p [] (dwellRefresh s)) s

def runRadioRegLoad (p : Packet) (s : State) : State :=
  command 0x2004 (lenIs 272) [.calibrate, .test] opRadioRegLoad p s

/-- RADIO_REG_READ (R122). -/
def opRadioRegRead (p : Packet) (s : State) : State :=
  let e := p.u8 0
  checked p [(15 < e || p.dirty 1 3, St.BAD_PARAM)]
    (fun s =>
      let none := s.radio.profile.isEmpty
      let stored := profileEntry (if none then s.otpProfile else s.radio.profile) e
      let eff := if none then [0, 0, 0, 0] else s.bandWords e
      done p (stored.flatMap (leBytes 4) ++ eff.flatMap (leBytes 4) ++ leBytes 4 (s.word R.RFE_REG_STAT).toNat) s) s

def runRadioRegRead (p : Packet) (s : State) : State := command 0x2005 (lenIs 4) coreModes opRadioRegRead p s

/-- Blow fuses: bits can be set and never cleared. -/
def burn (i : Nat) (w : Word) (s : State) : State := { s with otp := s.otp.set 0 i (s.otp.get 0 i ||| w) }

/-- REG_BURN (R123, R127). -/
def opRegBurn (p : Packet) (s : State) : State :=
  let ws := imageWords p
  checked p
    [(1 < p.u8 272 || p.dirty 273 3, St.BAD_PARAM), (s.regLock, St.NOT_PERMITTED), (!profileOk ws, St.BAD_PARAM)]
    (fun s =>
      let s := (List.range 68).foldl (fun s i => burn (0x100 + i) (ws.getD i 0) s) s
      if s.otpProfile ≠ ws then reply p St.BAD_PARAM [] s
      else if p.bit 272 0 then done p [] (dwellRefresh (adoptOtpProfile (burn 0x144 1 s)))
      else done p [] s) s

def runRegBurn (p : Packet) (s : State) : State := mgtCommand 0xF201 (lenIs 276) [.calibrate, .test] opRegBurn p s

/-- A field is tightened: its new value, where it lowers the effective one (R124). -/
def tighter (allOnes v : Nat) (eff : Option Nat) : Option Nat :=
  if v = allOnes then none
  else match eff with
    | none => some v
    | some e => if v < e then some v else none

/-- Record a tightening write. -/
def tightenWith (e : Nat) (changed : Bool) (t : Tighten) (s : State) : State :=
  if changed then
    let s := { s with radio.tighten := s.radio.tighten.set Tighten.none e t }
    post 6 sevInfo 0x0207 [] (dwellRefresh (s.setFlag F.RFE_REG_STAT_TIGHTENED true))
  else s

/-- RFE_REG_TIGHTEN_A (R124). -/
def runRfeRegTightenA (v : Word) (s : State) : State :=
  atReg R.RFE_REG_TIGHTEN_A (fun s =>
    let e := bitsOf v.toNat 31 28
    let t := s.tighten e
    let drive := tighter 0x7F (bitsOf v.toNat 27 21) (some (s.band e).maxDrive)
    let dwell := tighter 0x3FF (bitsOf v.toNat 20 11) ((s.bandDwell e).map (·.1))
    tightenWith e (drive.isSome || dwell.isSome)
      { t with drive := drive.orElse (fun _ => t.drive), dwellMs := dwell.orElse (fun _ => t.dwellMs) } s) s

/-- RFE_REG_TIGHTEN_B (R124). -/
def runRfeRegTightenB (v : Word) (s : State) : State :=
  atReg R.RFE_REG_TIGHTEN_B (fun s =>
    let e := bitsOf v.toNat 31 28
    let t := s.tighten e
    let b := s.band e
    let duty := tighter 0xFFFFF (bitsOf v.toNat 27 8) (some b.dutyPpm)
    let lbt := if b.listen = 0 then none else tighter 0xFF (bitsOf v.toNat 7 0) (some b.thresh)
    tightenWith e (duty.isSome || lbt.isSome)
      { t with dutyPpm := duty.orElse (fun _ => t.dutyPpm), lbt := lbt.orElse (fun _ => t.lbt) } s) s

end Sys2Proof.Machine
end

