-- ==== Sys2Proof/Machine/Buffers.lean ====
section
/-! DEFINITION. Buffer memory: the MMU's checks, the fault ring and the region's configuration (R374, R375, R380,
R387, R393, R394, R402). -/

namespace Sys2Proof.Machine

/-! ### What the MMU permits (R387) -/

/-- Causes (R387). -/
def cTranslation : Nat := 1
def cPermission : Nat := 2
def cDramUncorr : Nat := 7
def cBme : Nat := 8

/-- The enabled RAW windows: first byte and first byte after. -/
def State.rawWindows (s : State) : List (Nat × Nat) :=
  ((List.range 4).filter (fun w => s.flag (F.MMU_RAW_BASE_EN w))).map (fun w =>
    (s.fld (F.MMU_RAW_BASE_BASE w) * 2 ^ 20, (s.fld (F.MMU_RAW_LIMIT_LIMIT w) + 1) * 2 ^ 20))

/-- An access of a RAW transfer under given windows to an address: a cause, or none. -/
def State.rawDenied (s : State) (ws : List (Nat × Nat)) (a : Nat) : Option Nat :=
  if !ws.any (fun w => w.1 ≤ a && a < w.2) || s.inRegion a || s.inFltRing a then some cPermission
  else if !s.inDram a 1 then some cTranslation
  else none

/-- An access through BAR2 (R387, R447). -/
def State.bar2Denied (s : State) (write : Bool) (a : Nat) : Option Nat :=
  if !s.inDram a 1 then some cTranslation
  else if s.inFltRing a then (if write then some cPermission else none)
  else if s.inRegion a then
    let spill := match s.pageOfFrame ((a - s.bufBase) / 2048) with
      | some p => (s.pageEntry p).getLsbD 30
      | none => false
    if write || s.inTable a || spill || !s.flag F.PCI_BAR2_CTL_BUF_READ then some cPermission else none
  else none

/-- A write of `n` bytes touches a bad burst without replacing it whole: the read of its read-modify-write faults. -/
def State.rmwBad (s : State) (a n : Nat) : Bool :=
  s.bufs.badBursts.any (fun b => 64 * b < a + n && a < 64 * b + 64 && !(a ≤ 64 * b && 64 * b + 64 ≤ a + n))

/-! ### The fault ring (R393, R394) -/

/-- The 32 bytes of a record. -/
def FaultRec.bytes (r : FaultRec) : List Byte :=
  leBytes 8 r.cal ++ leBytes 1 r.req ++ leBytes 1 r.cause ++ leBytes 1 r.flags ++ leBytes 1 r.chan ++
    leBytes 4 r.ref ++ leBytes 8 r.addr ++ leBytes 2 r.progress ++ leBytes 2 r.bursts ++ leBytes 4 r.seq

def State.fltFull (s : State) : Bool :=
  (s.fld F.MMU_FLT_PI_PI + 65536 - s.fld F.MMU_FLT_CI_CI) % 65536 == s.fltSize
def fltFullFlag (s : State) : State := s.setFlag F.MMU_FLT_STAT_FULL s.fltFull

/-- Vector of the fault ring: a record written, FULL or REC_FAIL set (R449). -/
def fltVector : Nat := 33

/-- The cause for which a record write faults itself. -/
def State.fltWriteFault (s : State) : Option Nat :=
  let a := s.fltBase + 32 * (s.fld F.MMU_FLT_PI_PI % s.fltSize)
  if !s.inDram a 32 || s.inRegion a || s.inRegion (a + 31) then some cPermission
  else if s.rmwBad (a - dramBase) 32 then some cDramUncorr
  else none

/-- Write a record into a ring that has room: whether it was written. -/
def fltWrite (r : FaultRec) (s : State) : Bool × State :=
  match s.fltWriteFault with
  | some c =>
    let s := (s.setFlag F.MMU_FLT_STAT_REC_FAIL true).setFld F.MMU_FLT_STAT_FAIL_CAUSE c
    (false, mgtCause 17 (post 1 sevDegraded 0x1004 [] (signal fltVector s)))
  | none =>
    let pi := s.fld F.MMU_FLT_PI_PI
    let s := s.dramWrite (s.fltBase + 32 * (pi % s.fltSize) - dramBase) r.bytes
    (true, signal fltVector (fltFullFlag (s.setFld F.MMU_FLT_PI_PI ((pi + 1) % 65536))))

/-- Count a fault by cause, and MEM_FAULT at most once per 120,000 ticks and source. -/
def countFault (dma : Bool) (cause : Nat) (s : State) : State :=
  let f : Field := ⟨0x0F0048 + 4 * ((cause - 1) / 4), 8 * ((cause - 1) % 4), 8⟩
  let s := s.count f 1
  if dma then
    match limited 120000 s.now s.bufs.fltLimDma with
    | (some n, l) => post 24 sevDegraded 0x1001 (arg2 n) { s with bufs.fltLimDma := l }
    | (none, l) => { s with bufs.fltLimDma := l }
  else
    match limited 120000 s.now s.bufs.fltLimOther with
    | (some n, l) => post 23 sevDegraded 0x1001 (arg2 n) { s with bufs.fltLimOther := l }
    | (none, l) => { s with bufs.fltLimOther := l }

/-- A new record: its sequence number counts lost records too. -/
def makeRec (req cause flags chan ref addr progress bursts : Nat) (s : State) : FaultRec × State :=
  (⟨s.now, req, cause, flags, chan, ref, addr, progress, bursts, s.bufs.fltSeq⟩,
   countFault (16 ≤ req && req ≤ 31) cause { s with bufs.fltSeq := s.bufs.fltSeq + 1 })

/-- The record of a requester that does not halt: lost where the ring is full or FAILED. -/
def recordLoose (r : FaultRec) (s : State) : State :=
  if s.flag F.MMU_FLT_STAT_REC_FAIL || s.fltFull then s.count F.MMU_FLT_STAT_LOST 1
  else
    let w := fltWrite r s
    if w.1 then w.2 else w.2.count F.MMU_FLT_STAT_LOST 1

/-- A fault of a requester that goes on. -/
def looseFault (req cause : Nat) (write preempted : Bool) (ref addr progress bursts : Nat) (s : State) : State :=
  let flags := (if write then 1 else 0) + (if preempted then 2 else 0)
  let r := makeRec req cause flags 0xFF ref addr progress bursts s
  recordLoose r.1 r.2

/-- DRAM_ECC_ERROR (R380): a corrected burst is rewritten; an uncorrectable one stays bad until it is written whole, and
marks its page BAD. -/
def runDramEccError (a : BitVec 40) (corrected : Bool) (s : State) : State :=
  if corrected then s.count F.MMU_ECC_CNT_CORRECTED 1
  else
    let s := s.count F.MMU_ECC_CNT_UNCORRECTABLE 1
    let b := (a.toNat - dramBase) / 64
    let s := if s.inDram a.toNat 1 && !s.bufs.badBursts.contains b then
        { s with bufs.badBursts := s.bufs.badBursts ++ [b] }
      else s
    if s.inRegion a.toNat && !s.inTable a.toNat then
      match s.pageOfFrame ((a.toNat - s.bufBase) / 2048) with
      | some p => postRetired (s.setPage p { s.page p with bad := true })
      | none => s
    else s

/-! ### Configuration (R374, R375, R402) -/

def BUF_REGION_BAD : Nat := 0x8A00
def BUF_IN_USE : Nat := 0x8A01

/-- Lay out a region: spill pages are taken from the head of the pool. -/
def layRegion (base frames pages spill rsv : Nat) (s : State) : State :=
  let s := s.setFld F.MMU_BUF_BASE_BASE (base / 2 ^ 20)
  let s := s.setFld F.MMU_BUF_FRAMES_FRAMES frames
  let s := s.setFld F.MMU_BUF_PAGES_PAGES pages
  let s := s.setFld F.MMU_SPILL_CFG_SPILL_PAGES spill
  let s := s.setFld F.MMU_RSV_RSV rsv
  let s := s.setFld F.MMU_RETIRE_SPARES (frames - tableFrames pages - pages)
  let s := s.setFld F.MMU_RETIRE_WITHHELD 0
  let marked : Sparse BufPage := (List.range spill).map (fun i => (i + 1, ⟨true, false, true, none⟩))
  let s := { s with bufs.pages := marked, bufs.pool := if spill < pages then [(spill + 1, pages)] else [],
                    bufs.lowPosted := false,
                    demod.comb := s.demod.comb.filter (fun e => !e.spilled) }
  (s.setFld F.MMU_POOL_STAT_FREE (pages - spill)).setFld F.MMU_LOW_WATER_LOW_WATER (pages - spill)

/-- The default region and fault ring of KINDLING (R375, R393). -/
def defaultRegion (s : State) : State :=
  let base := dramBase + s.dramBytes - 2 ^ 28
  let s := layRegion base 131072 130560 0 1024 s
  let flt := base - 16384
  let s := s.setWord R.MMU_FLT_BASE_LO (BitVec.ofNat 32 flt)
  s.setWord R.MMU_FLT_BASE_HI (BitVec.ofNat 32 (flt / 2 ^ 32))

/-- Every DMA channel is OFF. -/
def State.dmaAllOff (s : State) : Bool := (List.range 16).all (fun n => s.fld (F.DMA_CH_STAT_STATE n) == 0)

/-- BUF_POOL_SET (R374, R375). -/
def opBufPoolSet (p : Packet) (s : State) : State :=
  let base := p.u64 0
  let frames := p.u32 8
  let pages := p.u32 12
  let tbl := tableFrames pages
  checked p
    [(base % 2 ^ 20 != 0 || frames < 1024 || 524288 < frames || pages < 1023 || 262143 < pages || frames < pages + tbl ||
        !s.inDram base (2048 * frames), BUF_REGION_BAD),
     (pages / 2 < p.u32 16 || pages ≤ p.u32 20, St.BAD_PARAM),
     (!s.dmaAllOff || s.bufs.pages.any (fun e => e.2.alloc && !e.2.spill), BUF_IN_USE)]
    (fun s =>
      let s := layRegion base frames pages (p.u32 16) (p.u32 20) s
      done p (leBytes 4 tbl ++ leBytes 4 (frames - tbl - pages)) s) s

def runBufPoolSet (p : Packet) (s : State) : State :=
  command 0xA001 (lenIs 24) [.calibrate, .test] opBufPoolSet p s

/-- BUF_STATUS. -/
def opBufStatus (p : Packet) (s : State) : State :=
  let flt := if s.flag F.MMU_FLT_STAT_REC_FAIL then 2 else if s.fltFull then 1 else 0
  done p (leBytes 4 s.freePages ++ leBytes 4 (s.fld F.MMU_LOW_WATER_LOW_WATER) ++
    leBytes 4 (s.fld F.MMU_RETIRE_SPARES) ++ leBytes 4 (s.fld F.MMU_POOL_ERR_RETIRED) ++
    leBytes 4 s.spilledFrames.length ++ leBytes 1 flt ++ leBytes 3 0) s

def runBufStatus (p : Packet) (s : State) : State := command 0xA002 (lenIs 0) coreModes opBufStatus p s

end Sys2Proof.Machine
end

