-- ==== Sys2Proof/Machine/Arbiter.lean ====
section
/-! DEFINITION. The arbiter of DRAM bursts, cycle by cycle (R395 to R401). -/

namespace Sys2Proof.Machine

/-- Priority of a requester. -/
def State.prio (s : State) (r : Nat) : Nat := s.fld ⟨0x110100 + 4 * (r / 8), 4 * (r % 8), 3⟩

/-- Window length and quota in cycles and grants. -/
def State.arbW (s : State) : Nat := (if s.fld F.ARB_QUOTA_W_M1 < 15 then 15 else s.fld F.ARB_QUOTA_W_M1) + 1
def State.arbQ (s : State) : Nat := least2 (s.fld F.ARB_QUOTA_Q_M1 + 1) s.arbW

/-- Requesters of the arbiter. -/
def arbRequesters : List Nat := (List.range 53).map (· + 1)

def State.arbGrants (s : State) (r : Nat) : Nat := s.bufs.arbCount.get 0 r

/-- Masked for want of power, or with its quota spent. -/
def State.arbMasked (s : State) (c : ArbCycle) (r : Nat) : Bool :=
  c.low.contains r || (6 ≤ s.prio r && s.arbQ ≤ s.arbGrants r)

/-- First of several requesters in ascending number after the last granted, wrapping round. -/
def nextAfter (last : Nat) (rs : List Nat) : Option Nat :=
  (sortBy (fun r => if last < r then r else r + 64) rs).head?

/-- The winner of a cycle (R396). -/
def State.arbWinner (s : State) (c : ArbCycle) : Option Nat :=
  let open' := arbRequesters.filter (fun r => c.asks.contains r && !s.arbMasked c r)
  let top := greatest (open'.map s.prio)
  nextAfter (s.bufs.arbLast.get 0 top) (open'.filter (fun r => s.prio r == top))

/-- A grant counts under the priority in force (R397). -/
def arbGrant (r : Nat) (s : State) : State :=
  let s := s.wrapCount F.ARB_GRANTS_GRANTS 1
  let s := s.setFld F.ARB_STAT_LAST r
  let s := { s with bufs.arbLast := s.bufs.arbLast.set 0 (s.prio r) r }
  if 6 ≤ s.prio r then
    let n := s.arbGrants r + 1
    let s := { s with bufs.arbCount := s.bufs.arbCount.set 0 r n }
    if n = s.arbQ then s.count F.ARB_QMASK_QMASK 1 else s
  else s

/-- Window end (R397, R401): counts return to 0 and a change of FORERUNNER takes effect. -/
def arbWindow (s : State) : State :=
  let s := { s.setFld F.ARB_STAT_WPOS 0 with bufs.arbCount := [] }
  if s.fld F.ARB_CTL_FORERUNNER = s.fld F.ARB_STAT_MODE then s
  else post 25 sevInfo 0x1005 [] (s.setFld F.ARB_STAT_MODE (s.fld F.ARB_CTL_FORERUNNER))

/-- One CORE_CLK cycle. -/
def arbCycle (s : State) (c : ArbCycle) : State :=
  let masked := arbRequesters.filter (s.arbMasked c)
  let s := s.setFld F.ARB_MASKED_LO_MASKED (sumOf ((masked.filter (· < 32)).map (2 ^ ·)))
  let s := s.setFld F.ARB_MASKED_HI_MASKED (sumOf ((masked.filter (32 ≤ ·)).map (fun r => 2 ^ (r - 32))))
  let s := if s.bufs.arbDead then { s with bufs.arbDead := false }
    else if !c.ready then s
    else match s.arbWinner c with
      | none => s
      | some r =>
        if s.flag F.ARB_STAT_MODE then
          if c.withdraws || c.falls then { s.count F.ARB_NULL_DEAD 1 with bufs.arbDead := true } else arbGrant r s
        else
          let s := arbGrant r s
          if c.falls then s.count F.ARB_NULL_NULL 1 else s
  let pos := s.fld F.ARB_STAT_WPOS + 1
  if s.arbW ≤ pos then arbWindow s else s.setFld F.ARB_STAT_WPOS pos

def arbRun (cycles : List ArbCycle) (s : State) : State := cycles.foldl arbCycle s

/-- ARB_PRIO_WRITE (R398): in force from the next cycle; reserved bits stay 0. -/
def runArbPrioWrite (cycles : List ArbCycle) (k : Fin 7) (v : Word) (s : State) : State :=
  let s := arbRun cycles s
  let mask : Word := if k.val = 0 then 0x77777770#32 else if k.val = 6 then 0x00777777#32 else 0x77777777#32
  atReg (R.ARB_PRIO k.val) (fun s => s.setWord (R.ARB_PRIO k.val) (v &&& mask)) s

/-- ARB_QUOTA_WRITE (R397): windows are counted from the write. -/
def runArbQuotaWrite (cycles : List ArbCycle) (v : Word) (s : State) : State :=
  let s := arbRun cycles s
  atReg R.ARB_QUOTA (fun s => arbWindow (s.setWord R.ARB_QUOTA v)) s

/-- ARB_WINDOW_END (R397): the cycles up to the end of the window, idle ones after the last named. -/
def runArbWindowEnd (cycles : List ArbCycle) (s : State) : State :=
  let s := arbRun cycles s
  if s.fld F.ARB_STAT_WPOS = 0 ∧ cycles ≠ [] then s else arbWindow s

end Sys2Proof.Machine
end

