-- ==== Sys2Proof/Machine/Dma.lean ====
section
/-! DEFINITION. The 16 DMA channels, their faults and recovery, BAR2, and dropping from host queues (R55, R382 to
R394, R447). -/

namespace Sys2Proof.Machine

def State.dma (s : State) (n : Nat) : DmaChan := s.bufs.dma.get DmaChan.reset n
def State.setDma (n : Nat) (c : DmaChan) (s : State) : State :=
  { s with bufs.dma := s.bufs.dma.set DmaChan.reset n c }

/-- Channel states (R385). -/
def dOff : Nat := 0
def dmaIdle : Nat := 1
def dmaActive : Nat := 2
def dmaPaused : Nat := 3
def dmaFaulted : Nat := 4
def dmaStalled : Nat := 5
def State.dmaState (s : State) (n : Nat) : Nat := s.fld (F.DMA_CH_STAT_STATE n)
def setDmaState (n v : Nat) (s : State) : State := s.setFld (F.DMA_CH_STAT_STATE n) v

def State.dmaSlots (s : State) (n : Nat) : Nat := 2 ^ s.fld (F.DMA_CH_CTL_LOG2_SLOTS n)
def State.dmaCi (s : State) (n : Nat) : Nat := s.fld (F.DMA_CH_CI_CI n)
def State.dmaPi (s : State) (n : Nat) : Nat := s.fld (F.DMA_CH_PI_PI n)

/-- A descriptor's 32 bytes (R382); `h2c` is DIR. -/
def parseDesc (h2c : Bool) (bs : List Byte) : DmaDesc :=
  let k := leAt bs 0 1
  let len := leAt bs 4 4
  let suits := k == 0 || (if h2c then k == 2 || k == 3 else k == 1 || k == 4)
  let range := match k with
    | 0 => true
    | 1 => 64 ≤ len && len ≤ 12288
    | 2 => 40 ≤ len && len ≤ 12288
    | _ => 1 ≤ len && len ≤ 1048576
  let clean := leAt bs 1 1 < 2 && leAt bs 2 2 == 0 && leAt bs 24 4 == 0 && (k == 3 || k == 4 || leAt bs 16 8 == 0)
  { kind := k, irq := leAt bs 1 1 % 2 == 1, len := len, host := leAt bs 8 8, dram := leAt bs 16 8,
    tag := leAt bs 28 4, bad := !suits || !range || !clean }

/-- Bursts of a transfer (R384). -/
def bursts (a len : Nat) : Nat := (a % 64 + len + 63) / 64

/-- Internal start address modulo 64 of a descriptor's transfer. -/
def DmaDesc.base (d : DmaDesc) : Nat := if d.kind = 3 ∨ d.kind = 4 then d.dram else 0

/-- Bytes of the bursts before `progress` (R383). -/
def doneBytes (d : DmaDesc) (progress len : Nat) : Nat := least2 len (64 * progress - d.base % 64)

/-- Bytes that the transfer moves: a packet's own length for PKT_C2H. -/
def DmaChan.len (c : DmaChan) (d : DmaDesc) : Nat :=
  match d.kind, c.item with
  | 1, some it => it.data.length
  | _, _ => d.len

/-- The channels are held in EMBER, until its exit has brought the clocks back (R385, R475, R476). -/
def State.dmaHeld (s : State) : Bool := s.inMode [.ember] && !s.flag F.CLK_GATE_MAC_RUN

/-- A descriptor is under way: ACTIVE, or PAUSED where the channels are held. -/
def dmaGo (n : Nat) (s : State) : State := setDmaState n (if s.dmaHeld then dmaPaused else dmaActive) s

/-- A channel's fault interrupt. -/
def dmaFaultInt (n : Nat) (s : State) : State := raise F.DMA_INT_FAULT F.DMA_IE_FAULT (2 ^ n) (16 + n) s

/-- Write the completion of the descriptor at CI and advance (R383); the chip writes host memory only as bus master. -/
def dmaComplete (n status len : Nat) (s : State) : State :=
  let c := s.dma n
  let ci := s.dmaCi n
  let d := c.desc.getD ⟨0, false, 0, 0, 0, 0, false⟩
  let ingress := match c.item with
    | some it => it.ingress
    | none => 0
  let orig := match c.item with
    | some it => it.orig
    | none => 0
  let flags := ingress + (if c.phase then 128 else 0)
  let entry := leBytes 4 len ++ leBytes 1 status ++ leBytes 1 flags ++ leBytes 2 ci ++ leBytes 4 d.tag ++ leBytes 4 orig
  let s := if s.flag F.PCI_LINK_BME then s.hostWrite (c.cpl + 16 * (ci % s.dmaSlots n)) entry else s
  let next := (ci + 1) % 65536
  let phase := if next % s.dmaSlots n = 0 then !c.phase else c.phase
  let s := s.setDma n { c with desc := none, item := none, pages := [], waiting := false, phase := phase }
  let s := (s.setFld (F.DMA_CH_CI_CI n) next).setFld (F.DMA_CH_STAT_PROGRESS n) 0
  let s := setDmaState n dmaIdle s
  if d.irq then raise F.DMA_INT_DONE F.DMA_IE_DONE (2 ^ n) (16 + n) s else s

/-- Free what a descriptor in progress holds. -/
def dmaRelease (n : Nat) (s : State) : State :=
  let c := s.dma n
  let own := match c.item with
    | some it => it.pages
    | none => []
  freePages (c.pages ++ own) (s.setDma n { c with item := none, pages := [] })

/-- A descriptor ends with FAULT_SKIPPED (R383, R392). -/
def dmaSkipDesc (n : Nat) (s : State) : State :=
  let c := s.dma n
  match c.desc with
  | none => setDmaState n dmaIdle s
  | some d =>
    let len := doneBytes d (s.fld (F.DMA_CH_STAT_PROGRESS n)) (c.len d)
    let own := match c.item with
      | some it => it.pages
      | none => []
    let s := freePages (c.pages ++ own) s
    dmaComplete n 2 len s

/-- A record is latched in the channel's own registers. -/
def dmaLatch (n : Nat) (r : FaultRec) (s : State) : State :=
  let s := s.setWord (R.DMA_CH_FLT_INFO n) (BitVec.ofNat 32 (leAt r.bytes 8 4))
  let s := s.setWord (R.DMA_CH_FLT_DESC n) (BitVec.ofNat 32 r.ref)
  let s := s.setWord (R.DMA_CH_FLT_PROG n) (BitVec.ofNat 32 (leAt r.bytes 24 4))
  s.setPair (R.DMA_CH_FLT_ADDR_LO n) (R.DMA_CH_FLT_ADDR_HI n) r.addr

/-- The record cannot be written: the channel stalls with it (R394). -/
def dmaStall (n : Nat) (r : FaultRec) (s : State) : State :=
  dmaFaultInt n (setDmaState n dmaStalled (s.setDma n { s.dma n with record := some r }))

/-- A fault of a channel (R388 to R394). With AUTO_SKIP the channel does not halt, so a full ring loses its record. -/
def dmaFault (n cause : Nat) (write preempted : Bool) (progress nb addr : Nat) (s : State) : State :=
  let s := (s.setFld (F.DMA_CH_STAT_PROGRESS n) progress).count (F.DMA_CH_CNT_FAULTS n) 1
  let flags := (if write then 1 else 0) + (if preempted then 2 else 0)
  let m := makeRec (0x10 + n) cause flags n (s.dmaCi n) addr progress nb s
  let r := m.1
  let s := dmaLatch n r m.2
  let skip := s.flag (F.DMA_CH_CTL_AUTO_SKIP n)
  if s.flag F.MMU_FLT_STAT_REC_FAIL then dmaStall n r s
  else if s.fltFull then
    if skip then dmaSkipDesc n (s.count F.MMU_FLT_STAT_LOST 1)
    else
      let s := (s.setDma n { s.dma n with record := some r }).setFlag (F.DMA_CH_STAT_REC_PENDING n) true
      dmaFaultInt n (setDmaState n dmaFaulted s)
  else
    let w := fltWrite r s
    if !w.1 then dmaStall n r w.2
    else if skip then dmaSkipDesc n w.2
    else dmaFaultInt n (setDmaState n dmaFaulted w.2)

/-- Start the next descriptor of an IDLE channel (R382, R385), if it has one and the channels are not held. -/
def dmaStartOne (n : Nat) (s : State) : State :=
  let c := s.dma n
  let ci := s.dmaCi n
  if s.dmaState n ≠ dmaIdle ∨ s.dmaPi n = ci ∨ s.dmaHeld = true then s
  else
    let a := c.ring + 32 * (ci % s.dmaSlots n)
    if !s.inDram a 32 || s.inRegion a || s.inFltRing a then
      let s := setDmaState n dmaActive (s.setDma n { c with desc := some ⟨0, false, 0, 0, 0, 0, true⟩ })
      dmaFault n cPermission false false 0 1 a s
    else if s.burstBad (a - dramBase) 32 then
      let s := setDmaState n dmaActive (s.setDma n { c with desc := some ⟨0, false, 0, 0, 0, 0, true⟩ })
      dmaFault n cDramUncorr false false 0 1 a s
    else
      let d := parseDesc (s.flag (F.DMA_CH_CTL_DIR n)) (s.dramRead (a - dramBase) 32)
      if d.kind = 1 ∧ d.bad = false then
        match queuePop n s with
        | (none, s) => s
        | (some it, s) => setDmaState n dmaActive (s.setDma n { s.dma n with desc := some d, item := some it })
      else if d.kind = 2 ∧ d.bad = false then
        match allocPages false (pagesFor d.len) s with
        | some (ps, s) => setDmaState n dmaActive (s.setDma n { s.dma n with desc := some d, pages := ps })
        | none =>
          let s := s.count (F.DMA_CH_CNT_NOBUF_WAIT n) 1
          setDmaState n dmaActive (s.setDma n { s.dma n with desc := some d, waiting := true })
      else setDmaState n dmaActive (s.setDma n { s.dma n with desc := some d, windows := s.rawWindows })

/-- Start descriptors until one is under way: AUTO_SKIP takes the channel past those that cannot be read. -/
def dmaStartFuel : Nat → Nat → State → State
  | 0, n, s => dmaStartOne n s
  | k + 1, n, s =>
    let s' := dmaStartOne n s
    if s'.dmaState n = dmaIdle ∧ s'.dmaCi n ≠ s.dmaCi n then dmaStartFuel k n s' else s'

/-- Start the next descriptor of an IDLE channel. -/
def dmaStart (n : Nat) (s : State) : State := dmaStartFuel (s.dmaSlots n) n s

/-- A channel that waits for pages tries again. -/
def dmaRetry (n : Nat) (s : State) : State :=
  let c := s.dma n
  match c.waiting, c.desc with
  | true, some d =>
    match allocPages false (pagesFor d.len) s with
    | some (ps, s) => s.setDma n { s.dma n with pages := ps, waiting := false }
    | none => s
  | _, _ => s

/-- An item for a host queue: the channel that serves it may start. -/
def hostQueuePush (q : Nat) (it : QItem) (s : State) : Bool × State :=
  let r := queuePush q it s
  (r.1, if r.1 then dmaStart q r.2 else r.2)

/-! ### Control (R385, R386, R392) -/

/-- A channel goes OFF; `report`: a descriptor in progress completes ABORTED where the bus may be mastered. -/
def dmaOff (n : Nat) (report : Bool) (s : State) : State :=
  let st := s.dmaState n
  if st = dOff then s
  else
    let c := s.dma n
    let ci := s.dmaCi n
    let own := match c.item with
      | some it => it.pages
      | none => []
    let s := freePages (c.pages ++ own) s
    let s := if report && c.desc.isSome && s.flag F.PCI_LINK_BME then
        (dmaComplete n 3 (doneBytes (c.desc.getD ⟨0, false, 0, 0, 0, 0, false⟩) (s.fld (F.DMA_CH_STAT_PROGRESS n))
          ((c.desc.map c.len).getD 0)) s).setFld (F.DMA_CH_CI_CI n) ci
      else s
    let s := s.setDma n { s.dma n with desc := none, item := none, pages := [], waiting := false, record := none }
    let s := (s.setFld (F.DMA_CH_STAT_PROGRESS n) 0).setFlag (F.DMA_CH_STAT_REC_PENDING n) false
    setDmaState n dOff (s.setFlag (F.DMA_CH_CTL_EN n) false)

def dmaAllOff (report : Bool) (s : State) : State := (List.range 16).foldl (fun s n => dmaOff n report s) s

/-- The descriptor of a channel is taken up anew, with the next item. -/
def dmaAgain (n : Nat) (s : State) : State :=
  dmaStart n (setDmaState n dmaIdle (s.setDma n { s.dma n with desc := none }))

/-- The item of a to-host descriptor was dropped while the channel could not go on. -/
def DmaChan.bare (c : DmaChan) : Bool :=
  match c.desc with
  | some d => d.kind == 1 && !d.bad && c.item.isNone
  | none => false

/-- Entry to and exit from EMBER. -/
def dmaPauseAll (s : State) : State :=
  (List.range 16).foldl (fun s n => if s.dmaState n = dmaActive then setDmaState n dmaPaused s else s) s
def dmaUnpauseAll (s : State) : State :=
  (List.range 16).foldl (fun s n =>
    if s.dmaState n ≠ dmaPaused then dmaStart n s
    else if (s.dma n).bare then dmaAgain n s
    else setDmaState n dmaActive s) s

/-- Continue a FAULTED channel at burst PROGRESS; a record that waits for room still waits. -/
def dmaResumeNow (n : Nat) (s : State) : State :=
  if s.dmaState n ≠ dmaFaulted ∨ s.flag (F.DMA_CH_STAT_REC_PENDING n) = true then s
  else if (s.dma n).bare then dmaAgain n s
  else match (s.dma n).desc with
    | some d =>
      if d.bad && d.kind == 0 && d.len == 0 && d.tag == 0 && s.fld (F.DMA_CH_STAT_PROGRESS n) = 0 then
        -- the descriptor itself could not be read: it is read again
        dmaAgain n s
      else dmaGo n (s.setDma n { s.dma n with windows := s.rawWindows })
    | none => dmaGo n s

def dmaSkipNow (n : Nat) (s : State) : State :=
  if s.dmaState n = dmaFaulted then
    let s := (s.setDma n { s.dma n with record := none }).setFlag (F.DMA_CH_STAT_REC_PENDING n) false
    dmaStart n (dmaSkipDesc n s)
  else s

/-- A write of DMA_CHn_CTL. -/
def dmaCtlWrite (n : Nat) (v : Word) (s : State) : State :=
  let was := s.flag (F.DMA_CH_CTL_EN n)
  let en := v.getLsbD 0
  let log := bitsOf v.toNat 19 16
  let s := if was then s
    else
      let s := if 4 ≤ log ∧ log ≤ 12 then s.setFld (F.DMA_CH_CTL_LOG2_SLOTS n) log else s
      s.setFlag (F.DMA_CH_CTL_DIR n) (v.getLsbD 4)
  let s := s.setFlag (F.DMA_CH_CTL_AUTO_SKIP n) (v.getLsbD 8)
  if was && !en then dmaOff n true s
  else if !was && en then
    let s := s.setFlag (F.DMA_CH_CTL_EN n) true
    let s := s.setFlag (F.DMA_CH_STAT_PI_ERR n) false
    let s := s.setDma n { DmaChan.reset with ring := s.pair (R.DMA_CH_RING_LO n) (R.DMA_CH_RING_HI n),
                                             cpl := s.pair (R.DMA_CH_CPL_LO n) (R.DMA_CH_CPL_HI n), phase := true }
    dmaStart n (setDmaState n dmaIdle s)
  else if was && v.getLsbD 2 then dmaSkipNow n s
  else if was && v.getLsbD 1 then dmaResumeNow n s
  else s

/-- DMA_ENABLE, DMA_DISABLE, DMA_RESUME and DMA_SKIP: writes of DMA_CHn_CTL with the row's bit. -/
def runDmaEnable (n : Fin 16) (v : Word) (s : State) : State :=
  atReg (R.DMA_CH_CTL n.val) (dmaCtlWrite n.val (v ||| 1#32)) s
def runDmaDisable (n : Fin 16) (v : Word) (s : State) : State :=
  atReg (R.DMA_CH_CTL n.val) (dmaCtlWrite n.val (v &&& ~~~1#32)) s
def runDmaResume (n : Fin 16) (v : Word) (s : State) : State :=
  atReg (R.DMA_CH_CTL n.val) (dmaCtlWrite n.val (v ||| 2#32)) s
def runDmaSkip (n : Fin 16) (v : Word) (s : State) : State :=
  atReg (R.DMA_CH_CTL n.val) (dmaCtlWrite n.val (v ||| 4#32)) s

/-- DMA_PI_WRITE (R386). -/
def runDmaPiWrite (n : Fin 16) (v : Word) (s : State) : State :=
  atReg (R.DMA_CH_PI n.val) (fun s =>
    let n := n.val
    let pi := v.toNat % 65536
    if s.dmaSlots n < (pi + 65536 - s.dmaCi n) % 65536 then s.setFlag (F.DMA_CH_STAT_PI_ERR n) true
    else dmaStart n (s.setFld (F.DMA_CH_PI_PI n) pi)) s

/-! ### Transfers -/

/-- The cause for which a burst of a RAW transfer, from byte `a` to byte `last`, faults in the MMU or in DRAM. -/
def rawBurst (h2d : Bool) (ws : List (Nat × Nat)) (a last : Nat) (s : State) : Option Nat :=
  match s.rawDenied ws a, s.rawDenied ws last with
  | some c, _ => some c
  | none, some c => some c
  | none, none =>
    let n := last + 1 - a
    if (if h2d then s.rmwBad (a - dramBase) n else s.burstBad (a - dramBase) n) then some cDramUncorr else none

/-- The cause for which a burst of a packet transfer faults in DRAM. -/
def pageBurst (h2c : Bool) (a n : Nat) (s : State) : Option Nat :=
  if (if h2c then s.rmwBad (a - dramBase) n else s.burstBad (a - dramBase) n) then some cDramUncorr else none

/-- The first burst from `progress` on that faults in the MMU or in DRAM, with its address and cause. -/
def burstFault (c : DmaChan) (d : DmaDesc) (progress : Nat) (s : State) : Option (Nat × Nat × Nat) :=
  let len := c.len d
  let a0 := d.dram - d.dram % 64
  let pages := match c.item with
    | some it => it.pages
    | none => c.pages
  ((List.range (bursts d.base len)).filter (progress ≤ ·)).findSome? (fun k =>
    if d.kind = 3 ∨ d.kind = 4 then
      let a := if k = 0 then d.dram else a0 + 64 * k
      (rawBurst (d.kind == 3) c.windows a (least2 (a0 + 64 * k + 63) (d.dram + d.len - 1)) s).map (fun x => (k, a, x))
    else
      let a := s.pageAddr (nth pages (k / 32)) + 64 * (k % 32)
      (pageBurst (d.kind == 2) a (least2 64 (len - 64 * k)) s).map (fun x => (k, a, x)))

/-- Move the bytes of the bursts from `lo` up to, and not with, burst `hi`. -/
def dmaMove (n : Nat) (d : DmaDesc) (data : List Byte) (lo hi : Nat) (s : State) : State :=
  let c := s.dma n
  let len := c.len d
  let b0 := doneBytes d lo len
  let b1 := doneBytes d hi len
  match d.kind with
  | 1 =>
    match c.item with
    | some it => s.hostWrite (d.host + b0) (sliceBytes it.data b0 (b1 - b0))
    | none => s
  | 2 => s
  | 3 => s.dramWrite (d.dram - dramBase + b0) (sliceBytes data b0 (b1 - b0))
  | 4 => s.hostWrite (d.host + b0) (s.dramRead (d.dram - dramBase + b0) (b1 - b0))
  | _ => s

/-- Hand a packet from the host to forwarding. -/
def hostPacket (n : Nat) (d : DmaDesc) (data : List Byte) (s : State) : State :=
  let c := s.dma n
  let bs := sliceBytes data 0 d.len
  let s := writePages c.pages bs s
  let it : QItem := ⟨c.pages, bs, 4, broadcastId, s.now, 0⟩
  { s with fwd.ingress := s.fwd.ingress ++ [it] }

/-- DMA_DESCRIPTOR_DONE (R383): due while a channel is ACTIVE on a descriptor; `data` are the bytes that the host
returns to read requests. -/
def runDmaDescriptorDone (n : Fin 16) (data : List Byte) (s : State) : State :=
  let n := n.val
  if s.dmaState n ≠ dmaActive then s
  else
    let s := dmaRetry n s
    let c := s.dma n
    match c.desc with
    | none => s
    | some d =>
      let p := s.fld (F.DMA_CH_STAT_PROGRESS n)
      let len := c.len d
      let nb := bursts d.base len
      if c.waiting then s
      else if !s.flag F.PCI_LINK_BME then
        dmaStart n (dmaFault n cBme (d.kind == 2 || d.kind == 3) false p nb (d.host + doneBytes d p len) s)
      else if d.bad then dmaStart n (dmaComplete n 4 0 s)
      else if d.kind = 0 then dmaStart n (dmaComplete n 0 0 s)
      else if d.kind = 1 ∧ d.len < len then
        let own := match c.item with
          | some it => it.pages
          | none => []
        dmaStart n (dmaComplete n 1 0 (freePages own s))
      else
        match burstFault c d p s with
        | some (k, a, cause) =>
          dmaStart n (dmaFault n cause (d.kind == 2 || d.kind == 3) false k nb a (dmaMove n d data p k s))
        | none =>
          let s := dmaMove n d data p nb s
          let s := if d.kind = 2 then hostPacket n d data s else s
          let own := match c.item with
            | some it => it.pages
            | none => []
          let s := freePages own s
          dmaStart n (dmaComplete n 0 len s)

/-- A fault that the DMA channel's surroundings report. -/
def dmaFaultReport (n : Nat) (f : FaultReport) (s : State) : State :=
  if s.dmaState n ≠ dmaActive then s
  else match (s.dma n).desc with
    | none => s
    | some d =>
      let p := s.fld (F.DMA_CH_STAT_PROGRESS n)
      let nb := bursts d.base ((s.dma n).len d)
      let k := least2 (most2 f.progress p) (nb - 1)
      dmaStart n (dmaFault n (f.cause.val + 1) f.write f.preempted k nb f.addr.toNat (dmaMove n d f.data p k s))

/-! ### The fault ring's recovery -/

/-- Write records that wait for room, in ascending channel number. -/
def writePending (s : State) : State :=
  (List.range 16).foldl (fun s n =>
    match (s.dma n).record with
    | some r =>
      if !s.flag (F.DMA_CH_STAT_REC_PENDING n) || s.fltFull || s.flag F.MMU_FLT_STAT_REC_FAIL then s
      else
        let w := fltWrite r s
        let s := w.2.setFlag (F.DMA_CH_STAT_REC_PENDING n) false
        if w.1 then s.setDma n { s.dma n with record := none } else dmaStall n r s
    | none => s) s

/-- MMU_FLT_CI_WRITE (R393). -/
def runMmuFltCiWrite (v : Word) (s : State) : State :=
  atReg R.MMU_FLT_CI (fun s =>
    let was := s.flag F.MMU_FLT_STAT_FULL
    let s := fltFullFlag (s.setFld F.MMU_FLT_CI_CI v.toNat)
    writePending (if !was && s.flag F.MMU_FLT_STAT_FULL then signal fltVector s else s)) s

/-- FLT_RING_RETRY (R394): stalled channels' records, in ascending channel number, with RETRIED set. -/
def fltRetry (s : State) : State :=
  if !s.flag F.MMU_FLT_STAT_REC_FAIL then s
  else
    let s := (s.setFlag F.MMU_FLT_STAT_REC_FAIL false).setFld F.MMU_FLT_STAT_FAIL_CAUSE 0
    (List.range 16).foldl (fun s n =>
      if s.dmaState n ≠ dmaStalled ∨ s.flag F.MMU_FLT_STAT_REC_FAIL = true then s
      else match (s.dma n).record with
        | none => setDmaState n dmaFaulted s
        | some r =>
          let r := { r with flags := r.flags % 4 + 4 }
          if s.fltFull then
            let s := (s.setDma n { s.dma n with record := some r }).setFlag (F.DMA_CH_STAT_REC_PENDING n) true
            dmaFaultInt n (setDmaState n dmaFaulted s)
          else
            let w := fltWrite r s
            if w.1 then
              dmaFaultInt n (setDmaState n dmaFaulted (dmaLatch n r (w.2.setDma n { w.2.dma n with record := none })))
            else w.2) s

/-- A write of MMU_FLT_CTL: LOG2 6 to 12 resizes the ring, and RETRY retries; then records that wait for room are
written. -/
def fltCtlWrite (v : Word) (s : State) : State :=
  let log := v.toNat % 16
  let s := if 6 ≤ log ∧ log ≤ 12 then
      fltFullFlag (((s.setFld F.MMU_FLT_CTL_LOG2 log).setFld F.MMU_FLT_PI_PI 0).setFld F.MMU_FLT_CI_CI 0)
    else s
  writePending (if v.getLsbD 8 then fltRetry s else s)

/-- FLT_RING_RETRY and FLT_RING_RESIZE. A write of MMU_FLT_CTL carries LOG2 too: PI and CI go to 0 (R393). -/
def runFltRingRetry (v : Word) (s : State) : State := atReg R.MMU_FLT_CTL (fltCtlWrite (v ||| 0x100#32)) s
def runFltRingResize (v : Word) (s : State) : State := atReg R.MMU_FLT_CTL (fltCtlWrite v) s

/-! ### BAR2 and host queues -/

/-- BAR2_ACCESS (R447): a read answers in `readData` from its first word; a faulting or unsupported read answers an
open value. -/
def runBar2Access (off : BitVec 26) (write : Bool) (data : List Byte) (s : State) : State :=
  let a := dramBase + s.fld F.PCI_BAR2_CTL_BASE * 2 ^ 26 + off.toNat
  let lost (s : State) : State :=
    if write then s
    else
      let r := s.draw
      { r.2 with readData := BitVec.ofNat 32 r.1 }
  if !s.hostUp then s
  else if !s.flag F.PCI_BAR2_CTL_EN || s.dramBytes ≤ s.fld F.PCI_BAR2_CTL_BASE * 2 ^ 26 then lost s
  else
    let n := if write then data.length else 4
    match (List.range n).findSome? (fun i => (s.bar2Denied write (a + i)).map (fun c => (a + i, c))) with
    | some (at', c) => lost (looseFault 0x0F c write false 0 at' 0 (bursts a n) s)
    | none =>
      if write then
        if s.rmwBad (a - dramBase) data.length then looseFault 0x0F cDramUncorr true false 0 a 0 (bursts a data.length) s
        else s.dramWrite (a - dramBase) data
      else if s.burstBad (a - dramBase) 4 then lost (looseFault 0x0F cDramUncorr false false 0 a 0 1 s)
      else { s with readData := BitVec.ofNat 32 (leNat (s.dramRead (a - dramBase) 4)) }

/-- QUE_DROP (R55): the rest of the begun item of QID 0 to 15 is freed, and the channel that is reading it goes on to
the next item with the same descriptor: an ACTIVE one now, a PAUSED or halted one when it goes on. -/
def runQueDrop (v : Word) (s : State) : State :=
  atReg R.QUE_DROP (fun s =>
    let q := v.toNat % 64
    if 15 < q then s
    else if !(s.queue q).agrees then queueFault q s
    else match (s.dma q).item with
      | none => s
      | some _ =>
        let s := (dmaRelease q s).setFld (F.DMA_CH_STAT_PROGRESS q) 0
        if s.dmaState q = dmaActive then dmaAgain q s else s) s

/-- PCIE_BME_CLEAR (R46, R387, R467): the rings stop with cause 4; what the rings held is released; a channel
with bursts left faults. -/
def runPcieBmeClear (s : State) : State :=
  if !s.flag F.PCI_LINK_BME then s
  else
    let s := s.setFlag F.PCI_LINK_BME false
    let s := (List.range 16).foldl (fun s n => ringStop n 4 s) s
    let s := (List.range 16).foldl (fun s n =>
      match s.dmaState n == dmaActive, (s.dma n).desc with
      | true, some d =>
        let p := s.fld (F.DMA_CH_STAT_PROGRESS n)
        let len := (s.dma n).len d
        dmaStart n (dmaFault n cBme (d.kind == 2 || d.kind == 3) false p (bursts d.base len) (d.host + doneBytes d p len) s)
      | _, _ => s) s
    resVanishAll 2 0x80 0x8F (abandonOf 3 0x80 0x8F s)

end Sys2Proof.Machine
end

