-- ==== Sys2Proof/Machine/Journal.lean ====
section
/-! DEFINITION. The event journal: the writer, the DRAM ring, the always-on ring, and the cause registers
(R89, R90, R460, R519 to R528). -/

namespace Sys2Proof.Machine

/-! ### Order (R89) -/

/-- `a` comes before `b`: by CALCNT, then source, then posting order. -/
def recBefore (a b : JRec) : Bool :=
  a.cal.toNat < b.cal.toNat || (a.cal == b.cal && a.src.toNat ≤ b.src.toNat)

/-- The first record of the window in the order of R89. -/
def firstRec : List (Nat × JRec) → Option (Nat × JRec)
  | [] => none
  | e :: l => match firstRec l with
    | none => some e
    | some f => if recBefore e.2 f.2 then some e else some f

/-- Take one record out of the window. -/
def dropRec (e : Nat × JRec) : List (Nat × JRec) → List (Nat × JRec)
  | [] => []
  | f :: l => if f = e then l else f :: dropRec e l

/-- A record reaches the writer after one with a later position was emitted. -/
def isLate (last : Nat × Nat) (r : JRec) : Bool :=
  r.cal.toNat < last.1 || (r.cal.toNat == last.1 && r.src.toNat < last.2)

/-! ### The rings -/

/-- The DRAM ring's base as an internal address. -/
def State.evjBase (s : State) : Nat := s.fld F.EVJ_BASE_LO_BASE * 2 ^ 21 + s.fld F.EVJ_BASE_HI_BASE * 2 ^ 32

/-- A loss begins the second that JOURNAL_DROP reports (R526). -/
def dropSecond (s : State) : State :=
  if s.journal.dropAt.isNone then { s with journal.dropAt := some s.now } else s

/-- One record of the DRAM ring is dropped; one unread record of the always-on ring is written over. -/
def dropCount (s : State) : State :=
  (dropSecond { s with journal.dropped := s.journal.dropped + 1 }).count F.EVJ_DROP_DRAM_DROPPED 1
def lostCount (s : State) : State :=
  (dropSecond { s with journal.lost := s.journal.lost + 1 }).count F.EVJ_AON_LOST_COUNT 1

/-- Hold a record, or drop it where the buffer of 128 is full (R523). -/
def holdRec (r : JRec) (s : State) : State :=
  if s.journal.held.length < 128 then { s with journal.held := s.journal.held ++ [r] }
  else dropCount s

/-- Write into the always-on ring; an unread record written over is lost (R525). -/
def aonWrite (r : JRec) (s : State) : State :=
  let slot := s.fld F.EVJ_AON_WR_WR % 256
  let s := match s.journal.aon.get none slot with
    | some (_, false) => lostCount s
    | _ => s
  { s with journal.aon := s.journal.aon.set none slot (some (r, false)) }.wrapCount F.EVJ_AON_WR_WR 1

/-- A DRAM ring write at an address faults: the MMU records it and the ring is FAULTED (R524). -/
def journalFault (cause a : Nat) (s : State) : State :=
  let s := looseFault 0x0E cause true false 0 a 0 1 s
  let s := s.setFlag F.EVJ_CTL_EN false
  let s := s.setFld F.EVJ_STAT_STATE 2
  mgtCause 19 (post 1 sevDegraded 0x1421 [] s)

/-- The ring can be written: enabled, not FAULTED, and DRAM not in self-refresh (R523). -/
def State.ringReady (s : State) : Bool := s.fld F.EVJ_STAT_STATE == 1 && s.seq.mode != .ember

/-- Write one record into the DRAM ring (R522); `false` where it was held back by a fault. -/
def dramRec (r : JRec) (s : State) : State :=
  if !s.ringReady then holdRec r s
  else if s.flag F.EVJ_CTL_HOLD && 65536 ≤ s.evjUnread then
    dropCount s
  else
    let a := s.evjBase + 32 * (s.fld F.EVJ_WR_WR % 65536)
    if !s.inDram a 32 then holdRec r (journalFault cTranslation a s)
    else if s.inRegion a || s.inFltRing a then holdRec r (journalFault cPermission a s)
    else if s.rmwBad (a - dramBase) 32 then holdRec r (journalFault cDramUncorr a s)
    else
      let s := (s.dramWrite (a - dramBase) r.bytes).wrapCount F.EVJ_WR_WR 1
      if s.causeHolds 5 then mgtCause 5 s else s

/-- Records that their chapters send to the always-on ring whatever their severity: RESET_CAUSE, JOURNAL_FAULT,
JOURNAL_DROP, WDT_RELEASE, DEBUG_OPENED, FLT_RING_FAIL. -/
def aonNamed (code : Nat) : Bool := [0x1307, 0x1421, 0x1422, 0x1203, 0x0C02, 0x1004].contains code

/-- One console line (R460): its text is open, its length a free value from 1 to 128; a line that does not fit the
buffer is dropped whole. -/
def uartText (s : State) : State :=
  if !s.flag F.MGT_UART_CFG_LOG_EN then s
  else
    let d := s.draw
    let n := d.1 % 128 + 1
    if 256 < d.2.host.uart + n then d.2.count F.MGT_UART_CFG_DROPPED 1
    else { d.2 with host.uart := d.2.host.uart + n }

/-- One console line per record of severity RECOVERED or above (R460). -/
def uartLine (r : JRec) (s : State) : State := if r.sev.toNat < sevRecovered then s else uartText s

/-- Emit a record (R521): both rings in the writer's order, FATAL latched and signalled (R520). -/
def emitRec (r : JRec) (s : State) : State :=
  let s := if isLate s.journal.last r then s.count F.EVJ_DROP_LATE 1
    else { s with journal.last := (r.cal.toNat, r.src.toNat) }
  let s := s.wrapCount (F.EVJ_SEV_COUNT (r.sev.toNat % 4)) 1
  let s := uartLine r s
  let aonOnly := s.inMode [.cold, .quarantine]
  let s := if aonOnly then s else dramRec r s
  let s := if aonOnly || s.fld F.EVJ_CTL_AON_MIN ≤ r.sev.toNat || r.sev.toNat == sevFatal ||
      aonNamed r.code.toNat then aonWrite r s else s
  if r.sev.toNat == sevFatal then
    mgtCause 16 (if s.journal.fatal.isNone then { s with journal.fatal := some r } else s)
  else s

/-- JOURNAL_EMIT (R90): the first record of the window once it has lain there 120,000 ticks, a late one at
once. -/
def runJournalEmit (s : State) : State :=
  match firstRec s.journal.window with
  | none => s
  | some e =>
    if isLate s.journal.last e.2 || e.1 + 120000 ≤ s.now || s.now < e.1 then
      emitRec e.2 { s with journal.window := dropRec e s.journal.window }
    else s

/-- JOURNAL_RECORD_POST. -/
def runJournalRecordPost (src sev : Byte) (code : BitVec 16) (args : List Byte) (s : State) : State :=
  post src.toNat sev.toNat code.toNat args s

/-- JOURNAL_DROP (R526): due a second after the first loss, with both counts for that second. -/
def runJournalDrop (s : State) : State :=
  match s.journal.dropAt with
  | none => s
  | some t =>
    if s.now < t + 120000000 then s
    else
      post 1 sevDegraded 0x1422 (arg2 s.journal.dropped ++ arg2 s.journal.lost)
        { s with journal.dropped := 0, journal.lost := 0, journal.dropAt := none }

/-- Held records go first when the ring can be written again (R523). -/
def flushHeld (s : State) : State :=
  let l := s.journal.held
  l.foldl (fun s r => dramRec r s) { s with journal.held := [] }

/-- LEVEL is a state cause (R527): a level that is already reached sets its bit. -/
def levelCheck (s : State) : State := if s.causeHolds 5 then mgtCause 5 s else s

/-- A write of EVJ_CTL: EN from OFF begins a new count; from FAULTED the count continues (R522, R524). -/
def evjCtlWrite (v : Word) (s : State) : State :=
  atReg R.EVJ_CTL (fun s =>
    let s := s.setFld F.EVJ_CTL_HOLD (v.toNat / 256)
    let s := s.setFld F.EVJ_CTL_AON_MIN v.toNat
    let en := v.toNat / 2 ^ 31 % 2 == 1
    let s := levelCheck (s.setFlag F.EVJ_CTL_EN en)
    if !en then (if s.fld F.EVJ_STAT_STATE == 1 then s.setFld F.EVJ_STAT_STATE 0 else s)
    else if s.fld F.EVJ_STAT_STATE == 1 then s
    else
      let s := if s.fld F.EVJ_STAT_STATE == 0 then s.setFld F.EVJ_WR_WR 0 else s
      flushHeld (s.setFld F.EVJ_STAT_STATE 1)) s

/-- JOURNAL_ENABLE: the write has EN = 1. -/
def runJournalEnable (v : Word) (s : State) : State := evjCtlWrite (v ||| 0x80000000#32) s

/-- EVJ_RD_WRITE (R522): a count beyond EVJ_WR is ignored. -/
def runEvjRdWrite (v : Word) (s : State) : State :=
  atReg R.EVJ_RD (fun s =>
    if (v.toNat + 2 ^ 32 - s.fld F.EVJ_RD_RD) % 2 ^ 32 ≤ s.evjUnread then s.setWord R.EVJ_RD v else s) s

/-- A write of EVJ_CLR. -/
def evjClrWrite (v : Word) (s : State) : State :=
  atReg R.EVJ_CLR (fun s =>
    let s := if v.toNat / 4 % 2 = 1 then { s with journal.fatal := none } else s
    let s := if v.toNat / 2 % 2 = 1 then
        (List.range 4).foldl (fun s i => s.setFld (F.EVJ_SEV_COUNT i) 0) s else s
    if v.toNat % 2 = 1 then (s.setWord R.EVJ_DROP 0).setWord R.EVJ_AON_LOST 0 else s) s

/-- EVJ_FATAL_CLEAR: the write has FATAL = 1. -/
def runEvjFatalClear (v : Word) (s : State) : State := evjClrWrite (v ||| 4#32) s

/-- EVJ_AON_WIN_READ (R525): the record counts as read. -/
def runEvjAonWinRead (k : Fin 8) (s : State) : State :=
  let slot := s.fld F.EVJ_AON_SEL_SLOT
  match s.journal.aon.get none slot with
  | some (r, _) =>
    { s with journal.aon := s.journal.aon.set none slot (some (r, true)),
             readData := BitVec.ofNat 32 (leAt r.bytes (4 * k.val) 4) }
  | none => { s with readData := 0 }

/-- JOURNAL_AON_READ (R525): records from FROM on, no more than COUNT; all are then read. -/
def opJournalAonRead (p : Packet) (s : State) : State :=
  checked p [(p.u8 4 < 1 || 15 < p.u8 4 || p.dirty 5 3, St.BAD_PARAM)] (fun s =>
    let wr := s.fld F.EVJ_AON_WR_WR
    let oldest := wr - 256
    let first := if p.u32 0 ≤ oldest then oldest else p.u32 0
    let n := if wr - first ≤ p.u8 4 then wr - first else p.u8 4
    let nums := (List.range n).map (fun i => (first + i) % 256)
    let recs := nums.map (fun i => match s.journal.aon.get none i with
      | some (r, _) => r.bytes
      | none => leBytes 32 0)
    let aon := nums.foldl (fun (m : Sparse (Option (JRec × Bool))) i => match m.get none i with
      | some (r, _) => m.set none i (some (r, true))
      | none => m) s.journal.aon
    done p (leBytes 4 wr ++ leBytes 4 first ++ recs.flatten) { s with journal.aon := aon }) s

def runJournalAonRead (p : Packet) (s : State) : State :=
  mgtCommand 0xF301 (lenIs 8) allButCold opJournalAonRead p s

/-- MGT_INT_CLEAR (R528): a clear of a state cause whose state still holds leaves its bit set. -/
def runMgtIntClear (v : Word) (s : State) : State :=
  atReg R.MGT_INT (fun s =>
    ([0, 1, 2, 3, 4, 5, 6, 16, 17, 18, 19, 20] : List Nat).foldl (fun s i =>
      if v.toNat / 2 ^ i % 2 = 1 ∧ s.causeHolds i = false then s.setFlag ⟨0x180100, i, 1⟩ false
      else s) s) s

end Sys2Proof.Machine
end

