-- ==== Sys2Proof/Machine/Dlq.lean ====
section
/-! DEFINITION. Downlink queues: admission, age and discard (R356 to R359). -/

namespace Sys2Proof.Machine

/-- A node's queue. -/
def State.dlqOf (s : State) (id : Nat) : List DlFrame := s.fwd.dlq.get [] id

/-- Replace a node's queue; DL_QDEPTH counts its frames, but is not written while the entry is FROZEN (R317). -/
def State.setDlq (id : Nat) (l : List DlFrame) (s : State) : State :=
  let s := { s with fwd.dlq := s.fwd.dlq.set [] id l }
  if s.nf id N.FROZEN = 1 then s else s.setNf id N.DL_QDEPTH l.length

/-- Frames that a node's queue may hold: 0 acts as 1, values above 32 as 32. -/
def State.dlqMax (s : State) : Nat := least2 32 (most2 1 (s.fld F.FWD_DLQ_CFG_MAX))

/-- What a downlink frame carries before it is built. -/
structure DlContent where
  ie : List Byte
  payload : List Byte
  raw : List Byte
  dest : Nat
  keyUpd : Nat
  camp : Nat
  deriving DecidableEq, Repr

/-- Queue a datagram whole: each frame takes a page; one that does not fit, or finds no page, is dropped (R357). The
result says whether it was queued. -/
def dlqAdmit (id : Nat) (cs : List DlContent) (s : State) : Bool × State :=
  let q := s.dlqOf id
  if s.dlqMax < q.length + cs.length ∨
      s.fld F.FWD_DLQ_PAGES_LIMIT < s.fld F.FWD_DLQ_STAT_PAGES + cs.length then
    (false, s.count F.FWD_DROP1_DLQ_FULL 1)
  else match allocPages false cs.length s with
    | none => (false, s.count F.FWD_DROP3_NO_BUF 1)
    | some (ps, s) =>
      let d := s.fwd.nextDgram
      let fs := (ps.zip cs).map (fun (x : Nat × DlContent) =>
        (⟨x.1, s.now, d, x.2.ie, x.2.payload, 0, [], x.2.raw, x.2.dest, x.2.keyUpd, x.2.camp⟩ : DlFrame))
      let s := (ps.zip cs).foldl (fun s x => writePages [x.1] (x.2.ie ++ x.2.payload) s) s
      let s := { s with fwd.nextDgram := d + 1 }
      let s := s.count F.FWD_DLQ_STAT_PAGES cs.length
      (true, (s.setDlq id (q ++ fs)).wrapCount F.FWD_DN_CNT_DN 1)

/-- Take frames out of a node's queue: their pages are returned. -/
def dlqRemove (id : Nat) (out : DlFrame → Bool) (s : State) : Nat × State :=
  let q := s.dlqOf id
  let gone := q.filter out
  let s := freePages (gone.map (·.page)) s
  let s := s.uncount F.FWD_DLQ_STAT_PAGES gone.length
  (gone.length, if gone.isEmpty then s else s.setDlq id (q.filter (fun f => !out f)))

/-- Discard a node's queue whole (R359): the frames discarded are counted. -/
def dlqFlush (id : Nat) (s : State) : Nat × State :=
  let r := dlqRemove id (fun _ => true) s
  (r.1, r.2.count F.FWD_DROP2_FLUSHED r.1)

/-- The age check at the start of an event (R358): a frame that has waited longer than TTL_S goes with what remains
of its datagram. -/
def dlqExpire (id : Nat) (s : State) : State :=
  let ttl := s.fld F.FWD_DLQ_CFG_TTL_S * 120000000
  if ttl = 0 then s
  else
    let old := ((s.dlqOf id).filter (fun f => decide (f.at' + ttl < s.now))).map (·.dgram)
    let r := dlqRemove id (fun f => old.contains f.dgram) s
    r.2.count F.FWD_DROP2_TTL r.1

end Sys2Proof.Machine
end

