-- ==== Sys2Proof/Machine/Counters.lean ====
section
/-! DEFINITION. Outgoing counters: scopes, reservations, the NV counter store and external persistence (R268 to
R278). -/

namespace Sys2Proof.Machine

def CTR_EXT_OFF : Nat := 0x8600
def CTR_SCOPE_BAD : Nat := 0x8601

/-! ### The store (R271 to R273) -/

/-- A physical row as it leaves the factory: row r holds logical row r, with no reservation. -/
def factoryRow (i : Nat) : CtrRow := ⟨i, 0, 0, [], decide (i < 512), false⟩
def State.ctrRow (s : State) (i : Nat) : CtrRow := (s.frames.rows.get none i).getD (factoryRow i)
def State.setCtrRow (i : Nat) (r : CtrRow) (s : State) : State :=
  { s with frames.rows := s.frames.rows.set none i (if r = factoryRow i then none else some r) }

/-- The copy of a logical row that counts: of those with a valid CRC, the one with the highest SEQ. -/
def State.ctrCopy (s : State) (l : Nat) : Option Nat :=
  (((List.range 544).filter (fun i => (s.ctrRow i).valid && (s.ctrRow i).lrow == l)).foldl
    (fun (best : Option Nat) i => match best with
      | none => some i
      | some b => if (s.ctrRow b).seq < (s.ctrRow i).seq then some i else some b) none)

/-- Stored P of a scope, where its row has a valid copy. -/
def State.ctrStored (s : State) (scope : Nat) : Option Nat :=
  (s.ctrCopy (scope / 256)).map (fun i => (s.ctrRow i).vals.get 0 (scope % 256))

/-- Rows not retired beyond the 512 (R273). -/
def State.ctrSpares (s : State) : Nat := countIf (fun i => !(s.ctrRow i).retired) (List.range 544) - 512

def State.ctrExhausted (s : State) : Bool := s.fld F.NVS_CTR_STAT_STATE == 2
def State.extPersist (s : State) : Bool := s.flag F.NVS_CTR_CTL_EXT_PERSIST

/-- NVS_CTR_STAT and NVS_CTR_WEAR follow the rows. -/
def ctrStat (s : State) : State :=
  let n := s.ctrSpares
  let s := s.setFld F.NVS_CTR_STAT_SPARES n
  let s := if s.ctrExhausted then s else s.setFld F.NVS_CTR_STAT_STATE (if n ≤ 4 then 1 else 0)
  s.setFld F.NVS_CTR_WEAR_MAX_PCNT (greatest (((List.range 544).filter (fun i => !(s.ctrRow i).retired)).map
    (fun i => (s.ctrRow i).pcnt)))

/-- The free row with the lowest PCNT, ties to the lowest number (R272). -/
def State.ctrTarget (s : State) : Option Nat :=
  let used := (List.range 512).filterMap s.ctrCopy
  (sortBy (fun i => (s.ctrRow i).pcnt)
    ((List.range 544).filter (fun i => !(s.ctrRow i).retired && !used.contains i))).head?

/-! ### Reservations (R269, R276, R277) -/

/-- The partner is reachable for R269 (R440). -/
def State.partnerSynced (s : State) : Bool := s.fld F.PAR_STAT_MIRROR == 2

/-- The scope's P is known: its row had a copy at the last reset, or the host restored it (R275). -/
def State.ctrKnown (s : State) (scope : Nat) : Bool :=
  !s.frames.lostRows.contains (scope / 256) || s.frames.restored.get 0 scope != 0

/-- The halves of a scope's counters that a usable reservation covers (R269): those below. -/
def State.usableHalves (s : State) (scope : Nat) : Nat :=
  match s.frames.usable.get 0 scope with
  | 0 => s.frames.usable0
  | n + 1 => n

/-- The half at which a scope's counter restarted (R268, R270). -/
def State.restartHalf (s : State) (scope : Nat) : Nat :=
  match s.frames.restart.get 0 scope with
  | 0 => 1
  | n + 1 => n

/-- Scopes may be used: with external persistence not before CTR_RESTORE with DONE (R277). -/
def State.ctrOpen (s : State) : Bool := !s.extPersist || s.frames.restoreDone

/-- A reservation satisfies R269. -/
def State.resvReady (s : State) (r : Resv) : Bool :=
  (if s.extPersist && r.rseq != 0 then r.acked else r.persisted) && (r.mirrored || !s.partnerSynced)

/-- Reservations that have become usable leave the list. -/
def resvSettle (s : State) : State :=
  let l := s.frames.resv
  let s' := (l.filter s.resvReady).foldl (fun (s : State) r =>
    if s.usableHalves r.scope ≤ r.p then { s with frames.usable := s.frames.usable.set 0 r.scope (r.p + 2) } else s) s
  { s' with frames.resv := l.filter (fun r => !s.resvReady r) }

/-- What a row without a valid copy is programmed with: what the host restored, and an open value for every other scope
of it (R275, R276). -/
def State.lostVals (s : State) (l : Nat) : Sparse Nat :=
  (List.range 256).foldl (fun (m : Sparse Nat) i =>
    m.set 0 i (match s.frames.restored.get 0 (256 * l + i) with
      | 0 => Config.lostSlot (256 * l + i) % 65536
      | p + 1 => p)) []

/-- Begin the program of the first row that waits (R272). The values are those stored with every reservation of the
row that waits in them. -/
def ctrKick (s : State) : State :=
  match s.frames.programming, s.frames.writeQueue with
  | none, l :: rest =>
    if s.ctrExhausted then { s with frames.writeQueue := [] }
    else
      let old := match s.ctrCopy l with
        | some i => (s.ctrRow i).vals
        | none => s.lostVals l
      let vals := (s.frames.resv.filter (fun r => r.scope / 256 == l)).foldl
        (fun (m : Sparse Nat) r => m.set 0 (r.scope % 256) r.p) old
      let phys := match s.ctrTarget with
        | some i => i
        | none => (s.ctrCopy l).getD l
      { s with frames.writeQueue := rest, frames.programming := some ⟨phys, l, vals⟩ }
  | _, _ => s

/-- Queue a logical row; an urgent one goes to the head (R270). -/
def ctrQueue (l : Nat) (urgent : Bool) (s : State) : State :=
  let q := s.frames.writeQueue
  let q := if urgent then l :: q.filter (· != l) else if q.contains l then q else q ++ [l]
  ctrKick { s with frames.writeQueue := q }

/-- The reply of CTR_RESV_FETCH. -/
def fetchBody (s : State) (fromSeq max : Nat) : List Byte :=
  let l := (sortBy (·.rseq) (s.frames.resv.filter (fun r => r.rseq != 0 && !r.acked && decide (fromSeq ≤ r.rseq)))).take max
  leBytes 2 l.length ++ leBytes 2 0 ++ leBytes 4 (s.fld F.NVS_CTR_RSEQ_RSEQ) ++
    l.flatMap (fun r => leBytes 4 r.rseq ++ leBytes 4 r.scope ++ leBytes 2 r.p ++ leBytes 2 0)

/-- Some reservation answers a fetch. -/
def State.fetchReady (s : State) (fromSeq : Nat) : Bool :=
  s.frames.resv.any (fun r => r.rseq != 0 && !r.acked && decide (fromSeq ≤ r.rseq))

/-- Fetches that wait are answered when a reservation arises (CTR_RESV_FETCH). -/
def fetchServe (s : State) : State :=
  let ready := s.frames.fetchWait.filter (fun w => s.fetchReady w.2.1)
  let s' := { s with frames.fetchWait := s.frames.fetchWait.filter (fun w => !s.fetchReady w.2.1) }
  ready.foldl (fun s w => finish w.1 St.OK (fetchBody s w.2.1 w.2.2.1) s) s'

/-- Request the reservation `p` of a scope (R269). In EXHAUSTED without external persistence none is requested
(R274); a 16-bit value has no successor of 0xFFFF. -/
def ctrRequest (scope p : Nat) (urgent : Bool) (s : State) : State :=
  if !s.ctrKnown scope || p < s.usableHalves scope || 65535 < p then s
  else if s.frames.resv.any (fun r => r.scope == scope && decide (p ≤ r.p)) then
    if urgent && s.frames.writeQueue.contains (scope / 256) then ctrQueue (scope / 256) true s else s
  else if s.ctrExhausted && !s.extPersist then s
  else
    let ext := s.extPersist
    let s := if ext then s.wrapCount F.NVS_CTR_RSEQ_RSEQ 1 else s
    let r : Resv := ⟨scope, p, if ext then s.fld F.NVS_CTR_RSEQ_RSEQ else 0, false, false, !s.partnerSynced⟩
    let s := { s with frames.resv := s.frames.resv ++ [r] }
    let s := if s.pairU.swept then
        zoantSend (s.fld F.PAR_STAT_PARTNER_ID) 2 8 (.mirror (.reservation scope p)) s else s
    let s := if ext then fetchServe s else s
    if s.ctrExhausted then s else ctrQueue (scope / 256) urgent s

/-- The partner has acknowledged its mirror of a reservation (R269). -/
def resvMirrored (scope p : Nat) (s : State) : State :=
  resvSettle { s with frames.resv := s.frames.resv.map (fun r =>
    if r.scope = scope ∧ r.p = p then { r with mirrored := true } else r) }

/-- The reservation that a scope needs after a reset is still to be requested. -/
def State.ctrOwes (s : State) (scope : Nat) : Bool :=
  let p := s.restartHalf scope + 1
  scope != broadcastId && s.ctrKnown scope && decide (s.usableHalves scope ≤ p) && decide (p ≤ 65535) &&
    !s.frames.resv.any (fun r => r.scope == scope && decide (p ≤ r.p))

/-- Scopes of a logical row. -/
def rowScopes (l : Nat) : List Nat := (List.range 256).map (fun i => 256 * l + i)

/-- The store and, in EXHAUSTED, the host have nothing to do: what was requested last is served. -/
def State.ctrIdle (s : State) : Bool :=
  s.frames.programming.isNone && s.frames.writeQueue.isEmpty && s.ctrOpen &&
    (if s.ctrExhausted then s.extPersist && s.frames.resv.isEmpty else true)

/-- Background requests after a reset (R270): once the store is idle, the next logical row, in ascending order, that
owes any. -/
def ctrBackground (s : State) : State :=
  if !s.ctrIdle then s
  else match (List.range 512).find? (fun l => decide (s.frames.bgRow ≤ l) && (rowScopes l).any s.ctrOwes) with
    | none => { s with frames.bgRow := 512 }
    | some l =>
      (rowScopes l).foldl (fun s scope => if s.ctrOwes scope then ctrRequest scope (s.restartHalf scope + 1) false s else s)
        { s with frames.bgRow := l + 1 }

/-- The store is EXHAUSTED (R273). -/
def ctrExhaust (s : State) : State :=
  let s := burn 0x146 1#32 (s.setFld F.NVS_CTR_STAT_STATE 2)
  post 37 sevDegraded 0x0923 [] { s with frames.writeQueue := [] }

/-- CTR_ROW_WRITE_DONE (R272, R273): a program and its read-back end. -/
def runCtrRowWriteDone (ok : Bool) (s : State) : State :=
  match s.frames.programming with
  | none => s
  | some g =>
    let s := { s with frames.programming := none }
    let r := s.ctrRow g.phys
    let inPlace := s.ctrCopy g.lrow == some g.phys
    let s := s.wrapCount F.NVS_CTR_PROG_PROGRAMS 1
    let s := { s with frames.rowSeq := s.frames.rowSeq + 1 }
    if ok then
      let s := s.setCtrRow g.phys ⟨g.lrow, s.frames.rowSeq, r.pcnt + 1, g.vals, true, false⟩
      let s := { s with frames.resv := s.frames.resv.map (fun x =>
        if x.scope / 256 = g.lrow ∧ x.p ≤ g.vals.get 0 (x.scope % 256) then { x with persisted := true } else x) }
      ctrBackground (ctrKick (resvSettle (ctrStat s)))
    else if inPlace then
      ctrExhaust (ctrStat (s.setCtrRow g.phys { r with pcnt := r.pcnt + 1, valid := false }))
    else
      let was := s.ctrSpares
      let s := s.setCtrRow g.phys { r with pcnt := r.pcnt + 1, valid := false, retired := true }
      let s := post 37 sevDegraded 0x0921 [] (ctrStat s)
      let s := if s.ctrSpares == 4 && was == 5 then post 37 sevDegraded 0x0922 [] s else s
      ctrQueue g.lrow true s

/-! ### Assigning a counter (R268 to R270, R274) -/

/-- What a scope answers to a frame that needs a counter. -/
inductive CtrAns
  | got (c : Nat)
  /-- Its reservation is not usable yet. -/
  | wait
  /-- None will be. -/
  | exhausted
  deriving DecidableEq, Repr

/-- The counter that is never assigned (R268). -/
def ctrLast : Nat := 0xFFFFFFFF

/-- A scope's counter, the last one assigned: after a reset that clears OUT_CTR its restart value (R270). -/
def State.outCtr (s : State) (scope : Nat) : Nat :=
  most2 (s.nf scope N.OUT_CTR) (least2 (65536 * s.restartHalf scope) ctrLast)

/-- The counter that the scope assigns next. -/
def State.nextCtr (s : State) (scope : Nat) : Nat := s.outCtr scope + 1

/-- A half of a scope's counters is usable. -/
def State.halfUsable (s : State) (scope h : Nat) : Bool :=
  s.ctrOpen && s.ctrKnown scope && decide (h < s.usableHalves scope)

/-- CTR_SCOPE_EXHAUSTED (R274), at most once a second, with the number of scopes since the last. -/
def ctrStarved (scope : Nat) (s : State) : State :=
  if !s.ctrExhausted || s.extPersist then s
  else
    let l := if s.frames.scopeExh.contains scope then s.frames.scopeExh else scope :: s.frames.scopeExh
    let due := match s.frames.scopeExhAt with
      | none => true
      | some t => t + 120000000 ≤ s.now
    if due then
      post 37 sevDegraded 0x0924 (arg2 l.length) { s with frames.scopeExh := [], frames.scopeExhAt := some s.now }
    else { s with frames.scopeExh := l }

/-- Assign a scope's next counter. A counter in half H requests the reservation H + 1. -/
def ctrAssign (scope : Nat) (s : State) : CtrAns × State :=
  let c := s.nextCtr scope
  let h := c / 65536
  if ctrLast ≤ c || !s.ctrKnown scope then (.exhausted, s)
  else if !s.ctrOpen then (.wait, s)
  else if s.halfUsable scope h then
    (.got c, ctrRequest scope (h + 1) false (s.setNf scope N.OUT_CTR c))
  else if s.ctrExhausted && !s.extPersist then (.exhausted, ctrStarved scope s)
  else (.wait, ctrRequest scope (h + 1) true s)

/-- A district key was placed in slot 2: the group scope restarts at counter 0 (R268). -/
def groupRestart (s : State) : State :=
  let s := (s.setNf 0 N.OUT_CTR 0)
  let s := { s with frames.restart := s.frames.restart.set 0 0 1, frames.groupLowAt := none,
                    frames.usable := s.frames.usable.set 0 0 1, frames.resv := s.frames.resv.filter (fun r => r.scope != 0) }
  ctrRequest 0 1 true s

/-- The store at a reset that clears OUT_CTR (R270, R272 to R275, R277). -/
def ctrReset (s : State) : State :=
  let lost := (List.range 512).filter (fun l => (s.ctrCopy l).isNone)
  let stored : Sparse Nat := (List.range 512).foldl (fun (m : Sparse Nat) l =>
    match s.ctrCopy l with
    | some i => (s.ctrRow i).vals.foldl (fun (m : Sparse Nat) e => m.set 0 (256 * l + e.1) e.2) m
    | none => m) []
  let eol := (s.otp.get 0 0x146).getLsbD 0
  let s := { s with frames.writeQueue := [], frames.programming := none, frames.resv := [], frames.restored := [],
                    frames.restoreDone := false, frames.lostRows := lost, frames.scopeExh := [],
                    frames.scopeExhAt := none, frames.fetchWait := [], frames.groupLowAt := none, frames.bgRow := 512,
                    frames.restart := stored.map (fun (e : Nat × Nat) => (e.1, e.2 + 2)),
                    frames.usable := if eol then [] else stored.map (fun (e : Nat × Nat) => (e.1, e.2 + 2)),
                    frames.usable0 := if eol then 0 else 1 }
  let s := s.setFld F.NVS_CTR_STAT_ROWS_LOST lost.length
  let s := s.setFld F.NVS_CTR_STAT_STATE (if eol then 2 else 0)
  let s := lost.foldl (fun s l => post 37 sevDegraded 0x0925 (arg2 l) s) s
  ctrStat s

/-- CTR_GROUP_LOW (R268): due when the group counter is in half 0xF000 or above and no record of the last 86,400 s
says so. -/
def runCtrGroupLow (s : State) : State :=
  let h := s.outCtr 0 / 65536
  let due := match s.frames.groupLowAt with
    | none => true
    | some t => t + 86400 * 120000000 ≤ s.now
  if 0xF000 ≤ h && due then
    post 37 sevDegraded 0x0927 (arg2 h) { s with frames.groupLowAt := some s.now }
  else s

/-! ### Commands (R283) -/

/-- A scope that CTR_SCOPE_BAD refuses. -/
def State.scopeBad (s : State) (scope : Nat) : Bool :=
  scope == broadcastId || (scope != 0 && s.nodeState scope == nsFree)

/-- CTR_QUERY. -/
def opCtrQuery (p : Packet) (s : State) : State :=
  let scope := p.u32 0
  checked p [(broadcastId < scope, St.BAD_PARAM), (s.scopeBad scope, CTR_SCOPE_BAD)] (fun s =>
    let h := s.nextCtr scope / 65536
    let u := s.usableHalves scope
    let pv := if u = 0 then (s.ctrStored scope).getD 0 else u - 1
    let hostWait := s.frames.resv.any (fun r => r.scope == scope && r.rseq != 0 && !r.acked)
    let f := (if s.halfUsable scope h then 1 else 0) + (if s.halfUsable scope (h + 1) then 2 else 0) +
      (if s.frames.lostRows.contains (scope / 256) then 4 else 0) + (if hostWait then 8 else 0)
    done p (leBytes 4 (s.outCtr scope) ++ leBytes 2 pv ++ leBytes 1 f ++
      leBytes 1 (s.fld F.NVS_CTR_STAT_STATE) ++ leBytes 1 (s.fld F.NVS_CTR_STAT_SPARES) ++ leBytes 3 0) s) s

def runCtrQuery (p : Packet) (s : State) : State := command 0x6101 (lenIs 4) coreModes opCtrQuery p s

/-- CTR_RESV_FETCH. -/
def opCtrResvFetch (p : Packet) (s : State) : State :=
  checked p
    [(p.u16 4 < 1 || 40 < p.u16 4 || p.dirty 6 2, St.BAD_PARAM), (!s.extPersist, CTR_EXT_OFF)]
    (fun s =>
      if s.fetchReady (p.u32 0) || p.u32 8 = 0 then done p (fetchBody s (p.u32 0) (p.u16 4)) s
      else
        let r := defer p s
        { r.2 with frames.fetchWait := r.2.frames.fetchWait ++ [(r.1, p.u32 0, p.u16 4, r.2.now + p.u32 8)] }) s

def runCtrResvFetch (p : Packet) (s : State) : State := command 0x6102 (lenIs 12) coreModes opCtrResvFetch p s

/-- CTR_RESV_FETCH_TIMEOUT: WAIT ticks have passed. -/
def runCtrResvFetchTimeout (s : State) : State :=
  let late := s.frames.fetchWait.filter (fun w => decide (w.2.2.2 ≤ s.now))
  let s' := { s with frames.fetchWait := s.frames.fetchWait.filter (fun w => !decide (w.2.2.2 ≤ s.now)) }
  late.foldl (fun s w => finish w.1 St.OK (fetchBody s w.2.1 w.2.2.1) s) s'

/-- CTR_RESV_ACK: every reservation up to RSEQ. -/
def opCtrResvAck (p : Packet) (s : State) : State :=
  checked p
    [(s.fld F.NVS_CTR_RSEQ_RSEQ < p.u32 0, St.BAD_PARAM), (!s.extPersist, CTR_EXT_OFF)]
    (fun s =>
      let new := fun (r : Resv) => r.rseq != 0 && !r.acked && decide (r.rseq ≤ p.u32 0)
      let n := countIf new s.frames.resv
      let s := { s with frames.resv := s.frames.resv.map (fun r => if new r then { r with acked := true } else r) }
      let s := if s.fld F.NVS_CTR_ACKSEQ_RSEQ < p.u32 0 then s.setFld F.NVS_CTR_ACKSEQ_RSEQ (p.u32 0) else s
      done p (leBytes 4 n) (ctrBackground (resvSettle s))) s

def runCtrResvAck (p : Packet) (s : State) : State := command 0x6103 (lenIs 4) coreModes opCtrResvAck p s

/-- EXT_PERSIST was written (R277, R278): set while the chip runs it leaves usable reservations usable; cleared, nothing
waits for the host any more. -/
def extPersistWritten (was : Bool) (s : State) : State :=
  if !s.extPersist then resvSettle s
  else if !was && s.inMode [.service, .banked, .ember] then { s with frames.restoreDone := true }
  else s

/-- The entries of CTR_RESTORE: scope and P. -/
def restoreEntries (p : Packet) : List (Nat × Nat) :=
  (List.range (p.u16 0)).map (fun i => (p.u32 (8 + 8 * i), p.u16 (12 + 8 * i)))

/-- CTR_RESTORE (R277): a lower value than the chip knows has no effect. -/
def opCtrRestore (p : Packet) (s : State) : State :=
  let es := restoreEntries p
  checked p
    [(61 < p.u16 0 || 1 < p.u8 2 || p.dirty 3 5 || es.any (fun e => decide (broadcastId < e.1)) ||
        (List.range (p.u16 0)).any (fun i => p.dirty (14 + 8 * i) 2), St.BAD_PARAM),
     (!s.extPersist, CTR_EXT_OFF), (es.any (fun e => s.scopeBad e.1), CTR_SCOPE_BAD)]
    (fun s =>
      let s := es.foldl (fun s e =>
        let known := most2 (s.restartHalf e.1) (s.usableHalves e.1)
        let r := if known ≤ e.2 then s.frames.restart.set 0 e.1 (e.2 + 2) else s.frames.restart
        { s with frames.restart := r, frames.restored := s.frames.restored.set 0 e.1 (e.2 + 1) }) s
      let s := if p.bit 2 0 then ctrBackground { s with frames.restoreDone := true } else s
      done p [] (post 37 sevInfo 0x0926 (arg2 (p.u16 0)) s)) s

def runCtrRestore (p : Packet) (s : State) : State := command 0x6104 restoreLen coreModes opCtrRestore p s

end Sys2Proof.Machine
end

