-- ==== Sys2Proof/Machine/Crypto.lean ====
section
/-! DEFINITION. The cryptographic functions that the spec takes from the standards it names (R8): SHA-256 of FIPS 180-4,
HMAC of FIPS 198-1, AES-128 of FIPS 197, CCM* of IEEE 802.15.4 at the levels with an integrity code, and the
verification of an ECDSA P-256 signature of FIPS 186-4. -/

namespace Sys2Proof.Machine

/-! ### SHA-256 (FIPS 180-4) -/

/-- The constants of the rounds. -/
def shaK : List Word :=
  [0x428a2f98, 0x71374491, 0xb5c0fbcf, 0xe9b5dba5, 0x3956c25b, 0x59f111f1, 0x923f82a4, 0xab1c5ed5,
   0xd807aa98, 0x12835b01, 0x243185be, 0x550c7dc3, 0x72be5d74, 0x80deb1fe, 0x9bdc06a7, 0xc19bf174,
   0xe49b69c1, 0xefbe4786, 0x0fc19dc6, 0x240ca1cc, 0x2de92c6f, 0x4a7484aa, 0x5cb0a9dc, 0x76f988da] ++
  [0x983e5152, 0xa831c66d, 0xb00327c8, 0xbf597fc7, 0xc6e00bf3, 0xd5a79147, 0x06ca6351, 0x14292967,
   0x27b70a85, 0x2e1b2138, 0x4d2c6dfc, 0x53380d13, 0x650a7354, 0x766a0abb, 0x81c2c92e, 0x92722c85,
   0xa2bfe8a1, 0xa81a664b, 0xc24b8b70, 0xc76c51a3, 0xd192e819, 0xd6990624, 0xf40e3585, 0x106aa070] ++
  [0x19a4c116, 0x1e376c08, 0x2748774c, 0x34b0bcb5, 0x391c0cb3, 0x4ed8aa4a, 0x5b9cca4f, 0x682e6ff3,
   0x748f82ee, 0x78a5636f, 0x84c87814, 0x8cc70208, 0x90befffa, 0xa4506ceb, 0xbef9a3f7, 0xc67178f2]

/-- The working variables, or a hash value. -/
structure ShaVars where
  a : Word
  b : Word
  c : Word
  d : Word
  e : Word
  f : Word
  g : Word
  h : Word
  deriving DecidableEq, Repr

/-- The initial hash value. -/
def shaInit : ShaVars :=
  ⟨0x6a09e667, 0xbb67ae85, 0x3c6ef372, 0xa54ff53a,
   0x510e527f, 0x9b05688c, 0x1f83d9ab, 0x5be0cd19⟩

/-- The padding of a message of `n` bytes, its length included. -/
def shaPad (n : Nat) : List Byte := 0x80#8 :: (List.replicate ((119 - n % 64) % 64) 0#8 ++ beBytes 8 (8 * n))

/-- The word that the message schedule adds to its last 16. -/
def shaNext (w : List Word) : Word :=
  let at' := fun (i : Nat) => w.getD i 0
  let lo := fun (x : Word) => x.rotateRight 7 ^^^ x.rotateRight 18 ^^^ (x >>> 3)
  let hi := fun (x : Word) => x.rotateRight 17 ^^^ x.rotateRight 19 ^^^ (x >>> 10)
  hi (at' 14) + at' 9 + lo (at' 1) + at' 0

/-- One round under its constant and word. -/
def shaRound (v : ShaVars) (k w : Word) : ShaVars :=
  let s1 := v.e.rotateRight 6 ^^^ v.e.rotateRight 11 ^^^ v.e.rotateRight 25
  let ch := (v.e &&& v.f) ^^^ (~~~v.e &&& v.g)
  let t1 := v.h + s1 + ch + k + w
  let s0 := v.a.rotateRight 2 ^^^ v.a.rotateRight 13 ^^^ v.a.rotateRight 22
  let maj := (v.a &&& v.b) ^^^ (v.a &&& v.c) ^^^ (v.b &&& v.c)
  ⟨t1 + (s0 + maj), v.a, v.b, v.c, v.d + t1, v.e, v.f, v.g⟩

/-- The rounds of a block: working variables and the last 16 words of the schedule. -/
def shaRounds : List Word → ShaVars → List Word → ShaVars
  | [], v, _ => v
  | k :: ks, v, w => shaRounds ks (shaRound v k (w.getD 0 0)) (w.drop 1 ++ [shaNext w])

/-- One block of 64 bytes. -/
def shaBlock (v : ShaVars) (b : List Byte) : ShaVars :=
  let r := shaRounds shaK v ((List.range 16).map (fun i => BitVec.ofNat 32 (beAt b (4 * i) 4)))
  ⟨v.a + r.a, v.b + r.b, v.c + r.c, v.d + r.d, v.e + r.e, v.f + r.f, v.g + r.g, v.h + r.h⟩

/-- SHA-256 of a message. -/
def sha256 (m : List Byte) : BitVec 256 :=
  let p := m ++ shaPad m.length
  let v := (List.range (p.length / 64)).foldl (fun v i => shaBlock v (sliceBytes p (64 * i) 64)) shaInit
  v.a ++ v.b ++ v.c ++ v.d ++ v.e ++ v.f ++ v.g ++ v.h

/-- The bytes of a digest, most significant first. -/
def digestBytes (d : BitVec 256) : List Byte := beBytes 32 d.toNat

/-- HMAC with SHA-256 (FIPS 198-1): key, message. -/
def hmacSha256 (key m : List Byte) : BitVec 256 :=
  let k := sliceBytes (if 64 < key.length then digestBytes (sha256 key) else key) 0 64
  sha256 (k.map (· ^^^ 0x5C#8) ++ digestBytes (sha256 (k.map (· ^^^ 0x36#8) ++ m)))

/-! ### AES-128 (FIPS 197) -/

/-- Multiplication by x in the field of AES, and multiplication. -/
def aesXtime (b : Byte) : Byte := (b <<< 1) ^^^ (if b.getLsbD 7 then 0x1B#8 else 0#8)
def aesMul (a b : Byte) : Byte :=
  ((List.range 8).foldl (fun (x : Byte × Byte) i => (if b.getLsbD i then x.1 ^^^ x.2 else x.1, aesXtime x.2)) (0#8, a)).1

/-- The inverse, a ^ 254; 0 for 0. -/
def aesInv (a : Byte) : Byte :=
  ((List.range 6).foldl (fun (x : Byte × Byte) _ => (aesMul x.1 (aesMul x.2 x.2), aesMul x.2 x.2))
    (aesMul a a, aesMul a a)).1

/-- The S-box. -/
def aesSub (a : Byte) : Byte :=
  let i := aesInv a
  i ^^^ i.rotateLeft 1 ^^^ i.rotateLeft 2 ^^^ i.rotateLeft 3 ^^^ i.rotateLeft 4 ^^^ 0x63#8

/-- The S-box as a table, built once. -/
def aesBox : List Byte := (List.range 256).map (fun i => aesSub (BitVec.ofNat 8 i))
def aesSubIn (box : List Byte) (b : Byte) : Byte := box.getD b.toNat 0

/-- The bytes of two lists added. -/
def xorBytes (a b : List Byte) : List Byte := List.zipWith (· ^^^ ·) a b

/-- The round key after one, under its constant. -/
def aesNextKey (box : List Byte) (rcon : Byte) (k : List Byte) : List Byte :=
  let w := fun (i : Nat) => sliceBytes k (4 * i) 4
  let t := (sliceBytes (w 3 ++ w 3) 1 4).map (aesSubIn box)
  let t := xorBytes t [rcon, 0, 0, 0]
  let a := xorBytes (w 0) t
  let b := xorBytes (w 1) a
  let c := xorBytes (w 2) b
  a ++ b ++ c ++ xorBytes (w 3) c

/-- SubBytes and ShiftRows; columns follow one another. -/
def aesSubShift (box : List Byte) (s : List Byte) : List Byte :=
  (List.range 16).map (fun i => aesSubIn box (s.getD ((i + 4 * (i % 4)) % 16) 0))

/-- MixColumns. -/
def aesMix (s : List Byte) : List Byte :=
  (List.range 16).map (fun i =>
    let b := fun (j : Nat) => s.getD (i / 4 * 4 + (i + j) % 4) 0
    aesXtime (b 0) ^^^ aesXtime (b 1) ^^^ b 1 ^^^ b 2 ^^^ b 3)

/-- The rounds from a round constant on: state and round key. The last round does not mix. -/
def aesRounds (box : List Byte) : Nat → Byte → List Byte → List Byte → List Byte
  | 0, _, s, _ => s
  | n + 1, rcon, s, k =>
    let k := aesNextKey box rcon k
    let t := aesSubShift box s
    aesRounds box n (aesXtime rcon) (xorBytes (if n = 0 then t else aesMix t) k) k

/-- AES-128 of one block. -/
def aesEncrypt (key block : List Byte) : List Byte := aesRounds aesBox 10 1#8 (xorBytes block key) key

/-! ### CCM* (IEEE 802.15.4; a nonce of 13 bytes, lengths of 2) -/

/-- Pad to whole blocks. -/
def pad16 (bs : List Byte) : List Byte := bs ++ List.replicate ((16 - bs.length % 16) % 16) 0#8

/-- Blocks of 16 bytes. -/
def blocks16 (bs : List Byte) : List (List Byte) := (List.range (bs.length / 16)).map (fun i => sliceBytes bs (16 * i) 16)

/-- The authentication tag before encryption: 16 bytes. -/
def ccmTag (key nonce : List Byte) (micLen : Nat) (aad plain : List Byte) : List Byte :=
  let flags := (if aad.isEmpty then 0 else 64) + 8 * ((micLen - 2) / 2) + 1
  let first := leBytes 1 flags ++ sliceBytes nonce 0 13 ++ beBytes 2 plain.length
  let a := if aad.isEmpty then [] else pad16 (beBytes 2 aad.length ++ aad)
  (blocks16 (first ++ a ++ pad16 plain)).foldl (fun x b => aesEncrypt key (xorBytes x b)) (List.replicate 16 0#8)

/-- The key stream block of a number. -/
def ccmStream (key nonce : List Byte) (i : Nat) : List Byte :=
  aesEncrypt key (1#8 :: (sliceBytes nonce 0 13 ++ beBytes 2 i))

/-- Encrypt or decrypt a message. -/
def ccmCrypt (key nonce m : List Byte) : List Byte :=
  xorBytes m ((List.range ((m.length + 15) / 16)).flatMap (fun i => ccmStream key nonce (i + 1)))

/-- Ciphertext and integrity code. -/
def ccmSeal (key nonce : List Byte) (micLen : Nat) (aad plain : List Byte) : List Byte × List Byte :=
  (ccmCrypt key nonce plain, (xorBytes (ccmTag key nonce micLen aad plain) (ccmStream key nonce 0)).take micLen)

/-- The plaintext, or nothing where the integrity code does not verify. -/
def ccmOpen (key nonce aad cipher mic : List Byte) : Option (List Byte) :=
  let plain := ccmCrypt key nonce cipher
  if (ccmSeal key nonce mic.length aad plain).2 = mic then some plain else none

/-! ### ECDSA on P-256 (FIPS 186-4) -/

/-- The field, the order, the coefficient b and the base point of P-256. -/
def p256P : Nat := 0xffffffff00000001000000000000000000000000ffffffffffffffffffffffff
def p256N : Nat := 0xffffffff00000000ffffffffffffffffbce6faada7179e84f3b9cac2fc632551
def p256B : Nat := 0x5ac635d8aa3a93e7b3ebbd55769886bc651d06b0cc53b0f63bce3c3e27d2604b
def p256G : Nat × Nat :=
  (0x6b17d1f2e12c4247f8bce6e563a440f277037d812deb33a0f4a13945d898c296,
   0x4fe342e2fe1a7f9b8ee7eb4a7c0f9e162bce33576b315ececbb6406837bf51f5)

/-- The bits of a 256-bit number, most significant first. -/
def bits256 (v : Nat) : List Bool := (List.range 256).map (fun i => v / 2 ^ (255 - i) % 2 == 1)

/-- A power to a modulus, and the inverse to a prime one. -/
def powMod (m a e : Nat) : Nat := (bits256 e).foldl (fun x b => if b then x * x % m * a % m else x * x % m) 1
def invMod (m a : Nat) : Nat := powMod m (a % m) (m - 2)

/-- The sum of two points; nothing is the point at infinity. -/
def p256Add : Option (Nat × Nat) → Option (Nat × Nat) → Option (Nat × Nat)
  | none, q => q
  | p, none => p
  | some (x1, y1), some (x2, y2) =>
    let q := p256P
    if x1 = x2 ∧ (y1 + y2) % q = 0 then none
    else
      let l := if x1 = x2 then (3 * x1 * x1 + (q - 3)) * invMod q (2 * y1) % q
        else (y2 + q - y1) * invMod q (x2 + q - x1) % q
      let x3 := (l * l + (q - x1) + (q - x2)) % q
      some (x3, (l * (x1 + q - x3) + (q - y1)) % q)

/-- A multiple of a point. -/
def p256Mul (k : Nat) (p : Option (Nat × Nat)) : Option (Nat × Nat) :=
  (bits256 k).foldl (fun acc b => if b then p256Add (p256Add acc acc) p else p256Add acc acc) none

/-- A point of the curve. -/
def p256On (x y : Nat) : Bool :=
  decide (x < p256P) && decide (y < p256P) && y * y % p256P == (x * x * x + (p256P - 3) * x + p256B) % p256P

/-- Verification: public key X then Y, digest, signature r then s (R300, R301), all big-endian. -/
def ecdsaVerify (pub : List Byte) (digest : BitVec 256) (sig : List Byte) : Bool :=
  let x := beAt pub 0 32
  let y := beAt pub 32 32
  let r := beAt sig 0 32
  let t := beAt sig 32 32
  if r = 0 ∨ p256N ≤ r ∨ t = 0 ∨ p256N ≤ t ∨ p256On x y = false then false
  else
    let w := invMod p256N t
    match p256Add (p256Mul (digest.toNat * w % p256N) (some p256G)) (p256Mul (r * w % p256N) (some (x, y))) with
    | none => false
    | some (v, _) => v % p256N == r

end Sys2Proof.Machine
end

