-- ==== Sys2Proof/Machine/Keys.lean ====
section
/-! DEFINITION. The key tree: derivation, slots, the derived-key cache, wrapped keys, key epochs, zaps and
attestation (R284 to R304, R310). -/

namespace Sys2Proof.Machine

def KEY_BLOB_BAD : Nat := 0x8602
def KEY_SLOT_FULL : Nat := 0x8603
def KEY_SLOT_FIXED : Nat := 0x8604
def KEY_EPOCH_BUSY : Nat := 0x8605
def KEY_NO_ALMANAC : Nat := 0x8606
def KEY_STRAGGLERS : Nat := 0x8607
def ATT_LATCHED : Nat := 0x8F00

/-! ### The KDF (R286) -/

/-- ASCII bytes of a label. -/
def ascii (l : String) : List Byte := l.toList.map (fun c => BitVec.ofNat 8 c.toNat)

/-- What is MACed to derive a key. -/
def kdfInput (label ctx : List Byte) : List Byte := beBytes 4 1 ++ label ++ [0#8] ++ ctx ++ beBytes 4 128

/-- One iteration of the KDF: 16 bytes. -/
def kdf (kin label ctx : List Byte) : List Byte := (digestBytes (hmacSha256 kin (kdfInput label ctx))).take 16

/-- Bytes of OTP words. -/
def State.otpBytes (s : State) (first n : Nat) : List Byte := (s.otp.getRun 0 first n).flatMap (fun w => leBytes 4 w.toNat)

/-- The secrets of R284. -/
def State.drs (s : State) : List Byte := s.otpBytes 0x10 8
def State.att (s : State) : List Byte := s.otpBytes 0x18 8
def State.latched (s : State) : Bool := s.flag F.DBG_STAT_LATCHED
def State.serialBe (s : State) : List Byte := beBytes 8 s.serial

/-! ### Slots (R287, R288) -/

def State.keySlot (s : State) (i : Nat) : KeySlot := s.keys.slots.get KeySlot.empty i
def State.keyLoaded (s : State) (i : Nat) : Bool := (s.keySlot i).content != 0

/-- The next GEN: 0 is skipped at the wrap from 1,023. -/
def nextGen (g : Nat) : Nat := if 1023 ≤ g then 1 else g + 1

/-- The registers that show a slot. -/
def slotFlags (i : Nat) (on : Bool) (s : State) : State :=
  let s := if i < 32 then s.setBit F.KEY_SLOT_LOADED_LO_LOADED i on else s.setBit F.KEY_SLOT_LOADED_HI_LOADED (i - 32) on
  match i with
  | 0 => s.setFlag F.KEY_STAT_KWK on
  | 1 => s.setFlag F.KEY_STAT_ORK on
  | 2 => s.setFlag F.KEY_STAT_DK on
  | 4 => s.setFlag F.KEY_STAT_PREV_HELD on
  | _ => s

/-- Write a slot; the cache entries of another GEN of it are gone (R296). -/
def putSlot (i : Nat) (k : KeySlot) (s : State) : State :=
  let cache := s.keys.cache.filter (fun e => e.1.parent != i || e.1.gen == k.gen)
  let s := { s with keys.slots := s.keys.slots.set KeySlot.empty i k, keys.cache := cache }
  slotFlags i (k.content != 0) (s.setFld F.KEY_CACHE_STAT_USED cache.length)

/-- Load a slot: a content that is replaced takes a new GEN. -/
def fillSlot (i content : Nat) (key : List Byte) (epoch : Nat) (s : State) : State :=
  let k := s.keySlot i
  putSlot i ⟨content, key, if k.content = 0 then k.gen else nextGen k.gen, epoch⟩ s

/-- Empty a slot. A slot that is named takes a new GEN whatever it held. -/
def emptySlot (i : Nat) (named : Bool) (s : State) : State :=
  let k := s.keySlot i
  if k.content = 0 && !named then s else putSlot i ⟨0, [], nextGen k.gen, 0⟩ s

/-- A slot's handle; none for an empty slot. -/
def State.handle (s : State) (i : Nat) : Nat := if s.keyLoaded i then (s.keySlot i).gen * 64 + i else 0

/-- A handle names the key of a slot (R288). -/
def State.handleKey (s : State) (h : Nat) : Option (List Byte) :=
  let k := s.keySlot (h % 64)
  if k.content ≠ 0 ∧ k.gen = h / 64 then some k.key else none

/-! ### The derived-key cache (R296, R297) -/

/-- Kinds of derived keys. -/
def kKIN : Nat := 0
def kLK : Nat := 1
def kGK : Nat := 2
def kIMK : Nat := 3

def kindLabel (kind : Nat) : List Byte :=
  if kind = kKIN then ascii "install" else if kind = kLK then ascii "link" else if kind = kGK then ascii "group"
  else ascii "image"

/-- The tag of a key under the present GEN of its parent. -/
def State.keyTag (s : State) (kind parent : Nat) (ctx : List Byte) : KeyTag := ⟨kind, parent, (s.keySlot parent).gen, ctx⟩

def State.cached (s : State) (t : KeyTag) : Option (List Byte) := (s.keys.cache.find? (fun e => e.1 == t)).map (·.2)

/-- GK(0) of CUR is never evicted. -/
def pinned (t : KeyTag) : Bool := t.kind == kGK && t.parent == 3 && t.ctx == beBytes 2 0

/-- Drop the least recently used entry that is not pinned. -/
def evictLast : List (KeyTag × List Byte) → List (KeyTag × List Byte)
  | [] => []
  | e :: l => if l.all (fun x => pinned x.1) && !pinned e.1 then l else e :: evictLast l

def cacheInsert (t : KeyTag) (k : List Byte) (s : State) : State :=
  let c := s.keys.cache.filter (fun e => e.1 != t)
  let c := (t, k) :: (if 1024 ≤ c.length then evictLast c else c)
  { s with keys.cache := c }.setFld F.KEY_CACHE_STAT_USED c.length

def cacheTouch (t : KeyTag) (k : List Byte) (s : State) : State :=
  { s with keys.cache := (t, k) :: s.keys.cache.filter (fun e => e.1 != t) }.wrapCount F.KEY_CACHE_HIT_COUNT 1

/-- What a lookup answers. -/
inductive KeyAns
  | absent
  | wait
  | key (k : List Byte)
  deriving DecidableEq, Repr

/-- Look a derived key up: an empty parent is an empty handle; a miss waits for its derivation (R297). -/
def keyFor (kind parent : Nat) (ctx : List Byte) (s : State) : KeyAns × State :=
  let t := s.keyTag kind parent ctx
  let same := fun (m : KeyMiss) => m.tag.kind == kind && m.tag.parent == parent && m.tag.ctx == ctx
  match s.keys.misses.find? same with
  | some m =>
    if !m.served then (.wait, s)
    else
      let s := { s with keys.misses := s.keys.misses.filter (fun x => !same x) }
      match m.key with
      | some k => (if m.tag.gen = t.gen ∧ s.keyLoaded parent = true then .key k else .absent, s)
      | none => (.absent, s)
  | none =>
    if !s.keyLoaded parent then (.absent, s)
    else match s.cached t with
      | some k => (.key k, cacheTouch t k s)
      | none =>
        (.wait, { s with keys.misses := s.keys.misses ++ [(⟨t, false, none⟩ : KeyMiss)] }.wrapCount F.KEY_CACHE_MISS_COUNT 1)

/-- Derive from a parent slot. -/
def State.derive (s : State) (t : KeyTag) : List Byte := kdf (s.keySlot t.parent).key (kindLabel t.kind) t.ctx

/-- Serve the first miss that waits (R297): if the parent's GEN has changed, the result is discarded. -/
def serveMiss (s : State) : List KeyMiss → Option (List KeyMiss × Option (KeyTag × List Byte))
  | [] => none
  | m :: l =>
    if m.served then (serveMiss s l).map (fun r => (m :: r.1, r.2))
    else if s.keyLoaded m.tag.parent && (s.keySlot m.tag.parent).gen == m.tag.gen then
      let k := s.derive m.tag
      some ({ m with served := true, key := some k } :: l, some (m.tag, k))
    else some ({ m with served := true, key := none } :: l, none)

/-- DERIVED_KEY_MISS (R297). -/
def runDerivedKeyMiss (s : State) : State :=
  match serveMiss s s.keys.misses with
  | none => s
  | some (l, r) =>
    let s := { s with keys.misses := l }
    match r with
    | some (t, k) => cacheInsert t k s
    | none => s

/-- A key that a command or the security sequencer uses at once. -/
def keyNow (kind parent : Nat) (ctx : List Byte) (s : State) : Option (List Byte) × State :=
  if !s.keyLoaded parent then (none, s)
  else
    let t := s.keyTag kind parent ctx
    match s.cached t with
    | some k => (some k, cacheTouch t k s)
    | none =>
      let k := s.derive t
      (some k, cacheInsert t k (s.wrapCount F.KEY_CACHE_MISS_COUNT 1))

/-- Contexts: an EUI-64, a group number, an image ID (R286). -/
def euiCtx (eui : Nat) : List Byte := beBytes 8 eui
def State.nodeCtx (s : State) (id : Nat) : List Byte := euiCtx (s.nf id N.EUI64)
def groupCtx (g : Nat) : List Byte := beBytes 2 g
def imageCtx (i : Nat) : List Byte := beBytes 4 i

/-! ### Key epochs (R293, R294) -/

def State.keyState (s : State) : Nat := s.fld F.KEY_STAT_STATE
def keNone : Nat := 0
def keCurrent : Nat := 1
def kePrepared : Nat := 2
def State.keyCur (s : State) : Nat := s.fld F.KEY_STAT_CUR
def State.keyPrev (s : State) : Nat := s.fld F.KEY_STAT_PREV

/-- EK of an epoch. -/
def epochKey (dk : List Byte) (e : Nat) : List Byte := kdf dk (ascii "epoch") [BitVec.ofNat 8 e]
def loadEpoch (slot e : Nat) (s : State) : State := fillSlot slot 4 (epochKey (s.keySlot 2).key e) e s

/-- The slot that holds the EK of an epoch of received or sent traffic. -/
def State.epochSlot (s : State) (e : Nat) : Option Nat :=
  if s.keyState = keNone then none
  else if s.keyLoaded 3 && e == s.keyCur then some 3
  else if s.keyLoaded 4 && e == s.keyPrev then some 4
  else none

/-- The slot for a received unicast frame from a node of epoch `ke` with Key Index `kf`; the flag says that the
node's KEY_EPOCH becomes CUR (R294). -/
def State.rxKeySlot (s : State) (ke kf : Nat) : Option (Nat × Bool) :=
  if kf = ke then (s.epochSlot ke).map (fun i => (i, false))
  else if s.epochSlot ke = some 4 ∧ kf = s.keyCur ∧ s.keyLoaded 3 = true then some (3, true)
  else none

/-- The epochs kept with the DK blob. -/
def epochsKept (s : State) : State :=
  { s with keys.nvCur := s.keyCur, keys.nvPrev := if s.keyLoaded 4 then some s.keyPrev else none }

/-- The epochs are gone: state NONE. -/
def epochsClear (s : State) : State :=
  let s := (s.setFld F.KEY_STAT_STATE keNone).setFld F.KEY_STAT_CUR 0
  let s := (s.setFld F.KEY_STAT_PREV 0).setFld F.KEY_STAT_NEXT 0
  s.setFld F.KEY_ACT_EPOCH_ACT_EPOCH 0

/-- Nodes in JOINING, ASSOCIATED or DRIFTING of a key epoch. -/
def State.nodesOnEpoch (s : State) (e : Nat) : List Nat := s.wheel.filter (fun id => s.nf id N.KEY_EPOCH == e)

/-- Queue a key update to a node (R295): what it carries but for the keys. -/
def keyUpdate (id new act : Nat) (s : State) : State :=
  (dlqAdmit id [⟨[0x05#8, 37#8] ++ leBytes 1 new ++ leBytes 4 act, [], [], 0, new + 1, 0⟩] s).2

/-- Queue key updates to every node of an epoch. -/
def keyUpdates (onEpoch new act : Nat) (s : State) : State :=
  (s.nodesOnEpoch onEpoch).foldl (fun s id => keyUpdate id new act s) s

/-- A node of the present epoch that joins while PREPARED is sent its key update too. -/
def keyUpdateJoin (id : Nat) (s : State) : State :=
  if s.keyState = kePrepared ∧ s.coresWork = true ∧ s.nf id N.KEY_EPOCH = s.keyCur then
    keyUpdate id (s.fld F.KEY_STAT_NEXT) (s.fld F.KEY_ACT_EPOCH_ACT_EPOCH) s
  else s

/-- The firmware runs again and queues the updates it owes (R24, R295). -/
def keyUpdatesOwed (s : State) : State :=
  match s.keys.owed with
  | none => s
  | some (e, act) => keyUpdates e s.keyCur act { s with keys.owed := none }

/-- Activation at the start of ACT_EPOCH (R293): slot 4 is zapped, slot 3 moves to 4 and slot 5 to 3. -/
def keyActivate (s : State) : State :=
  let act := s.fld F.KEY_ACT_EPOCH_ACT_EPOCH
  let prev := s.keyCur
  let k3 := s.keySlot 3
  let k5 := s.keySlot 5
  let s := emptySlot 4 false s
  let s := if k3.content = 0 then s else fillSlot 4 4 k3.key k3.epoch s
  let s := emptySlot 3 false s
  let s := if k5.content = 0 then s else fillSlot 3 4 k5.key k5.epoch s
  let s := emptySlot 5 false s
  let s := (s.setFld F.KEY_STAT_PREV prev).setFld F.KEY_STAT_CUR (s.fld F.KEY_STAT_NEXT)
  let s := (s.setFld F.KEY_STAT_NEXT 0).setFld F.KEY_STAT_STATE keCurrent
  let s := epochsKept (s.setFld F.KEY_ACT_EPOCH_ACT_EPOCH 0)
  let s := post 19 sevInfo 0x0B03 [] s
  if !s.keyLoaded 4 then s
  else if s.coresWork then keyUpdates prev s.keyCur act s
  else { s with keys.owed := some (prev, act) }

/-- Round 0 of an Almanac epoch starts (R293): the data plane performs a prepared activation. -/
def keyEpochStart (e : Nat) (s : State) : State :=
  if s.keyState = kePrepared ∧ s.fld F.KEY_ACT_EPOCH_ACT_EPOCH = e then keyActivate s else s

/-! ### Wrapped keys (R289, R290) -/

/-- The key that wraps a TYPE, and whether its parent is present: KPT, KTK, KSW or KWK. -/
def State.wrapKey (s : State) (type slot : Nat) : Option (List Byte) :=
  if type = 0x01 then (if s.latched then none else some (kdf s.att (ascii "orkwrap") s.serialBe))
  else if type = 0x02 then
    (if s.keyLoaded 1 then some (kdf (s.keySlot 1).key (ascii "dkwrap") (beBytes 4 (s.fld F.ZFB_DISTRICT_DISTRICT_ID)))
     else none)
  else if type = 0x03 then
    (if s.keyLoaded 1 then some (kdf (s.keySlot 1).key (ascii "slotwrap") (beBytes 1 slot)) else none)
  else if s.keyLoaded 0 then some (s.keySlot 0).key else none

/-- Check 1 of R290. -/
def State.blobBad (s : State) (type : Nat) (b : List Byte) : Bool :=
  let dk := type == 0x02 || type == 0x82
  leAt b 0 1 != type || leAt b 1 1 != 1 || leAt b 2 1 != (if type = 0x03 then 16 else 32) ||
    (!dk && leAt b 3 1 != 0) || (!dk && type != 0x03 && leAt b 4 4 != 0) || leAt b 29 3 != 0 ||
    !(leAt b 8 8 == s.serial || (leAt b 8 8 == 0 && type == 0x02))

/-- Unwrap a blob by the checks of R290: a status, or the key. -/
def State.unwrap (s : State) (type slot : Nat) (b : List Byte) : Nat ⊕ List Byte :=
  if s.blobBad type b then .inl KEY_BLOB_BAD
  else match s.wrapKey type slot with
    | none => .inl St.KEY_ABSENT
    | some w =>
      match ccmOpen w (sliceBytes b 16 13) (sliceBytes b 0 16) (sliceBytes b 32 32) (sliceBytes b 64 16) with
      | none => .inl St.AUTH_FAIL
      | some pt =>
        let n := leAt b 2 1
        if (pt.drop n).any (· != 0) then .inl KEY_BLOB_BAD else .inr (sliceBytes pt 0 n)

/-- An at-rest blob under KWK, with a nonce from the chip's random source. -/
def makeBlob (type epoch bind : Nat) (key : List Byte) (s : State) : List Byte × State :=
  let d := s.draw
  let head := leBytes 1 type ++ [1#8, 32#8] ++ leBytes 1 epoch ++ leBytes 4 bind ++ leBytes 8 s.serial
  let nonce := leBytes 13 d.1
  let c := ccmSeal (s.keySlot 0).key nonce 16 head key
  (head ++ nonce ++ leBytes 3 0 ++ sliceBytes c.1 0 32 ++ sliceBytes c.2 0 16, d.2)

/-- The key ladder in KINDLING (R291). -/
def keysKindling (s : State) : State :=
  let s := if s.latched then s else fillSlot 0 1 (kdf s.drs (ascii "nvwrap") s.serialBe) 0 s
  let s := match s.keys.orkBlob with
    | none => s
    | some b => match s.unwrap 0x81 0 b with
      | .inr k => fillSlot 1 2 k 0 s
      | .inl _ => post 19 sevDegraded 0x0B04 [] (s.count F.KEY_CNT_UNWRAP_FAIL 1)
  match s.keys.dkBlob with
  | none => s
  | some b => match s.unwrap 0x82 0 b with
    | .inl _ => post 19 sevDegraded 0x0B04 [] (s.count F.KEY_CNT_UNWRAP_FAIL 1)
    | .inr k =>
      let s := fillSlot 2 3 k 0 s
      let s := loadEpoch 3 s.keys.nvCur ((s.setFld F.KEY_STAT_CUR s.keys.nvCur).setFld F.KEY_STAT_STATE keCurrent)
      match s.keys.nvPrev with
      | none => s
      | some e => loadEpoch 4 e (s.setFld F.KEY_STAT_PREV e)

/-- The key store at a reset that empties it: GEN is 1 in every slot (R288). -/
def keysClear (s : State) : State :=
  let s := { s with keys.slots := [], keys.cache := [], keys.misses := [], keys.owed := none }
  (((s.setWord R.KEY_STAT 0).setWord R.KEY_SLOT_LOADED_LO 0).setWord R.KEY_SLOT_LOADED_HI 0).setWord R.KEY_CACHE_STAT 0
    |> State.setWord R.KEY_ACT_EPOCH 0

/-- Key RAM, cache and working registers are overwritten (R306, step 3). -/
def keysErase (s : State) : State :=
  let s := (List.range 64).foldl (fun s i => emptySlot i false s) s
  epochsClear ({ s with keys.cache := [], keys.misses := [], keys.owed := none }.setFld F.KEY_CACHE_STAT_USED 0)

/-! ### Zaps (R298) -/

/-- Frames of a campaign that are not yet on air are taken back. -/
def campRecall (c : Nat) (s : State) : State :=
  let s := { s with frames.builds := s.frames.builds.filter (fun b => !(b.kind == .rollout && b.ref == c)) }
  (List.range 4).foldl (fun s n =>
    s.setChain n { s.chain n with queue := (s.chain n).queue.filter (fun d => !(d.kind == .rollout && d.ref == c)) }) s

/-- A campaign aborts (R364): it is CONFIGURED, ANNOUNCING or SENDING. -/
def campAbort (c cause : Nat) (s : State) : State :=
  if !s.campLive c then s
  else
    let s := campRecall c s
    let s := setCampState c rsAborted (s.setCamp c { s.camp c with cause := cause, announce := [] })
    post 22 sevDegraded 0x0F03 (arg1 cause) s

/-- Zap the slots of a mask: the slots emptied, cascaded ones included. -/
def zap (mask : Nat) (erase : Bool) (s : State) : Nat × State :=
  let named := (List.range 64).filter (fun i => mask / 2 ^ i % 2 == 1)
  let also := if named.contains 2 then ([3, 4, 5] : List Nat).filter (fun i => !named.contains i) else []
  let n := countIf s.keyLoaded (named ++ also)
  let s := named.foldl (fun s i => emptySlot i true s) s
  let s := also.foldl (fun s i => emptySlot i false s) s
  let s := if erase && named.contains 1 then { s with keys.orkBlob := none } else s
  let s := if erase && named.contains 2 then { s with keys.dkBlob := none } else s
  if named.contains 2 then
    (n, (List.range 16).foldl (fun s c => campAbort c 2 s) (epochsClear s))
  else (n, if s.keys.dkBlob.isSome then epochsKept s else s)

/-! ### Provisioning commands (R310) -/

/-- Reserved bytes of the provisioning commands. -/
def blobParamsBad (p : Packet) (from' : Nat) : Bool := 1 < p.u8 0 || p.dirty from' (4 - from')
def blobOf (p : Packet) : List Byte := p.bytes 4 80

/-- A blob that fails R290 answers its status; a good one acts. -/
def withBlob (p : Packet) (type slot : Nat) (act : List Byte → State → State) (s : State) : State :=
  match s.unwrap type slot (blobOf p) with
  | .inl st => reply p st [] (s.count F.KEY_CNT_UNWRAP_FAIL 1)
  | .inr k => act k s

/-- KEY_ORK_PROVISION: the at-rest blob is written before the reply. -/
def opKeyOrkProvision (p : Packet) (s : State) : State :=
  checked p [(blobParamsBad p 1, St.BAD_PARAM), (s.keyLoaded 1 && !p.bit 0 0, KEY_SLOT_FULL)]
    (withBlob p 0x01 0 (fun k s =>
      let b := makeBlob 0x81 0 0 k s
      let s := fillSlot 1 2 k 0 { b.2 with keys.orkBlob := some b.1 }
      done p [] (post 19 sevInfo 0x0B01 (arg1 1) s))) s

def runKeyOrkProvision (p : Packet) (s : State) : State := command 0x6001 (lenIs 84) radioModes opKeyOrkProvision p s

/-- A district key enters slot 2 (R293): slots 3 to 5 and what hangs under them are flushed, and the group scope
restarts (R268). -/
def placeDk (k : List Byte) (e : Nat) (s : State) : State :=
  let s := ([3, 4, 5] : List Nat).foldl (fun s i => emptySlot i false s) s
  let s := fillSlot 2 3 k 0 (epochsClear s)
  let s := loadEpoch 3 e ((s.setFld F.KEY_STAT_CUR e).setFld F.KEY_STAT_STATE keCurrent)
  groupRestart (epochsKept s)

/-- KEY_DK_LOAD. -/
def opKeyDkLoad (p : Packet) (s : State) : State :=
  checked p [(blobParamsBad p 1, St.BAD_PARAM), (s.keyLoaded 2 && !p.bit 0 0, KEY_SLOT_FULL)]
    (withBlob p 0x02 0 (fun k s =>
      let e := leAt (blobOf p) 3 1
      let b := makeBlob 0x82 e (leAt (blobOf p) 4 4) k s
      let s := placeDk k e { b.2 with keys.dkBlob := some b.1 }
      done p [] (post 19 sevInfo 0x0B01 (arg1 2) s))) s

def runKeyDkLoad (p : Packet) (s : State) : State := command 0x6002 (lenIs 84) radioModes opKeyDkLoad p s

/-- KEY_LOAD. -/
def opKeyLoad (p : Packet) (s : State) : State :=
  let i := p.u8 1
  checked p
    [(blobParamsBad p 2, St.BAD_PARAM), (i < 16 || 63 < i, KEY_SLOT_FIXED), (leAt (blobOf p) 4 4 != i, St.BAD_PARAM),
     (s.keyLoaded i && !p.bit 0 0, KEY_SLOT_FULL)]
    (withBlob p 0x03 i (fun k s =>
      let s := fillSlot i 6 k 0 s
      done p (leBytes 2 (s.handle i) ++ leBytes 2 0) (post 19 sevInfo 0x0B01 (arg1 i) s))) s

def runKeyLoad (p : Packet) (s : State) : State := command 0x6003 (lenIs 84) radioModes opKeyLoad p s

/-- No Almanac runs, or ACT_EPOCH is less than two epochs ahead. -/
def State.actTooNear (s : State) (act : Nat) : Bool :=
  !s.almanacRuns || epochDiff act s.epoch < 2 || 2 ^ 31 ≤ epochDiff act s.epoch

/-- Nodes on a PREV that is held. -/
def State.stragglers (s : State) : Nat := if s.keyLoaded 4 then (s.nodesOnEpoch s.keyPrev).length else 0

def prepareReply (n next : Nat) : List Byte := leBytes 4 n ++ leBytes 1 next ++ leBytes 3 0

/-- KEY_EPOCH_PREPARE (R293, R295). -/
def opKeyEpochPrepare (p : Packet) (s : State) : State :=
  let n := s.stragglers
  if p.u8 0 / 4 ≠ 0 ∨ p.dirty 1 3 = true then reply p St.BAD_PARAM [] s
  else if p.bit 0 0 then
    if s.keyState ≠ kePrepared then reply p KEY_EPOCH_BUSY [] s
    else
      let s := (emptySlot 5 true s).setFld F.KEY_STAT_NEXT 0
      done p (prepareReply n 0) ((s.setFld F.KEY_ACT_EPOCH_ACT_EPOCH 0).setFld F.KEY_STAT_STATE keCurrent)
  else if !s.keyLoaded 2 then reply p St.KEY_ABSENT [] s
  else if s.keyState ≠ keCurrent then reply p KEY_EPOCH_BUSY [] s
  else if s.actTooNear (p.u32 4) then reply p KEY_NO_ALMANAC [] s
  else if n ≠ 0 ∧ p.bit 0 1 = false then reply p KEY_STRAGGLERS (prepareReply n 0) s
  else
    let next := (s.keyCur + 1) % 256
    let s := loadEpoch 5 next (s.setFld F.KEY_STAT_NEXT next)
    let s := (s.setFld F.KEY_ACT_EPOCH_ACT_EPOCH (p.u32 4)).setFld F.KEY_STAT_STATE kePrepared
    done p (prepareReply n next) (keyUpdates s.keyCur next (p.u32 4) s)

def runKeyEpochPrepare (p : Packet) (s : State) : State := command 0x6004 (lenIs 8) radioModes opKeyEpochPrepare p s

/-- KEY_EPOCH_STATUS. -/
def opKeyEpochStatus (p : Packet) (s : State) : State :=
  let held := s.keyLoaded 4
  let onCur := if s.keyState = keNone then 0 else (s.nodesOnEpoch s.keyCur).length
  let onPrev := s.stragglers
  done p (leBytes 1 s.keyState ++ leBytes 1 s.keyCur ++ leBytes 1 (if held then s.keyPrev else 0xFF) ++
    leBytes 1 ((if held then 1 else 0) + (if s.keyLoaded 5 then 2 else 0)) ++
    leBytes 4 (s.fld F.KEY_ACT_EPOCH_ACT_EPOCH) ++ leBytes 4 onCur ++ leBytes 4 onPrev ++
    leBytes 4 (s.wheel.length - onCur - onPrev)) s

def runKeyEpochStatus (p : Packet) (s : State) : State := command 0x6005 (lenIs 0) coreModes opKeyEpochStatus p s

/-- KEY_ZAP: a mask with slot 0 is refused whole. -/
def opKeyZap (p : Packet) (s : State) : State :=
  checked p [(1 < p.u8 8 || p.dirty 9 3, St.BAD_PARAM), (p.bit 0 0, KEY_SLOT_FIXED)]
    (fun s =>
      let r := zap (p.u64 0) (p.bit 8 0) s
      done p (leBytes 4 r.1) (post 19 sevInfo 0x0B02 (arg8 (p.u64 0)) (r.2.count F.KEY_CNT_ZAPS 1))) s

def runKeyZap (p : Packet) (s : State) : State := command 0x6006 (lenIs 12) coreModes opKeyZap p s

/-- KEY_SLOT_INFO. -/
def opKeySlotInfo (p : Packet) (s : State) : State :=
  let k := s.keySlot (p.u8 0)
  checked p [(63 < p.u8 0 || p.dirty 1 3, St.BAD_PARAM)]
    (done p (leBytes 2 (s.handle (p.u8 0)) ++ leBytes 1 k.content ++ leBytes 1 k.epoch ++ leBytes 4 0)) s

def runKeySlotInfo (p : Packet) (s : State) : State := command 0x6007 (lenIs 4) coreModes opKeySlotInfo p s

/-! ### Measurement and attestation (R302 to R304) -/

/-- M, as the DBG_MEAS registers hold it. -/
def State.meas (s : State) : List Byte := (List.range 8).flatMap (fun k => leBytes 4 (s.word (R.DBG_MEAS k)).toNat)
def setMeas (m : List Byte) (s : State) : State :=
  (List.range 8).foldl (fun s k => s.setWord (R.DBG_MEAS k) (BitVec.ofNat 32 (leAt m (4 * k) 4))) s

/-- An accepted image is measured once per TYPE and header since the last reset that ran the boot ROM. -/
def measure (type : Nat) (header : List Byte) (s : State) : State :=
  let d := sha256 (sliceBytes header 0 256)
  if s.seq.boot.measured.contains (type, d) then s
  else
    let m := sha256 (s.meas ++ leBytes 1 type ++ digestBytes d)
    let s := { s with seq.boot.measured := (type, d) :: s.seq.boot.measured }
    (setMeas (digestBytes m) s).wrapCount F.DBG_MEAS_CNT_MEAS_CNT 1

/-- Blown DBG_OPEN fuses. -/
def State.dbgCount (s : State) : Nat := countIf (fun i => (s.otp.get 0 0x47).getLsbD i) (List.range 15)

/-- ATTEST. -/
def opAttest (p : Packet) (s : State) : State :=
  if s.latched then reply p ATT_LATCHED [] s
  else
    let tail := leBytes 1 s.seq.mode.code ++ leBytes 1 s.dbgCount
    let mac := hmacSha256 s.att (p.bytes 0 32 ++ s.meas ++ tail)
    done p (digestBytes mac ++ s.meas ++ tail ++ leBytes 2 (s.fld F.DBG_MEAS_CNT_MEAS_CNT) ++ leBytes 8 s.serial ++
      leBytes 4 0) s

def runAttest (p : Packet) (s : State) : State := mgtCommand 0xF101 (lenIs 32) allButCold opAttest p s

/-- DBG_LOCKOUT (R558). -/
def opDbgLockout (p : Packet) (s : State) : State :=
  checked p [(p.u32 0 != 0x4C4F434B, St.BAD_PARAM)]
    (fun s => done p [] ((burn 0x47 0x8000#32 s).setFlag F.DBG_STAT_LOCKED_OUT true)) s

def runDbgLockout (p : Packet) (s : State) : State := mgtCommand 0xF103 (lenIs 4) [.calibrate, .test] opDbgLockout p s

end Sys2Proof.Machine
end

