-- ==== Sys2Proof/Machine/Frame.lean ====
section
/-! DEFINITION. IEEE 802.15.4 frames as bytes: header, information elements, security and airtime (R160, R214, R253
to R260). The layout of the header is that of the standard, which the spec names. -/

namespace Sys2Proof.Machine

/-! ### Received frames -/

/-- A frame as parsed. -/
structure MFrame where
  type : Nat
  pending : Bool
  /-- Addresses: 0 elided, 2 short, 3 extended. -/
  dstMode : Nat
  dst : Nat
  srcMode : Nat
  src : Nat
  /-- The PAN IDs that it carries: destination, then source. -/
  pans : List Nat
  sec : Bool
  level : Nat
  kim : Nat
  ctr : Nat
  keySrc : List Byte
  keyIdx : Nat
  /-- Header IEs: element ID and content. -/
  ies : List (Nat × List Byte)
  /-- Payload IEs begin the body. -/
  payIes : Bool
  /-- The authenticated header, the body (encrypted where secured), the integrity code. -/
  head : List Byte
  body : List Byte
  mic : List Byte
  deriving DecidableEq, Repr

/-- Bytes of an address by its mode. -/
def addrLen (mode : Nat) : Nat := if mode = 3 then 8 else if mode = 2 then 2 else 0

/-- Which PAN IDs a frame of version 2 carries, by destination mode, source mode and PAN ID compression. -/
def panFields (d s : Nat) (c : Bool) : Bool × Bool :=
  if d = 0 ∧ s = 0 then (c, false)
  else if d ≠ 0 ∧ s = 0 then (!c, false)
  else if d = 0 then (false, !c)
  else if d = 3 ∧ s = 3 then (!c, false)
  else (true, !c)

/-- Bytes of the key identifier by mode. -/
def keyIdLen (kim : Nat) : Nat := nth [0, 1, 5, 9] kim

/-- Bytes of the integrity code of a security level. -/
def micLen (level : Nat) : Nat := nth [0, 4, 8, 16, 0, 4, 8, 16] level

/-- Header IEs up to their termination: the elements, whether payload IEs follow, and what is left. Nothing where a
length runs past the end. -/
def headerIes : Nat → List Byte → List (Nat × List Byte) → Option (List (Nat × List Byte) × Bool × List Byte)
  | 0, _, _ => none
  | fuel + 1, bs, acc =>
    if bs.length = 0 then some (acc, false, [])
    else if bs.length < 2 then none
    else
      let d := leAt bs 0 2
      let n := d % 128
      let id := d / 128 % 256
      let rest := bs.drop 2
      if d / 32768 = 1 then some (acc, true, bs)
      else if rest.length < n then none
      else if id = 0x7E then some (acc, true, rest.drop n)
      else if id = 0x7F then some (acc, false, rest.drop n)
      else headerIes fuel (rest.drop n) (acc ++ [(id, rest.take n)])

/-- Payload IEs up to their termination: group and content, and the payload that follows. -/
def payloadIes : Nat → List Byte → List (Nat × List Byte) → Option (List (Nat × List Byte) × List Byte)
  | 0, _, _ => none
  | fuel + 1, bs, acc =>
    if bs.length = 0 then some (acc, [])
    else if bs.length < 2 then none
    else
      let d := leAt bs 0 2
      let n := d % 2048
      let g := d / 2048 % 16
      let rest := bs.drop 2
      if d / 32768 = 0 ∨ rest.length < n then none
      else if g = 15 then some (acc, rest.drop n)
      else payloadIes fuel (rest.drop n) (acc ++ [(g, rest.take n)])

/-- Parse a PSDU: nothing where the frame engine drops it as FORMAT (R253, R256). -/
def parseFrame (psdu : List Byte) : Option MFrame :=
  let n := psdu.length
  if n < 6 ∨ leAt psdu (n - 4) 4 ≠ (crc32 (psdu.take (n - 4))).toNat then none
  else
    let bs := psdu.take (n - 4)
    let fcf := leAt bs 0 2
    let bit := fun (i : Nat) => fcf / 2 ^ i % 2 == 1
    let type := fcf % 8
    let sec := bit 3
    let dm := fcf / 1024 % 4
    let sm := fcf / 16384 % 4
    if fcf / 4096 % 4 ≠ 2 ∨ dm = 1 ∨ sm = 1 then none
    else
      let o := if bit 8 then 2 else 3
      let pf := panFields dm sm (bit 6)
      let dstPan := if pf.1 then [leAt bs o 2] else []
      let o := if pf.1 then o + 2 else o
      let dst := leAt bs o (addrLen dm)
      let o := o + addrLen dm
      let srcPan := if pf.2 then [leAt bs o 2] else []
      let o := if pf.2 then o + 2 else o
      let src := leAt bs o (addrLen sm)
      let o := o + addrLen sm
      let sc := if sec then leAt bs o 1 else 0
      let level := sc % 8
      let kim := sc / 8 % 4
      let ctr := if sec then leAt bs (o + 1) 4 else 0
      let kid := sliceBytes bs (o + 5) (keyIdLen kim)
      let o := if sec then o + 5 + keyIdLen kim else o
      let m := if sec then micLen level else 0
      if bs.length < o + m ∨ (sec = true ∧ sc / 32 % 2 = 1) then none
      else
        let rest := (bs.drop o).take (bs.length - o - m)
        let mic := bs.drop (bs.length - m)
        let ies := if bit 9 then headerIes 2048 rest [] else some ([], false, rest)
        match ies with
        | none => none
        | some (l, pay, body) =>
          some { type := type, pending := bit 4, dstMode := dm, dst := dst, srcMode := sm, src := src,
                 pans := dstPan ++ srcPan,
                 sec := sec, level := level, kim := kim, ctr := ctr, keySrc := kid.take (kid.length - 1),
                 keyIdx := leAt kid (kid.length - 1) 1, ies := l, payIes := pay,
                 head := bs.take (bs.length - m - body.length), body := body, mic := mic }

/-- The Vazodex CID, in the standard's byte order. -/
def cid : List Byte := leBytes 3 0x4A5C21

/-- Sub-elements: ID and content. Nothing where a length runs past the end. -/
def subElements : Nat → List Byte → List (Nat × List Byte) → Option (List (Nat × List Byte))
  | 0, _, acc => some acc
  | fuel + 1, bs, acc =>
    if bs.length = 0 then some acc
    else if bs.length < 2 ∨ bs.length < 2 + leAt bs 1 1 then none
    else subElements fuel (bs.drop (2 + leAt bs 1 1)) (acc ++ [(leAt bs 0 1, sliceBytes bs 2 (leAt bs 1 1))])

/-- The Vazodex sub-elements of a list of IEs with the vendor's element or group number (R256). -/
def vendorElements (vendor : Nat) (ies : List (Nat × List Byte)) : Option (List (Nat × List Byte)) :=
  ies.foldl (fun (acc : Option (List (Nat × List Byte))) e =>
    if e.1 = vendor ∧ e.2.take 3 = cid then
      match acc, subElements 2048 (e.2.drop 3) [] with
      | some a, some l => some (a ++ l)
      | _, _ => none
    else acc) (some [])

/-- Payload in clear: its sub-elements and what follows the payload IEs. -/
structure Clear where
  subs : List (Nat × List Byte)
  payload : List Byte
  deriving DecidableEq, Repr

/-- Read the body once it is in clear. -/
def readBody (f : MFrame) (body : List Byte) : Option Clear :=
  match vendorElements 0 f.ies, (if f.payIes then payloadIes 2048 body [] else some ([], body)) with
  | some h, some (ies, pl) => (vendorElements 2 ies).map (fun l => ⟨h ++ l, pl⟩)
  | _, _ => none

/-- Content of a sub-element with its length (R256). -/
def Clear.find (c : Clear) (id len : Nat) : Option (List Byte) :=
  (c.subs.find? (fun e => e.1 == id && e.2.length == len)).map (·.2)

/-- The correction that a Time Correction IE reports, in µs (R205): 12 bits in two's complement. -/
def MFrame.timeCorrection (f : MFrame) : Int :=
  match f.ies.find? (fun e => e.1 == 0x1E && 2 ≤ e.2.length) with
  | some e => signedOf 12 (leAt e.2 0 2)
  | none => 0

/-- The nonce of R258. -/
def nonceOf (eui ctr level : Nat) : List Byte := beBytes 8 eui ++ beBytes 4 ctr ++ beBytes 1 level

/-- Check and decrypt a secured frame. -/
def MFrame.open (f : MFrame) (key : List Byte) (eui : Nat) : Option (List Byte) :=
  ccmOpen key (nonceOf eui f.ctr f.level) f.head f.body f.mic

/-! ### Frames that the chip builds (R253, R255, R257, R259, R369) -/

/-- A header IE, and a payload IE. -/
def headerIe (id : Nat) (c : List Byte) : List Byte := leBytes 2 (c.length + 128 * id) ++ c
def payloadIe (group : Nat) (c : List Byte) : List Byte := leBytes 2 (c.length + 2048 * group + 32768) ++ c

/-- A sub-element. -/
def subElement (id : Nat) (c : List Byte) : List Byte := leBytes 1 id ++ leBytes 1 c.length ++ c

/-- What a frame to be built says of itself. -/
structure Plan where
  type : Nat
  pending : Bool
  /-- Destination and source: mode and address; the PAN ID where one is carried. -/
  dstMode : Nat
  dst : Nat
  srcMode : Nat
  src : Nat
  pan : Option Nat
  /-- Security level, or 0 for an unsecured frame; key identifier mode, source and index. -/
  level : Nat
  kim : Nat
  keySrc : List Byte
  keyIdx : Nat
  /-- Header IEs, their termination included. -/
  ies : List Byte
  body : List Byte
  deriving DecidableEq, Repr

/-- The header; the sequence number is suppressed. -/
def Plan.head (p : Plan) (ctr : Nat) : List Byte :=
  let pf := panFields p.dstMode p.srcMode false
  let pc := if p.pan.isSome then pf.1 == pf.2 else pf.1 || pf.2
  let fcf := p.type + (if p.level = 0 then 0 else 8) + (if p.pending then 16 else 0) + (if p.type = 1 ∧ p.kim = 1 then 32 else 0) +
    (if pc then 64 else 0) + 256 +
    (if p.ies.isEmpty ∧ p.body.isEmpty then 0 else 512) + 1024 * p.dstMode + 8192 + 16384 * p.srcMode
  let aux := if p.level = 0 then []
    else leBytes 1 (p.level + 8 * p.kim) ++ leBytes 4 ctr ++ p.keySrc ++ leBytes 1 p.keyIdx
  leBytes 2 fcf ++ (match p.pan with
    | some v => leBytes 2 v
    | none => []) ++ leBytes (addrLen p.dstMode) p.dst ++ leBytes (addrLen p.srcMode) p.src ++ aux ++ p.ies

/-- The PSDU under a key, a counter and the chip's EUI; the FCS ends it. -/
def Plan.psdu (p : Plan) (key : List Byte) (eui ctr : Nat) : List Byte :=
  let head := p.head ctr
  let bs := if p.level = 0 then head ++ p.body
    else
      let c := ccmSeal key (nonceOf eui ctr p.level) (micLen p.level) head p.body
      head ++ sliceBytes c.1 0 p.body.length ++ sliceBytes c.2 0 (micLen p.level)
  bs ++ leBytes 4 (crc32 bs).toNat

/-! ### Airtime -/

/-- Ticks of a frame's modulated symbols by profile entry, tier and PSDU length (R160, R214). -/
def frameTicks (e : List Byte) (tier len : Nat) : Nat :=
  match profType e with
  | 1 =>
    let long := profByte e 23 % 2 == 1
    let rate := profByte e 23 / 2
    let m := codewords len rate long
    let fill := m * infoBits long rate - 8 * len
    let d := 2 ^ tier * (360 + m * codeLen long - fill)
    (flrLead tier + d + 4 * ((d + 31) / 32 - 1)) * symTicks e
  | 2 =>
    if profByte e 16 = 0 ∧ profByte e 17 % 4 = 0 then
      8 * (orDefault (leAt e 25 2) 8 + 4 + len) * symTicks e
    else Config.sunSymbols e len * symTicks e
  | _ => Config.sunSymbols e len * symTicks e

/-- The largest PSDU of a frame. -/
def maxPsdu : Nat := 2047

end Sys2Proof.Machine
end

