-- ==== Sys2Proof/Machine/Mac.lean ====
section
/-! DEFINITION. Medium access: lanes, the Almanac, Heralds, associations, and an event up to the close of its
window (R185 to R201, R221 to R223). -/

namespace Sys2Proof.Machine

def MAC_SCHED_OWNED : Nat := 0x8400
def MAC_NODE_STATE : Nat := 0x8401
def MAC_TOO_LATE : Nat := 0x8402
def MAC_NO_ALMANAC : Nat := 0x8403
def MAC_ALMANAC_ACTIVE : Nat := 0x8404
def MAC_MAP_EMPTY : Nat := 0x8405

/-! ### Lanes (R201) -/

/-- Replace a lane; DUE counts its queue. -/
def putLane (n : Nat) (l : Lane) (s : State) : State :=
  (s.setLane n l).setFld (F.LNS_LANE_STAT_DUE n) l.due.length

/-- Set a lane's state; LNS_STAT follows. -/
def setLaneState (n st : Nat) (s : State) : State :=
  let s := s.setFld (F.LNS_LANE_STAT_STATE n) st
  (s.setBit F.LNS_STAT_FAULT n (st == laneFaulted)).setBit F.LNS_STAT_RUNNING n (1 ≤ st && st ≤ 3)

/-- Lanes serve in these modes. -/
def laneModes : List Mode := [.service, .banked, .test]

/-- The state of a running lane by its events. -/
def laneSettle (n : Nat) (s : State) : State :=
  if !s.laneRuns n then s
  else
    let a := (s.lane n).active
    setLaneState n (if a.isEmpty then laneWait else if a.any (fun e => e.heard) then laneExchange else laneWindow) s

/-- Change the events of a lane that satisfy a test. -/
def mapEvents (n : Nat) (p : RxEvent → Bool) (f : RxEvent → RxEvent) (s : State) : State :=
  let l := s.lane n
  let g := fun (e : RxEvent) => if p e then f e else e
  putLane n { l with due := l.due.map g, active := l.active.map g } s

/-- Change one event. -/
def editEvent (e : RxEvent) (f : RxEvent → RxEvent) (s : State) : State := mapEvents (laneOf e.ch) e.same f s

/-- Change the events of every lane that satisfy a test. -/
def mapAllEvents (p : RxEvent → Bool) (f : RxEvent → RxEvent) (s : State) : State :=
  (List.range 16).foldl (fun s n => mapEvents n p f s) s

/-- One window covers an event and all that overlap with it on its channel (R200). -/
def coverEvent (e : RxEvent) (s : State) : State :=
  let g := s.together e
  let c := (g.foldl (fun a x => least2 a x.cover.1) e.cover.1, greatest (g.map (·.cover.2)))
  mapAllEvents (fun x => g.any x.same) (fun x => { x with cover := c }) s

/-- Windows that are open on a channel. -/
def State.openOn (s : State) (ch : Nat) : List RxEvent :=
  s.delivered.filter (fun e => e.prepared && !e.closed && e.on ch)

def RxEvent.window (s : State) (e : RxEvent) : RxWindow := ⟨e.node, e.cover.1, e.cover.2, s.nf e.node N.TIER⟩

/-- The stream's window and claim follow the events that are still open on a channel; the node whose CFO was written
last is the expected one. -/
def settleWindow (ch : Nat) (s : State) : State :=
  let o := s.openOn ch
  let s := match (s.dctx ch).window with
    | some w => if w.lo ≤ s.now then notIdle ch s else s
    | none => s
  let s := s.setDctx ch { s.dctx ch with window := (o.getLast?).map (fun e => e.window s) }
  if o.isEmpty then s.setStream ch { s.stream ch with claim := false } else s

/-- Take an event out of its lane. -/
def removeEvent (e : RxEvent) (s : State) : State :=
  let n := laneOf e.ch
  let l := s.lane n
  let keep := fun (x : RxEvent) => !x.same e
  let s := putLane n { l with due := l.due.filter keep, active := l.active.filter keep } s
  laneSettle n (e.chans.foldl (fun s c => settleWindow c s) s)

/-- A lane goes to FAULT (R201): its locks are released and the fault is recorded. -/
def laneFaultRecord (n code : Nat) (s : State) : State :=
  let s := (setLaneState n laneFaulted s).setFld (F.LNS_LANE_STAT_FAULT_CODE n) code
  let s := abandonOf 1 (0x20 + n) (0x20 + n) s
  let s := s.setLane n { s.lane n with starting := false, waits := 0 }
  post (39 + n) sevDegraded 0x0805 (arg1 code) s

/-- A lane that waits for a round boundary starts; one with an image that is not valid faults. -/
def laneStart (n : Nat) (s : State) : State :=
  let l := s.lane n
  let st := s.laneState n
  if s.bit F.LNS_CTL_RUN n && s.inMode laneModes && (st == laneOff || (st == laneFaulted && l.starting)) then
    let r := s.draw
    let s := r.2.setLane n { l with starting := false, waits := r.1 % 2 ^ 32 }
    let s := (setLaneState n laneWait s).setFld (F.LNS_LANE_STAT_FAULT_CODE n) 0
    if l.imageValid then s else laneFaultRecord n 4 s
  else s

/-- LANE_RUN: the firmware loads an image and sets RUN. -/
def runLaneRun (n : Fin 16) (imageValid : Bool) (s : State) : State :=
  if s.inMode [.cold, .quarantine, .ember] then s
  else
    let s := s.setBit F.LNS_CTL_RUN n.val true
    s.setLane n.val { s.lane n.val with starting := true, imageValid := imageValid }

/-! ### Associations (R192, R193, R208, R223) -/

/-- Lane that owns the channel of a node's next event. -/
def State.nodeLane (s : State) (id : Nat) : Nat :=
  match s.eventOf id with
  | some e => laneOf e.ch
  | none => laneOf (s.hopOf id)

/-- The association fields of MAC_ASSOC_SET. -/
structure Assoc where
  wake : Nat
  supv : Nat
  chmap : Nat
  tier : Nat
  profile : Nat
  e0 : Nat
  anchor : Nat
  ofs : Nat
  deriving DecidableEq, Repr

/-- The fields as the command's parameters give them. -/
def Assoc.ofBytes (b : List Byte) : Assoc :=
  { wake := leAt b 4 2, supv := leAt b 6 2, chmap := leAt b 8 1, tier := leAt b 9 1, profile := leAt b 10 1,
    e0 := leAt b 12 2, anchor := leAt b 16 8, ofs := leAt b 24 4 }

/-- Write the association fields. -/
def writeAssoc (id : Nat) (a : Assoc) (s : State) : State :=
  let e := N.WAKE_INTERVAL.write a.wake (N.SUPV_TIMEOUT.write a.supv (N.CHMAP_IDX.write a.chmap
    (N.TIER.write a.tier (N.PHY_PROFILE.write a.profile (N.EVENT_CTR.write a.e0 (N.ANCHOR.write a.anchor
      (N.DRIFT_OFS.write a.ofs (s.node id))))))))
  s.setNode id e

/-- A node is associated anew (R192, R223). -/
def nodeJoin (id : Nat) (a : Assoc) (s : State) : State :=
  let e := N.STATE.write nsJoining (N.DRIFT_RATE.write 0 (N.MISS_CNT.write 0 (N.DRIFT_VAR.write 16383
    (N.LAST_HEARD.write (at24 s.now) (s.node id)))))
  keyUpdateJoin id (writeAssoc id a (s.setNode id e))

/-- A node comes back from HANDED_OFF (R192). -/
def nodeBack (id : Nat) (a : Assoc) (s : State) : State :=
  let e := N.STATE.write nsAssociated (N.LOCAL.write 1 (N.OWNER_CHIP.write s.chipNo (s.node id)))
  writeAssoc id a (s.setNode id e)

/-- Everything the lanes and the scheduler hold of a node's schedule goes. -/
def dropSchedule (id : Nat) (s : State) : State :=
  let s := (s.delivered.filter (fun e => e.node == id)).foldl (fun s e => removeEvent e s) s
  { s with mac.assocPend := s.mac.assocPend.set none id none, mac.ended := s.mac.ended.set 0 id 0,
           sched.updates := s.sched.updates.filter (fun u => u.node != id) }

/-- A node becomes LAPSED (R208). -/
def nodeLapse (id cause lane : Nat) (s : State) : State :=
  let args := arg4 id ++ arg1 cause ++ arg2 (s.nf id N.EVENT_CTR) ++ arg4 (s.nf id N.LAST_HEARD)
  let waits := s.mac.dropPend.filter (fun d => d.1 == id)
  let s := dropSchedule id s
  let e := N.STATE.write nsLapsed (N.WAKE_INTERVAL.write 0 (N.ANCHOR.write 0 (N.EVENT_CTR.write 0
    (N.MISS_CNT.write 0 (s.node id)))))
  let s := (dlqFlush id (s.setNode id e)).2
  let s := post (39 + lane) sevInfo 0x0804 args (s.count F.MAC_NODE_CNT_LAPSED 1)
  let s := { s with mac.dropPend := s.mac.dropPend.filter (fun d => d.1 != id) }
  waits.foldl (fun s d => finish d.2 St.OK [] s) s

/-! ### The Almanac (R186, R187, R222) -/

/-- The Almanac that runs or, where none does, the one whose START lies ahead (R497). -/
def State.almanac (s : State) : Option Almanac :=
  if s.almanacRuns then some s.mac.running else s.mac.nextAlmanac

/-- Rounds begun before a tick. -/
def Almanac.roundsBefore (a : Almanac) (t : Nat) : Nat :=
  if t < a.start ∨ a.ticks = 0 then 0 else (t - a.start) / a.ticks + 1
def Almanac.epochOf (a : Almanac) (g : Nat) : Nat := (a.epoch0 + g / a.rounds) % 2 ^ 32

/-- Start of an epoch that lies ahead; nothing where it has begun. -/
def Almanac.epochStart (a : Almanac) (e now : Nat) : Option Nat :=
  let ahead := a.roundsBefore now
  let cur := if ahead = 0 then a.epoch0 else a.epochOf (ahead - 1)
  let base := if ahead = 0 then 0 else (ahead - 1) / a.rounds
  let d := epochDiff e cur
  if 2 ^ 31 ≤ d ∨ (d = 0 ∧ ahead ≠ 0) then none else some (a.start + (base + d) * a.rounds * a.ticks)

/-- An epoch boundary is less than two rounds ahead, or past (MAC_TOO_LATE). -/
def State.epochLate (s : State) (a : Almanac) (e : Nat) : Bool :=
  match a.epochStart e s.now with
  | none => true
  | some t => t < s.now + 2 * a.ticks

/-- The epoch that a command names: 0 names EPOCH0 before START (R497). -/
def State.epochNamed (s : State) (a : Almanac) (e : Nat) : Nat :=
  if e = 0 ∧ s.almanacRuns = false then a.epoch0 else e

/-! ### Heralds (R189 to R191) -/

/-- The Herald set in the registers: configuration word and channels. -/
def State.heraldNow (s : State) : Option (Word × List Word) :=
  if s.mac.heraldOn then
    some (s.word R.MAC_HERALD_CFG, (List.range 4).map (fun k => s.word (R.MAC_HERALD_SET k)))
  else none

/-- The Herald set for an epoch. -/
def State.heraldFor (s : State) (e : Nat) : Option (Word × List Word) :=
  match s.mac.heraldPend with
  | some h => if epochDiff e h.epoch < 2 ^ 31 then some (h.cfg, h.hset) else s.heraldNow
  | none => s.heraldNow

/-- Channel of the Herald of round `g`. -/
def heraldChannel (cfg : Word) (hset : List Word) (g : Nat) : Nat :=
  leAt (wordBytes hset) (g % (F.MAC_HERALD_CFG_NSET_M1.read cfg + 1)) 1

/-- The Almanac and the round of the next Herald: a restart takes over at its START. -/
def State.nextRound (s : State) : Option (Almanac × Nat) :=
  match s.almanac with
  | none => none
  | some a =>
    let g := a.roundsBefore s.now
    match s.mac.nextAlmanac with
    | some b => if b.start ≤ a.start + g * a.ticks then some (b, 0) else some (a, g)
    | none => some (a, g)

/-- Plan the Herald of the next round, once: the lane that owns its channel has it built, unless none is to be sent in
that round (R209, R442). -/
def planHerald (s : State) : State :=
  match s.nextRound with
  | none => s
  | some (a, g) =>
    let t := a.start + g * a.ticks
    match s.heraldFor (a.epochOf g) with
    | none => s
    | some (cfg, hset) =>
      let ch := heraldChannel cfg hset g
      let lane := laneOf ch
      let starts := s.laneRuns lane || (s.bit F.LNS_CTL_RUN lane && (s.lane lane).imageValid &&
        s.laneState lane != laneFaulted)
      if t < s.mac.heraldAt ∨ s.inMode laneModes = false ∨ starts = false ∨ t < s.mac.txResume ∨
          t < s.pairU.heraldFrom ∨ s.pairU.takeover.isSome = true ∨ s.txStopped = true ∨ s.flag F.TMB_STAT_CAL_FAULT = true then s
      else
        { s with mac.heraldAt := t + 1, frames.builds := s.frames.builds ++
            [{ kind := .herald, node := broadcastId, slot := ch, lane := lane, first := t, level := 5, epoch := 0, ref := g,
               num := 0, payload := [] }] }

/-- A channel-map change applies at the next epoch (R190, R195). -/
def State.mapChanging (s : State) (e : Nat) : Bool :=
  s.mac.mapPend.any (fun c => 0 < epochDiff c.epoch e && epochDiff c.epoch e < 2 ^ 31)

/-- The 24 bytes of a Herald (R190). -/
def State.heraldContent (s : State) (a : Almanac) (g : Nat) : List Byte :=
  let e := a.epochOf g
  let cfg := match s.heraldFor e with
    | some x => x.1
    | none => 0
  let flags := F.MAC_HERALD_CFG_JOIN_OPEN.read cfg + (if s.mapChanging e then 2 else 0) +
    (if s.fld F.PAR_STAT_ROLE = 0 then 0 else 4)
  let ke := if s.keyState = kePrepared ∧ s.fld F.KEY_ACT_EPOCH_ACT_EPOCH = e then s.fld F.KEY_STAT_NEXT else s.keyCur
  leBytes 1 1 ++ leBytes 1 flags ++ leBytes 1 s.chipNo ++ leBytes 1 a.slotLen ++ leBytes 4 e ++
    leBytes 2 (g % a.rounds) ++ leBytes 2 a.roundsM1 ++ leBytes 1 a.baseSeed ++ leBytes 1 ke ++ leBytes 2 0 ++
    leBytes 8 (a.start + g * a.ticks)

/-! ### Rounds and epochs -/

/-- An epoch begins (R186): the Herald set, the maps and the key epoch named for it take effect. -/
def epochBegin (e : Nat) (s : State) : State :=
  let s := s.setFld F.MAC_EPOCH_EPOCH e
  let s := match s.mac.heraldPend with
    | some h =>
      if epochDiff e h.epoch < 2 ^ 31 then
        let s := s.setWord R.MAC_HERALD_CFG h.cfg
        let s := (List.range 4).foldl (fun (s : State) k => s.setWord (R.MAC_HERALD_SET k) (h.hset.getD k 0)) s
        { s with mac.heraldPend := none, mac.heraldOn := true }
      else s
    | none => s
  let due := s.mac.mapPend.filter (fun (c : MapChange) => epochDiff e c.epoch < 2 ^ 31)
  let old := due.map (fun (c : MapChange) => (⟨c.idx, e, s.ledger.chmap.get 0 c.idx⟩ : MapChange))
  let map := due.foldl (fun (m : Sparse (BitVec 256)) (c : MapChange) => m.set 0 c.idx c.map) s.ledger.chmap
  let s := { s with mac.mapPend := s.mac.mapPend.filter (fun c => !decide (epochDiff e c.epoch < 2 ^ 31)),
                    mac.mapOld := old, ledger.chmap := map }
  keyEpochStart e s

/-- The epoch of the current round differs from the current epoch. -/
def State.epochDue (s : State) : Bool :=
  s.almanacRuns && s.almStart ≤ s.now && s.epochOf (s.roundOf s.now) != s.epoch

/-- EPOCH_ROLL. -/
def runEpochRoll (s : State) : State :=
  if s.epochDue then epochBegin (s.epochOf (s.roundOf s.now)) s else s

/-- A window is open on a channel now. -/
def State.windowOpen (s : State) (c : Nat) : Bool := (s.openOn c).any (fun e => decide (e.cover.1 < s.now))

/-- The stream's last complete block of the round that ends now is blank-marked. -/
def State.lastBlank (s : State) (c : Nat) : Bool :=
  let per := blockPeriod (s.streamWidth c)
  s.blockBlank (branchNo (s.streamPair c) (s.primaryB c)) (s.now / per * per - per) per

/-- Idle power, as an RSSI code, of the channels that were in SINGLE and held no open window through the round that ends
now; the operand gives the mean power, in 1/1,000 dB of full scale, of each one's last complete block (R230). -/
def storeIdle (idle : List (Fin 256 × Int)) (s : State) : State :=
  let s := idle.foldl (fun s (x : Fin 256 × Int) =>
    let c := x.1.val
    if s.isHead c && s.chState c == stSingle && !s.windowOpen c && !s.sched.noIdle.contains c && !s.lastBlank c then
      let st := s.sched.chans.get ChanStats.empty c
      let code := s.rssiCode (branchNo (s.streamPair c) (s.primaryB c)) x.2
      { s with sched.chans := s.sched.chans.set ChanStats.empty c { st with idle := st.idle ++ [code] } }
    else s) s
  { s with sched.noIdle := (s.delivered.flatMap (·.chans)).filter s.windowOpen,
           sched.queuePeak := most2 s.sched.queuePeak s.demod.queue.length }

/-- Round `g` begins. -/
def roundBegin (g : Nat) (idle : List (Fin 256 × Int)) (s : State) : State :=
  let s := storeIdle idle s
  let s := runEpochRoll { s with mac.round := g + 1 }
  let s := s.setFld F.MAC_ALM_STAT_ROUND (g % s.rounds)
  planHerald ((List.range 16).foldl (fun s n => laneStart n s) s)

/-- What ROUND_START does but for the scheduler's part (R185): due when a round boundary has passed since the last one. -/
def roundStart (idle : List (Fin 256 × Int)) (s : State) : State :=
  if !s.almanacRuns ∨ s.now < s.almStart ∨ s.roundOf s.now < s.mac.round then s
  else roundBegin (s.roundOf s.now) idle s

/-- An Almanac runs from now on, with the values it is given (R187); the registers show them. -/
def loadAlmanac (a : Almanac) (s : State) : State :=
  let s := s.setFld F.MAC_ALM_CFG_BASE_SEED a.baseSeed
  let s := s.setFld F.MAC_ALM_CFG_SLOT_LEN a.slotLen
  let s := s.setFld F.MAC_ALM_CFG_ROUNDS_M1 a.roundsM1
  let s := s.setPair R.MAC_ALM_START_LO R.MAC_ALM_START_HI a.start
  let s := s.setFld F.MAC_SLOT_CFG_EV_OFS a.evOfs
  let s := s.setFld F.MAC_SLOT_CFG_ACK_TURN a.ackTurn
  let s := s.setFlag F.MAC_ALM_STAT_RUNNING true
  let s := s.setFld F.MAC_ALM_STAT_SLOT_LEN a.slotLen
  { s with mac.running := { a with cmd := none }, mac.round := 0, mac.nextAlmanac := none }

/-- ALMANAC_START (R187, R219, R222): due at START. -/
def runAlmanacStart (s : State) : State :=
  match s.mac.nextAlmanac with
  | none => s
  | some a =>
    if s.now < a.start then s
    else
      let s := if s.almanacRuns then s.wheel.foldl (fun s id => nodeLapse id 2 (s.nodeLane id) s) s else s
      let s := loadAlmanac a s
      let s := if s.mac.feastSampled then s
        else
          let s := { s with mac.feastSampled := true }
          if s.flag F.MAC_CTL_FEAST_COLD then feastCold a.start s else s
      let s := post 39 sevInfo 0x0801 (arg4 a.epoch0 ++ arg8 a.start) s
      let s := match a.cmd with
        | some q => finishAt a.start q St.OK [] s
        | none => s
      roundBegin (s.roundOf s.now) [] (epochBegin (s.epochOf (s.roundOf s.now)) s)

/-! ### Delivery and windows (R196, R197, R200) -/

/-- The lane can take an event on a channel, the map it comes from has one (R20), and the node's entry is not FROZEN and
reads without error (R317, R344). -/
def State.canDeliver (s : State) (id ch chmap anchor : Nat) : Bool :=
  s.mapServes chmap anchor && s.served ch && s.laneRuns (laneOf ch) && s.nf id N.FROZEN == 0 &&
    !s.rowBad 0 id && (s.lane (laneOf ch)).due.length < 64

/-- An event of a node. -/
def State.newEvent (s : State) (id e ch anchor wake : Nat) (shadow : Bool) : RxEvent :=
  let w := s.windowAt id anchor wake
  { node := id, ctr := e, ch := ch, anchor := anchor, lo := w.lo, hi := w.hi, kind := w.kind,
    oldCh := if w.kind = 2 && !shadow then
        (match s.oldHop id e anchor with
         | some c => if c = ch then none else some c
         | none => none)
      else none,
    shadow := shadow, prepared := false, heard := false, obstructed := false, closed := false, clash := false,
    skip := false, unserved := false, modelled := false, cover := (w.lo, w.hi), sent := 0, lastEnd := 0, pendingBit := false, waiting := false }

/-- Put an event into the due queue of the lane that owns its channel. -/
def deliverEvent (e : RxEvent) (s : State) : State :=
  let n := laneOf e.ch
  let l := s.lane n
  coverEvent e (putLane n { l with due := l.due ++ [e] } s)

/-- A node's own event is still to be delivered: at most two rounds before its round, and not after its window
opens. -/
def State.deliveryDue (s : State) (id anchor : Nat) (shadow : Bool) : Bool :=
  s.almanacRuns && anchor ≤ s.now + 2 * s.slotTicks &&
    !(s.delivered.any (fun e => e.node == id && e.anchor == anchor && e.shadow == shadow))

/-- EVENT_DELIVERY: the node's event, and a shadow window of its old schedule (R243). -/
def runEventDelivery (node : BitVec 17) (s : State) : State :=
  let id := node.toNat
  if !onWheel (s.nodeState id) then s
  else
    let a := s.nf id N.ANCHOR
    let ch := s.hopAt id (s.nf id N.CHMAP_IDX) (s.nf id N.EVENT_CTR) a
    let e := s.newEvent id (s.nf id N.EVENT_CTR) ch a (s.nf id N.WAKE_INTERVAL) false
    let s := if s.deliveryDue id a false && s.now < e.lo && s.mac.ended.get 0 id ≤ a &&
        s.canDeliver id ch (s.nf id N.CHMAP_IDX) a then
        deliverEvent e s else s
    match s.sched.updates.find? (fun u => u.node == id && u.applied) with
    | none => s
    | some u =>
      let ch := s.hopAt id u.oldChmap u.oldE u.oldAnchor
      let e := s.newEvent id u.oldE ch u.oldAnchor u.oldWake true
      if s.deliveryDue id u.oldAnchor true && s.now < e.lo && s.canDeliver id ch u.oldChmap u.oldAnchor then
        deliverEvent e s else s

/-- The tick at which a lane prepares an event. -/
def State.prepareAt (s : State) (e : RxEvent) : Nat := e.lo - blockPeriod (s.streamWidth e.ch) - 3000

/-- One stream made ready for an event: CFO into TRIM, a claim where DIV is WINDOWED, the expected window. -/
def prepareStream (e : RxEvent) (ch : Nat) (s : State) : State :=
  if !s.isHead ch then s
  else
    let s := trimWrite ch (BitVec.ofNat 16 (s.nf e.node N.CFO)) s
    let s := if s.fld (F.CHZ_CH_CFG_DIV ch) = 1 then s.setStream ch { s.stream ch with claim := true } else s
    settleWindow ch s

/-- WINDOW_PREPARE (R197): due at lo − P − 3,000 of a delivered event. -/
def runWindowPrepare (node : BitVec 17) (s : State) : State :=
  let lanes := List.range 16
  match (lanes.flatMap (fun n => (s.lane n).due)).find? (fun e =>
      e.node == node.toNat && s.prepareAt e ≤ s.now && s.laneRuns (laneOf e.ch)) with
  | none => s
  | some e =>
    let n := laneOf e.ch
    let l := s.lane n
    let x := { e with prepared := true }
    let s := putLane n { l with due := l.due.filter (fun y => !y.same e), active := l.active ++ [x] } s
    let s := e.chans.foldl (fun s c => prepareStream e c s) s
    laneSettle n (if e.shadow then s else dlqExpire e.node s)

/-- The detection window of an event's node (R197). -/
def State.tDet (s : State) (e : RxEvent) : Nat := detTicks (s.streamProf e.ch) (s.nf e.node N.TIER)

/-- The end of an event's window, that of all it is open for, with the detection window (R197, R200). -/
def State.windowEnd (s : State) (e : RxEvent) : Nat :=
  e.cover.2 + greatest (((s.delivered.filter (fun x => x.cover == e.cover && x.chans.any e.on)).map s.tDet) ++ [s.tDet e])

/-- WINDOW_CLOSE (R197): due at hi + T_det with no frame under reception on the event's streams. -/
def runWindowClose (node : BitVec 17) (s : State) : State :=
  match s.delivered.find? (fun e => e.node == node.toNat && e.prepared && !e.closed && decide (s.windowEnd e ≤ s.now) &&
      e.chans.all (fun c => (s.dctx c).frame.isNone)) with
  | none => s
  | some e =>
    let s := editEvent e (fun x => { x with closed := true }) s
    e.chans.foldl (fun s c => settleWindow c s) s

/-! ### Commands (R221 to R223) -/

/-- MAC_ALMANAC_SET. -/
def opMacAlmanacSet (p : Packet) (s : State) : State :=
  let slot := p.u8 1
  checked p
    [(1 < p.u8 0 || slot == 0 || 200 < slot || p.dirty 5 3 || p.dirty 24 8 || slot * 150000 ≤ p.u16 12 * 1200 ||
      p.u16 14 < 50 || 2000 < p.u16 14, St.BAD_PARAM),
     (s.almanacRuns && !p.bit 0 0, MAC_ALMANAC_ACTIVE),
     (p.u64 16 < s.now + 2 * (slot * 150000), MAC_TOO_LATE),
     (s.mac.nextAlmanac.isSome, St.BUSY)] (fun s =>
    let r := defer p s
    let a : Almanac :=
      { slotLen := slot, roundsM1 := p.u16 2, baseSeed := p.u8 4, epoch0 := p.u32 8, evOfs := p.u16 12,
        ackTurn := p.u16 14, start := p.u64 16, cmd := some r.1 }
    planHerald { r.2 with mac.nextAlmanac := some a }) s

def runMacAlmanacSet (p : Packet) (s : State) : State := command 0x4001 (lenIs 32) radioModes opMacAlmanacSet p s

/-- A command that needs an Almanac that runs, or will. -/
def withAlmanac (p : Packet) (act : Almanac → State → State) (s : State) : State :=
  match s.almanac with
  | none => reply p MAC_NO_ALMANAC [] s
  | some a => act a s

/-- MAC_HERALD_SET: EPOCH 0 names the next epoch, or EPOCH0 before START. -/
def opMacHeraldSet (p : Packet) (s : State) : State :=
  let nset := p.u8 0
  checked p
    [(nset == 0 || 16 < nset || 3 < p.u8 1 || 62 < p.u8 2 || !s.profLoaded (p.u8 2) || 3 < p.u8 3 ||
      (p.u8 3 != 0 && profType (s.profile (p.u8 2)) != 1) || 64 < p.u8 4 || 1 < p.u8 5 || p.dirty 6 2, St.BAD_PARAM)]
    (fun s => withAlmanac p (fun a s =>
      let e := if p.u32 8 ≠ 0 then p.u32 8
        else if s.almanacRuns then (a.epochOf (s.roundOf s.now) + 1) % 2 ^ 32 else a.epoch0
      if s.epochLate a e then reply p MAC_TOO_LATE [] s
      else
        let cfg := BitVec.ofNat 32 (p.u8 1 * 2 ^ 30 + p.u8 2 * 2 ^ 24 + p.u8 3 * 2 ^ 22 + p.u8 5 * 2 ^ 21 +
          (nset - 1) * 2 ^ 17 + p.u8 4 * 2 ^ 10)
        let hs := (List.range 4).map (fun k => BitVec.ofNat 32 (p.u32 (12 + 4 * k)))
        done p [] (planHerald { s with mac.heraldPend := some ⟨e, cfg, hs⟩ })) s) s

def runMacHeraldSet (p : Packet) (s : State) : State := command 0x4002 (lenIs 28) radioModes opMacHeraldSet p s

/-- A map content is scheduled for an epoch; a later one for the same entry and epoch replaces it. -/
def scheduleMap (i e : Nat) (m : BitVec 256) (s : State) : State :=
  let l := s.mac.mapPend.filter (fun c => !(c.idx == i && c.epoch == e))
  { s with mac.mapPend := insertBy (fun (c : MapChange) => epochDiff c.epoch s.epoch) ⟨i, e, m⟩ l }

/-- MAC_CHMAP_SET. -/
def opMacChmapSet (p : Packet) (s : State) : State :=
  let m := BitVec.ofNat 256 (leNat (p.bytes 8 32))
  checked p
    [(63 < p.u8 0 || p.dirty 1 3, St.BAD_PARAM),
     (!fromCores p && !s.frozen (s.mapEnv (p.u8 0)), MAC_SCHED_OWNED),
     (m == 0, MAC_MAP_EMPTY)] (fun s => withAlmanac p (fun a s =>
      let e := s.epochNamed a (p.u32 4)
      if s.epochLate a e then reply p MAC_TOO_LATE [] s
      else done p [] (scheduleMap (p.u8 0) e m { s with sched.removed := s.sched.removed.set 0 (p.u8 0) 0 })) s) s

def runMacChmapSet (p : Packet) (s : State) : State := command 0x4003 (lenIs 40) radioModes opMacChmapSet p s

/-- R193, and ANCHOR at a round start. -/
def State.assocBad (s : State) (a : Assoc) : Bool :=
  a.wake == 0 || a.supv * 120000000 < 3 * a.wake * s.slotTicks || !s.roundAligned a.anchor ||
    s.mapAt a.chmap (s.epochOf (s.roundOf a.anchor)) == 0

/-- The envelope leaves the node's schedule to another issuer (R226). -/
def State.schedOwned (s : State) (p : Packet) (id : Nat) (a : Assoc) : Bool :=
  !fromCores p && (!s.frozen (s.nodeEnv 3 id) || (a.tier != s.nf id N.TIER && !s.frozen (s.nodeEnv 4 id)) ||
    (a.chmap != s.nf id N.CHMAP_IDX && !s.frozen (s.mapEnv a.chmap)))

/-- MAC_ASSOC_SET (R223). -/
def opMacAssocSet (p : Packet) (s : State) : State :=
  let id := p.u32 0
  let a := Assoc.ofBytes p.params
  let st := s.nodeState id
  checked p
    [(id == 0 || broadcastId ≤ id || 63 < a.chmap || 3 < a.tier || 62 < a.profile || p.dirty 11 1 || p.dirty 14 2 ||
      p.dirty 28 4, St.BAD_PARAM),
     (!s.almanacRuns, MAC_NO_ALMANAC),
     (st == nsFree || (st == nsHandedOff && !fromCores p), MAC_NODE_STATE),
     (s.schedOwned p id a, MAC_SCHED_OWNED),
     (s.assocBad a, St.BAD_PARAM),
     (s.tooLate a.anchor, MAC_TOO_LATE)] (fun s =>
    let s := if st = nsLearned ∨ st = nsLapsed then nodeJoin id a s
      else if st = nsHandedOff then nodeBack id a s
      else if (s.eventOf id).isSome then { s with mac.assocPend := s.mac.assocPend.set none id (some p.params) }
      else writeAssoc id a s
    done p [] s) s

def runMacAssocSet (p : Packet) (s : State) : State := command 0x4004 (lenIs 32) radioModes opMacAssocSet p s

/-- MAC_ASSOC_DROP: an event in progress ends first. -/
def opMacAssocDrop (p : Packet) (s : State) : State :=
  let id := p.u32 0
  checked p [(id == 0 || broadcastId ≤ id, St.BAD_PARAM), (!onWheel (s.nodeState id), MAC_NODE_STATE)] (fun s =>
    if (s.eventOf id).isSome then
      let r := defer p s
      { r.2 with mac.dropPend := r.2.mac.dropPend ++ [(id, r.1)] }
    else done p [] (nodeLapse id 1 (s.nodeLane id) s)) s

def runMacAssocDrop (p : Packet) (s : State) : State := command 0x4005 (lenIs 4) radioModes opMacAssocDrop p s

/-- MAC_NODE_TIMING. -/
def opMacNodeTiming (p : Packet) (s : State) : State :=
  let id := p.u32 0
  checked p
    [(id == 0 || broadcastId ≤ id, St.BAD_PARAM), (!s.almanacRuns, MAC_NO_ALMANAC),
     (!onWheel (s.nodeState id), MAC_NODE_STATE)] (fun s =>
    let w := s.window id
    let (ch, lo, hi, kind) := match s.delivered.find? (fun e => e.node == id && !e.shadow) with
      | some e => (e.ch, e.lo, e.hi, e.kind)
      | none => (s.hopOf id, w.lo, w.hi, w.kind)
    done p (leBytes 1 (s.nodeState id) ++ leBytes 1 (s.nf id N.MISS_CNT) ++ leBytes 2 (s.nf id N.EVENT_CTR) ++
      leBytes 1 ch ++ leBytes 1 kind ++ leBytes 2 0 ++ leBytes 8 (s.nf id N.ANCHOR) ++ leBytes 8 lo ++ leBytes 8 hi ++
      leBytes 4 w.g ++ leBytes 4 w.u) s) s

def runMacNodeTiming (p : Packet) (s : State) : State := command 0x4006 (lenIs 4) coreModes opMacNodeTiming p s

/-- The windows that have not opened are computed again. -/
def reWindow (s : State) : State :=
  let s := mapAllEvents (fun e => decide (s.now < e.cover.1)) (fun e =>
    let wake := match (if e.shadow then s.sched.updates.find? (fun u => u.node == e.node && u.applied) else none) with
      | some u => u.oldWake
      | none => s.nf e.node N.WAKE_INTERVAL
    let w := s.windowAt e.node e.anchor wake
    { e with lo := w.lo, hi := w.hi, cover := (w.lo, w.hi) }) s
  let l := s.delivered.filter (fun e => decide (s.now < e.cover.1))
  let s := l.foldl (fun s e => coverEvent e s) s
  (l.filter (·.prepared)).foldl (fun s e => e.chans.foldl (fun s c => settleWindow c s) s) s

/-- MAC_TIMING_SET: the values apply to the windows that open from now on. -/
def opMacTimingSet (p : Packet) (s : State) : State :=
  checked p
    [(p.u16 0 < 1200 || p.u8 2 == 0 || 6 < p.u8 2 || p.u16 4 == 0 || p.u16 4 < p.u16 6 || p.dirty 8 4, St.BAD_PARAM)]
    (fun s =>
    let s := s.setFld F.MAC_DRIFT_CFG_G_MIN (p.u16 0)
    let s := s.setFld F.MAC_DRIFT_CFG_ALPHA_SH (p.u8 2)
    let s := s.setFld F.MAC_DRIFT_CFG_CORR_MIN (p.u8 3)
    done p [] (reWindow ((s.setFld F.MAC_DRIFT_U_U_MAX (p.u16 4)).setFld F.MAC_DRIFT_U_U_MIN (p.u16 6)))) s

def runMacTimingSet (p : Packet) (s : State) : State := command 0x4007 (lenIs 12) radioModes opMacTimingSet p s

/-- What MAC_LEDGER_READ answers. -/
def ledgerReply (cur limit window used value : Nat) : List Byte :=
  leBytes 8 cur ++ leBytes 4 limit ++ leBytes 4 window ++ leBytes 4 used ++ leBytes 4 (limit - used) ++
    leBytes 4 value ++ leBytes 4 0

/-- MAC_LEDGER_READ (R215 to R218, R569). -/
def opMacLedgerRead (p : Packet) (s : State) : State :=
  let i := p.u8 1
  checked p [(1 < p.u8 0 || (p.u8 0 == 0 && 15 < i) || p.dirty 2 2, St.BAD_PARAM)] (fun s =>
    if p.u8 0 = 0 then
      let cur := feastSec s.now
      let b := s.band i
      let on := b.valid && b.feast
      let s := feastVoteRange i (cur + 1 - b.dutyWin) cur s
      let used := if on then s.feastSum i (cur + 1 - b.dutyWin) cur else 0
      done p (ledgerReply (cur - feastBase) (if on then b.dutyPpm * b.dutyWin else 0xFFFFFFFF) (if on then b.dutyWin else 0) used
        (s.feastVoted (feastKey i cur))) s
    else
      let lim := match s.channelEff i with
        | some eff => eff.dwell
        | none => none
      match lim with
      | some (ms, wd) =>
        let s := s.setDwell i ((s.dwellOf i).rebuild ms wd s.now)
        let d := s.dwellOf i
        let cur := dwellSec wd s.now
        done p (ledgerReply (cur - dwellBase) (ms * 1000) wd (d.run (ms * 1000) (cur - 32)) (d.read (ms * 1000) cur)) s
      | none =>
        let d := s.dwellOf i
        let cur := dwellSec d.wd s.now
        done p (ledgerReply (cur - dwellBase) 0xFFFFFFFF 0 (d.held s.now) (d.read (d.ms * 1000) cur)) s) s

def runMacLedgerRead (p : Packet) (s : State) : State := command 0x4008 (lenIs 4) coreModes opMacLedgerRead p s

end Sys2Proof.Machine
end

