-- ==== Sys2Proof/Machine/Handover.lean ====
section
/-! DEFINITION. What a handover does to a node's entry at either chip (R427 to R431). -/

namespace Sys2Proof.Machine

def FAB_HO_REFUSED : Nat := 0x8B03
def FAB_HO_STATE : Nat := 0x8B04
def FAB_HO_REVERTED : Nat := 0x8B05

/-- The handover in progress of a node, and of an EUI-64. -/
def State.handoverOf (s : State) (id : Nat) : Option Handover := s.zoant.handovers.find? (fun h => h.node == id)
def State.handoverFor (s : State) (eui : Quad) : Option Handover := s.zoant.handovers.find? (fun h => h.eui == eui)

def dropHandover (eui : Quad) (s : State) : State :=
  { s with zoant.handovers := s.zoant.handovers.filter (fun h => h.eui != eui) }

/-- Replace the record of a handover. -/
def putHandover (h : Handover) (s : State) : State :=
  { s with zoant.handovers := s.zoant.handovers.map (fun x => if x.eui = h.eui then h else x) }

/-- Supervision has expired (R208). -/
def State.supvExpired (s : State) (id : Nat) : Bool :=
  s.nf id N.LAST_HEARD + (s.nf id N.SUPV_TIMEOUT * 120000000 + 2 ^ 24 - 1) / 2 ^ 24 ≤ at24 s.now

/-- R199, steps 1 and 2, for every event of a node whose round begins before a tick: how many there were. -/
def passEvents (id until' : Nat) (s : State) : Nat × State :=
  let a := s.nf id N.ANCHOR
  let i := s.interval id
  if i = 0 ∨ until' ≤ a then (0, s)
  else
    let k := (until' - a + i - 1) / i
    let e := N.EVENT_CTR.write (s.nf id N.EVENT_CTR + k) (N.ANCHOR.write (a + k * i) (s.node id))
    (k, s.setNode id e)

/-- The events of a node less than two rounds ahead are SKIPPED (R209, R442, R498). -/
def skipEvents (id until' : Nat) (s : State) : State :=
  let r := passEvents id until' s
  (r.2.wrapCount F.MAC_EVENTS_EVENTS r.1).count F.MAC_EVT_CNT2_SKIPPED r.1

/-- The datagrams of a downlink queue that move with the node (R429): one copy of each. -/
def movable : List DlFrame → List (Nat × List Byte)
  | [] => []
  | f :: l =>
    let rest := movable l
    if f.keyUpd ≠ 0 ∨ f.camp ≠ 0 ∨ f.raw = [] then rest
    else (f.dgram, f.raw) :: rest.filter (fun x => x.1 != f.dgram)

/-- Arguments of the handover records: short ID, EUI-64, the other chip. -/
def Handover.args (h : Handover) : List Byte := arg4 h.node ++ arg8 h.eui.toNat ++ arg1 h.other

/-- The reply of FAB_HANDOVER. -/
def Handover.reply (h : Handover) (reason : Nat) : List Byte :=
  leBytes 4 h.newId ++ leBytes 2 (h.eh - 1) ++ leBytes 1 reason ++ leBytes 1 0

/-- Step 4 at the source, at the end of event E_h − 1: the entry is handed off and its queue moves. -/
def hoSwitchSource (h : Handover) (s : State) : State :=
  let id := h.node
  let anchor := s.nf id N.ANCHOR
  let data := movable (s.dlqOf id)
  let s := pendLeave id (dlqRemove id (fun _ => true) s).2
  let e := N.STATE.write nsHandedOff (N.LOCAL.write 0 (N.OWNER_CHIP.write h.other (s.node id)))
  let s := (dropSchedule id s).setNode id e
  let s := zoantSend h.other 1 20 (.hoSwitch h.eui (h.eh - 1) anchor) s
  let s := data.foldl (fun s d => zoantSend h.other 3 (8 + d.2.length) (.moved h.eui d.2) s) s
  putHandover { h with switched := true, ehAnchor := anchor, heardAt := s.now } s

/-- The end of event E_h − 1 at the source. -/
def hoEventEnd (id : Nat) (s : State) : State :=
  match s.handoverOf id with
  | some h =>
    if h.source && h.ready && !h.switched && h.eh != 0 && s.nf id N.EVENT_CTR == h.eh - 1 then hoSwitchSource h s else s
  | none => s

/-- The fields that the target takes from the offer (R429). -/
def takeOffered (id : Nat) (o : BitVec 512) (s : State) : State :=
  let copy (f : NField) (e : BitVec 512) : BitVec 512 := f.write (f.read o) e
  let e := [N.DRIFT_OFS, N.DRIFT_RATE, N.DRIFT_VAR, N.MISS_CNT, N.CFO, N.IN_CTR, N.IN_WIN, N.KEY_EPOCH, N.PARENT,
    N.TX_POWER].foldl (fun e f => copy f e) (s.node id)
  s.setNode id e

/-- Step 5 at the target: the node is associated from event E_h on. -/
def hoSwitchTarget (eui : Quad) (eh anchor : Nat) (s : State) : State :=
  match s.handoverFor eui with
  | none => s
  | some h =>
    match h.offer with
    | none => s
    | some o =>
      if h.source || h.switched then s
      else
        let r := fun (f : NField) => f.read o.entry
        let a : Assoc :=
          { wake := r N.WAKE_INTERVAL, supv := r N.SUPV_TIMEOUT, chmap := r N.CHMAP_IDX, tier := r N.TIER,
            profile := r N.PHY_PROFILE, e0 := eh, anchor := anchor, ofs := r N.DRIFT_OFS }
        let s := if h.reused then nodeBack h.node a s else nodeJoin h.node a s
        let s := (takeOffered h.node o.entry s).setDigest h.node o.digest
        putHandover { h with switched := true, eh := eh + 1, ehAnchor := anchor, heardAt := s.now } s

/-- HANDOVER_ACK is heard in a window of events E_h to E_h + LEASE_EVENTS − 1 (R430): the handover commits once the
source has acknowledged HO_COMMIT. A frame without it is noted (R431). -/
def hoHeard (id : Nat) (ack : Option Nat) (s : State) : State :=
  match s.handoverOf id with
  | none => s
  | some h =>
    let past := (s.nf id N.EVENT_CTR + 65536 - (h.eh - 1)) % 65536
    if h.source || !h.switched || h.committed || h.leaseEvents ≤ past then s
    else if ack = some (h.eh - 1) then
      zoantSend h.other 1 8 (.hoCommit h.eui) (putHandover { h with acked := true, committed := true } s)
    else putHandover { h with plain := true } s

/-- The target's part of a commit, when the source has acknowledged HO_COMMIT. -/
def hoDoneTarget (eui : Quad) (s : State) : State :=
  match s.handoverFor eui with
  | none => s
  | some h =>
    let s := zoantFlood none 13 (.ownerNotice eui s.chipNo h.node) (dropHandover eui s)
    let s := zfbRaise 0x40 (s.count F.ZFB_CNT1_HANDOVERS 1)
    post 27 sevInfo 0x110B h.args s

/-- The source's part, when HO_COMMIT comes. -/
def hoDoneSource (eui : Quad) (s : State) : State :=
  match s.handoverFor eui with
  | none => s
  | some h =>
    let s := zfbRaise 0x40 ((dropHandover eui s).count F.ZFB_CNT1_HANDOVERS 1)
    finishOpt h.cmd St.OK (h.reply 0) (post 27 sevInfo 0x110B h.args s)

/-- Reversion at the target (R431). -/
def hoRevertTarget (h : Handover) (s : State) : State :=
  let id := h.node
  let (ctr, win, dig) := (s.nf id N.IN_CTR, s.nf id N.IN_WIN, s.digest id)
  let s := dropHandover h.eui s
  let s := if h.reused then
      (dropSchedule id s).setNode id (N.STATE.write nsHandedOff (N.LOCAL.write 0 (N.OWNER_CHIP.write h.other (s.node id))))
    else nodeLapse id 1 (s.nodeLane id) s
  let s := zfbRaise 0x40 (zoantSend h.other 1 20 (.hoRevert h.eui ctr win dig) s)
  post 27 sevDegraded 0x110C h.args s

/-- Reversion at the source (R431): the target's counters are taken where they are ahead, and every event that passed
is counted through. -/
def hoRevertSource (h : Handover) (counters : Option (Nat × Nat × Word)) (s : State) : State :=
  let id := h.node
  let s := dropHandover h.eui s
  let s := if h.switched && s.nodeState id == nsHandedOff then
      let e := N.STATE.write nsAssociated (N.LOCAL.write 1 (N.OWNER_CHIP.write s.chipNo (s.node id)))
      let s := s.setNode id e
      let s := match counters with
        | some (c, w, d) =>
          if s.nf id N.IN_CTR < c then
            (s.setNode id (N.IN_CTR.write c (N.IN_WIN.write w (s.node id)))).setDigest id d
          else s
        | none => s
      let r := passEvents id (s.now - s.slotTicks + 1) s
      if r.1 ≠ 0 ∧ s.supvExpired id = true then nodeLapse id 0 (r.2.nodeLane id) r.2 else r.2
    else s
  finishOpt h.cmd FAB_HO_REVERTED (h.reply 0) (post 27 sevDegraded 0x110C h.args (zfbRaise 0x40 s))

/-- The target has to revert (R431): the node was heard without HANDOVER_ACK, or the lease's events have passed. -/
def State.hoLost (s : State) (h : Handover) : Bool :=
  !h.source && h.switched && !h.committed &&
    (h.plain || h.leaseEvents ≤ (s.nf h.node N.EVENT_CTR + 65536 - (h.eh - 1)) % 65536)

/-- HANDOVER_REVERTED (R431). -/
def runHandoverReverted (node : BitVec 17) (s : State) : State :=
  match s.handoverOf node.toNat with
  | some h => if s.hoLost h && (s.eventOf h.node).isNone then hoRevertTarget h s else s
  | none => s

end Sys2Proof.Machine
end

