-- ==== Sys2Proof/Machine/Events.lean ====
section
/-! DEFINITION. How an event ends: HEARD and the drift model, the outcomes, and what follows from them (R198 to R210,
R242, R243, R370). -/

namespace Sys2Proof.Machine

/-! ### Announcements of a rollout (R370) -/

/-- Symbols of T bytes and source blocks (R361). -/
def Campaign.t (x : Campaign) : Nat := 32 * 2 ^ x.tCode
def Campaign.nSym (x : Campaign) : Nat := (x.length + x.t - 1) / x.t
def Campaign.z (x : Campaign) : Nat := if x.kMax = 0 then 0 else (x.nSym + x.kMax - 1) / x.kMax

/-- ROLLOUT_ANNOUNCE but for IMK, which is added when the frame is built. -/
def Campaign.announcement (x : Campaign) : List Byte :=
  [0x08#8, 48#8] ++ leBytes 4 x.imageId ++ leBytes 4 x.length ++ leBytes 1 x.tCode ++ leBytes 1 x.kMax ++ leBytes 2 x.z ++
    leBytes 4 x.seed ++ leBytes 4 x.crc ++ leBytes 1 x.channel ++ leBytes 1 x.tier ++ leBytes 1 x.winRounds ++
    leBytes 1 0 ++ leBytes 4 x.startEpoch ++ leBytes 2 x.startRound ++ leBytes 2 x.period

/-- Queue the announcement to a pending node. -/
def queueAnnounce (c id : Nat) (s : State) : State :=
  (dlqAdmit id [⟨(s.camp c).announcement, [], [], 0, 0, c + 1⟩] s).2

/-- An event of a node has ended: the announcement is repeated after every 16 that brought no report. -/
def rolEvent (id : Nat) (s : State) : State :=
  (List.range 16).foldl (fun s c =>
    let x := s.camp c
    if s.campState c ≠ rsAnnouncing ∧ s.campState c ≠ rsSending then s
    else
      match x.announce.find? (fun a => a.1 == id) with
      | none => s
      | some (_, v) =>
        let v := if v % 2 = 1 then v - 1 else v + 2
        let put := fun (v : Nat) (s : State) =>
          s.setCamp c { x with announce := x.announce.map (fun a => if a.1 = id then (id, v) else a) }
        if 32 ≤ v then queueAnnounce c id (put 0 s) else put v s) s

/-! ### HEARD (R204, R206, R207) -/

/-- The drift model after a HEARD event (R204): wake interval in force, observed offset and correction reported. -/
def driftUpdate (id wake : Nat) (o cr : Int) (s : State) : State :=
  let miss := s.nf id N.MISS
  let rate := s.nfS id N.DRIFT_RATE
  let var : Int := s.nf id N.DRIFT_VAR
  let ofs := s.nfS id N.DRIFT_OFS
  let a := s.fld F.MAC_DRIFT_CFG_ALPHA_SH
  let i := wake * s.slotTicks
  let k := miss + 1
  let d := rnd (rate * i) 1000000000
  let eps := o - (ofs - 120 * cr + (k - 1) * d)
  let seeded := 2 ≤ miss ∨ s.nodeState id = nsDrifting
  let rate' := if seeded then rate
    else satInt (-32768) 32767 (rate + rnd (eps * 1000000000) (k * i) / (2 ^ a : Nat))
  let var' := if seeded then 16383 else satInt 0 65535 (var + ((eps.natAbs : Int) - var) / (2 ^ a : Nat))
  let trust := if seeded then 0 else least2 (s.nf id N.TRUST + 1) 15
  let ofs' := o + rnd (rate' * i) 1000000000
  s.setNode id (N.DRIFT_RATE.write (unsignedOf 16 rate') (N.DRIFT_VAR.write var'.toNat (N.MISS_CNT.write (16 * trust)
    (N.DRIFT_OFS.write (unsignedOf 32 ofs') (s.node id)))))

/-- A node that is heard in its window becomes ASSOCIATED (R192); one that drifts only with the reseed that goes with it,
which a frame with TAINT does not bring (R206). -/
def nodeHeard (id lane : Nat) (taint : Bool) (s : State) : State :=
  let st := s.nodeState id
  if st = nsJoining ∨ (st = nsDrifting ∧ taint = false) then
    post (39 + lane) sevInfo 0x0802 (arg4 id) (s.setNf id N.STATE nsAssociated)
  else s

/-- The frame engine's fields of an authenticated frame (R171, R313). -/
def frameFields (id : Nat) (r : RxRecord) (s : State) : State :=
  let s := (s.setNf id N.RSSI r.rssi).setNf id N.LQI r.lqi
  if s.nodeState id ≠ nsAssociated then s
  else
    let rx := r.cfo.toInt
    let old := s.nfS id N.CFO
    s.setNf id N.CFO (unsignedOf 16 (if r.pilot then rx else old + rnd (rx - old) 4))

/-- Keep the last 16 of a list. -/
def last16 {α : Type} (l : List α) : List α := l.drop (l.length - 16)

/-- What the scheduler takes from a HEARD event (R230). -/
def statHeard (id anchor : Nat) (r : RxRecord) (seeded : Bool) (report : Option Nat) (s : State) : State :=
  let x := s.sched.nodes.get NodeStats.empty id
  let x := { x with lqi := last16 (x.lqi ++ [r.lqi]), failed := last16 (x.failed ++ [x.fails]),
                    combined := last16 (x.combined ++ [r.combined]), reports := last16 (x.reports ++ [report]),
                    fails := 0, heardSince := x.heardSince + 1, reseeded := x.reseeded || seeded, rate := r.rate }
  { s with sched.nodes := s.sched.nodes.set NodeStats.empty id x, sched.heardIn := s.sched.heardIn ++ [(anchor, id)] }

/-- The event of a node in whose window, the one opened for all that overlap, a frame began (R200, R206). -/
def State.eventHit (s : State) (id : Nat) (r : RxRecord) : Option RxEvent :=
  let t := r.syncEnd - r.lead
  s.delivered.find? (fun e => e.node == id && e.on r.slot && e.prepared && decide (e.cover.1 ≤ t) && decide (t ≤ e.cover.2))

/-- What an authenticated frame that began in the window of a node's event changes of the node (R171, R204, R206): the
first that may, the model as well. -/
def frameHeard (e : RxEvent) (r : RxRecord) (cr : Int) (report : Option Nat) (s : State) : State :=
  let id := e.node
  let seeded : Bool := 2 ≤ s.nf id N.MISS || s.nodeState id == nsDrifting
  let o : Int := (r.syncEnd : Int) - r.lead - (e.anchor + s.evOfs : Nat)
  let wake := match (if e.shadow then s.sched.updates.find? (fun u => u.node == id && u.applied) else none) with
    | some u => u.oldWake
    | none => s.nf id N.WAKE_INTERVAL
  let s := if e.modelled then s
    else statHeard id e.anchor r seeded report (driftUpdate id wake o cr (editEvent e (fun x => { x with modelled := true }) s))
  (frameFields id r s).setNf id N.LAST_HEARD (at24 r.syncEnd)

/-- A node is HEARD in its new window: its schedule update is committed (R243). -/
def updateCommit (id : Nat) (s : State) : State :=
  if s.sched.updates.any (fun u => u.node == id && u.applied) then
    { s with sched.updates := s.sched.updates.filter (fun u => !(u.node == id && u.applied)),
             sched.committed := s.sched.committed + 1 }
  else s

/-- An authenticated frame from a node began in its event's window: the event is HEARD. `cr` is the correction that
the node reports, `report` its link report. In a calendar fault, and until transmission resumes after it, the frame is
only delivered (R209). -/
def eventHeard (e : RxEvent) (r : RxRecord) (cr : Int) (report : Option Nat) (s : State) : State :=
  let id := e.node
  let lane := laneOf e.ch
  let s := editEvent e (fun x => { x with heard := true, closed := true, lastEnd := r.frameEnd,
                                          pendingBit := s.nf id N.DL_QDEPTH != 0 }) s
  let s := mapAllEvents (fun x => x.node != id && x.overlaps e) (fun x => { x with clash := true }) s
  let s := laneSettle lane (e.chans.foldl (fun s c => settleWindow c s) s)
  if e.skip || !s.models then s
  else
    let s := if r.taint then s else frameHeard e r cr report s
    let s := nodeHeard id lane r.taint s
    if e.shadow then s else updateCommit id s

/-! ### Outcomes (R198) -/

inductive Outcome
  | heard
  | miss
  | obstructed
  | clash
  | unserved
  | skipped
  deriving DecidableEq, Repr

/-- Count an outcome. -/
def countEvent (o : Outcome) (e : RxEvent) (s : State) : State :=
  let s := (s.wrapCount F.MAC_EVENTS_EVENTS 1).count (F.LNS_LANE_CNT_EVENTS (laneOf e.ch)) 1
  let c := s.sched.chans.get ChanStats.empty e.ch
  match o with
  | .heard => { s.wrapCount F.MAC_HEARD_HEARD 1 with
      sched.chans := s.sched.chans.set ChanStats.empty e.ch { c with heard := c.heard + 1 } }
  | .miss => { s.count (if e.kind = 2 then F.MAC_EVT_CNT0_SEARCH_MISS else F.MAC_EVT_CNT0_MISS) 1 with
      sched.chans := s.sched.chans.set ChanStats.empty e.ch { c with miss := c.miss + 1 } }
  | .obstructed => s.count F.MAC_EVT_CNT1_OBSTRUCTED 1
  | .clash => s.count F.MAC_EVT_CNT2_CLASH 1
  | .unserved => s.count F.MAC_EVT_CNT1_UNSERVED 1
  | .skipped => s.count F.MAC_EVT_CNT2_SKIPPED 1

/-- A miss moves the node along the sequence of R207. -/
def missUpdate (id lane : Nat) (s : State) : State :=
  let m := s.nf id N.MISS
  let s := s.setNf id N.MISS (least2 (m + 1) 15)
  if m = 2 ∧ s.nodeState id = nsAssociated then
    let s := (s.setNf id N.STATE nsDrifting).setNf id N.TRUST 0
    post (39 + lane) sevInfo 0x0803 (arg4 id) (s.count F.MAC_NODE_CNT_DRIFTING 1)
  else s

/-! ### Schedule updates (R242, R243) -/

/-- The scheduler applies an update at the end of event E_eff − 1, or as soon after it as it makes decisions again: an
update in flight stays pending meanwhile (R229, R242, R245). The node follows the new schedule from E_eff on, so later
the next event is the first of that schedule at least two rounds ahead. The old schedule goes on as shadow windows. -/
def updateApply (id : Nat) (s : State) : State :=
  let past (u : SchedUpdate) : Nat := (s.nf id N.EVENT_CTR + 65536 - u.eEff) % 65536
  match s.sched.updates.find? (fun u => u.node == id && u.carried && !u.applied && decide (past u < 32768)) with
  | none => s
  | some u =>
    if !s.schedActive || s.sched.thermal == 3 then s
    else
      let rest := s.sched.updates.filter (fun x => x.node != id)
      let old := s.nf id N.ANCHOR
      let first := old - past u * s.interval id + u.shift * s.slotTicks
      let step := most2 1 (u.wake * s.slotTicks)
      let k := if past u = 0 then 0 else (s.now + 2 * s.slotTicks - first + step - 1) / step
      let u' := { u with applied := true, oldWake := s.nf id N.WAKE_INTERVAL, oldSupv := s.nf id N.SUPV_TIMEOUT,
                         oldTier := s.nf id N.TIER, oldChmap := s.nf id N.CHMAP_IDX, oldE := s.nf id N.EVENT_CTR,
                         oldAnchor := old }
      let a : Assoc :=
        { wake := u.wake, supv := u.supv, chmap := u.chmap, tier := u.tier, profile := s.nf id N.PHY_PROFILE,
          e0 := (u.eEff + k) % 65536, anchor := first + k * step, ofs := s.nf id N.DRIFT_OFS }
      writeAssoc id a { s with sched.updates := rest ++ [u'] }

/-- A shadow window has passed: the old schedule's next event. -/
def shadowNext (id : Nat) (s : State) : State :=
  { s with sched.updates := s.sched.updates.map (fun (u : SchedUpdate) =>
      if u.node = id ∧ u.applied = true then
        { u with oldE := (u.oldE + 1) % 65536, oldAnchor := u.oldAnchor + u.oldWake * s.slotTicks } else u) }

/-- A node heard in a shadow window: the old fields come back at the end of that event. -/
def updateRevert (e : RxEvent) (u : SchedUpdate) (s : State) : State :=
  let id := e.node
  let s := dropSchedule id s
  let a : Assoc :=
    { wake := u.oldWake, supv := u.oldSupv, chmap := u.oldChmap, tier := u.oldTier, profile := s.nf id N.PHY_PROFILE,
      e0 := (e.ctr + 1) % 65536, anchor := e.anchor + u.oldWake * s.slotTicks, ofs := s.nf id N.DRIFT_OFS }
  let x := s.sched.nodes.get NodeStats.empty id
  writeAssoc id a { s with sched.reverted := s.sched.reverted + 1,
                           sched.nodes := s.sched.nodes.set NodeStats.empty id { x with reverted := true } }

/-! ### The end of an event (R199) -/

/-- Supervision, and what waited for the event's end. -/
def afterEvent (id lane : Nat) (o : Outcome) (s : State) : State :=
  if o ≠ .skipped ∧ s.models = true ∧ s.supvExpired id = true then nodeLapse id 0 lane s
  else if s.mac.dropPend.any (fun d => d.1 == id) then nodeLapse id 1 lane s
  else
    let s := match s.mac.assocPend.get none id with
      | some b => writeAssoc id (Assoc.ofBytes b) { s with mac.assocPend := s.mac.assocPend.set none id none }
      | none => s
    hoEventEnd id (rolEvent id (updateApply id s))

/-- An event of a node ends with an outcome (R199). Where the node's entry cannot be read the event is UNSERVED and R199
does not run for it (R344); a FROZEN entry takes no miss (R317). -/
def eventFinish (e : RxEvent) (o : Outcome) (s : State) : State :=
  let id := e.node
  let s := removeEvent e s
  if e.shadow then
    match s.sched.updates.find? (fun u => u.node == id && u.applied) with
    | none => s
    | some u =>
      if o = .heard then afterEvent id (laneOf e.ch) o (updateRevert e u (countEvent o e s)) else shadowNext id s
  else
    let o := if s.nf id N.FROZEN = 1 ∧ o = .miss ∨ s.rowBad 0 id = true ∧ o ≠ .skipped then Outcome.unserved else o
    let s := countEvent o e s
    if s.rowBad 0 id then { s with mac.ended := s.mac.ended.set 0 id (e.anchor + 1) }
    else if s.inMode [.banked] then
      let s := { s with mac.ended := s.mac.ended.set 0 id (e.anchor + 1) }
      if s.mac.dropPend.any (fun d => d.1 == id) then nodeLapse id 1 (laneOf e.ch) s else s
    else
      let s := (passEvents id (s.nf id N.ANCHOR + 1) s).2
      let s := if o = .miss ∧ s.models = true then missUpdate id (laneOf e.ch) s else s
      afterEvent id (laneOf e.ch) o s

/-- A window that falls in EMBER, in a calendar fault, or ends before transmission resumes after one (R198, R209). -/
def State.skips (s : State) (e : RxEvent) : Bool :=
  s.inMode [.ember] || e.skip || s.flag F.TMB_STAT_CAL_FAULT || decide (e.hi < s.mac.txResume)

/-- The outcome of an event that was delivered. -/
def State.outcome (s : State) (e : RxEvent) : Outcome :=
  if e.heard && !e.skip then .heard
  else if s.skips e then .skipped
  else if e.unserved then .unserved
  else if e.obstructed then .obstructed
  else if e.clash then .clash
  else .miss

/-- A frame of a slot is still under reception, under decoding or on its way through the frame engine. -/
def State.framePending (s : State) (ch : Nat) : Bool :=
  s.frames.rxq.any (fun r => r.slot == ch) || s.demod.frames.any (fun (x : Nat × Option RxFrame) =>
    match x.2 with
    | some f => f.slot == ch
    | none => false)

/-- A delivered event is over: its window is closed and no frame is pending, or its last exchange has ended. -/
def State.eventOver (s : State) (e : RxEvent) : Bool :=
  e.closed &&
    (if e.heard then
      decide (e.lastEnd ≤ s.now) && !e.waiting && (!e.pendingBit || (s.lane (laneOf e.ch)).dlPerEvent ≤ e.sent) &&
        !(s.frames.builds.any (fun b => b.node == e.node && (b.kind == .ack || b.kind == .downlink)))
    else e.chans.all (fun c => !s.framePending c))

/-- The window of a node's next event as it would be, for one that was not delivered. -/
def State.undelivered (s : State) (id : Nat) : RxEvent :=
  s.newEvent id (s.nf id N.EVENT_CTR) (s.hopOf id) (s.nf id N.ANCHOR) (s.nf id N.WAKE_INTERVAL) false

/-- EVENT_END: due for a delivered event that is over, and for an event or a shadow window that was not delivered once
its window has passed. An event that ended while the entry could not be read is passed once it can. -/
def runEventEnd (node : BitVec 17) (s : State) : State :=
  let id := node.toNat
  match s.delivered.find? (fun e => e.node == id && s.eventOver e) with
  | some e => eventFinish e (s.outcome e) s
  | none =>
    if !onWheel (s.nodeState id) || !s.almanacRuns then s
    else
      let e := s.undelivered id
      let passed := !s.delivered.any (fun x => x.node == id && !x.shadow) &&
        decide (e.hi + detTicks (s.streamProf e.ch) (s.nf id N.TIER) ≤ s.now)
      if passed = true ∧ e.anchor < s.mac.ended.get 0 id ∧ s.inMode [.banked] = false ∧ s.rowBad 0 id = false then
        (passEvents id (s.nf id N.ANCHOR + 1) s).2
      else if passed = true ∧ s.mac.ended.get 0 id ≤ e.anchor then
        let late := s.served e.ch && s.laneRuns (laneOf e.ch) && s.nf id N.FROZEN == 0 && !s.rowBad 0 id
        let named := s.mapServes (s.nf id N.CHMAP_IDX) e.anchor
        let s := if !named then refusedEntry (39 + laneOf e.ch) s
          else if late then s.count (F.LNS_LANE_CNT_DUE_LATE (laneOf e.ch)) 1 else s
        eventFinish e (if s.skips e then .skipped else .unserved) s
      else
        match s.sched.updates.find? (fun u => u.node == id && u.applied) with
        | some u =>
          if s.delivered.any (fun x => x.node == id && x.shadow) = false ∧ u.oldAnchor + s.slotTicks ≤ s.now then
            shadowNext id s
          else s
        | none => s

/-! ### Lanes that stop -/

/-- Every event of a lane ends with an outcome. -/
def laneFlush (n : Nat) (o : Outcome) (s : State) : State :=
  let l := s.lane n
  (l.active ++ l.due).foldl (fun s e => eventFinish e o s) s

/-- A lane goes OFF (R201): its events are SKIPPED in EMBER and UNSERVED otherwise. -/
def laneStop (n : Nat) (o : Outcome) (s : State) : State :=
  if s.laneState n = laneOff then s
  else
    let s := setLaneState n laneOff (laneFlush n o s)
    s.setLane n { s.lane n with waits := 0 }

/-- LANE_FAULT (R201): a running lane meets a fault. -/
def runLaneFault (n : Fin 16) (code : Byte) (s : State) : State :=
  if !s.laneRuns n.val then s else laneFlush n.val .unserved (laneFaultRecord n.val code.toNat s)

/-- A write of LNS_CTL.RUN: a cleared bit stops its lane, a set one has it start at the next round boundary. -/
def laneCtlWrite (v : Nat) (s : State) : State :=
  (List.range 16).foldl (fun s n =>
    let on := v / 2 ^ n % 2 == 1
    let s := s.setBit F.LNS_CTL_RUN n on
    if on then s else laneStop n .unserved s) s

end Sys2Proof.Machine
end

