-- ==== Sys2Proof/Machine/Rx.lean ====
section
/-! DEFINITION. The frame engine's receive side: senders, replay protection, acceptance, learning, 6LoWPAN and what
a frame reports (R253 to R267, R279, R280, R327 to R331, R371). -/

namespace Sys2Proof.Machine

/-- The cell's extended address. -/
def State.cellEui (s : State) : Nat := s.pair R.FRM_CELL_EUI_LO R.FRM_CELL_EUI_HI

/-! ### 6LoWPAN (R279, R280) -/

/-- A packet or first fragment from its dispatch on: uncompressed or IPHC; and the headers of a UDP checksum that is
owed. -/
def State.inflate (s : State) (ctx : CtxTable) (eui size : Nat) (bs : List Byte) : Option (List Byte × Option (Nat × Nat)) :=
  let d := leAt bs 0 1
  if d = 0x41 then some (bs.drop 1, none)
  else if d / 32 = 3 then iphcExpand ctx eui s.cellEui size bs
  else none

/-- A packet from the mesh enters forwarding: it takes pages, and keeps its MAC sender. -/
def meshPacket (sender : Nat) (bs : List Byte) (s : State) : State :=
  if !s.held || bs.isEmpty then s
  else match allocPages false (pagesFor bs.length) s with
    | none => s.count F.FWD_DROP3_NO_BUF 1
    | some (ps, s) =>
      { writePages ps bs s with fwd.ingress := s.fwd.ingress ++ [⟨ps, bs, 0, sender, s.now, sender⟩] }

/-- Reassembly contexts are replaced; IN_USE counts them. -/
def setReasm (l : List Reasm) (s : State) : State := { s with frames.reasm := l }.setFld F.FRM_FRAG_STAT_IN_USE l.length

def frmFormat (s : State) : State := s.count F.FRM_RX_DROP0_FORMAT 1

/-- A fragment of a datagram: its offset and bytes. -/
def reasmAdd (sender size dtag off : Nat) (body : List Byte) (udp : Option (Nat × Nat)) (s : State) : State :=
  let same := fun (x : Reasm) => x.sender == sender && x.size == size && x.dtag == dtag
  let rest := s.frames.reasm.filter (fun x => !same x)
  let old := s.frames.reasm.find? same
  let x : Reasm := old.getD ⟨sender, size, dtag, [], none, s.now, s.frames.ctx⟩
  if old.isNone && 4096 ≤ s.frames.reasm.length then s.count F.FRM_FRAG_CNT_NOCTX 1
  else if size < off + body.length ∨ body = [] then frmFormat s
  else if x.frags.any (fun f => f.1 == off && f.2.length == body.length) then s
  else if x.frags.any (fun f => decide (f.1 < off + body.length) && decide (off < f.1 + f.2.length)) then setReasm rest s
  else
    let udp := if udp.isSome then udp else x.udp
    let frags := insertBy (fun (f : Nat × List Byte) => f.1) (off, body) x.frags
    if sumOf (frags.map (fun f => f.2.length)) = size then
      meshPacket sender (udpFill (frags.flatMap (fun f => f.2)) udp) (setReasm rest s)
    else setReasm (rest ++ [{ x with frags := frags, udp := udp }]) s

/-- The payload of an accepted uplink: a packet, a fragment, or a datagram that is none of 6LoWPAN's. -/
def lowpan (id : Nat) (bs : List Byte) (s : State) : State :=
  let eui := s.nf id N.EUI64
  let d := leAt bs 0 1
  let size := leAt bs 0 1 % 8 * 256 + leAt bs 1 1
  let dtag := beAt bs 2 2
  if d / 64 = 0 then meshPacket id bs s
  else if d / 8 = 0x18 then
    let ctx := match s.frames.reasm.find? (fun x => x.sender == id && x.size == size && x.dtag == dtag) with
      | some x => x.ctx
      | none => s.frames.ctx
    match s.inflate ctx eui size (bs.drop 4) with
    | some p => reasmAdd id size dtag 0 p.1 p.2 s
    | none => frmFormat s
  else if d / 8 = 0x1C then reasmAdd id size dtag (8 * leAt bs 4 1) (bs.drop 5) none s
  else match s.inflate s.frames.ctx eui 0 bs with
    | some p => meshPacket id (udpFill p.1 p.2) s
    | none => frmFormat s

/-- REASSEMBLY_TIMEOUT (R280). -/
def runReassemblyTimeout (sender : BitVec 17) (size dtag : Nat) (s : State) : State :=
  let same := fun (x : Reasm) => x.sender == sender.toNat && x.size == size && x.dtag == dtag &&
    decide (x.start + s.fld F.FRM_FRAG_STAT_REASM_S * 120000000 ≤ s.now)
  if s.frames.reasm.any same then
    (setReasm (s.frames.reasm.filter (fun x => !same x)) s).count F.FRM_FRAG_CNT_TIMEOUT 1
  else s

/-! ### Delivery to the control plane (R261, R330) -/

/-- QID of the join queue and of the exception queue. -/
def joinQid : Nat := 40
def excQid : Nat := 41

/-- Deliver a frame to the join queue, marked with a short ID; the consumer needs its slot, profile and tier, and its
end. -/
def joinDeliver (id : Nat) (r : RxRecord) (s : State) : State :=
  let it : QItem := ⟨[], r.psdu, 6, id, r.frameEnd, r.slot + 256 * (r.profile + 64 * r.tier)⟩
  let q := queuePush joinQid it s
  if q.1 then q.2.wrapCount F.FRM_RX_OK_OK 1 else q.2.count F.LDG_LEARN_CNT1_JOINQ 1

/-- An unsecured frame from an address that names no sender (R254, R261, R327, R330): learning needs an extended address
that EMAP does not hold. -/
def rxUnknown (r : RxRecord) (f : MFrame) (s : State) : State :=
  let eui := f.src
  if !s.flag F.LDG_LEARN_CTL_NODE_EN || !s.inMode [.service] || !s.held || f.type == 2 || f.srcMode != 3 ||
      (s.idOf eui).isSome then joinDeliver broadcastId r s
  else
    let s := runLearnTokenRefill s
    if s.ledger.tokens = 0 then joinDeliver broadcastId r (learnRefused false s)
    else match learnNode eui r.slot r.profile r.rssi r.lqi r.syncEnd r.cfo s with
      | some (id, s) => joinDeliver id r s
      | none => joinDeliver broadcastId r (learnRefused true s)

/-- An unsecured frame from a node that has an entry (R261, R331). -/
def rxClear (id : Nat) (r : RxRecord) (s : State) : State :=
  let st := s.nodeState id
  if st = nsLearned then
    joinDeliver id r (if s.held then learnRefresh id r.slot r.profile r.rssi r.lqi r.syncEnd s else s)
  else if st = nsLapsed then joinDeliver id r s
  else s.count F.FRM_RX_DROP1_UNSECURED 1

/-! ### What a frame reports -/

/-- ROLLOUT_STATUS (R371): to every campaign with the IMAGE_ID. -/
def rolloutStatus (id : Nat) (b : List Byte) (s : State) : State :=
  let st := leAt b 4 1
  (List.range 16).foldl (fun s c =>
    if s.campState c = rsIdle ∨ (s.camp c).imageId ≠ leAt b 0 4 then s
    else
      let s := if st = 2 then s.setNf id N.FW_TAG (s.camp c).fwTag else s
      if !s.campLive c then s
      else
        let x := s.camp c
        let s := s.setCamp c { x with announce := x.announce.map (fun a =>
          if a.1 = id ∧ a.2 % 2 = 0 then (id, a.2 + 1) else a) }
        if st = 0 ∨ 3 < st ∨ s.pendBit c id = false then s
        else
          let s := s.count (if st = 3 then F.ROL_CAMP_DONE_FAILED c else F.ROL_CAMP_DONE_DONE c) 1
          pendDrop c id s) s

/-- The acknowledgement of the downlink last sent (R212): it leaves the queue. -/
def downlinkAcked (e : RxEvent) (r : RxRecord) (s : State) : State :=
  let s := editEvent e (fun x => { x with waiting := false, lastEnd := r.frameEnd }) s
  match s.dlqOf e.node with
  | [] => s
  | f :: _ =>
    if f.ctr = 0 then s
    else
      let s := (dlqRemove e.node (fun x => x.page == f.page) s).2
      if f.dest = 0 then s
      else
        let x := s.sched.nodes.get NodeStats.empty (f.dest - 1)
        { s with sched.nodes := s.sched.nodes.set NodeStats.empty (f.dest - 1) { x with routeFails := 0 } }

/-- The event whose downlink a type-2 frame acknowledges: the frame begins ACK_TURN after it, within ±G_MIN. -/
def State.ackedEvent (s : State) (id : Nat) (r : RxRecord) : Option RxEvent :=
  let t := r.syncEnd - r.lead
  s.delivered.find? (fun e =>
    let due := e.lastEnd + s.ackTurn
    e.node == id && e.on r.slot && e.waiting && decide (due ≤ t + s.fld F.MAC_DRIFT_CFG_G_MIN) &&
      decide (t ≤ due + s.fld F.MAC_DRIFT_CFG_G_MIN))

/-! ### Acceptance (R262 to R264, R294) -/

/-- The window after an accepted frame (R263): one write. -/
def acceptCtr (id c : Nat) (digest : Word) (s : State) : State :=
  let a := s.nf id N.IN_CTR
  let w := s.nf id N.IN_WIN
  if a < c then
    let w' := if 32 ≤ c - a then 1 else w * 2 ^ (c - a) % 2 ^ 32 + 1
    (s.setNode id (N.IN_CTR.write c (N.IN_WIN.write w' (s.node id)))).setDigest id digest
  else if c < a then s.setNf id N.IN_WIN (w ||| 2 ^ (a - c))
  else (s.setNf id N.IN_WIN (w ||| 1)).setDigest id digest

/-- An authenticated uplink in its node's event (R198, R204, R211): HEARD, and acknowledged. -/
def rxHeard (e : RxEvent) (r : RxRecord) (f : MFrame) (cl : Clear) (s : State) : State :=
  let report := (cl.find 4 2).map (fun b => leAt b 0 1)
  let s := eventHeard e r f.timeCorrection report s
  { s with frames.builds := s.frames.builds ++
      [{ kind := .ack, node := e.node, slot := r.slot, lane := laneOf r.slot,
         first := r.frameEnd + s.ackTurn, level := f.level, epoch := f.keyIdx, ref := 0,
         num := 0, payload := [] }] }

/-- What an authenticated frame does whether it is new or a repeat: its event, and its key epoch (R294). -/
def rxAuthentic (id : Nat) (r : RxRecord) (f : MFrame) (cl : Clear) (roll : Bool) (s : State) : State :=
  if f.type = 2 then
    match s.ackedEvent id r with
    | some e => downlinkAcked e r s
    | none => s
  else
    match s.eventHit id r with
    | none => s
    | some e =>
      let s := if roll && !r.taint && s.models then s.setNf id N.KEY_EPOCH s.keyCur else s
      rxHeard e r f cl s

/-- What an accepted frame delivers and reports. -/
def rxDeliver (id : Nat) (r : RxRecord) (f : MFrame) (cl : Clear) (s : State) : State :=
  if !s.held then (s.wrapCount F.FRM_RX_OK_OK 1).wrapCount F.PAR_BANKED_RX_VALUE 1
  else if f.type = 3 then joinDeliver id r s
  else
    let s := match cl.find 9 8 with
      | some b => rolloutStatus id b s
      | none => s
    let s := if (s.eventHit id r).isSome then hoHeard id ((cl.find 0x0C 2).map (fun b => leAt b 0 2)) s else s
    let s := s.wrapCount F.FRM_RX_OK_OK 1
    if f.type = 1 ∧ cl.payload ≠ [] then lowpan id cl.payload s else s

/-- REPLAY_CONTENT, posted at most once in 120,000 ticks (R262). -/
def replayContent (id c : Nat) (s : State) : State :=
  let s := s.count F.FRM_RX_DROP3_REPLAY_CONTENT 1
  let due := match s.frames.replayAt with
    | none => true
    | some t => t + 120000 ≤ s.now
  if due then
    post 17 sevDegraded 0x0901 (arg4 id ++ arg4 c ++ arg2 (s.frames.replayN + 1))
      { s with frames.replayAt := some s.now, frames.replayN := 0 }
  else { s with frames.replayN := s.frames.replayN + 1 }

/-- Step 3 of R262: the counter has been accepted before, or lies below the window. -/
def inWindow (a w c : Nat) : Bool := a ≤ c || (decide (a - c < 32) && w / 2 ^ (a - c) % 2 == 0)

/-- A secured frame from an identified sender (R262); the flag says that it waits for its key. -/
def rxSecured (id : Nat) (r : RxRecord) (f : MFrame) (s : State) : Bool × State :=
  let a := s.nf id N.IN_CTR
  let w := s.nf id N.IN_WIN
  let c := f.ctr
  let noKey := fun (s : State) => (false, s.count F.FRM_RX_DROP4_NO_KEY 1)
  if c = 0xFFFFFFFF ∨ (w ≠ 0 ∧ c + 32 ≤ a) then (false, s.count F.FRM_RX_DROP2_REPLAY_OLD 1)
  else if !inWindow a w c then (false, s.count F.FRM_RX_DROP2_REPLAY_WIN 1)
  else match (if f.kim = 1 then s.rxKeySlot (s.nf id N.KEY_EPOCH) f.keyIdx else none) with
    | none => noKey s
    | some (slot, roll) =>
      match keyFor kLK slot (s.nodeCtx id) s with
      | (.wait, s) => (true, s)
      | (.absent, s) => noKey s
      | (.key k, s) =>
        let s := s.wrapCount F.SEC_CCM_CNT_JOBS 1
        match f.open k (s.nf id N.EUI64) with
        | none => (false, s.count F.FRM_RX_DROP3_AUTH_FAIL 1)
        | some body =>
          match readBody f body with
          | none => (false, frmFormat s)
          | some cl =>
            let d := crc32 body
            if c = a ∧ w % 2 = 1 then
              if d = s.digest id then
                (false, rxAuthentic id r f cl roll (s.count F.FRM_DUP_CNT_DUPLICATE_REACK 1))
              else (false, replayContent id c s)
            else
              let s := if s.held then acceptCtr id c d s else s
              (false, rxDeliver id r f cl (rxAuthentic id r f cl roll s))

/-! ### The sender (R254) -/

inductive Sender
  | node (id : Nat)
  /-- An address that names no sender: a SHORT_ID whose entry is FREE, an extended one that EMAP does not hold. -/
  | unknown
  /-- A frame whose addresses R254 does not accept. -/
  | none
  deriving DecidableEq, Repr

def State.sender (s : State) (r : RxRecord) (f : MFrame) : Sender :=
  if r.flr ∧ r.shortId ≠ broadcastId then
    if f.srcMode ≠ 0 ∧ f.srcMode ≠ 3 then .none
    else if s.nodeState r.shortId = nsFree then .unknown
    else if f.srcMode = 3 ∧ f.src ≠ s.nf r.shortId N.EUI64 then .none
    else .node r.shortId
  else if f.srcMode ≠ 3 then .none
  else match s.idOf f.src with
    | some id => .node id
    | none => .unknown

/-- The lookup of a frame's sender meets an uncorrectable error (R344): in its entry, or in a slot of EMAP that is
examined before its own. -/
def State.lookupBad (s : State) (r : RxRecord) (f : MFrame) : Bool :=
  if r.flr ∧ r.shortId ≠ broadcastId then s.rowBad 0 r.shortId
  else f.srcMode == 3 && (s.emapBad f.src || (match s.idOf f.src with
    | some id => s.rowBad 0 id
    | none => false))

/-- One received frame through the gate; the flag says that it waits for its key. -/
def rxFrame (r : RxRecord) (s : State) : Bool × State :=
  match parseFrame r.psdu with
  | none => (false, frmFormat s)
  | some f =>
    let malformed := (vendorElements 0 f.ies).isNone || (!f.sec && (readBody f f.body).isNone)
    let foreign := f.pans.any (fun v => v != s.fld F.FRM_CTL_PAN_ID)
    if malformed || foreign || f.type == 0 || 3 < f.type then (false, frmFormat s)
    else if s.lookupBad r f then (false, s)
    else match s.sender r f with
      | .none => (false, s.count F.FRM_RX_DROP0_NO_SENDER 1)
      | .unknown => (false, if f.sec then s.count F.FRM_RX_DROP0_NO_SENDER 1 else rxUnknown r f s)
      | .node id =>
        if s.nf id N.FROZEN = 1 then (false, s.count F.LDG_FROZEN_DROP_COUNT 1)
        else if r.flr && f.sec && f.ctr % 65536 != r.fctr16 then (false, s.count F.FRM_RX_DROP1_FCTR_MISMATCH 1)
        else if !f.sec then (false, rxClear id r s)
        else if f.level < 5 + s.fld F.FRM_CTL_RX_MIN_LEVEL then (false, s.count F.FRM_RX_DROP4_LEVEL 1)
        else rxSecured id r f s

/-- The node that a record's frame is identified with. -/
def State.rxNode (s : State) (r : RxRecord) : Option Nat :=
  match (parseFrame r.psdu).map (s.sender r) with
  | some (.node id) => some id
  | _ => none

/-- The first record in order that does not wait (R266, R297): the frames of a node whose frame waits wait with it. -/
def rxTry : List RxRecord → List Nat → State → State
  | [], _, s => s
  | r :: l, blocked, s =>
    let node := s.rxNode r
    if (match node with
        | some id => blocked.contains id
        | none => false) then rxTry l blocked s
    else
      let x := rxFrame r s
      if x.1 then
        rxTry l (match node with
          | some id => id :: blocked
          | none => blocked) x.2
      else { x.2 with frames.rxq := x.2.frames.rxq.erase r }

/-- RX_FRAME_CHECK (R262): one received frame, in the order of SYNC_END, ties to the lower slot. -/
def runRxFrameCheck (s : State) : State :=
  rxTry (sortBy (fun r => 256 * r.syncEnd + r.slot) s.frames.rxq) [] s

end Sys2Proof.Machine
end

