-- ==== Sys2Proof/Machine/Tx.lean ====
section
/-! DEFINITION. The frame engine's transmit side: what each frame carries, its key and counter, and the descriptor
that the lane issues for it; exchanges and join answers (R205, R211, R212, R255 to R260, R268 to R270, R281, R294,
R295, R334 to R336, R369, R370). -/

namespace Sys2Proof.Machine

/-- The key that a frame needs. -/
inductive KeyReq
  | clear
  | absent
  | need (kind parent : Nat) (ctx : List Byte)
  deriving DecidableEq, Repr

/-- A frame ready to be secured: its plan, key, scope, PHY profile entry, tier and drive code. -/
structure Draft where
  plan : Plan
  key : KeyReq
  scope : Nat
  prof : List Byte
  tier : Nat
  drive : Nat
  deriving DecidableEq, Repr

/-- Bytes of the PSDU. -/
def Plan.bytes (p : Plan) : Nat :=
  (p.head 0).length + p.body.length + (if p.level = 0 then 0 else micLen p.level) + 4

def Draft.airTicks (d : Draft) : Nat := frameTicks d.prof d.tier d.plan.bytes

/-- Header Termination IEs 1 and 2. -/
def ht1 : List Byte := headerIe 0x7E []
def ht2 : List Byte := headerIe 0x7F []

/-- A Vendor Specific Payload IE with sub-elements. -/
def vendorIe (subs : List Byte) : List Byte := payloadIe 2 (cid ++ subs)

/-! ### Acknowledgements (R205, R211, R256) -/

/-- E_eff of a node's update, as the acknowledgement of its present event carries it. -/
def State.updateEff (s : State) (u : SchedUpdate) : Nat := if u.carried then u.eEff else (s.nf u.node N.EVENT_CTR + 2) % 65536

/-- The update that an acknowledgement carries (R242). -/
def State.updateFor (s : State) (id : Nat) : Option SchedUpdate := s.sched.updates.find? (fun u => u.node == id && !u.applied)

/-- The handover that an acknowledgement carries (R429). -/
def State.handoverCarried (s : State) (id : Nat) : Option Handover :=
  match s.handoverOf id with
  | some h => if h.source && h.ready && !h.switched then some h else none
  | none => none

def State.handoverEh (s : State) (h : Handover) : Nat := if h.eh = 0 then (s.nf h.node N.EVENT_CTR + 2) % 65536 else h.eh - 1

/-- The sub-elements of an acknowledgement to a node. -/
def State.ackElements (s : State) (id : Nat) : List Byte :=
  let map := (s.mac.mapPend.filter (fun c => c.idx == s.nf id N.CHMAP_IDX)).flatMap (fun c =>
    subElement 2 (leBytes 1 c.idx ++ leBytes 4 c.epoch ++ leBytes 32 c.map.toNat))
  let upd := match s.updateFor id with
    | some u => subElement 3 (leBytes 2 u.wake ++ leBytes 2 u.supv ++ leBytes 1 u.tier ++ leBytes 1 u.chmap ++
        leBytes 2 u.shift ++ leBytes 2 (s.updateEff u))
    | none => []
  let ho := match s.handoverCarried id with
    | some h => subElement 0x0B (leBytes 1 h.other ++ leBytes 3 h.newId ++ leBytes 8 h.cell ++
        leBytes 2 (s.handoverEh h) ++ leBytes 2 0)
    | none => []
  map ++ upd ++ ho

/-- What has been carried once is fixed. -/
def ackCarried (id : Nat) (s : State) : State :=
  let e := (s.nf id N.EVENT_CTR + 2) % 65536
  let s := { s with sched.updates := s.sched.updates.map (fun (u : SchedUpdate) =>
    if u.node = id ∧ u.applied = false ∧ u.carried = false then { u with carried := true, eEff := e } else u) }
  match s.handoverCarried id with
  | some h => if h.eh = 0 then putHandover { h with eh := e + 1 } s else s
  | none => s

/-- The addresses of a frame to a node (R255): elided toward an FLR node. -/
def addressed (prof : List Byte) (eui cell : Nat) (p : Plan) : Plan :=
  if profType prof = 1 then p else { p with dstMode := 3, dst := eui, srcMode := 3, src := cell }

def blankPlan : Plan :=
  { type := 1, pending := false, dstMode := 0, dst := 0, srcMode := 0, src := 0, pan := none, level := 0, kim := 0,
    keySrc := [], keyIdx := 0, ies := [], body := [] }

/-- The key of a unicast frame under an epoch. -/
def State.unicastKey (s : State) (id epoch : Nat) : KeyReq :=
  match s.epochSlot epoch with
  | some i => .need kLK i (s.nodeCtx id)
  | none => .absent

/-- An Enh-Ack with a time correction, in µs, and sub-elements. -/
def ackPlan (corr : Int) (pending : Bool) (subs : List Byte) : Plan :=
  let tc := headerIe 0x1E (leBytes 2 (unsignedOf 12 corr))
  { blankPlan with type := 2, pending := pending, ies := if subs.isEmpty then tc else tc ++ ht1,
                   body := if subs.isEmpty then [] else vendorIe subs }

def State.ackDraft (s : State) (b : Build) : Draft :=
  let id := b.node
  let prof := s.profile (s.nf id N.PHY_PROFILE)
  let p := ackPlan (s.corr (s.nfS id N.DRIFT_OFS)) (s.nf id N.DL_QDEPTH != 0) (s.ackElements id)
  let p := { p with level := b.level, kim := 1, keyIdx := b.epoch }
  { plan := addressed prof (s.nf id N.EUI64) s.cellEui p, key := s.unicastKey id b.epoch, scope := id, prof := prof,
    tier := s.nf id N.TIER, drive := s.nf id N.TX_POWER }

/-! ### Downlinks (R281, R295, R370) -/

/-- Keys that a downlink's element carries: how many bytes, and the bytes where every key is held. -/
def frameKeyBytes (f : DlFrame) : Nat := if f.keyUpd ≠ 0 then 32 else if f.camp ≠ 0 then 16 else 0

/-- The slot of the EK of an epoch that a key update announces. -/
def State.updateSlot (s : State) (e : Nat) : Option Nat :=
  if s.keyState = kePrepared ∧ e = s.fld F.KEY_STAT_NEXT then some 5 else s.epochSlot e

def frameKeys (id : Nat) (f : DlFrame) (s : State) : Option (List Byte) × State :=
  if f.keyUpd ≠ 0 then
    match s.updateSlot (f.keyUpd - 1) with
    | none => (none, s)
    | some i =>
      let a := keyNow kLK i (s.nodeCtx id) s
      let b := keyNow kGK i (groupCtx 0) a.2
      match a.1, b.1 with
      | some x, some y => (some (x ++ y), b.2)
      | _, _ => (none, b.2)
  else if f.camp ≠ 0 then keyNow kIMK 2 (imageCtx (s.camp (f.camp - 1)).imageId) s
  else (some [], s)

/-- A downlink frame of a node, with the keys that its element carries. -/
def State.downlinkDraft (s : State) (id : Nat) (f : DlFrame) (keys : List Byte) : Draft :=
  let prof := s.profile (s.nf id N.PHY_PROFILE)
  let epoch := s.nf id N.KEY_EPOCH
  let p := { blankPlan with
    level := 5 + s.fld F.FRM_CTL_TX_LEVEL, kim := 1, keyIdx := epoch,
    ies := if f.ie = [] then ht2 else ht1,
    body := if f.ie = [] then f.payload else vendorIe (f.ie ++ keys) }
  { plan := addressed prof (s.nf id N.EUI64) s.cellEui p, key := s.unicastKey id epoch, scope := id, prof := prof,
    tier := s.nf id N.TIER, drive := s.nf id N.TX_POWER }

/-! ### Heralds and rollout frames (R190, R257, R369) -/

/-- The Almanac whose round of that number begins at a tick. -/
def State.almanacAt (s : State) (g t : Nat) : Option Almanac :=
  let ok := fun (a : Almanac) => a.start + g * a.ticks == t
  match s.almanac, s.mac.nextAlmanac with
  | some a, some b => if ok a then some a else if ok b then some b else none
  | some a, none => if ok a then some a else none
  | none, some b => if ok b then some b else none
  | none, none => none

/-- The slot of the EK of the epoch that a Herald names. -/
def State.heraldSlot (s : State) (e : Nat) : Option Nat :=
  if s.keyState = kePrepared ∧ s.fld F.KEY_ACT_EPOCH_ACT_EPOCH = e then (if s.keyLoaded 5 then some 5 else none)
  else if s.keyState ≠ keNone ∧ s.keyLoaded 3 = true then some 3 else none

def State.heraldDraft (s : State) (a : Almanac) (g : Nat) (cfg : Word) : Draft :=
  let e := a.epochOf g
  let slot := s.heraldSlot e
  let ie := headerIe 0 (cid ++ subElement 1 (s.heraldContent a g)) ++ ht2
  let p := { blankPlan with type := 0, srcMode := 3, src := s.cellEui, pan := some (s.fld F.FRM_CTL_PAN_ID), ies := ie }
  let p := match slot with
    | some i => { p with level := 5, kim := 2, keySrc := leBytes 4 0,
                         keyIdx := if i = 5 then s.fld F.KEY_STAT_NEXT else s.keyCur }
    | none => p
  { plan := p,
    key := match slot with
      | some i => .need kGK i (groupCtx 0)
      | none => .clear,
    scope := 0, prof := s.profile (F.MAC_HERALD_CFG_PROFILE.read cfg), tier := F.MAC_HERALD_CFG_TIER.read cfg,
    drive := F.MAC_HERALD_CFG_DRIVE.read cfg }

def State.rolloutDraft (s : State) (c : Nat) (payload : List Byte) : Draft :=
  let x := s.camp c
  let prof := s.profile x.profile
  let p := { blankPlan with
    dstMode := 2, dst := 0xFFFF, pan := some (s.fld F.FRM_CTL_PAN_ID), level := 5, kim := 3,
    keySrc := leBytes 4 x.imageId ++ leBytes 4 0, keyIdx := 0xFF, body := vendorIe ([0x0A#8, 0#8] ++ payload) }
  let p := if profType prof = 1 then p else { p with srcMode := 3, src := s.cellEui }
  { plan := p, key := if s.keyLoaded 2 then .need kIMK 2 (imageCtx x.imageId) else .absent, scope := 0, prof := prof,
    tier := x.tier, drive := x.drive }

/-! ### Building (R268 to R270, R282) -/

/-- The chain that a frame goes to (R213): Heralds to the Herald chain. -/
def State.buildChain (s : State) (b : Build) (cfg : Word) : Nat :=
  if b.kind = .herald then F.MAC_HERALD_CFG_CHAIN.read cfg else s.fld (F.LNS_LANE_CTL_CHAIN b.lane)

/-- The descriptor of a frame. -/
def Build.desc (b : Build) (drive deadline air : Nat) (psdu : List Byte) (unbuilt : Bool := false) : TxDesc :=
  { kind := b.kind, lane := Fin.ofNat 16 b.lane, slot := Fin.ofNat 256 b.slot, node := b.node, drive := drive,
    deadline := deadline, airTicks := air, ref := b.ref, psdu := psdu, entry := [], tier := 0, fctr16 := 0, target := none,
    unbuilt := unbuilt }

/-- A frame is refused before it reaches its chain. -/
def refuse (n status : Nat) (b : Build) (s : State) : State := returnDesc n status (b.desc 0 0 0 []) s

/-- A frame is refused for want of a counter, of a key. -/
def refuseCtr (n : Nat) (b : Build) (s : State) : State :=
  refuse n St.TX_CTR_EXHAUSTED b (s.count F.FRM_TX_CNT_CTR_EXHAUSTED 1)
def refuseKey (n : Nat) (b : Build) (s : State) : State :=
  refuse n St.KEY_ABSENT b (refusedEntry 17 (s.count F.FRM_TX_CNT_KEY_ABSENT 1))

/-- The lane issues a frame's descriptor; its event follows the exchange. -/
def issue (n : Nat) (b : Build) (d : Draft) (ctr : Nat) (psdu : List Byte) (s : State) : State :=
  let air := frameTicks d.prof d.tier psdu.length
  let stop := b.first + air
  let s := match s.delivered.find? (fun e => e.node == b.node && e.on b.slot && e.heard) with
    | none => s
    | some e =>
      if b.kind = .ack then editEvent e (fun x => { x with lastEnd := stop, pendingBit := d.plan.pending }) s
      else if b.kind = .downlink then
        editEvent e (fun x => { x with lastEnd := stop, waiting := true, sent := x.sent + 1 }) s
      else s
  let desc := { b.desc d.drive (b.first - s.txLead n) air psdu with
    entry := d.prof, tier := d.tier, fctr16 := ctr % 65536 }
  runTxDescriptorIssue (Fin.ofNat 4 n) desc s

/-- Keep a frame's bytes and counter with its place in the queue (R268). -/
def keepBuilt (id page ctr : Nat) (psdu : List Byte) (s : State) : State :=
  { s with fwd.dlq := s.fwd.dlq.set [] id ((s.dlqOf id).map (fun f =>
      if f.page = page then { f with ctr := ctr + 1, psdu := psdu } else f)) }

/-- The lane program tunes an empty chain for a frame that still waits (R103). -/
def laneTune (n : Nat) (b : Build) (s : State) : State :=
  let d := b.desc 0 0 0 []
  if !(s.chain n).queue.isEmpty || (s.txState n != txIdle && s.txState n != txReady) ||
      ((s.txLock n || (s.chain n).tuning) && s.inReach d (s.fld (F.RFE_TX_FREQ_KHZ n))) then s
  else tune n (s.tuneKhz d) s

/-- Secure a frame and issue it; the flag says that it waits for its key or its reservation. -/
def secure (n : Nat) (b : Build) (d : Draft) (page : Nat) (s : State) : Bool × State :=
  let deadline := b.first - s.txLead n
  let late := fun (s : State) => (false, refuse n St.TX_LATE b s)
  if d.prof.isEmpty then (false, refuse n St.BAD_PARAM b (refusedEntry 17 s))
  else match d.key with
  | .absent => (false, refuseKey n b s)
  | .clear => if deadline < s.now then late s else (false, issue n b d 0 (d.plan.psdu [] s.cellEui 0) s)
  | .need kind parent ctx =>
    match keyFor kind parent ctx s with
    | (.absent, s) => (false, refuseKey n b s)
    | (.wait, s) => if b.kind ≠ .ack ∧ deadline < s.now then late s else (true, laneTune n b s)
    | (.key k, s) =>
      match ctrAssign d.scope s with
      | (.exhausted, s) => (false, refuseCtr n b s)
      | (.wait, s) => if b.kind = .ack ∨ deadline ≤ s.now then (false, refuseCtr n b s) else (true, laneTune n b s)
      | (.got c, s') =>
        if b.kind ≠ .ack ∧ deadline < s.now then late s
        else
          let psdu := d.plan.psdu k s.cellEui c
          let s := s'.wrapCount F.SEC_CCM_CNT_JOBS 1
          let s := if b.kind = .downlink then keepBuilt b.node page c psdu s else s
          let s := if b.kind = .ack then ackCarried b.node s else s
          (false, issue n b d c psdu s)

/-- One frame through the engine; the flag says that it waits. A chip without the token counts no frame: its
descriptors carry no bytes and are returned at their start ticks (R105, R210). -/
def buildOne (b : Build) (s : State) : Bool × State :=
  let cfg := match b.kind, s.almanacAt b.ref b.first with
    | .herald, some a => (match s.heraldFor (a.epochOf b.ref) with
      | some x => x.1
      | none => 0)
    | _, _ => 0
  let n := s.buildChain b cfg
  if b.first < s.mac.txResume then (false, refuse n RF_ABORTED b s)
  else if !s.held then (false, runTxDescriptorIssue (Fin.ofNat 4 n) (b.desc 0 (b.first - s.txLead n) 0 [] true) s)
  else match b.kind with
    | .ack =>
      if b.first - s.txLead n < s.now + 240 then (false, exchangeEnds b.node (s.count F.MAC_TX_CNT_ACK_LATE 1))
      else secure n b (s.ackDraft b) 0 s
    | .herald =>
      match s.almanacAt b.ref b.first with
      | some a => secure n b (s.heraldDraft a b.ref cfg) 0 s
      | none => (false, s)
    | .rollout => secure n b (s.rolloutDraft b.ref b.payload) 0 (s.setCamp b.ref { s.camp b.ref with faults := 0 })
    | .downlink =>
      match s.dlqOf b.node with
      | [] => (false, exchangeEnds b.node s)
      | f :: _ =>
        if (s.profile (s.nf b.node N.PHY_PROFILE)).isEmpty then (false, refuse n St.BAD_PARAM b (refusedEntry 17 s))
        else if f.ctr ≠ 0 then
          (false, if b.first - s.txLead n < s.now then refuse n St.TX_LATE b s
            else issue n b (s.downlinkDraft b.node f []) (f.ctr - 1) f.psdu s)
        else
          match frameKeys b.node f s with
          | (none, s) => (false, refuseKey n b s)
          | (some keys, s) => secure n b (s.downlinkDraft b.node f keys) f.page s

/-- The first frame in order that does not wait: acknowledgements are ahead of all others. -/
def buildTry : List Build → State → State
  | [], s => s
  | b :: l, s =>
    let x := buildOne b s
    if x.1 then buildTry l x.2 else { x.2 with frames.builds := x.2.frames.builds.erase b }

/-- TX_BUILD (R268). -/
def runTxBuild (s : State) : State :=
  let isAck := fun (b : Build) => b.kind == .ack
  buildTry (s.frames.builds.filter isAck ++ s.frames.builds.filter (fun b => !isAck b)) s

/-! ### Exchanges (R212, R360) -/

/-- A downlink went unacknowledged: it stays at the head of the queue, and a source-routed one counts toward R241. -/
def downlinkLost (e : RxEvent) (s : State) : State :=
  let s := editEvent e (fun x => { x with waiting := false, pendingBit := false }) s
  match s.dlqOf e.node with
  | [] => s
  | f :: _ =>
    if f.dest = 0 then s
    else
      let x := s.sched.nodes.get NodeStats.empty (f.dest - 1)
      let par := s.nf (f.dest - 1) N.PARENT
      let n := if x.routeParent = par then x.routeFails + 1 else 1
      { s with sched.nodes := s.sched.nodes.set NodeStats.empty (f.dest - 1) { x with routeFails := n, routeParent := par } }

/-- The next downlink of an exchange would reach the window of another event delivered for the channel. -/
def State.exchangeReaches (s : State) (e : RxEvent) (f : DlFrame) : Bool :=
  let turn := s.ackTurn
  let d := s.downlinkDraft e.node f (List.replicate (frameKeyBytes f) 0)
  let stop := e.lastEnd + turn + d.airTicks + turn + s.fld F.MAC_DRIFT_CFG_G_MIN
  s.delivered.any (fun x => x.node != e.node && x.on e.ch && !x.closed && decide (x.lo ≤ stop))

/-- DOWNLINK_EXCHANGE: the exchange of a node's event goes on, or its last downlink is found unacknowledged. -/
def runDownlinkExchange (node : BitVec 17) (s : State) : State :=
  let turn := s.ackTurn
  match s.delivered.find? (fun e => e.node == node.toNat && e.heard) with
  | none => s
  | some e =>
    if s.frames.builds.any (fun b => b.node == e.node && (b.kind == .ack || b.kind == .downlink)) then s
    else if e.waiting then
      if e.lastEnd + turn + s.fld F.MAC_DRIFT_CFG_G_MIN < s.now ∧ s.framePending e.ch = false then downlinkLost e s else s
    else if !e.pendingBit || (s.lane (laneOf e.ch)).dlPerEvent ≤ e.sent then s
    else match s.dlqOf e.node with
      | [] => editEvent e (fun x => { x with pendingBit := false }) s
      | f :: _ =>
        if s.exchangeReaches e f then editEvent e (fun x => { x with pendingBit := false }) s
        else
          { s with frames.builds := s.frames.builds ++
              [{ kind := .downlink, node := e.node, slot := e.ch, lane := laneOf e.ch, first := e.lastEnd + turn, level := 0,
                 epoch := 0, ref := 0, num := 0, payload := [] }] }

/-! ### Joining (R334 to R336) -/

/-- The shortest and longest interval and SUPV_TIMEOUT that the envelope gives a node (R238). -/
def State.wakeHigh (s : State) (r : EnvRec) : Nat :=
  least2 r.hi (65535 * 120000000 / (most2 1 r.aux * most2 1 s.slotTicks))
def clampNat (lo hi v : Nat) : Nat := if v < lo then lo else if hi < v then hi else v
def State.supvFor (s : State) (mult wake : Nat) : Nat := least2 65535 ((mult * wake * s.slotTicks + 119999999) / 120000000)

/-- The fields that the firmware chooses for a joining node: within the envelope, and where no rule decides, an open
value. -/
def joinFields (id reqWake tiers profile : Nat) (s : State) : Option (Assoc × State) :=
  let w := s.nodeEnv 3 id
  let t := s.nodeEnv 4 id
  let wake := clampNat w.lo (s.wakeHigh w) reqWake
  let prof := s.profile profile
  let tierOk := fun (i : Nat) => tiers / 2 ^ i % 2 == 1 && profByte prof 18 / 2 ^ i % 2 == 1 && decide (t.lo ≤ i) && decide (i ≤ t.hi)
  let allowed := if profType prof = 1 then ([0, 1, 2, 3] : List Nat).filter tierOk else [0]
  let (a, s) := s.draw
  let (b, s) := s.draw
  let (c, s) := s.draw
  let (e, s) := s.draw
  let anchor := s.roundStart (s.roundOf s.now + 3 + b % most2 1 wake)
  let maps := (List.range 64).filter (fun i => s.mapAt i (s.epochOf (s.roundOf anchor)) != 0)
  if allowed.isEmpty || maps.isEmpty || wake == 0 || !s.almanacRuns then none
  else
    some ({ wake := wake, supv := s.supvFor w.aux wake, chmap := nth maps (c % maps.length), tier := nth allowed (a % allowed.length),
            profile := profile, e0 := e % 65536, anchor := anchor, ofs := 0 }, s)

/-- The plaintext of JOIN_ACCEPT. -/
def State.joinPlain (s : State) (id : Nat) (a : Assoc) (lk gk : List Byte) : List Byte :=
  leBytes 4 id ++ leBytes 1 s.keyCur ++ leBytes 1 a.chmap ++ leBytes 1 a.tier ++ leBytes 1 0 ++ leBytes 2 a.wake ++
    leBytes 2 a.supv ++ leBytes 2 a.e0 ++ leBytes 2 0 ++ leBytes 8 a.anchor ++ lk ++ gk ++
    leBytes 32 (s.mapAt a.chmap (s.epochOf (s.roundOf a.anchor))).toNat

/-- Answer a request that holds: the acknowledgement goes first, and the node becomes JOINING only where it can reach
its chain. -/
def joinAnswer (id eui : Nat) (kin nonce : List Byte) (slot tier first reqWake tiers profile : Nat) (s : State) : State :=
  let s := (s.setNaux id (nauxSetReqWake reqWake (s.naux id))).setNf id N.LEARN_PENDING 0
  let s := s.setNf id N.TX_POWER (s.nodeEnv 5 id).hi
  let lane := laneOf slot
  let n := s.fld (F.LNS_LANE_CTL_CHAIN lane)
  match joinFields id reqWake tiers profile s with
  | none => s
  | some (a, s) =>
    let lk := keyNow kLK 3 (euiCtx eui) s
    let gk := keyNow kGK 3 (groupCtx 0) lk.2
    let s := gk.2
    match lk.1, gk.1 with
    | some lk, some gk =>
      let c := ccmSeal kin (beBytes 8 eui ++ nonce ++ [0x07#8]) 16 [] (s.joinPlain id a lk gk)
      let sub := subElement 7 (sliceBytes c.1 0 88 ++ sliceBytes c.2 0 16)
      let prof := s.profile profile
      let p := addressed prof eui s.cellEui (ackPlan 0 false sub)
      let psdu := p.psdu [] s.cellEui 0
      let d : Draft := { plan := p, key := .clear, scope := 0, prof := prof, tier := tier, drive := s.nf id N.TX_POWER }
      let b : Build := { kind := .ack, node := id, slot := slot, lane := lane, first := first, level := 0, epoch := 0, ref := 0,
                         num := 0, payload := [] }
      if b.first - s.txLead n < s.now + 240 then s.count F.MAC_TX_CNT_ACK_LATE 1
      else if a.anchor < s.now + 2 * s.slotTicks then s
      else
        let s := issue n b d 0 psdu s
        nodeJoin id a (s.setNf id N.KEY_EPOCH s.keyCur)
    | _, _ => s

/-- The firmware takes the first frame of the join queue. -/
def joinTake (it : QItem) (admitted : Bool) (s : State) : State :=
  match parseFrame it.data with
  | none => s
  | some f =>
    match (readBody f f.body).bind (fun c => c.find 6 24) with
    | none => s
    | some q =>
      let eui := if f.srcMode = 3 then f.src else s.nf it.orig N.EUI64
      let open' := s.flag F.MAC_HERALD_CFG_JOIN_OPEN
      let kin := keyNow kKIN 1 (euiCtx eui) s
      let s := kin.2
      match kin.1 with
      | none => s
      | some kin =>
        let mic := (digestBytes (hmacSha256 kin (beBytes 8 eui ++ q.take 8))).take 16
        if !open' || !admitted || f.type != 3 || f.sec || mic != q.drop 8 || !s.held || !s.almanacRuns then s
        else
          let r := match s.idOf eui with
            | some id => if s.nodeState id = nsLearned ∨ s.nodeState id = nsLapsed then (some id, s) else (none, s)
            | none =>
              let x := allocNode 0x06 eui 0 0 s
              if x.1.status = St.OK then (some x.1.index, x.2) else (none, s)
          match r with
          | (none, s) => s
          | (some id, s) =>
            joinAnswer id eui kin (sliceBytes q 4 4) (it.ref % 256) (it.ref / 16384)
              (it.time + s.ackTurn) (leAt q 0 2) (leAt q 2 1 % 16) (it.ref / 256 % 64) s

/-- JOIN_REQUEST (R335): the join server's word is the operand. -/
def runJoinRequest (req : JoinAnswer) (s : State) : State :=
  if !s.coresWork then s
  else match queuePop joinQid s with
    | (some it, s) => joinTake it req.admitted s
    | (none, s) => s

/-! ### Configuration (R283) -/

/-- FRM_CFG_SET; entry 0 of NTAB holds the cell's address (R316). -/
def opFrmCfgSet (p : Packet) (s : State) : State :=
  checked p
    [(p.bits 2 1 0 == 3 || p.bits 2 3 2 == 3 || p.bits 2 7 4 != 0 || p.dirty 3 1 || p.u16 4 < 32 || 2047 < p.u16 4 ||
        p.u16 6 < 1 || 60 < p.u16 6 || p.dirty 16 4, St.BAD_PARAM),
     (!s.inMode [.calibrate, .test] && p.u64 8 != s.cellEui, St.NOT_IN_MODE)] (fun s =>
    let s := (s.setFld F.FRM_CTL_PAN_ID (p.u16 0)).setFld F.FRM_CTL_TX_LEVEL (p.bits 2 1 0)
    let s := (s.setFld F.FRM_CTL_RX_MIN_LEVEL (p.bits 2 3 2)).setFld F.FRM_CTL_FRAG_PSDU (p.u16 4)
    let s := s.setFld F.FRM_FRAG_STAT_REASM_S (p.u16 6)
    done p [] ((s.setPair R.FRM_CELL_EUI_LO R.FRM_CELL_EUI_HI (p.u64 8)).setNf 0 N.EUI64 (p.u64 8))) s

def runFrmCfgSet (p : Packet) (s : State) : State := command 0x8101 (lenIs 20) radioModes opFrmCfgSet p s

/-- FRM_CTX_SET. -/
def opFrmCtxSet (p : Packet) (s : State) : State :=
  let n := p.u8 1
  let v := beAt p.params 4 16
  checked p [(15 < p.u8 0 || 128 < n || p.dirty 2 2 || v % 2 ^ (128 - n) != 0, St.BAD_PARAM)] (fun s =>
    let x := if n = 0 then (0, 0#128) else (n, BitVec.ofNat 128 v)
    done p [] { s with frames.ctx := s.frames.ctx.set (0, 0#128) (p.u8 0) x }) s

def runFrmCtxSet (p : Packet) (s : State) : State := command 0x8102 (lenIs 20) radioModes opFrmCtxSet p s

end Sys2Proof.Machine
end

