-- ==== Sys2Proof/Machine/Scheduler.lean ====
section
/-! DEFINITION. The autonomous scheduler: its reviews, its decisions and the policy envelope (R224 to R252). -/

namespace Sys2Proof.Machine

def SCHED_INFEASIBLE : Nat := 0x8500
def SCHED_SCOPE_FULL : Nat := 0x8501
def SCHED_NO_NODE : Nat := 0x8502

/-- Thermal states (R245). -/
def tsNormal : Nat := 0
def tsCaution : Nat := 1
def tsThrottled : Nat := 2
def tsCritical : Nat := 3
def State.thermalState (s : State) : Nat :=
  if s.flag F.THM_STAT_CRIT then tsCritical
  else if s.fld F.THM_STAT_STEPS ≠ 0 then tsThrottled
  else if s.flag F.THM_STAT_WARN then tsCaution
  else tsNormal

/-- The TX duty cap, the governor's third step, is active. -/
def State.dutyCap (s : State) : Bool := 3 ≤ s.fld F.THM_STAT_STEPS

/-- The thermal state holds a value: it is counted (R250). -/
def holdThermal (s : State) : State := { s with sched.heldThermal := s.sched.heldThermal + 1 }
def holdBound (s : State) : State := { s with sched.heldBound := s.sched.heldBound + 1 }

/-- Count a kind of change for the node summary. -/
def summaryAdd (k : Nat) (s : State) : State :=
  let l := (s.sched.summary ++ List.replicate 6 0).take 6
  { s with sched.summary := setNth k (nth l k + 1) l }

/-! ### Channels and maps (R230, R232 to R235) -/

/-- The median of a list of codes, the lower of the two middle ones for an even number. -/
def median (l : List Nat) : Option Nat := (sortBy (fun x => x) l)[(l.length - 1) / 2]?

def State.chanStat (s : State) (c : Nat) : ChanStats := s.sched.chans.get ChanStats.empty c
def setChanStat (c : Nat) (x : ChanStats) (s : State) : State :=
  { s with sched.chans := s.sched.chans.set ChanStats.empty c x }

/-- Idle power of a channel, and the reference of a pair. -/
def State.idleOf (s : State) (c : Nat) : Option Nat := median (s.chanStat c).idle
def State.idleRef (s : State) (p : Nat) : Option Nat :=
  median ((s.heads.filter (fun c => s.served c && s.streamPair c == p)).filterMap s.idleOf)

/-- The Herald blanks every branch of a channel's pair (R233). -/
def State.heraldBlanks (s : State) (c : Nat) : Bool :=
  match s.heraldNow with
  | none => false
  | some (cfg, _) =>
    let n := F.MAC_HERALD_CFG_CHAIN.read cfg
    let drive := F.MAC_HERALD_CFG_DRIVE.read cfg
    s.couples n (s.streamPair c) drive (s.paModeOf n drive)

/-- A channel that is out of every map at once (R233). -/
def State.chanOut (s : State) (c : Nat) : Bool := !s.served c || s.heraldBlanks c

/-- Idle power of a channel lies at least `k` codes above its pair's reference. -/
def State.idleAbove (s : State) (c k : Nat) : Bool :=
  match s.idleOf c, s.idleRef (s.streamPair c) with
  | some i, some r => decide (r + k ≤ i)
  | _, _ => false

/-- A channel is poor at a review; one that carries no stream is not measured (R232). -/
def State.poorNow (s : State) (c : Nat) : Bool :=
  let x := s.chanStat c
  s.isHead c && (s.idleAbove c 20 || (decide (32 ≤ x.heard + x.miss) && decide (2 * x.heard < x.heard + x.miss)))

/-- Count the reviews at which a channel was poor. -/
def reviewChannel (c : Nat) (s : State) : State :=
  let x := s.chanStat c
  setChanStat c { x with poor := if s.poorNow c then x.poor + 1 else 0 } s

/-- A channel could be readmitted at a review, were it for its idle power (R232). -/
def State.cleanNow (s : State) (c : Nat) : Bool := (s.idleOf c).isSome && !s.idleAbove c 9 && !s.chanOut c

/-- Count, for the channels excluded from a map, the reviews in succession at which one could come back. -/
def countReadmit (i : Nat) (out mask : BitVec 256) (s : State) : State :=
  (mapChannels out).foldl (fun s c =>
    let k := 256 * i + c
    let n := if s.cleanNow c && mask.getLsbD c then s.sched.readmit.get 0 k + 1 else 0
    { s with sched.readmit := s.sched.readmit.set 0 k n }) s

/-- Channels by their idle power, the lower number first on a tie; one without a value comes after those with one, and
one that is not served last. -/
def State.byIdle (s : State) (l : List Nat) : List Nat :=
  sortBy (fun c => 256 * (if s.served c then (s.idleOf c).getD 256 else 257) + c) l

def mapOf (l : List Nat) : BitVec 256 := l.foldl (fun m c => m ||| BitVec.ofNat 256 (2 ^ c)) 0

/-- MAP_LEAD (R235). -/
def State.mapLead (s : State) (i : Nat) : Nat :=
  let w := greatest ((s.wheel.filter (fun id => s.nf id N.CHMAP_IDX == i)).map (fun id => s.nf id N.WAKE_INTERVAL))
  most2 (2 * w * s.slotTicks) (2 * s.slotTicks)

/-- The first epoch that begins at least `lead` ticks from now. -/
def State.epochAfter (s : State) (lead : Nat) : Nat :=
  let g := (s.now + lead - s.almStart + s.slotTicks - 1) / most2 1 s.slotTicks
  (s.mac.running.epoch0 + (g + s.rounds - 1) / s.rounds) % 2 ^ 32

/-- The change of a map that has been accepted last and lies ahead. -/
def State.mapAhead (s : State) (i : Nat) : Option MapChange := (s.mac.mapPend.filter (fun c => c.idx == i)).getLast?

/-- The content that a map will have once every accepted change of it has taken effect. -/
def State.mapLatest (s : State) (i : Nat) : BitVec 256 :=
  match s.mapAhead i with
  | some c => c.map
  | none => s.ledger.chmap.get 0 i

/-- Give a map a new content: it applies MAP_LEAD ahead, and not before a change that has been accepted (R234, R235). -/
def changeMap (i : Nat) (new : BitVec 256) (s : State) : State :=
  let cur := s.mapLatest i
  if new = cur then s
  else
    let e := s.epochAfter (s.mapLead i)
    let e := match s.mapAhead i with
      | some c => if epochDiff c.epoch e < 2 ^ 31 then c.epoch else e
      | none => e
    let out := (mapChannels (cur &&& ~~~new)).length
    let back := (mapChannels (new &&& ~~~cur)).length
    let s := { s with sched.mapChanges := s.sched.mapChanges + 1 }
    post 2 sevInfo 0x0A01 (arg1 i ++ arg4 e ++ arg2 out ++ arg2 back) (scheduleMap i e new s)

/-- Review one map. At a channel review excluded channels leave it, those readmitted come back and it keeps its MASK; at
a load review only the channels of R233 leave it. It never holds fewer channels than its LO: then it holds the LO
permitted ones with the lowest idle power (R232 to R234). -/
def reviewMap (full : Bool) (i : Nat) (s : State) : State :=
  let r := s.mapEnv i
  let cur := s.mapLatest i
  if s.frozen r || cur == 0 || !s.almanacRuns then s
  else
    let was := s.sched.removed.get 0 i
    let leaves := (mapChannels (cur &&& ~~~was)).filter (fun c =>
      s.chanOut c || (full && (decide (3 ≤ (s.chanStat c).poor) || !r.mask.getLsbD c)))
    if !full && leaves.isEmpty then s
    else
      let s := if full then countReadmit i was r.mask s else s
      let back := if full then (mapChannels was).filter (fun c => decide (10 ≤ s.sched.readmit.get 0 (256 * i + c))) else []
      let out := (was ||| mapOf leaves) &&& ~~~mapOf back
      let s := { s with sched.removed := s.sched.removed.set 0 i out,
                        sched.readmit := (leaves ++ back).foldl (fun (m : Sparse Nat) c => m.set 0 (256 * i + c) 0) s.sched.readmit }
      let keep := if full then (cur ||| was) &&& ~~~out &&& r.mask else cur &&& ~~~mapOf leaves
      let short := (mapChannels keep).length < r.lo
      let new := if short then mapOf ((s.byIdle (mapChannels r.mask)).take r.lo) else keep
      let s := if (mapChannels out).any new.getLsbD || (full && leaves.any (fun c => !r.mask.getLsbD c)) then holdBound s
        else s
      let s := if short ∧ (full = true ∨ new ≠ cur) then post 2 sevDegraded 0x0A06 (arg1 i ++ arg2 (mapChannels new).length) s
        else s
      if new = 0 then s else changeMap i new s

def reviewMaps (full : Bool) (s : State) : State := (List.range 64).foldl (fun s i => reviewMap full i s) s

/-! ### Streams (R236) -/

/-- Change a stream's configuration word, with APPLY = 1 (R141). -/
def schedStream (n : Nat) (cfg : Word) (s : State) : State :=
  let old := s.word (R.CHZ_CH_CFG n)
  if cfg = old ∨ (s.stream n).pend.isSome = true then s
  else
    let s := s.setStream n { s.stream n with pend := some (.change cfg (s.word (R.CHZ_CH_FREQ n)) true), cmd := none }
    post 2 sevInfo 0x0A02 (arg1 n ++ arg4 old.toNat ++ arg4 cfg.toNat) s

def State.setDiv (s : State) (n v : Nat) : Word := (F.CHZ_CH_CFG_DIV n).write v (s.word (R.CHZ_CH_CFG n))

/-- Channels of the Herald set. -/
def State.heraldChannels (s : State) : List Nat :=
  match s.heraldNow with
  | none => []
  | some (cfg, hset) => (List.range (F.MAC_HERALD_CFG_NSET_M1.read cfg + 1)).map (fun g => heraldChannel cfg hset g)

/-- Streams of a pair. -/
def State.pairHeads (s : State) (p : Nat) : List Nat := s.heads.filter (fun n => s.streamPair n == p)

/-- DIV and PRIMARY of a pair's streams at a channel review. The channels used for joining are those of the Herald set
(R334). -/
def reviewStreams (p : Nat) (s : State) : State :=
  let r := s.pairEnv 1 p
  if s.frozen r then s
  else
    let wanted := (s.pairHeads p).filter (fun n => s.heraldChannels.contains n)
    let always := wanted.take r.aux
    let raise := s.sched.thermal = tsNormal
    (s.pairHeads p).foldl (fun s n =>
      let x := s.chanStat n
      let old := s.fld (F.CHZ_CH_CFG_DIV n)
      let node := s.ledger.chmap.any (fun m => m.2.getLsbD n)
      let s := if wanted.contains n ∧ always.contains n = false then holdBound s else s
      let s := if always.contains n ∧ ¬raise ∧ old ≠ 2 then holdThermal s else s
      let div := if always.contains n ∧ (raise ∨ old = 2) then 2
        else if node ∨ wanted.contains n then 1 else if old = 2 then 1 else old
      let b := s.primaryB n
      let toA := decide (1 ≤ x.divA) && decide (3 * x.divB ≤ x.divA)
      let toB := decide (x.divA < 2 * x.divB)
      let prim := if b then !toA else toB
      let cfg := (F.CHZ_CH_CFG_PRIMARY n).write (if prim then 1 else 0) (s.setDiv n div)
      schedStream n cfg s) s

/-- DIV_SHORT rose: the ALWAYS stream of each pair with the highest slot becomes WINDOWED. -/
def relaxDiv (s : State) : State :=
  (List.range 4).foldl (fun s p =>
    if s.frozen (s.pairEnv 1 p) then s
    else match ((s.pairHeads p).filter (fun n => s.fld (F.CHZ_CH_CFG_DIV n) == 2)).getLast? with
      | some n => schedStream n (s.setDiv n 1) s
      | none => s) s

/-! ### The load review (R231, R244 to R247) -/

/-- Channels of a lane that are served. -/
def State.laneChannels (s : State) (n : Nat) : List Nat := ((List.range 16).map (fun i => 16 * n + i)).filter s.served

/-- FEAST entries below their reserve: one stays low until its headroom is twice the reserve (R246). -/
def State.feastLowNow (s : State) : List Nat :=
  let aux := (s.chipEnv 7).aux
  (List.range 16).filter (fun e =>
    let b := s.band e
    if !(b.valid && b.feast) then false
    else
      let budget := b.dutyPpm * b.dutyWin
      let cur := feastSec s.now
      let head := budget - s.feastSum e (cur + 1 - b.dutyWin) cur
      let need := aux * budget
      if s.sched.feastLow.contains e then decide (head * 1000000 < 2 * need) else decide (head * 1000000 < need))

/-- DL_PER_EVENT of every lane. -/
def reviewDownlinks (s : State) : State :=
  let r := s.chipEnv 7
  let s := (List.range 16).foldl (fun s e =>
    feastVoteRange e (feastSec s.now + 1 - (s.band e).dutyWin) (feastSec s.now) s) s
  let s := { s with sched.feastLow := s.feastLowNow }
  if s.frozen r then s
  else
    (List.range 16).foldl (fun s n =>
      let l := s.lane n
      let low := (s.laneChannels n).any (fun c => match s.channelEff c with
        | some eff => eff.charged.any (fun e => s.sched.feastLow.contains e)
        | none => false)
      let want := if low then 0 else if s.sched.laneDwell.contains n then r.hi / 2 else r.hi
      let v := most2 want r.lo
      let s := if v ≠ want then holdBound s else s
      let capped := if s.dutyCap then least2 v 1 else v
      let capped := if s.sched.thermal ≠ tsNormal then least2 capped l.dlPerEvent else capped
      let s := if capped ≠ v then holdThermal s else s
      s.setLane n { l with dlPerEvent := capped }) s

/-- The node may be offered an update (R242); one that has reverted waits for the node's next review (R243). -/
def State.offerable (s : State) (id : Nat) : Bool :=
  s.nodeState id == nsAssociated && !(s.sched.nodes.get NodeStats.empty id).reverted && s.nf id N.MISS == 0 && !s.sched.updates.any (fun u => u.node == id)

/-- Offer an update. -/
def offer (id wake supv tier shift : Nat) (s : State) : State :=
  let u : SchedUpdate :=
    { node := id, wake := wake, supv := supv, tier := tier, chmap := s.nf id N.CHMAP_IDX, shift := shift, eEff := 0,
      carried := false, applied := false, oldWake := 0, oldSupv := 0, oldTier := 0, oldChmap := 0, oldE := 0, oldAnchor := 0 }
  { s with sched.updates := s.sched.updates ++ [u] }

/-- Events that fall in the round that begins at a tick. -/
def State.roundLoad (s : State) (t : Nat) : Nat :=
  countIf (fun id => let i := s.interval id
    decide (s.nf id N.ANCHOR ≤ t) && i != 0 && (t - s.nf id N.ANCHOR) % i == 0) s.wheel

/-- The member of a list with the least value, the first of several. -/
def argLeast (f : Nat → Nat) : List Nat → Option Nat
  | [] => none
  | x :: l =>
    match argLeast f l with
    | none => some x
    | some y => some (if f x ≤ f y then x else y)

/-- Offer a node the shift to the least loaded round within its interval, from the round of E_eff on; `moved` are the
rounds that earlier offers of the review go to. -/
def spreadNode (id : Nat) (moved : List Nat) (s : State) : List Nat × State :=
  let w := s.nf id N.WAKE_INTERVAL
  let base := s.nf id N.ANCHOR + 2 * s.interval id
  let load := fun (k : Nat) => s.roundLoad (base + k * s.slotTicks) + countIf (fun t => t == base + k * s.slotTicks) moved
  match argLeast load ((List.range w).drop 1) with
  | none => (moved, s)
  | some k =>
    if load 0 ≤ load k then (moved, s)
    else (moved ++ [base + k * s.slotTicks],
      offer id w (s.nf id N.SUPV_TIMEOUT) (s.nf id N.TIER) k s)

/-- Move nodes that were heard in the most loaded rounds of the last load review (R247). -/
def spreadLoad (s : State) : State :=
  let load := fun (a : Nat) => countIf (fun (x : Nat × Nat) => x.1 == a) s.sched.heardIn
  let top := greatest (s.sched.heardIn.map (fun x => load x.1))
  let l := ((s.sched.heardIn.filter (fun x => load x.1 == top)).map (·.2)).eraseDups.filter (fun id =>
    s.offerable id && !s.frozen (s.nodeEnv 3 id))
  ((l.take 64).foldl (fun (a : List Nat × State) id => spreadNode id a.1 a.2) ([], s)).2

/-! ### The plan review (R237, R244) -/

/-- Node count of a pair for CHZ_PAIR_PRIO: associated nodes whose map uses at least one of its channels. -/
def State.pairNodes (s : State) (p : Nat) : Nat :=
  let own := mapOf (s.pairHeads p)
  countIf (fun id => s.nodeState id == nsAssociated && (s.ledger.chmap.get 0 (s.nf id N.CHMAP_IDX) &&& own) != 0) s.wheel

/-- CHZ_PAIR_PRIO: the Herald pair first, the others by their nodes. -/
def reviewPrio (s : State) : State :=
  let heralds := fun (p : Nat) => countIf (fun c => s.streamPair c == p) (s.heraldChannels.filter s.isHead)
  let most := greatest ((List.range 4).map heralds)
  let first := ((List.range 4).find? (fun p => heralds p == most)).getD 0
  let rest := sortBy (fun p => 0x20000 - s.pairNodes p) ((List.range 4).filter (fun p => p != first))
  let prio := (first :: rest).zip [3, 2, 1, 0]
  s.setFld F.CHZ_PAIR_PRIO_PRIO (sumOf (prio.map (fun (x : Nat × Nat) => x.2 * 4 ^ x.1)))

/-- Airtime of a chain since the last plan review, in µs. -/
def State.chainAir (s : State) (n : Nat) : Nat :=
  sumOf ((s.sched.txLog.filter (fun x => x.chain == n && decide (s.sched.planAt ≤ x.at'))).map (·.us))

/-- Pairs other than its own that a chain fully blanks at a drive. -/
def State.fullBlanks (s : State) (n drive : Nat) : Nat :=
  countIf (fun p => p != n && s.couples n p drive (s.paModeOf n drive)) (List.range 4)

/-- The chain of each lane. The drive of a lane that has sent nothing since the last plan review is open. -/
def reviewChains (s : State) : State :=
  let chains := (List.range 4).filter (fun n => s.flag (F.RFE_TX_CTL_EN n))
  (List.range 16).foldl (fun s lane =>
    let sent := median ((s.sched.txLog.filter (fun x => x.lane == lane && decide (s.sched.planAt ≤ x.at'))).map (·.drive))
    let (v, s) := s.draw
    let drive := sent.getD (v % 65)
    match (sortBy (fun n => 2 ^ 40 * s.fullBlanks n drive + s.chainAir n) chains).head? with
    | some n => s.setFld (F.LNS_LANE_CTL_CHAIN lane) n
    | none => s) s

/-- The return state of each chain. -/
def reviewReturn (s : State) : State :=
  let herald := match s.heraldNow with
    | some (cfg, _) => some (F.MAC_HERALD_CFG_CHAIN.read cfg)
    | none => none
  (List.range 4).foldl (fun s n =>
    let recent := sumOf ((s.sched.txLog.filter (fun x => x.chain == n && decide (s.now < x.at' + 7200000000))).map (·.us))
    let ready := herald == some n || decide (12000000 < recent)
    s.setFlag (F.RFE_TX_CTL_RETURN n) ready) s

/-- A pair's streams fit a centre. -/
def State.allFit (s : State) (p khz : Nat) : Bool :=
  (s.pairHeads p).all (fun n => (fitBin (1000 * (khz : Int)) (s.streamHz n) (widthHz (s.streamWidth n))).isSome)

/-- Lowest and highest centre, in kHz, whose span reaches over every stream of a pair, within the bounds. -/
def State.centreRange (s : State) (p lo hi : Nat) : Nat × Nat :=
  let ends := (s.pairHeads p).map (fun n => (s.streamHz n - widthHz (s.streamWidth n) / 2,
    s.streamHz n + widthHz (s.streamWidth n) / 2))
  (ends.foldl (fun a e => most2 a ((e.2 - 24000000 + 999) / 1000)) lo,
    ends.foldl (fun a e => least2 a ((e.1 + 24000000) / 1000)) hi)

/-- A retune of a pair is decided where a stream does not fit or the centre lies outside its bounds, to a centre that
takes every stream (R237, R249). Which of the centres that do is open; one that does not serve is not taken. -/
def reviewSpan (p : Nat) (s : State) : State :=
  let r := s.pairEnv 0 p
  let cur := s.fld (F.RFE_PAIR_STAT_CENTRE_KHZ p)
  if s.frozen r || s.pairState p != 1 || s.sched.retunes.any (fun x => x.1 == p) ||
      (s.allFit p cur && decide (r.lo ≤ cur) && decide (cur ≤ r.hi)) then s
  else
    let (lo, hi) := s.centreRange p r.lo r.hi
    let (v, s) := s.draw
    let khz := lo + v % (hi + 1 - lo)
    if hi < lo || !s.allFit p khz || !centreOk khz then s
    else { s with sched.retunes := s.sched.retunes ++ [(p, khz, s.now)] }

/-- Retune a pair. -/
def retune (p khz : Nat) (s : State) : State :=
  let old := s.fld (F.RFE_PAIR_STAT_CENTRE_KHZ p)
  let s := (s.count (F.RFE_PAIR_CNT_RETUNES p) 1).setFld (F.RFE_PAIR_STAT_CENTRE_KHZ p) khz
  let s := { spanChanged false p (setPairLock p false (setPairState p 1 s)) with sched.planDue := true }
  post 2 sevInfo 0x0A03 (arg1 p ++ arg4 old ++ arg4 khz) s

/-- At the start of a round a decided retune is made if no window is scheduled on the pair in that round; after 600 s
without such a round it is not made, and the plan review repeats (R237). -/
def retuneTurn (s : State) : State :=
  if !s.schedActive || s.sched.thermal == tsCritical then s
  else
    s.sched.retunes.foldl (fun s (x : Nat × Nat × Nat) =>
      let (p, khz, since) := x
      let gone := { s with sched.retunes := s.sched.retunes.filter (fun y => y.1 != p) }
      let r := s.pairEnv 0 p
      if s.frozen r || s.pairState p != 1 || decide (khz < r.lo) || decide (r.hi < khz) then gone
      else if since + 72000000000 ≤ s.now then { gone with sched.planDue := true }
      else if s.pairGap p s.slotTicks then retune p khz gone
      else s) s

/-- ROUND_START (R185): due when a round boundary has passed since the last one. -/
def runRoundStart (idle : List (Fin 256 × Int)) (s : State) : State :=
  let t := roundStart idle s
  if t.mac.round = s.mac.round then t else retuneTurn t

/-! ### Placement of streams (R236, R249) -/

/-- The first place of a raster at or above a frequency, in Hz. -/
def rasterFrom (base step f : Nat) : Nat :=
  if f ≤ base then base - (base - f) / step * step else base + (f - base + step - 1) / step * step

/-- A stream is to change its frequency or its configuration: with APPLY = 1 (R141). -/
def placeChange (n : Nat) (cfg freq : Word) (s : State) : State :=
  post 2 sevInfo 0x0A02 (arg1 n ++ arg4 (s.word (R.CHZ_CH_CFG n)).toNat ++ arg4 cfg.toNat)
    (s.setStream n { s.stream n with pend := some (.change cfg freq true), cmd := none })

/-- A stream outside the bounds of CHAN moves to the nearest place of its raster inside them, if it fits there. -/
def moveStream (n : Nat) (s : State) : State :=
  let r := s.pairEnv 1 (s.streamPair n)
  let f := s.streamHz n
  let w := widthHz (s.streamWidth n)
  if s.frozen r || (s.stream n).pend.isSome || (decide (1000 * r.lo ≤ f) && decide (f ≤ 1000 * r.hi)) then s
  else
    let g := if f < 1000 * r.lo then rasterFrom f w (1000 * r.lo) else f - (f - 1000 * r.hi + w - 1) / w * w
    if g < 1000 * r.lo ∨ 1000 * r.hi < g ∨
        (s.pairArmed (s.streamPair n) = true ∧ fitBin (s.centreHz (s.streamPair n)) g w = none) then s
    else placeChange n (s.word (R.CHZ_CH_CFG n)) (BitVec.ofNat 32 g) s

/-- A new stream of a pair. Whether one is placed, which stream's raster, width and profile it takes, its slot and its
place on the raster are open: the spec gives the scheduler bounds for it and no rule. -/
def placeStream (p : Nat) (s : State) : State :=
  let r := s.pairEnv 1 p
  let (v, s) := s.draw
  let (a, s) := s.draw
  let (b, s) := s.draw
  let heads := s.pairHeads p
  if s.frozen r || !s.pairArmed p || heads.isEmpty || v % 2 == 0 then s
  else if s.sched.thermal ≠ tsNormal then holdThermal s
  else
    let h := nth heads (v / 2 % heads.length)
    let code := s.streamWidth h
    let w := widthHz code
    let slots := (List.range 256).filter (fun k => !s.slotEn k && !slotConflict k code s)
    let n := nth slots (a % most2 1 slots.length)
    let low := rasterFrom (s.streamHz h) w (1000 * r.lo)
    let f := low + b % ((1000 * r.hi - low) / w + 1) * w
    let free := heads.all (fun k => decide (2 * distInt (s.streamHz k) f ≥ w + widthHz (s.streamWidth k)))
    if slots.isEmpty || decide (1000 * r.hi < low) || !free || decide (64 < s.pairSlots p n + widthSlots code) ||
        (fitBin (s.centreHz p) f w).isNone then s
    else
      let cfg := (F.CHZ_CH_CFG_DIV n).write 0 ((F.CHZ_CH_CFG_PRIMARY n).write 1 (s.word (R.CHZ_CH_CFG h)))
      post 2 sevInfo 0x0A02 (arg1 n ++ arg4 0 ++ arg4 cfg.toNat) (streamEnable n cfg (BitVec.ofNat 32 f) s)

/-- The plan review. -/
def planReview (s : State) : State :=
  let s := (List.range 4).foldl (fun s p => reviewSpan p s) s
  let s := (List.range 4).foldl (fun s p => placeStream p s) (s.heads.foldl (fun s n => moveStream n s) s)
  let s := if s.frozen (s.chipEnv 7) then s else reviewReturn (reviewChains (reviewPrio s))
  { s with sched.planAt := s.now, sched.txLog := s.sched.txLog.filter (fun x => decide (s.now < x.at' + 7200000000)) }

/-- The number of reviews of a period that have become due since entry to SERVICE. -/
def State.reviewsDue (s : State) (period : Nat) : Nat := (s.now - s.sched.serviceAt) / period

/-- PLAN_REVIEW. -/
def runPlanReview (s : State) : State :=
  let k := s.reviewsDue 72000000000
  if !s.schedActive || k ≤ s.sched.plans then s
  else
    let s := { s with sched.plans := k }
    if s.sched.thermal = tsCritical then s else planReview s

/-- The thermal state is set anew (R245). -/
def reviewThermal (s : State) : State :=
  let old := s.sched.thermal
  let new := s.thermalState
  if new = old then s
  else
    let s := { s with sched.thermal := new, sched.planDue := s.sched.planDue || new == tsThrottled }
    post 2 sevInfo 0x0A05 (arg1 old ++ arg1 new ++ arg2 (s.fld F.THM_TJ_TJ) ++ arg1 (s.fld F.THM_STAT_STEPS)) s

/-- Updates in flight whose E_eff has passed while no decision was issued are applied (R245). -/
def applyOverdue (s : State) : State :=
  s.sched.updates.foldl (fun s u => if (s.eventOf u.node).isSome then s else updateApply u.node s) s

/-- LOAD_REVIEW. -/
def runLoadReview (s : State) : State :=
  let k := s.reviewsDue 120000000
  if !s.schedActive || k ≤ s.sched.loads then s
  else
    let prev := s.sched.serviceAt + s.sched.loads * 120000000
    let overload := match s.demod.overloadLim.last with
      | some t => prev ≤ t
      | none => false
    let short := s.sched.lastDivShort < s.fld F.CHZ_CNT_DIV_SHORT
    let busy := 96 ≤ s.sched.queuePeak || overload || short
    let s := reviewThermal { s with sched.loads := k }
    let s := if s.sched.thermal = tsCritical then s
      else
        let s := reviewDownlinks (applyOverdue s)
        let s := if short then relaxDiv s else s
        let s := if busy then spreadLoad s else s
        let s := reviewMaps false s
        if s.sched.planDue then planReview { s with sched.planDue := false } else s
    { s with sched.lastDivShort := s.fld F.CHZ_CNT_DIV_SHORT, sched.queuePeak := 0, sched.laneDwell := [], sched.heardIn := [] }

/-- CHANNEL_REVIEW. -/
def runChannelReview (s : State) : State :=
  let k := s.reviewsDue 7200000000
  if !s.schedActive || k ≤ s.sched.channels then s
  else
    let s := { s with sched.channels := k, sched.lastChannelReview := s.now }
    let s := (List.range 256).foldl (fun s c => reviewChannel c s) s
    let s := if s.sched.thermal = tsCritical then s
      else (List.range 4).foldl (fun s p => reviewStreams p s) (reviewMaps true s)
    let sum := (s.sched.summary ++ List.replicate 6 0).take 6
    let s := post 2 sevInfo 0x0A04 (arg2 (nth sum 0) ++ arg2 (nth sum 1) ++ arg2 (nth sum 2) ++ arg2 (nth sum 3) ++
      arg2 (s.sched.committed - nth sum 4) ++ arg2 (s.sched.reverted - nth sum 5)) s
    { s with sched.summary := [0, 0, 0, 0, s.sched.committed, s.sched.reverted],
             sched.chans := s.sched.chans.foldl (fun (m : Sparse ChanStats) e =>
               m.set ChanStats.empty e.1 { e.2 with idle := [], heard := 0, miss := 0, divA := 0, divB := 0 }) s.sched.chans }

/-! ### Node decisions (R238 to R241) -/

def State.nodeStat (s : State) (id : Nat) : NodeStats := s.sched.nodes.get NodeStats.empty id

/-- The drift limit in slots (R238); 0xFFFF when DRIFT_RATE is 0. -/
def State.driftLimit (s : State) (id : Nat) : Nat :=
  let r := (s.nfS id N.DRIFT_RATE).natAbs
  if r = 0 then 0xFFFF else 122820 * 1000000000 / r / most2 1 s.slotTicks

/-- The requested interval: the current one where none was asked for. -/
def State.requested (s : State) (id : Nat) : Nat :=
  let q := nauxReqWake (s.naux id)
  if q = 0 then s.nf id N.WAKE_INTERVAL else q

/-- The preferred interval. -/
def State.prefWake (s : State) (id : Nat) : Nat :=
  let r := (s.nfS id N.DRIFT_RATE).natAbs
  let lim := 122820 * 1000000000 / most2 1 r / most2 1 s.slotTicks
  let pref := least2 (s.requested id) lim
  if s.nf id N.TRUST < 8 then least2 pref (s.nf id N.WAKE_INTERVAL) else pref

/-- req(t) of R239 as an LQI. -/
def reqLqi (rate t : Nat) : Nat := nth [88, 76, 64, 52, 94, 82, 70, 58, 102, 90, 78, 66] (4 * rate + t)

/-- The tier is to be raised, or lowered (R239). -/
def NodeStats.raise (x : NodeStats) (t : Nat) : Bool :=
  !x.lqi.isEmpty && (decide (sumOf x.lqi < x.lqi.length * (reqLqi x.rate t + 4)) || decide (2 ≤ sumOf x.failed) ||
    decide (4 ≤ countIf (fun b => b) x.combined))
def NodeStats.lower (x : NodeStats) (t : Nat) : Bool :=
  t != 0 && x.lqi.length == 16 && x.lqi.all (fun q => decide (reqLqi x.rate (t - 1) + 12 ≤ q)) && sumOf x.failed == 0 &&
    countIf (fun b => b) x.combined == 0

/-- The next tier that a profile has in a direction, within bounds. -/
def nextTier (prof : List Byte) (up : Bool) (t lo hi : Nat) : Nat :=
  let ok := fun (i : Nat) => profByte prof 18 / 2 ^ i % 2 == 1 && decide (lo ≤ i) && decide (i ≤ hi)
  let l := if up then ([0, 1, 2, 3] : List Nat).filter (fun i => decide (t < i))
    else ([3, 2, 1, 0] : List Nat).filter (fun i => decide (i < t))
  (l.find? ok).getD t

/-- The preferred tier, before the envelope. -/
def State.prefTier (s : State) (id lo hi : Nat) : Nat :=
  let x := s.nodeStat id
  let t := s.nf id N.TIER
  let prof := s.profile (s.nf id N.PHY_PROFILE)
  if profType prof ≠ 1 then t
  else if x.raise t then nextTier prof true t lo hi
  else if x.lower t then nextTier prof false t lo hi
  else t

/-- The preferred drive code, before the envelope. -/
def State.prefPower (s : State) (id : Nat) : Int :=
  let r := s.nodeEnv 5 id
  let l := (s.nodeStat id).reports.filterMap (fun x => x)
  let k := l.length
  if k < 4 then (r.hi : Int)
  else
    let d : Int := (r.aux * k : Nat) - (sumOf l : Nat)
    let cur : Int := s.nf id N.TX_POWER
    if d.natAbs < 8 * k then cur else cur + satInt (-6) 6 (d.tdiv (2 * k))

/-- The parent that R241 takes. -/
def State.prefParent (s : State) (id : Nat) : Option Candidate :=
  let hi := (s.nodeEnv 6 id).hi
  (sortBy (fun (c : Candidate) => (256 * c.depth + (255 - c.lqi % 256)) * 2 ^ 17 + c.node)
    ((s.nodeStat id).candidates.filter (fun c => decide (c.depth ≤ hi)))).head?

def reviewPower (id : Nat) (s : State) : State :=
  let r := s.nodeEnv 5 id
  if s.frozen r then s
  else
    let cur := s.nf id N.TX_POWER
    let pref := s.prefPower id
    let v := (satInt r.lo r.hi pref).toNat
    let s := if (v : Int) ≠ pref then holdBound s else s
    if s.sched.thermal ≠ tsNormal ∧ cur < v then holdThermal s
    else if v = cur then s
    else summaryAdd 2 (s.setNf id N.TX_POWER v)

def reviewParent (id : Nat) (s : State) : State :=
  let x := s.nodeStat id
  if s.frozen (s.nodeEnv 6 id) then s
  else match s.prefParent id with
    | none => holdBound s
    | some c =>
      let cur := s.nf id N.PARENT
      let depth := match x.candidates.find? (fun y => y.node == cur) with
        | some y => y.depth
        | none => if cur = 0 then 0 else 255
      let st := s.nodeState cur
      let gone := cur ≠ 0 ∧ (st = nsFree ∨ st = nsLapsed ∨ st = nsDrifting)
      let lost := x.routeParent = cur ∧ 3 ≤ x.routeFails
      if c.node ≠ cur ∧ (c.depth < depth ∨ gone ∨ lost) then summaryAdd 3 (s.setNf id N.PARENT c.node) else s

/-- WAKE and TIER: one schedule update carries both. -/
def reviewSchedule (id : Nat) (s : State) : State :=
  let w := s.nodeEnv 3 id
  let t := s.nodeEnv 4 id
  let cur := s.nf id N.WAKE_INTERVAL
  let pref := s.prefWake id
  let hi := s.wakeHigh w
  let wake := clampNat w.lo hi pref
  let far := 8 * (if wake < cur then cur - wake else wake - cur) ≥ cur ∨ cur < w.lo ∨ hi < cur
  let setWake := s.frozen w = false ∧ wake ≠ cur ∧ far
  let s := if s.frozen w = false ∧ wake ≠ pref then holdBound s else s
  let tier := s.nf id N.TIER
  let free := s.prefTier id 0 3
  let want := s.prefTier id t.lo t.hi
  let inside := profType (s.profile (s.nf id N.PHY_PROFILE)) ≠ 1 ∨ (t.lo ≤ tier ∧ tier ≤ t.hi)
  let want := if inside then want else clampNat t.lo t.hi tier
  let capped := s.dutyCap && decide (tier < want)
  let s := if s.frozen t = false ∧ free ≠ want then holdBound s else s
  let s := if s.frozen t = false ∧ capped = true then holdThermal s else s
  let setTier := s.frozen t = false ∧ want ≠ tier ∧ capped = false
  if (setWake ∨ setTier) ∧ s.offerable id = true then
    let s := if setWake then summaryAdd 0 s else s
    let s := if setTier then summaryAdd 1 s else s
    offer id (if setWake then wake else cur) (if setWake then s.supvFor w.aux wake else s.nf id N.SUPV_TIMEOUT)
      (if setTier then want else tier) 0 s
  else s

/-- NODE_REVIEW: due after the 16th HEARD event since the last, and after a reseed. -/
def runNodeReview (node : BitVec 17) (candidates : List Candidate) (s : State) : State :=
  let id := node.toNat
  let x := s.nodeStat id
  if !s.schedActive || !onWheel (s.nodeState id) || (x.heardSince < 16 && !x.reseeded) then s
  else
    let y : NodeStats := { x with heardSince := 0, reseeded := false, reverted := false, candidates := candidates.take 4 }
    let s := { s with sched.nodes := s.sched.nodes.set NodeStats.empty id y }
    if s.sched.thermal = tsCritical then s else reviewSchedule id (reviewParent id (reviewPower id s))

/-! ### The envelope commands (R225 to R228, R248 to R251) -/

/-- Scope kinds that a decision accepts (R224). -/
def scopeOk (d kind : Nat) : Bool :=
  kind == 0 || (kind == 1 && d ≤ 1) || (kind == 2 && d == 2) || (kind == 3 && 3 ≤ d && d ≤ 6)

/-- The scope number is out of its range. -/
def scopeRange (kind scope : Nat) : Bool :=
  if kind = 0 then scope == 0 else if kind = 1 then scope ≤ 3 else if kind = 2 then scope ≤ 63
  else 1 ≤ scope && scope < broadcastId

/-- The bounds of MODE 1 are out of their stated ranges. -/
def boundsBad (d lo hi aux : Nat) : Bool :=
  match d with
  | 0 => lo < 160000 || 2500000 < lo || hi < 160000 || 2500000 < hi || aux != 0
  | 1 => lo < 136000 || 2524000 < lo || hi < 136000 || 2524000 < hi || 64 < aux
  | 2 => lo < 1 || 256 < lo || hi != 0 || aux != 0
  | 3 => lo < 1 || 65535 < lo || hi < 1 || 65535 < hi || aux < 3 || 255 < aux
  | 4 => 3 < lo || 3 < hi || aux != 0
  | 5 => 64 < lo || 64 < hi || 255 < aux
  | 6 => lo != 0 || hi < 1 || 8 < hi || aux != 0
  | _ => 15 < hi

/-- The bounds cannot be met together or with the hardware rules. -/
def State.infeasible (s : State) (d kind scope lo hi aux : Nat) (mask : BitVec 256) : Bool :=
  if d = 2 then (mapChannels mask).length < lo
  else
    hi < lo || (d == 3 && decide (65535 * 120000000 < aux * lo * s.slotTicks)) ||
      (d == 4 && kind == 3 && (profType (s.profile (s.nf scope N.PHY_PROFILE)) == 1) &&
        !(([0, 1, 2, 3] : List Nat).any (fun i => decide (lo ≤ i) && decide (i ≤ hi) &&
          profByte (s.profile (s.nf scope N.PHY_PROFILE)) 18 / 2 ^ i % 2 == 1)))

/-- A node that a node scope may name. -/
def State.schedNode (s : State) (id : Nat) : Bool := 1 ≤ s.nodeState id && s.nodeState id ≤ 4

/-- An update that belongs to a decision and scope. -/
def State.updateIn (s : State) (d kind scope : Nat) (u : SchedUpdate) : Bool :=
  let old := if u.applied then (u.oldWake, u.oldSupv, u.oldTier, u.oldChmap)
    else (s.nf u.node N.WAKE_INTERVAL, s.nf u.node N.SUPV_TIMEOUT, s.nf u.node N.TIER, s.nf u.node N.CHMAP_IDX)
  let mine := (d == 3 && (u.wake != old.1 || u.supv != old.2.1 || u.shift != 0)) || (d == 4 && u.tier != old.2.2.1) ||
    (d == 2 && u.chmap != old.2.2.2 && (kind == 0 || u.chmap == scope))
  mine && (kind != 3 || u.node == scope)

/-- Items of R248 that are still pending. -/
def State.envPending (s : State) (d kind scope : Nat) : Nat :=
  countIf (s.updateIn d kind scope) s.sched.updates +
    (if d = 2 then countIf (fun c => kind == 0 || c.idx == scope) s.mac.mapPend else 0)

/-- Store a record. -/
def putEnv (d kind scope : Nat) (r : EnvRec) (s : State) : State :=
  if kind = 0 then
    let l := (List.range 8).map s.chipEnv
    { s with sched.chipRec := setNth d r l }
  else if kind = 1 then { s with sched.pairRec := s.sched.pairRec.set none (4 * d + scope) (some r) }
  else if kind = 2 then { s with sched.mapRec := s.sched.mapRec.set none scope (some r) }
  else
    { s with sched.override := s.sched.override.filter (fun o => !(o.1 == scope && o.2.1 == d)) ++ [(scope, d, r)] }

/-- SCHED_ENVELOPE_SET. -/
def opSchedEnvelopeSet (p : Packet) (s : State) : State :=
  let d := p.u8 0
  let mode := p.u8 1
  let kind := p.u8 2
  let scope := p.u32 4
  let mask : BitVec 256 := BitVec.ofNat 256 (leAt p.params 20 32)
  let held := s.sched.override.any (fun o => o.1 == scope && o.2.1 == d)
  checked p
    [(7 < d || 3 < mode || 3 < kind || p.dirty 3 1 || !scopeOk d kind || !scopeRange kind scope || (mode == 3 && kind != 3) ||
        (d != 2 && p.dirty 20 32) || (mode == 1 && boundsBad d (p.u32 8) (p.u32 12) (p.u32 16)), St.BAD_PARAM),
     (kind == 3 && !s.schedNode scope, SCHED_NO_NODE),
     (kind == 3 && mode != 3 && !held && 1024 ≤ s.sched.override.length, SCHED_SCOPE_FULL),
     (mode == 1 && s.infeasible d kind scope (p.u32 8) (p.u32 12) (p.u32 16) mask, SCHED_INFEASIBLE)] (fun s =>
    let r := if mode = 1 then ⟨1, p.u32 8, p.u32 12, p.u32 16, if d = 2 then mask else 0, true⟩
      else { defaultEnv d with mode := mode, own := true }
    let s := if mode = 3 then
        { s with sched.override := s.sched.override.filter (fun o => !(o.1 == scope && o.2.1 == d)) }
      else putEnv d kind scope r s
    let s := { s with sched.updates := s.sched.updates.filter (fun u =>
      u.carried || u.applied || !s.updateIn d kind scope u) }
    let s := post 2 sevInfo 0x0A07 (arg1 d ++ arg1 kind ++ arg4 scope ++ arg1 mode ++ arg1 p.issuer.toNat) s
    done p (leBytes 4 (s.envPending d kind scope)) s) s

def runSchedEnvelopeSet (p : Packet) (s : State) : State := command 0x5001 (lenIs 52) radioModes opSchedEnvelopeSet p s

/-- SCHED_ENVELOPE_READ. -/
def opSchedEnvelopeRead (p : Packet) (s : State) : State :=
  let d := p.u8 0
  let kind := p.u8 1
  let scope := p.u32 4
  checked p
    [(7 < d || 3 < kind || p.dirty 2 2 || !scopeOk d kind || !scopeRange kind scope, St.BAD_PARAM),
     (kind == 3 && !s.schedNode scope, SCHED_NO_NODE)] (fun s =>
    let r := if kind = 0 then s.chipEnv d else if kind = 1 then s.pairEnv d scope else if kind = 2 then s.mapEnv scope
      else s.nodeEnv d scope
    let own := kind == 1 || kind == 2 || kind == 3 && s.sched.override.any (fun o => o.1 == scope && o.2.1 == d)
    done p (leBytes 1 d ++ leBytes 1 r.mode ++ leBytes 1 kind ++ leBytes 1 (if own then 1 else 0) ++ leBytes 4 scope ++
      leBytes 4 r.lo ++ leBytes 4 r.hi ++ leBytes 4 r.aux ++ leBytes 32 r.mask.toNat) s) s

def runSchedEnvelopeRead (p : Packet) (s : State) : State := command 0x5002 (lenIs 8) coreModes opSchedEnvelopeRead p s

/-- ASSOCIATED FLR nodes at a tier code. -/
def State.tierCount (s : State) (t : Nat) : Nat :=
  countIf (fun id => s.nodeState id == nsAssociated && profType (s.profile (s.nf id N.PHY_PROFILE)) == 1 &&
    s.nf id N.TIER == t) s.wheel

/-- WAKE of a node exceeds its drift limit. -/
def State.aboveDrift (s : State) (id : Nat) : Bool := s.driftLimit id < s.nf id N.WAKE_INTERVAL

/-- SCHED_STATUS. -/
def opSchedStatus (p : Packet) (s : State) : State :=
  let frozen := sumOf ((List.range 8).map (fun d => if (s.chipEnv d).mode = 2 then 2 ^ d else 0))
  done p (leBytes 1 (if s.schedActive then s.sched.thermal + 1 else 0) ++ leBytes 1 frozen ++
    leBytes 2 s.sched.override.length ++ (List.range 4).flatMap (fun t => leBytes 4 (s.tierCount t)) ++
    leBytes 4 s.sched.updates.length ++ leBytes 4 s.sched.committed ++ leBytes 4 s.sched.reverted ++
    leBytes 4 s.sched.heldBound ++ leBytes 4 s.sched.heldThermal ++ leBytes 4 (countIf s.aboveDrift s.wheel) ++
    leBytes 4 s.sched.mapChanges ++ leBytes 8 s.sched.lastChannelReview ++ leBytes 8 0) s

def runSchedStatus (p : Packet) (s : State) : State := command 0x5003 (lenIs 0) coreModes opSchedStatus p s

def Candidate.bytes (c : Candidate) : List Byte := leBytes 3 c.node ++ leBytes 1 c.depth

/-- SCHED_NODE_VIEW. -/
def opSchedNodeView (p : Packet) (s : State) : State :=
  let id := p.u32 0
  checked p [(id == 0 || broadcastId ≤ id, St.BAD_PARAM), (!s.schedNode id, SCHED_NO_NODE)] (fun s =>
    let x := s.nodeStat id
    let u := s.sched.updates.find? (fun u => u.node == id)
    let overs := sumOf ((List.range 8).map (fun d => if s.sched.override.any (fun o => o.1 == id && o.2.1 == d) then 2 ^ d else 0))
    let shadow := match u with
      | some u => u.applied
      | none => false
    let flags := (if u.isSome then 1 else 0) + (if shadow then 2 else 0) + (if s.aboveDrift id then 4 else 0)
    let reps := x.reports.filterMap (fun r => r)
    let mean := fun (l : List Nat) => if l.isEmpty then 0 else sumOf l / l.length
    let upd := match u with
      | some u => (u.eEff, u.wake, u.tier, u.chmap, u.shift, u.supv)
      | none => (0, 0, 0, 0, 0, 0)
    done p (leBytes 1 overs ++ leBytes 1 flags ++ leBytes 2 (s.requested id) ++ leBytes 2 (least2 0xFFFF (s.driftLimit id)) ++
      leBytes 1 (mean x.lqi) ++ leBytes 1 (if reps.length < 4 then 0 else mean reps) ++
      leBytes 1 (least2 255 (sumOf x.failed)) ++ leBytes 1 (countIf (fun b => b) x.combined) ++
      leBytes 1 (s.prefTier id 0 3) ++ leBytes 1 (satInt 0 255 (s.prefPower id)).toNat ++ leBytes 2 (s.prefWake id) ++
      leBytes 2 upd.1 ++ sliceBytes (x.candidates.flatMap Candidate.bytes) 0 16 ++ leBytes 2 upd.2.1 ++
      leBytes 1 upd.2.2.1 ++ leBytes 1 upd.2.2.2.1 ++ leBytes 2 upd.2.2.2.2.1 ++ leBytes 2 upd.2.2.2.2.2 ++ leBytes 8 0) s) s

def runSchedNodeView (p : Packet) (s : State) : State := command 0x5004 (lenIs 4) coreModes opSchedNodeView p s

end Sys2Proof.Machine
end

