-- ==== Sys2Proof/Machine/Forward.lean ====
section
/-! DEFINITION. Forwarding: the decision on a packet, routes, source routes, fragmentation and the forwarding commands
(R281, R347 to R360, R372). -/

namespace Sys2Proof.Machine

/-! ### Addresses (R347, R348) -/

/-- The bytes of FWD_PREFIX in network order. -/
def State.fwdPrefix (s : State) : List Byte :=
  leBytes 4 (s.word R.FWD_PREFIX_LO).toNat ++ leBytes 4 (s.word R.FWD_PREFIX_HI).toNat

/-- Bit 1 of the first octet of an interface identifier. -/
def iidBit : Nat := 2 ^ 57

/-- The address of an EUI-64, and the chip's own. -/
def State.addressOf (s : State) (eui : Nat) : List Byte := s.fwdPrefix ++ beBytes 8 (eui ^^^ iidBit)
def State.cellAddress (s : State) : List Byte := s.addressOf s.cellEui

def State.inPrefix (s : State) (a : List Byte) : Bool := a.take 8 == s.fwdPrefix

/-- The node that an address in FWD_PREFIX names; a lookup that meets an uncorrectable error fails (R344, R348). -/
def State.namedNode (s : State) (a : List Byte) : Option Nat :=
  let eui := beAt a 8 8 ^^^ iidBit
  if !s.inPrefix a || s.emapBad eui then none
  else match s.idOf eui with
    | none => none
    | some id => if s.nodeState id = nsFree ∨ s.rowBad 0 id = true then none else some id

/-! ### Packets -/

def ipNext (b : List Byte) : Nat := leAt b 6 1
def ipHops (b : List Byte) : Nat := leAt b 7 1
def ipLen (b : List Byte) : Nat := beAt b 4 2
def ipSrc (b : List Byte) : List Byte := sliceBytes b 8 16
def ipDst (b : List Byte) : List Byte := sliceBytes b 24 16

/-- The item came in on an Ethernet port: its EtherType stands in `ref`. -/
def QItem.fromEth (it : QItem) : Bool := it.ingress == 1 || it.ingress == 2

/-- The packet of an item: a frame's padding is not part of it. -/
def QItem.packet (it : QItem) : List Byte := if it.fromEth then it.data.take (40 + ipLen it.data) else it.data

/-- An IPv6 packet whose Payload Length agrees with it (R349, step 1). -/
def QItem.sound (it : QItem) : Bool :=
  40 ≤ it.data.length && leAt it.data 0 1 / 16 == 6 && it.packet.length == 40 + ipLen it.data &&
    (!it.fromEth || it.ref % 65536 == 0x86DD)

/-- Bytes of a Hop-by-Hop Options header that the packet begins with. -/
def hbhLen (b : List Byte) : Nat := if ipNext b = 0 then 8 * (leAt b 41 1 + 1) else 0

/-- The packet carries ICMPv6. -/
def isIcmp (b : List Byte) : Bool := ipNext b == 58 || (ipNext b == 0 && leAt b 40 1 == 58)

/-- A Hop-by-Hop Options header with no option but the RPL Option of RFC 6553 is removed (R353). -/
def dropRpl (b : List Byte) : List Byte :=
  let h := hbhLen b
  if h ≠ 0 ∧ leAt b 42 1 = 0x63 ∧ 4 + leAt b 43 1 = h ∧ 40 + h ≤ b.length then
    patchBytes (b.take 40) 4 (beBytes 2 (ipLen b - h) ++ [BitVec.ofNat 8 (leAt b 40 1)]) ++ b.drop (40 + h)
  else b

/-- The Hop Limit is decremented. -/
def hopDown (b : List Byte) : List Byte := patchBytes b 7 (leBytes 1 (ipHops b - 1))

/-! ### Drops and exceptions (R349, R354) -/

/-- Drop a packet under a count. -/
def fwdDrop (f : Field) (it : QItem) (s : State) : State := (freePages it.pages s).count f 1

/-- Hand a packet to a host queue, which does not wait for credit. -/
def hostPush (q : Nat) (it : QItem) (s : State) : Bool × State :=
  let r := queuePush q it s
  if r.1 then r else (false, fwdDrop F.FWD_DROP3_HOSTQ_FULL it r.2)

/-- The exception queue, or the first host queue in its place. -/
def fwdException (it : QItem) (s : State) : State :=
  let s := s.wrapCount F.FWD_EXC_CNT_EXC 1
  let it := { it with ingress := 6 }
  if s.flag F.FWD_CTL_EXC_TO_HOST then (hostPush (s.fld F.FWD_HOSTQ_BASE) it s).2
  else
    let r := queuePush excQid it s
    if r.1 then r.2 else freePages it.pages r.2

/-- A packet from the mesh has been forwarded. -/
def upCount (it : QItem) (s : State) : State := if it.ingress = 0 then s.wrapCount F.FWD_UP_CNT_UP 1 else s

/-- A packet in its pages anew: it has not grown. -/
def repack (it : QItem) (b : List Byte) (s : State) : QItem × State :=
  let keep := it.pages.take (pagesFor b.length)
  let s := freePages (it.pages.drop keep.length) s
  ({ it with pages := keep, data := b }, if b = it.data then s else writePages keep b s)

/-- Deliver to the host (R354): one node's packets stay in one queue. -/
def toHost (it : QItem) (s : State) : State :=
  let node := if it.ingress = 0 then s.namedNode (ipSrc it.packet) else none
  let q := s.fld F.FWD_HOSTQ_BASE + match node with
    | some id => id % (s.fld F.FWD_HOSTQ_COUNT_M1 + 1)
    | none => 0
  let x := repack { it with orig := node.getD broadcastId } (dropRpl it.packet) s
  let r := hostPush q x.1 x.2
  if r.1 then upCount it r.2 else r.2

/-! ### Routes (R349, R352) -/

/-- Entry of the route table: its action, prefix length, port. -/
def State.fwdRoute (s : State) (i : Nat) : List Byte := s.fwd.routes.get [] i
def rtAction (r : List Byte) : Nat := leAt r 1 1
def rtPrefix (r : List Byte) : Nat := leAt r 2 1
def rtPort (r : List Byte) : Nat := leAt r 3 1
def rtCovers (r a : List Byte) : Bool :=
  rtAction r != 0 && beAt a 0 16 / 2 ^ (128 - rtPrefix r) == beAt r 16 16 / 2 ^ (128 - rtPrefix r)

/-- Longest-prefix match, ties to the lower index. -/
def State.matchRoute (s : State) (a : List Byte) : Option (List Byte) :=
  (List.range 32).foldl (fun (best : Option (List Byte)) i =>
    let r := s.fwdRoute i
    if !rtCovers r a then best
    else match best with
      | some b => if rtPrefix b < rtPrefix r then some r else best
      | none => some r) none

/-- A destination lies under a route of action HOST. -/
def State.underHost (s : State) (a : List Byte) : Bool :=
  (List.range 32).any (fun i => rtAction (s.fwdRoute i) == 2 && rtCovers (s.fwdRoute i) a)

/-- Send on Zoant in the DATA class (R351, R352, R419). -/
def toZoant (chip : Nat) (it : QItem) (s : State) : State :=
  if !frValid (s.froute chip) then fwdDrop F.FWD_DROP0_NO_ROUTE it s
  else upCount it (zoantSend chip 3 it.packet.length (.data it.packet) (freePages it.pages s))

/-- Send on Ethernet to a route's next hop (R352, R353, R452). -/
def toEth (r : List Byte) (it : QItem) (s : State) : State :=
  let b := hopDown (dropRpl it.packet)
  if s.fld F.FWD_CTL_ETH_MTU < b.length then fwdException it s
  else if s.bntBad (leAt r 4 8) then fwdDrop F.FWD_DROP0_NO_ROUTE it s
  else
    let vid := leAt r 10 2
    let p := match s.bntFind (leAt r 4 8) with
      | some i => bntPort (s.bntEntry i)
      | none => rtPort r
    let src := leBytes 4 (s.word (R.ETH_PORT_MAC_LO p)).toNat ++ leBytes 2 (s.word (R.ETH_PORT_MAC_HI p)).toNat
    let tag := if vid = 0 then [] else beBytes 2 0x8100 ++ beBytes 2 (8192 * s.fld (F.ETH_PORT_CTL_PCP p) + vid)
    let frame := sliceBytes r 4 6 ++ src ++ tag ++ beBytes 2 0x86DD ++ b
    let e := s.ethPort p
    upCount it (freePages it.pages (s.setEthPort p { e with txq := e.txq ++ [frame] }))

/-! ### Downlinks (R281, R356) -/

/-- The chain from a node to the first hop: the first hop stands first, the node last. -/
def State.sourceRoute (s : State) : Nat → Nat → List Nat → Option (List Nat)
  | fuel, id, acc =>
    if s.nf id N.LOCAL = 0 ∨ onWheel (s.nodeState id) = false ∨ s.rowBad 0 id = true then none
    else if s.nf id N.PARENT = 0 then some (id :: acc)
    else match fuel with
      | 0 => none
      | n + 1 => s.sourceRoute n (s.nf id N.PARENT) (id :: acc)

/-- The packet with the routing header of RFC 6554 for the hops after the first. -/
def State.sourceRouted (s : State) (hop : Nat) (rest : List Nat) (b : List Byte) : List Byte :=
  if rest = [] then b
  else
    let k := rest.length
    let at' := 40 + hbhLen b
    let next := if ipNext b = 0 then 40 else 6
    let head := patchBytes (b.take at') next [43#8]
    let head := patchBytes head 4 (beBytes 2 (ipLen b + 8 + 8 * k))
    let head := patchBytes head 24 (s.addressOf (s.nf hop N.EUI64))
    head ++ [BitVec.ofNat 8 (leAt b next 1), BitVec.ofNat 8 k, 3#8, BitVec.ofNat 8 k, 0x88#8, 0#8, 0#8, 0#8] ++
      rest.flatMap (fun id => beBytes 8 (s.nf id N.EUI64 ^^^ iidBit)) ++ b.drop at'

/-- Fragments after the first. -/
def fragRest (size tag room : Nat) : Nat → Nat → List Byte → List (List Byte)
  | 0, _, _ => []
  | fuel + 1, off, bs =>
    if bs.length = 0 then []
    else
      (beBytes 2 (0xE000 + size) ++ beBytes 2 tag ++ leBytes 1 (off / 8) ++ bs.take room) ::
        fragRest size tag room fuel (off + room) (bs.drop room)

/-- Fragments of a compressed datagram under RFC 4944, in PSDUs of at most `limit` bytes with `head` of them MAC
overhead; nothing where it cannot be carried. -/
def fragments (limit head tag size : Nat) (comp : List Byte) : Option (List (List Byte)) :=
  if head + comp.length ≤ limit then some [comp]
  else if 2047 < size ∨ limit < head + 13 then none
  else
    let covered := (limit - head - 4 + size - comp.length) / 8 * 8
    let n := covered + comp.length - size
    if covered = 0 ∨ covered + comp.length ≤ size then none
    else
      some ((beBytes 2 (0xC000 + size) ++ beBytes 2 tag ++ comp.take n) ::
        fragRest size tag ((limit - head - 5) / 8 * 8) comp.length covered (comp.drop n))

/-- Queue a packet as a downlink of a node (R356). -/
def queueDownlink (id : Nat) (it : QItem) (s : State) : State :=
  match s.sourceRoute 8 id [] with
  | none | some [] => fwdDrop F.FWD_DROP0_NO_ROUTE it s
  | some (hop :: rest) =>
    let b := s.sourceRouted hop rest (hopDown it.packet)
    let comp := Config.iphcCompress (s.frames.ctx.map (fun e => (e.1, e.2.1, e.2.2))) (BitVec.ofNat 64 s.cellEui) (BitVec.ofNat 64 (s.nf hop N.EUI64)) b
    let head := (s.downlinkDraft hop ⟨0, 0, 0, [], [], 0, [], [], 0, 0, 0⟩ []).plan.bytes
    let tag := s.frames.dgramTag.get 0 hop
    let dest := if rest = [] then 0 else id + 1
    match fragments (least2 (s.fld F.FRM_CTL_FRAG_PSDU) maxPsdu) head tag b.length comp with
    | none => fwdDrop F.FWD_DROP1_DLQ_FULL it s
    | some fs =>
      let s := { s with frames.dgramTag := s.frames.dgramTag.set 0 hop ((tag + 1) % 65536) }
      let r := dlqAdmit hop (fs.map (fun f => (⟨[], f, it.packet, dest, 0, 0⟩ : DlContent))) s
      let s := freePages it.pages r.2
      if r.1 then upCount it s else s

/-- Node delivery (R351). -/
def toNode (it : QItem) (s : State) : State :=
  match s.namedNode (ipDst it.packet) with
  | none => fwdDrop F.FWD_DROP0_NO_NODE it s
  | some id =>
    let owner := s.nf id N.OWNER_CHIP
    if owner ≠ s.chipNo then
      if it.ingress = 3 then fwdDrop F.FWD_DROP0_NO_ROUTE it s else toZoant owner it s
    else if onWheel (s.nodeState id) then queueDownlink id it s
    else fwdDrop F.FWD_DROP0_NO_NODE it s

/-! ### The decision (R349, R350) -/

/-- A short ID stands within 8 steps of a node's PARENT chain. -/
def State.onChain (s : State) (who : Nat) : Nat → Nat → Bool
  | 0, _ => false
  | n + 1, id =>
    let p := s.nf id N.PARENT
    p != 0 && (p == who || s.onChain who n p)

/-- The source of an uplink passes SRC_CHECK; `ref` is its MAC sender. -/
def State.srcOk (s : State) (it : QItem) : Bool :=
  let c := s.fld F.FWD_CTL_SRC_CHECK
  c == 0 ||
    match s.namedNode (ipSrc it.packet) with
    | none => false
    | some id => onWheel (s.nodeState id) && (c != 2 || id == it.ref || s.onChain it.ref 8 id)

/-- An action of the route table and the ingresses that may use it (R352). -/
def routeAct (r : List Byte) (it : QItem) (s : State) : State :=
  if rtAction r = 1 ∧ it.fromEth = false then toEth r it s
  else if rtAction r = 2 then toHost it s
  else if rtAction r = 3 ∧ (it.ingress = 0 ∨ it.ingress = 4 ∨ it.ingress = 5) then toZoant (rtPort r) it s
  else fwdDrop F.FWD_DROP0_NO_ROUTE it s

/-- The first row of R349 that applies. -/
def fwdDecide (it : QItem) (s : State) : State :=
  let b := it.packet
  let dst := ipDst b
  if !it.sound then fwdException it s
  else if ipHops b ≤ 1 ∧ dst ≠ s.cellAddress then fwdException it s
  else if it.ingress = 0 ∧ s.srcOk it = false then fwdDrop F.FWD_DROP1_SPOOF it s
  else if leAt dst 0 1 = 0xFF then fwdException it s
  else if dst = s.cellAddress ∨ s.underHost dst = true then (if isIcmp b then fwdException it s else toHost it s)
  else if s.inPrefix dst then toNode it s
  else match s.matchRoute dst with
    | some r => routeAct r it s
    | none => fwdDrop F.FWD_DROP0_NO_ROUTE it s

/-- A packet is bound for a node. -/
def State.nodeBound (s : State) (it : QItem) : Bool :=
  it.sound && s.inPrefix (ipDst it.packet) && ipDst it.packet != s.cellAddress

/-- PACKET_FORWARD: the oldest packet is decided (R349); only SERVICE and TEST forward (R355), and only with the token
(R441). -/
def runPacketForward (s : State) : State :=
  match s.fwd.ingress with
  | [] => s
  | it :: rest =>
    let s := { s with fwd.ingress := rest }
    if s.held && s.inMode [.service, .test] then
      if s.flag F.FWD_CTL_EN then fwdDecide it s else freePages it.pages s
    else if s.nodeBound it && (!s.held || s.inMode [.banked]) then fwdDrop F.FWD_DROP3_BANKED it s
    else freePages it.pages s

/-! ### Commands (R372) -/

def FWD_ROUTE_BAD : Nat := 0x8800
def FWD_NO_NODE : Nat := 0x8801

/-- FWD_ROUTE_SET. -/
def opFwdRouteSet (p : Packet) (s : State) : State :=
  let act := p.u8 1
  let n := p.u8 2
  let port := p.u8 3
  let v := beAt p.params 16 16
  checked p
    [(31 < p.u8 0 || 4 < act || p.dirty 12 4 || p.bits 11 7 4 != 0 || (act != 1 && p.dirty 4 8), St.BAD_PARAM),
     (128 < n || v % 2 ^ (128 - n) != 0 || (act == 1 && 1 < port) || (act == 3 && 63 < port) ||
        ((act == 0 || act == 2 || act == 4) && port != 0), FWD_ROUTE_BAD)] (fun s =>
    done p [] { s with fwd.routes := s.fwd.routes.set [] (p.u8 0) (if act = 0 then [] else p.bytes 0 32) }) s

def runFwdRouteSet (p : Packet) (s : State) : State := command 0x8001 (lenIs 32) radioModes opFwdRouteSet p s

/-- FWD_ROUTE_READ. -/
def opFwdRouteRead (p : Packet) (s : State) : State :=
  checked p [(31 < p.u8 0 || p.dirty 1 3, St.BAD_PARAM)] (fun s =>
    let r := s.fwdRoute (p.u8 0)
    done p (if r = [] then leBytes 1 (p.u8 0) ++ leBytes 31 0 else r) s) s

def runFwdRouteRead (p : Packet) (s : State) : State := command 0x8002 (lenIs 4) radioModes opFwdRouteRead p s

/-- FWD_CFG_SET. -/
def opFwdCfgSet (p : Packet) (s : State) : State :=
  checked p
    [(p.bits 8 7 4 != 0 || p.bits 8 2 1 == 3 || p.dirty 9 1 || p.dirty 12 4 || p.u16 10 < 1280 || 9000 < p.u16 10, St.BAD_PARAM),
     (!s.inMode [.calibrate, .test] && p.bytes 0 8 != s.fwdPrefix, St.NOT_IN_MODE)] (fun s =>
    let s := s.setPair R.FWD_PREFIX_LO R.FWD_PREFIX_HI (p.u64 0)
    let s := (s.setFlag F.FWD_CTL_EN (p.bit 8 0)).setFld F.FWD_CTL_SRC_CHECK (p.bits 8 2 1)
    done p [] ((s.setFlag F.FWD_CTL_EXC_TO_HOST (p.bit 8 3)).setFld F.FWD_CTL_ETH_MTU (p.u16 10))) s

def runFwdCfgSet (p : Packet) (s : State) : State := command 0x8003 (lenIs 16) radioModes opFwdCfgSet p s

/-- FWD_DLQ_FLUSH. -/
def opFwdDlqFlush (p : Packet) (s : State) : State :=
  let id := p.u32 0
  checked p [(broadcastId ≤ id, St.BAD_PARAM), (!onWheel (s.nodeState id), FWD_NO_NODE)] (fun s =>
    let r := dlqFlush id s
    done p (leBytes 4 r.1) r.2) s

def runFwdDlqFlush (p : Packet) (s : State) : State := command 0x8004 (lenIs 4) radioModes opFwdDlqFlush p s

/-- The drop counts, in the order of the registers. -/
def dropFields : List Field :=
  [F.FWD_DROP0_NO_ROUTE, F.FWD_DROP0_NO_NODE, F.FWD_DROP1_SPOOF, F.FWD_DROP1_DLQ_FULL, F.FWD_DROP2_TTL, F.FWD_DROP2_FLUSHED,
   F.FWD_DROP3_HOSTQ_FULL, F.FWD_DROP3_BANKED, F.FWD_DROP3_NO_BUF]

/-- FWD_DROPS_REPORT (R372): due one second after the last record, where a count rose. -/
def runFwdDropsReport (s : State) : State :=
  let now := dropFields.map s.fld
  let rise := (List.range 9).map (fun i =>
    let a := nth s.fwd.drops i
    let b := nth now i
    if b < a then b else b - a)
  let due := match s.fwd.dropsAt with
    | none => true
    | some t => t + 120000000 ≤ s.now
  if due && rise.any (· != 0) then
    post 21 sevDegraded 0x0E01 (rise.flatMap arg2) { s with fwd.drops := now, fwd.dropsAt := some s.now }
  else s

end Sys2Proof.Machine
end

