-- ==== Sys2Proof/Machine/Rollout.lean ====
section
/-! DEFINITION. Image rollout: the Pleilaza code, campaigns and their multicast windows (R361 to R373). -/

namespace Sys2Proof.Machine

/-! ### The code (R361, R362) -/

/-- Product of two elements of GF(2^8), one bit of the second factor after another. -/
def gfMulAux : Nat → BitVec 16 → BitVec 16 → BitVec 16 → BitVec 16
  | 0, _, _, acc => acc
  | n + 1, a, b, acc =>
    let acc := if b.getLsbD 0 then acc ^^^ a else acc
    let a2 := a <<< 1
    gfMulAux n (if a2.getLsbD 8 then a2 ^^^ 0x11D#16 else a2) (b >>> 1) acc

def gfMul (a b : Byte) : Byte := (gfMulAux 8 (a.setWidth 16) (b.setWidth 16) 0).setWidth 8

/-- a^(2^n): `n` squarings. -/
def gfSq : Nat → Byte → Byte
  | 0, a => a
  | n + 1, a => gfSq n (gfMul a a)

/-- The multiplicative inverse, a^254. -/
def gfInv (a : Byte) : Byte :=
  ([2, 3, 4, 5, 6, 7] : List Nat).foldl (fun p i => gfMul p (gfSq i a)) (gfMul a a)

/-- The coefficients of the generator for ESIs of 256 and more. -/
def genCoeffs : Nat → Word → List Byte
  | 0, _ => []
  | n + 1, x =>
    let x := x ^^^ (x <<< 13)
    let x := x ^^^ (x >>> 17)
    let x := x ^^^ (x <<< 5)
    x.setWidth 8 :: genCoeffs n x

/-- The encoding vector of symbol `j` of block `b`, which has `k` source symbols. -/
def encVector (seed : Word) (b k j : Nat) : List Byte :=
  if j < k then (List.range k).map (fun i => if i = j then 1#8 else 0#8)
  else if j < 256 then (List.range k).map (fun i => gfInv (BitVec.ofNat 8 (j ^^^ i)))
  else
    let x := seed ^^^ (BitVec.ofNat 32 b <<< 16) ^^^ BitVec.ofNat 32 j ^^^ 0x9E3779B9#32
    genCoeffs k (if x = 0#32 then 1#32 else x)

/-- Add a multiple of a source symbol, byte by byte. -/
def addScaled (v : Byte) (src acc : List Byte) : List Byte := (acc.zip src).map (fun e => e.1 ^^^ gfMul v e.2)

/-- Source symbols of block `b`. -/
def Campaign.blockSize (x : Campaign) (b : Nat) : Nat := if b + 1 < x.z then x.kMax else x.nSym - (x.z - 1) * x.kMax

/-- The image in DRAM. -/
def State.image (s : State) (x : Campaign) : List Byte := s.dramRead (x.addr - dramBase) x.length

/-- Source symbol `i` of block `b`, padded with zeros. -/
def State.srcSymbol (s : State) (x : Campaign) (b i : Nat) : List Byte :=
  let off := (b * x.kMax + i) * x.t
  sliceBytes (s.dramRead (x.addr - dramBase + off) (least2 x.t (x.length - off))) 0 x.t

/-- Symbol `j` of block `b`. -/
def State.symbol (s : State) (x : Campaign) (b j : Nat) : List Byte :=
  let k := x.blockSize b
  if j < k then s.srcSymbol x b j
  else
    ((List.range k).zip (encVector (BitVec.ofNat 32 x.seed) b k j)).foldl (fun acc e =>
      addScaled e.2 (s.srcSymbol x b e.1) acc) (List.replicate x.t 0#8)

/-! ### Frames of a campaign (R367 to R369) -/

/-- Block and first ESI of frame `f`. -/
def Campaign.block (x : Campaign) (f : Nat) : Nat := if x.z = 0 then 0 else f % x.z
def Campaign.esi (x : Campaign) (f : Nat) : Nat := if x.z = 0 then 0 else f / x.z * x.perFrame

/-- ESI 65,535 of every block has been passed: no frame carries S consecutive ESIs any more. -/
def Campaign.spent (x : Campaign) (f : Nat) : Bool := 65536 < x.esi f + x.perFrame

/-- The payload of frame `f`, from IMAGE_ID on. -/
def State.rolPayload (s : State) (x : Campaign) (f : Nat) : List Byte :=
  leBytes 4 x.imageId ++ leBytes 2 (x.block f) ++ leBytes 2 (x.esi f) ++ leBytes 1 x.perFrame ++
    (List.range x.perFrame).flatMap (fun i => s.symbol x (x.block f) (x.esi f + i))

/-- Ticks that the encoder takes for a frame: repair symbols only, at four cycles a tick (R368). -/
def Campaign.encodeTicks (x : Campaign) (f : Nat) : Nat :=
  let k := x.blockSize (x.block f)
  let repair := countIf (fun i => decide (k ≤ x.esi f + i)) (List.range x.perFrame)
  (repair * ((k * x.t + 31) / 32 + 64) + 3) / 4

/-- A frame of the campaign is waiting or in its chain. -/
def State.rolBusy (s : State) (c : Nat) : Bool :=
  s.frames.builds.any (fun b => b.kind == .rollout && b.ref == c) ||
    (List.range 4).any (fun n =>
      (s.chain n).queue.any (fun d => d.kind == .rollout && d.ref == c) ||
        match (s.chain n).run with
        | some r => r.desc.kind == .rollout && r.desc.ref == c
        | none => false)

/-! ### Windows (R366) -/

/-- Rounds from the campaign's first round to global round `g`; nothing before it. -/
def State.rolIndex (s : State) (x : Campaign) (g : Nat) : Option Nat :=
  let d := epochDiff (s.epochOf g) x.startEpoch
  if 2 ^ 31 ≤ d ∨ d * s.rounds + g % s.rounds < x.startRound then none
  else some (d * s.rounds + g % s.rounds - x.startRound)

/-- The first round of the window that holds global round `g`. -/
def State.rolWindow (s : State) (x : Campaign) (g : Nat) : Option Nat :=
  match s.rolIndex x g with
  | none => none
  | some i => if x.period ≠ 0 ∧ i % x.period < x.winRounds then some (g - i % x.period) else none

/-- A campaign that has windows: ANNOUNCING or SENDING. -/
def State.rolOpen (s : State) (c : Nat) : Bool := s.campState c == rsAnnouncing || s.campState c == rsSending

/-- A window is lost to a campaign with a lower number on the channel. -/
def State.rolLost (s : State) (c w : Nat) : Bool :=
  let x := s.camp c
  (List.range c).any (fun d => s.rolOpen d && (s.camp d).channel == x.channel &&
    (List.range x.winRounds).any (fun i => (s.rolWindow (s.camp d) (w + i)).isSome))

/-- The first window has begun: SENDING; a campaign that nobody waits for is done. -/
def rolBegin (c : Nat) (s : State) : State :=
  if s.campState c ≠ rsAnnouncing ∨ (s.rolIndex (s.camp c) (s.roundOf s.now)).isNone then s
  else
    let s := post 22 sevInfo 0x0F01 [] (setCampState c rsSending s)
    if s.fld (F.ROL_CAMP_STAT_PENDING c) = 0 then campDone c s else s

/-- Frames are at their end: FRAME_LIMIT or the ESIs (R364). -/
def rolEnd (c : Nat) (s : State) : State :=
  let x := s.camp c
  if s.campState c = rsSending ∧ s.rolBusy c = false ∧ ((x.frameLimit ≠ 0 ∧ x.frameLimit ≤ x.next) ∨ x.spent x.next = true) then
    campDone c s
  else s

/-- Plan a campaign's next frame: in the window of this round, or of the next one where none is open now. -/
def rolPlan (n c : Nat) (s : State) : State :=
  let x := s.camp c
  let g := s.roundOf s.now
  let win := match s.rolWindow x g with
    | some w => some w
    | none => s.rolWindow x (g + 1)
  match win with
  | none => s
  | some w =>
    let start := s.roundStart w
    let stop := start + x.winRounds * s.slotTicks
    let first := if x.winAt = start + 1 then x.nextAt else start
    let chain := s.fld (F.LNS_LANE_CTL_CHAIN n)
    let f := x.next
    let dead := first - s.txLead chain
    if s.rolLost c w || (x.frameLimit != 0 && x.frameLimit ≤ f) || x.spent f || decide (dead < s.now) || !s.served x.channel ||
        s.frames.builds.any (fun b => b.kind == .rollout && b.ref == c) then s
    else
      let len := (s.rolloutDraft c (List.replicate (9 + x.perFrame * x.t) 0)).airTicks
      let last := first + len
      if stop < last + 1080 ∨ s.reachesEvent x.channel last = true then s
      else
        let late := dead < s.now + x.encodeTicks f
        let s := s.setCamp c { x with winAt := start + 1, nextAt := last + 2400, next := f + 1,
                                      encSkips := x.encSkips + (if late then 1 else 0) }
        if late then s.count F.ROL_ENC_CNT_ENC_LATE 1
        else
          { s with frames.builds := s.frames.builds ++
              [{ kind := .rollout, node := broadcastId, slot := x.channel, lane := n, first := first, level := 5, epoch := 0,
                 ref := c, num := f, payload := s.rolPayload x f }] }

/-- ROLLOUT_WINDOW (R366): what the lane has to do for the campaigns on its channels. -/
def runRolloutWindow (n : Fin 16) (s : State) : State :=
  if !s.laneRuns n.val || !s.almanacRuns then s
  else
    (List.range 16).foldl (fun s c =>
      if !s.rolOpen c || laneOf (s.camp c).channel != n.val then s
      else
        let s := rolEnd c (rolBegin c s)
        if s.rolOpen c then rolPlan n.val c s else s) s

/-! ### Commands (R373) -/

def ROL_STATE : Nat := 0x8900
def ROL_IMAGE_BAD : Nat := 0x8901
def ROL_PROFILE : Nat := 0x8902
def ROL_TOO_LATE : Nat := 0x8903

/-- Modes of the rollout commands. -/
def rolModes : List Mode := [.service, .test]

/-- ROL_CAMPAIGN_SET. -/
def opRolCampaignSet (p : Packet) (s : State) : State :=
  let c := p.u8 0
  let prof := s.profile (p.u8 21)
  let t := 32 * 2 ^ p.u8 1
  checked p
    [(15 < c || p.u8 3 < 1 || 16 < p.u8 3 || 62 < p.u8 21 || 3 < p.u8 22 || 64 < p.u8 23 || p.dirty 17 3 || p.dirty 26 2 ||
        p.dirty 32 16 || (s.profLoaded (p.u8 21) && profType prof != 1 && p.u8 22 != 0), St.BAD_PARAM),
     (s.campLive c, ROL_STATE),
     (p.u32 8 < 1 || 16777216 < p.u32 8 || 5 < p.u8 1 || p.u8 2 < 1 || !s.inDram (p.u64 12) (p.u32 8), ROL_IMAGE_BAD),
     (!s.isHead (p.u8 20) || !s.profLoaded (p.u8 21) || 2047 < 44 + p.u8 3 * t, ROL_PROFILE),
     (!s.keyLoaded 2, St.KEY_ABSENT)] (fun s =>
    let (seed, s) := s.draw
    let x : Campaign := { Campaign.reset with
      tCode := p.u8 1, kMax := p.u8 2, perFrame := p.u8 3, imageId := p.u32 4, length := p.u32 8, addr := p.u64 12,
      channel := p.u8 20, profile := p.u8 21, tier := p.u8 22, drive := p.u8 23, fwTag := p.u16 24, frameLimit := p.u32 28,
      seed := seed % 2 ^ 32 }
    let x := { x with crc := (crc32 (s.image x)).toNat }
    let s := pendClear c (s.setCamp c x)
    let s := (s.setWord (R.ROL_CAMP_SENT c) 0).setWord (R.ROL_CAMP_SKIP c) 0
    let s := setCampState c rsConfigured (s.setWord (R.ROL_CAMP_DONE c) 0)
    done p (leBytes 4 x.nSym ++ leBytes 2 x.z ++ leBytes 2 0 ++ leBytes 4 x.seed ++ leBytes 4 x.crc) s) s

def runRolCampaignSet (p : Packet) (s : State) : State := command 0x9001 (lenIs 48) rolModes opRolCampaignSet p s

/-- A node may be a target of a campaign (R365). -/
def State.rolTarget (s : State) (c id : Nat) : Bool :=
  1 ≤ id && id < broadcastId && s.nf id N.LOCAL == 1 && onWheel (s.nodeState id) && s.nf id N.PHY_PROFILE == (s.camp c).profile

/-- Add a node: added, skipped, and the state. -/
def rolAdd (c : Nat) (acc : Nat × Nat × State) (id : Nat) : Nat × Nat × State :=
  let s := acc.2.2
  if !s.rolTarget c id then (acc.1, acc.2.1 + 1, s)
  else if s.pendBit c id then acc
  else
    let s := pendAdd c id s
    let s := s.setCamp c { s.camp c with announce := (s.camp c).announce ++ [(id, 0)] }
    (acc.1 + 1, acc.2.1, if s.rolOpen c then queueAnnounce c id s else s)

/-- ROL_TARGET. -/
def opRolTarget (p : Packet) (s : State) : State :=
  let c := p.u8 0
  let n := p.u16 4
  let ids := (List.range n).map (fun i => p.u32 (8 + 4 * i))
  checked p [(15 < c || 3 < p.u8 1 || 120 < n || p.dirty 6 2, St.BAD_PARAM), (!s.campLive c, ROL_STATE)] (fun s =>
    let r : Nat × Nat × State := match p.u8 1 with
      | 0 => ids.foldl (rolAdd c) (0, 0, s)
      | 1 => (0, 0, ids.foldl (fun s id => pendDrop c id s) s)
      | 2 =>
        let all := (s.ledger.ntab.filter (fun e => N.STATE.read e.2 != nsFree && N.FW_TAG.read e.2 == p.u16 2)).map (·.1)
        all.foldl (rolAdd c) (0, 0, s)
      | _ =>
        let s := pendClear c s
        (0, 0, if s.campState c = rsSending then campDone c s else s)
    done p (leBytes 4 r.1 ++ leBytes 4 r.2.1 ++ leBytes 4 (r.2.2.fld (F.ROL_CAMP_STAT_PENDING c))) r.2.2) s

def runRolTarget (p : Packet) (s : State) : State :=
  command 0x9002 (fun p => p.n == 8 + 4 * p.u16 4) rolModes opRolTarget p s

/-- START_EPOCH and START_ROUND come too early: the start of the first window. -/
def State.rolTooLate (s : State) (epoch round : Nat) : Bool :=
  let d := epochDiff epoch (s.epochOf (s.roundOf s.now))
  2 ^ 31 ≤ d || s.rounds ≤ round ||
    s.tooLate (s.roundStart ((s.roundOf s.now / s.rounds + d) * s.rounds + round))

/-- ROL_START. -/
def opRolStart (p : Packet) (s : State) : State :=
  let c := p.u8 0
  checked p
    [(15 < c || p.u8 1 < 1 || p.u16 2 < p.u8 1 || p.dirty 10 2, St.BAD_PARAM),
     (s.campState c != rsConfigured, ROL_STATE), (!s.almanacRuns, MAC_NO_ALMANAC),
     (s.rolTooLate (p.u32 4) (p.u16 8), ROL_TOO_LATE)] (fun s =>
    let x := s.camp c
    let s := s.setCamp c { x with winRounds := p.u8 1, period := p.u16 2, startEpoch := p.u32 4, startRound := p.u16 8 }
    let s := setCampState c rsAnnouncing s
    done p [] (x.announce.foldl (fun s a => queueAnnounce c a.1 s) s)) s

def runRolStart (p : Packet) (s : State) : State := command 0x9003 (lenIs 12) rolModes opRolStart p s

/-- ROL_STOP: a campaign that is at work aborts; with CLEAR a finished one becomes IDLE. -/
def opRolStop (p : Packet) (s : State) : State :=
  let c := p.u8 0
  checked p [(15 < c || p.bits 1 7 1 != 0 || p.dirty 2 2, St.BAD_PARAM), (s.campState c == rsIdle, ROL_STATE)] (fun s =>
    done p [] (if s.campLive c then campAbort c 1 s
      else if p.bit 1 0 then setCampState c rsIdle (pendClear c s)
      else s)) s

def runRolStop (p : Packet) (s : State) : State := command 0x9004 (lenIs 4) rolModes opRolStop p s

/-- ROL_STATUS. -/
def opRolStatus (p : Packet) (s : State) : State :=
  let c := p.u8 0
  checked p [(15 < c || p.dirty 1 3, St.BAD_PARAM)] (fun s =>
    let x := s.camp c
    let skipped := s.fld (F.ROL_CAMP_SKIP_SKIPPED_TX c) + s.fld (F.ROL_CAMP_SKIP_SKIPPED_CTR c) + x.encSkips
    done p (leBytes 1 (s.campState c) ++ leBytes 1 x.cause ++ leBytes 2 x.z ++
      leBytes 4 (s.fld (F.ROL_CAMP_STAT_PENDING c)) ++ leBytes 4 (s.fld (F.ROL_CAMP_DONE_DONE c)) ++
      leBytes 4 (s.fld (F.ROL_CAMP_DONE_FAILED c)) ++ leBytes 4 (s.fld (F.ROL_CAMP_SENT_SENT c)) ++ leBytes 4 skipped ++
      leBytes 4 x.next ++ leBytes 4 x.seed ++ leBytes 4 x.crc ++ leBytes 4 0) s) s

def runRolStatus (p : Packet) (s : State) : State := command 0x9005 (lenIs 4) coreModes opRolStatus p s

end Sys2Proof.Machine
end

