-- ==== Sys2Proof/Machine/Resync.lean ====
section
/-! DEFINITION. Loading the calendar: TIME_RESYNC and what follows the load (R40, R93, R209, R219). -/

namespace Sys2Proof.Machine

def CAL_NO_FAULT : Nat := 0x8100
def TIME_SRC_UNAVAILABLE : Nat := 0x8101

/-- Start of the second round that begins after a tick (R209); the tick itself without an Almanac. -/
def State.secondRound (s : State) (t : Nat) : Nat :=
  if !s.almanacRuns then t
  else if t < s.almStart then s.roundStart 1
  else s.roundStart (s.roundOf t + 2)

/-- The sample grids lie on the loaded calendar (R133): the next block boundary of a stream is the next multiple of its
period. -/
def gridLoad (v : Nat) (s : State) : State :=
  { s with chz.streams := s.chz.streams.map (fun (e : Nat × Stream) =>
      (e.1, { e.2 with block := v / blockPeriod (s.streamWidth e.1), phase := e.2.phaseOf s.now, phaseAt := v })) }

/-- Load all three copies (R93): the fault clears, the schedule table thaws (R40), the airtime ledgers keep their
distances (R219), and transmission resumes two rounds on (R209). -/
def resyncLoad (v : Nat) (s : State) : State :=
  let old := s.now
  let args := arg4 s.cal.copyA.toNat ++ arg4 s.cal.copyB.toNat ++ arg4 s.cal.copyC.toNat ++ arg8 v
  let s := ((gridLoad v s).setNow v).setFlag F.TMB_STAT_CAL_FAULT false
  let s := ledgerShift old v s
  let s := if v < old then { s with timers.since := (List.range 32).foldl (fun l n => l.set 0 n v) s.timers.since } else s
  let s := { s with mac.txResume := s.secondRound v, mac.heraldAt := 0,
                    mac.round := if s.almanacRuns && s.almStart ≤ v then s.roundOf v + 1 else 0 }
  releaseScheduled (post 0 sevInfo 0x0003 args s)

/-- The port toward the timekeeper, while it is in UP (R422). -/
def State.upstream (s : State) : Option Nat :=
  (List.range 4).find? (fun p => s.flag (F.ZFB_PORT_STAT_UPSTREAM p) && s.portState p == portUp)

/-- TIME_RESYNC (R93). -/
def opTimeResync (p : Packet) (s : State) : State :=
  let src := p.u8 0
  checked p
    [(4 < src || p.dirty 1 7, St.BAD_PARAM),
     (!s.flag F.TMB_STAT_CAL_FAULT, CAL_NO_FAULT),
     (src == 4 && (s.chipId.isNone || s.flag F.ZFB_ID_REGISTRAR || s.upstream.isNone), TIME_SRC_UNAVAILABLE),
     (src == 4 && s.cal.resync.isSome, St.BUSY)]
    (fun s =>
      let r := defer p s
      match src with
      | 0 => finish r.1 St.OK [] (resyncLoad (p.u64 8) r.2)
      | 1 => finish r.1 St.OK [] (resyncLoad s.cal.copyA.toNat r.2)
      | 2 => finish r.1 St.OK [] (resyncLoad s.cal.copyB.toNat r.2)
      | 3 => finish r.1 St.OK [] (resyncLoad s.cal.copyC.toNat r.2)
      | _ => { r.2 with cal.resync := some (r.1, s.now) }) s

def runTimeResync (p : Packet) (s : State) : State := command 0x1002 (lenIs 16) coreModes opTimeResync p s

/-- TIME_RESYNC_TIMEOUT: no exchange completed within 1,200,000 ticks. -/
def runTimeResyncTimeout (s : State) : State :=
  match s.cal.resync with
  | some (q, t) =>
    if s.now < t + 1200000 then s else finish q TIME_SRC_UNAVAILABLE [] { s with cal.resync := none }
  | none => s

end Sys2Proof.Machine
end

