-- ==== Sys2Proof/Machine/Links.lean ====
section
/-! DEFINITION. Zoant links, link-state database, registrar, chip IDs and routes, and the class 0xB commands of the
fabric (R403 to R422, R425, R444). -/

namespace Sys2Proof.Machine

def FAB_NO_DISTRICT : Nat := 0x8B00
def FAB_UNREACHABLE : Nat := 0x8B01
def FAB_UNALIGNED : Nat := 0x8B02

def State.district (s : State) : Nat := s.fld F.ZFB_DISTRICT_DISTRICT_ID

/-- PAIRROLE as strapped; 3 acts as single (R433). -/
def State.strapRole (s : State) : Nat :=
  let r := s.fld F.STP_STRAPS_PAIRROLE
  if r = 3 then 0 else r

/-- CHIP_ID byte of R411. -/
def State.idByte (s : State) : Byte :=
  BitVec.ofNat 8 (s.fld F.ZFB_ID_ID + (if s.flag F.ZFB_ID_VALID then 64 else 0) +
    (if s.flag F.ZFB_ID_STRAPPED then 128 else 0))
def idOfByte (b : Byte) : Nat := b.toNat % 64
def idValid (b : Byte) : Bool := b.toNat / 64 % 2 == 1
def idStrapped (b : Byte) : Bool := b.toNat / 128 == 1

/-- A link carries CTRL frames. -/
def State.linked (s : State) (p : Nat) : Bool := s.carries p 1

/-! ### The partner of a pair (R433, R440) -/

/-- The partner's serial: as set, or the chip on a direct link that reports the other preferred role. -/
def State.partner (s : State) : Option Nat :=
  if s.strapRole = 0 then none
  else
    let set := s.pair R.PAR_PARTNER_LO R.PAR_PARTNER_HI
    if set ≠ 0 then some set
    else ((List.range 4).find? (fun p =>
      portHello ≤ s.portState p && (s.zport p).nbrRole == 3 - s.strapRole)).map (fun p => (s.zport p).nbrSerial.toNat)

/-- Where both chips strap one role the higher serial is secondary. -/
def roleCheck (p : Nat) (s : State) : State :=
  let z := s.zport p
  if s.strapRole ≠ 0 ∧ s.partner = some z.nbrSerial.toNat then
    s.setFld F.PAR_STAT_ROLE (if z.nbrRole ≠ s.strapRole then s.strapRole
      else if s.serial < z.nbrSerial.toNat then 1 else 2)
  else s

/-- The partner's chip ID, where it can be reached over MIRROR. -/
def State.partnerId (s : State) : Option Nat :=
  (List.range 64).find? (fun c => frPartner (s.froute c) && (s.egress c 2).isSome)

/-- The mirror state falls to NONE where its conditions do (R440). -/
def mirrorCheck (s : State) : State :=
  if s.strapRole ≠ 0 ∧ s.flag F.PAR_STAT_SENSE = true ∧ s.partnerId.isSome = true then s
  else resvSettle ({ s with pairU.swept := false }.setFld F.PAR_STAT_MIRROR 0)

/-! ### Ports (R404, R405) -/

/-- A port changes state; entering or leaving UP raises LINK. -/
def setPortState (p v : Nat) (s : State) : State :=
  let was := s.portState p
  let s := s.setFld (F.ZFB_PORT_STAT_STATE p) v
  let s := if v = portHello then s.setZport p { s.zport p with helloAt := s.now } else s
  let s := if v = portLow then settleQueue p s else s
  if (was == portUp) != (v == portUp) then zfbRaise (2 ^ p) s else s

/-- A frame queued for a lost port: what has a destination goes to its alternate (R418). -/
def rerouteFrame (p : Nat) (s : State) (o : ZOut) : State := if zHop o.frame then outDrop o s else outMove p o s

/-- The receive buffer of a lost port is gone: transit frames that came in on it hold no cells any more. -/
def forgetVia (p : Nat) (s : State) : State :=
  let clear (o : ZOut) : ZOut := if o.via = some p then { o with via := none } else o
  let s := (List.range 4).foldl (fun s q => s.setZport q { s.zport q with txq := (s.zport q).txq.map clear }) s
  { s with zoant.rxHeld := s.zoant.rxHeld.map (fun e => (e.1, clear e.2)) }

/-- A link is lost: its port goes to `v`. -/
def linkLost (p v : Nat) (s : State) : State :=
  let was := s.portState p
  let s := forgetVia p s
  let q := (s.zport p).txq
  let s := setPortState p v s
  let s := s.setZport p { ZPort.reset with sent := (s.zport p).sent }
  let s := s.setFld (F.ZFB_PORT_STAT_NBR_ID p) 0
  let s := s.setFld (F.ZFB_PORT_STAT_NBR_PORT p) 0
  let s := if portUp ≤ was then s.count (F.ZFB_PORT_CNT_DOWNS p) 1 else s
  let s := if was = portUp then post (27 + p) sevDegraded 0x1102 [] s else s
  mirrorCheck (q.foldl (rerouteFrame p) s)

/-- Every port goes DOWN, as in COLD and QUARANTINE. -/
def linksDown (s : State) : State :=
  (List.range 4).foldl (fun s p => if s.portState p = portDown then s else linkLost p portDown s) s

/-- The links of a chip that enters EMBER go to LOWPOWER. -/
def linksSleep (s : State) : State :=
  mirrorCheck ((List.range 4).foldl (fun s p => if s.portState p = portUp then setPortState p portLow s else s) s)

/-- ZOANT_SIGNAL_DETECT. -/
def runZoantSignalDetect (p : Fin 4) (s : State) : State :=
  if s.portState p.val = portDown ∧ s.bit F.ZFB_CTL_PORT_EN p.val = true ∧
      s.inMode [.cold, .quarantine] = false then setPortState p.val portTraining s
  else s

/-- ZOANT_BLOCK_LOCK: 64 consecutive valid sync headers. -/
def runZoantBlockLock (p : Fin 4) (s : State) : State :=
  if s.portState p.val = portTraining then setPortState p.val portHello s else s

/-- HELLO interval of a port (R404, R420). -/
def State.helloGap (s : State) (p : Nat) : Nat := if s.portState p = portLow then 12000000 else 120000

/-- HELLO_TX (R404, R411). -/
def runHelloTx (p : Fin 4) (s : State) : State :=
  let z := s.zport p.val
  if s.portState p.val < portHello ∨ s.now < z.helloAt then s
  else
    let m : ZMsg := .hello (BitVec.ofNat 64 s.serial) (BitVec.ofNat 32 s.district) s.idByte p.val
      (s.fld F.STP_STRAPS_PAIRROLE) (s.flag F.ZFB_ID_REGISTRAR) (s.inMode [.ember]) (s.flag F.TMB_STAT_CAL_FAULT)
      z.nbrSerial
    let f : ZFrame := ⟨0, false, 0, 0, 8, 0, 32, true, m⟩
    s.setZport p.val { z with txq := z.txq ++ [⟨f, none⟩], helloAt := s.now + s.helloGap p.val }

/-- What a HELLO makes of a port's state (R404). -/
def helloState (p : Nat) (same echoed : Bool) (s : State) : State :=
  let sleep := s.inMode [.ember] || (s.zport p).nbrEmber
  let st := s.portState p
  if st = portHello then
    if !same then setPortState p portForeign s
    else if echoed then
      let s := post (27 + p) sevInfo 0x1101 [] (setPortState p portUp s)
      if sleep then setPortState p portLow s else s
    else s
  else if st = portUp then
    if !same then setPortState p portForeign s else if sleep then setPortState p portLow s else s
  else if st = portLow then (if sleep then s else setPortState p portHello s)
  else if st = portForeign then (if same then setPortState p portHello s else s)
  else s

/-- HELLO_RX (R404, R411). -/
def runHelloRx (p : Fin 4) (f : ZFrame) (s : State) : State :=
  let i := p.val
  if s.portState i < portHello then s
  else if !f.crcOk then s.count (F.ZFB_PORT_CNT_CRC_ERR i) 1
  else match f.msg with
    | .hello serial district idb nport role _ ember calFault echo =>
      let s := s.setZport i { s.zport i with nbrSerial := serial, nbrId := idb, nbrEmber := ember,
                                             nbrCalFault := calFault, nbrRole := role, lastRx := s.now }
      let s := s.setFld (F.ZFB_PORT_STAT_NBR_ID i) (idOfByte idb)
      let s := s.setFld (F.ZFB_PORT_STAT_NBR_PORT i) nport
      let same := s.district != 0 && district.toNat == s.district
      mirrorCheck (roleCheck i (helloState i same (echo.toNat == s.serial) s))
    | _ => s

/-- No valid frame for too long (R405). -/
def State.linkSilent (s : State) (p : Nat) : Bool :=
  let st := s.portState p
  (st == portUp && (s.zport p).lastRx + 360000 ≤ s.now) || (st == portLow && (s.zport p).lastRx + 36000000 ≤ s.now)

/-- LINK_DOWN: a link that has been silent too long trains again; any other loss is a loss of signal or of block lock,
which takes the port DOWN. -/
def runLinkDown (p : Fin 4) (s : State) : State :=
  if s.portState p.val = portDown then s
  else if s.linkSilent p.val then linkLost p.val portTraining s
  else linkLost p.val portDown s

/-! ### The link-state database (R412, R413) -/

/-- This chip's LSA as it stands. -/
def State.ownLsa (s : State) : Lsa :=
  { serial := BitVec.ofNat 64 s.serial, seq := s.zoant.ownSeq, idByte := s.idByte,
    auto := !s.flag F.STP_STRAPS_FABID_EN, ember := s.inMode [.ember], aligned := s.flag F.ZFB_ID_ALIGNED,
    ports := (List.range 4).map (fun p => (s.fld (F.ZFB_PORT_STAT_NBR_ID p), s.linked p)) }

/-- The LSAs of the other chips, and of the whole district. -/
def State.others (s : State) : List Lsa := s.zoant.lsdb.map (·.1)
def State.database (s : State) : List Lsa := s.ownLsa :: s.others

/-- LSAs that differ in their SEQ only are equal. -/
def lsaSame (a b : Lsa) : Bool := { a with seq := 0 } == { b with seq := 0 }

/-- The LSA with the lowest serial. -/
def lowestSerial : List Lsa → Option Lsa
  | [] => none
  | l :: ls => match lowestSerial ls with
    | none => some l
    | some m => if m.serial.toNat < l.serial.toNat then some m else some l

/-- The registrar that the database names (R413); none without a district. -/
def State.electedRegistrar (s : State) : Quad :=
  if s.district = 0 then 0
  else
    let autos := s.database.filter (·.auto)
    match lowestSerial (if autos.isEmpty then s.database else autos) with
    | some l => l.serial
    | none => 0

/-- The database has changed: the registrar's 10 ms begin again, and a chip without an ID may ask again (R416). -/
def dbChanged (s : State) : State := { s with zoant.changedAt := s.now, zoant.changedBy := none, zoant.fabFull := false }

/-! ### ALIGNED (R425, R426) -/

def State.alignThr (s : State) : Nat := s.fld F.ZFB_TIME_CFG_ALIGN_THR * 16

/-- Whether this chip is ALIGNED. -/
def State.alignedNow (s : State) : Bool :=
  if s.district = 0 then false
  else if s.flag F.ZFB_ID_REGISTRAR then true
  else match s.upstream with
    | none => false
    | some p =>
      let up := s.others.any (fun l => l.serial == (s.zport p).nbrSerial && l.aligned && !l.ember)
      up && s.zoant.thetas.length == 8 && s.zoant.thetas.all (fun t => t.natAbs ≤ s.alignThr)

/-- Bring ALIGNED up to date; a change posts and raises ALIGN. -/
def alignCheck (s : State) : State :=
  let a := s.alignedNow
  if a == s.flag F.ZFB_ID_ALIGNED then s
  else
    let src := 27 + s.upstream.getD 0
    let s := zfbRaise 0x20 (s.setFlag F.ZFB_ID_ALIGNED a)
    if a then post src sevInfo 0x1107 [] s else post src sevDegraded 0x1108 [] s

/-! ### Chip IDs (R414 to R416) -/

/-- Rewrite OWNER_CHIP of the entries that a test picks. -/
def moveOwner (pick : BitVec 512 → Bool) (b : Nat) (s : State) : State :=
  ((s.ledger.ntab.filter (fun e => pick e.2)).map (·.1)).foldl (fun s id => s.setNf id N.OWNER_CHIP b) s

/-- LOCAL entries of a chip number. -/
def localOf (a : Nat) (e : BitVec 512) : Bool := N.LOCAL.read e == 1 && N.OWNER_CHIP.read e == a

/-- A chip takes an ID: LOCAL entries change owner, OWNER_MOVE is flooded, and the ID is kept in NV (R414, R415). -/
def takeId (id : Nat) (strapped : Bool) (s : State) : State :=
  let old := s.zoant.lastId.getD 0
  let s := (s.setFlag F.ZFB_ID_VALID true).setFlag F.ZFB_ID_STRAPPED strapped
  let s := dbChanged (s.setFld F.ZFB_ID_ID id)
  let s := { s with zoant.lastId := some id }
  let s := if s.inMode [.banked] then s else moveOwner (localOf 0) id s
  let s := if old = id then s
    else zoantFlood none 16 (.ownerMove old id (BitVec.ofNat 64 s.serial)) (moveOwner (localOf old) id s)
  post 27 sevInfo 0x1104 (arg1 id) s

/-- The chip gives up its ID. -/
def loseId (s : State) : State :=
  dbChanged ((s.setFld F.ZFB_ID_ID 0).setFlag F.ZFB_ID_VALID false |>.setFlag F.ZFB_ID_STRAPPED false)

/-- An ID is held or strapped by another chip than `serial`. -/
def State.idTaken (s : State) (serial : Quad) (id : Nat) : Bool :=
  s.database.any (fun l => l.serial != serial && idValid l.idByte && idOfByte l.idByte == id) ||
    s.zoant.grants.any (fun g => g.1 == id && g.2 != serial && s.others.any (fun l => l.serial == g.2))

/-- The registrar's choice for a chip (R414). -/
def State.chooseId (s : State) (serial : Quad) (pref : Nat) : Option Nat :=
  if pref < 64 && !s.idTaken serial pref then some pref
  else (List.range 64).find? (fun i => !s.idTaken serial i)

/-- The registrar receives an ID_REQUEST. -/
def idRequested (serial : Quad) (pref : Nat) (s : State) : State :=
  if !s.flag F.ZFB_ID_REGISTRAR then s
  else match s.chooseId serial pref with
    | none => s
    | some id =>
      let s := { s with zoant.grants := (id, serial) :: s.zoant.grants.filter (fun g => g.2 != serial) }
      zoantFlood none 12 (.idGrant serial id) s

/-- Ask for an ID; the registrar grants itself one. -/
def askId (s : State) : State :=
  if s.district = 0 ∨ s.zoant.registrar = 0 ∨ s.zoant.fabFull = true then s
  else
    let me := BitVec.ofNat 64 s.serial
    let pref := s.zoant.lastId.getD 64
    match s.chooseId me pref with
    | none => post 27 sevDegraded 0x1106 [] { s with zoant.fabFull := true }
    | some id =>
      if s.flag F.ZFB_ID_REGISTRAR then takeId id false s
      else zoantFlood none 12 (.idRequest me pref) s

/-- Another chip straps this ID with a lower serial; another chip straps it at all. -/
def State.strappedBy (s : State) (id : Nat) (lower : Bool) : Bool :=
  s.others.any (fun l => idValid l.idByte && idStrapped l.idByte && idOfByte l.idByte == id &&
    (!lower || l.serial.toNat < s.serial))

/-- Settle this chip's ID by the precedence of R414. -/
def settleId (s : State) : State :=
  let fab := s.fld F.STP_STRAPS_FABID
  let strap := s.flag F.STP_STRAPS_FABID_EN && !s.strappedBy fab true
  if s.district = 0 then (if s.flag F.ZFB_ID_VALID then loseId s else s)
  else if strap then
    if s.flag F.ZFB_ID_STRAPPED && s.fld F.ZFB_ID_ID == fab then s else takeId fab true s
  else
    let s := if s.flag F.ZFB_ID_STRAPPED then post 27 sevDegraded 0x1105 (arg1 fab) (loseId s)
      else if s.flag F.ZFB_ID_VALID && s.strappedBy (s.fld F.ZFB_ID_ID) false then loseId s
      else s
    if s.flag F.ZFB_ID_VALID then s else askId s

/-- LSA_TX (R412): due when the chip's own state has changed, or 1 s after the last. -/
def runLsaTx (s : State) : State :=
  if s.district = 0 ∨ s.inMode [.cold, .quarantine] = true then s
  else
    let changed := match s.zoant.lsaSent with
      | some l => !lsaSame l s.ownLsa
      | none => true
    if !changed && s.now < s.zoant.lsaAt + 120000000 then s
    else
      let s := settleId s
      let s := if changed then dbChanged s else s
      let s := { s with zoant.ownSeq := (s.zoant.ownSeq + 1) % 2 ^ 32 }
      let l := s.ownLsa
      zoantFlood none 24 (.lsa l) { s with zoant.lsaSent := some l, zoant.lsaAt := s.now }

/-- A received LSA (R412): a higher SEQ is taken and flooded on. -/
def lsaRx (p : Nat) (l : Lsa) (s : State) : State :=
  if l.serial.toNat = s.serial ∨ s.district = 0 then s
  else
    let old := s.others.find? (fun x => x.serial == l.serial)
    let newer := match old with
      | some o => o.seq < l.seq
      | none => true
    if !newer then s
    else
      let rest := s.zoant.lsdb.filter (fun e => e.1.serial != l.serial)
      let changed := match old with
        | some o => !lsaSame o l
        | none => true
      let s := { s with zoant.lsdb := (l, s.now) :: rest }
      let s := if changed then settleId { dbChanged s with zoant.changedBy := some p } else s
      alignCheck (zoantFlood (some p) 24 (.lsa l) s)

/-- LSA_EXPIRY (R412): due 4 s after the last LSA of a chip; a chip without an ID goes with whichever ID is named. -/
def runLsaExpiry (chip : Fin 64) (s : State) : State :=
  let old (e : Lsa × Nat) : Bool :=
    (!idValid e.1.idByte || idOfByte e.1.idByte == chip.val) && e.2 + 480000000 ≤ s.now
  if s.zoant.lsdb.any old then
    alignCheck (dbChanged { s with zoant.lsdb := s.zoant.lsdb.filter (fun e => !old e) })
  else s

/-! ### Routes (R417, R418, R422) -/

/-- The LSA of a chip ID. -/
def lsaOf (db : List Lsa) (id : Nat) : Option Lsa :=
  lowestSerial (db.filter (fun l => idValid l.idByte && idOfByte l.idByte == id))

/-- Chips that a chip has links with, by both their LSAs. -/
def neighbours (db : List Lsa) (id : Nat) : List Nat :=
  match lsaOf db id with
  | none => []
  | some l =>
    (l.ports.filter (·.2)).filterMap (fun q =>
      match lsaOf db q.1 with
      | some m => if m.ports.any (fun r => r.2 && r.1 == id) then some q.1 else none
      | none => none)

/-- One level of a breadth-first search: the chips next to the frontier, through chips that are not in EMBER. -/
def nextLevel (db : List Lsa) (seen frontier : List Nat) : List Nat :=
  (frontier.filter (fun c => (lsaOf db c).any (fun l => !l.ember))).foldl
    (fun acc c => (neighbours db c).foldl
      (fun acc n => if seen.contains n || acc.contains n then acc else acc ++ [n]) acc) []

/-- Distances from a frontier, level by level. -/
def levels (db : List Lsa) : Nat → Nat → List Nat → List Nat → List (Nat × Nat)
  | 0, d, _, frontier => frontier.map (fun c => (c, d))
  | fuel + 1, d, seen, frontier =>
    frontier.map (fun c => (c, d)) ++
      (if frontier.isEmpty then []
       else
         let n := nextLevel db seen frontier
         levels db fuel (d + 1) (seen ++ n) n)

/-- The link-state graph's distances from a neighbour, itself at 0. -/
def distances (db : List Lsa) (n : Nat) : List (Nat × Nat) := levels db 8 0 [n] [n]

/-- Distance of a chip in a list. -/
def distTo (l : List (Nat × Nat)) (c : Nat) : Option Nat := (l.find? (fun e => e.1 == c)).map (·.2)

/-- The least of the distances by port. -/
def leastDist : List (Nat × Nat) → Option (Nat × Nat)
  | [] => none
  | e :: l => match leastDist l with
    | none => some e
    | some m => if m.2 < e.2 then some m else some e

/-- An FROUTE entry (R417). -/
def routeEntry (valid : Bool) (prim : Nat) (alt : Option Nat) (hops flags serial seq : Nat) : BitVec 128 :=
  BitVec.ofNat 128 ((if valid then prim + 4 * alt.getD 0 + (if alt.isSome then 16 else 0) + 128 else 0) +
    2 ^ 8 * hops + 2 ^ 16 * flags + 2 ^ 32 * serial + 2 ^ 96 * (seq % 2 ^ 32))

/-- FLAGS of a chip's route. -/
def State.routeFlags (s : State) (l : Lsa) : Nat :=
  (if l.serial = s.zoant.registrar then 1 else 0) + (if s.partner = some l.serial.toNat then 2 else 0) +
    (if l.aligned then 4 else 0) + (if l.ember then 8 else 0)

/-- Distances from the neighbour on each port that carries CTRL. -/
def State.portTrees (s : State) (db : List Lsa) : List (Nat × List (Nat × Nat)) :=
  ((List.range 4).filter (fun p => s.linked p && idValid (s.zport p).nbrId)).map
    (fun p => (p, distances db (idOfByte (s.zport p).nbrId)))

/-- The route to a chip ID, from the trees of the ports. -/
def State.routeTo (s : State) (db : List Lsa) (trees : List (Nat × List (Nat × Nat))) (c : Nat) : BitVec 128 :=
  match lsaOf db c with
  | none => 0
  | some l =>
    let serial := l.serial.toNat
    let flags := s.routeFlags l
    if s.chipId = some c then routeEntry true 0 none 0 flags serial l.seq
    else
      let ds := trees.filterMap (fun t => (distTo t.2 c).map (fun d => (t.1, d)))
      match leastDist ds with
      | none => routeEntry false 0 none 0 flags serial l.seq
      | some (p, d) =>
        if 8 ≤ d then routeEntry false 0 none 0 flags serial l.seq
        else
          let alt := (ds.find? (fun e => e.1 != p && e.2 ≤ d + 1 && s.portState e.1 == portUp)).map (·.1)
          routeEntry true p alt (d + 1) flags serial l.seq

/-- Mark the upstream port: the one toward the registrar. -/
def setUpstream (p : Option Nat) (s : State) : State :=
  (List.range 4).foldl (fun s q => s.setFlag (F.ZFB_PORT_STAT_UPSTREAM q) (p == some q)) s

/-- ROUTE_RECOMPUTE (R417): FROUTE, and what is read from it. -/
def runRouteRecompute (s : State) : State :=
  let db := s.database
  let trees := s.portTrees db
  let fr := (List.range 64).foldl (fun (m : Sparse (BitVec 128)) c => m.set 0 c (s.routeTo db trees c)) []
  let s := { s with zoant.froute := fr }
  let reg := (List.range 64).find? (fun c => frRegistrar (s.froute c))
  let own := s.flag F.ZFB_ID_REGISTRAR
  let s := s.setFld F.ZFB_ID_REG_ID (reg.getD 0)
  let s := s.setFld F.ZFB_ID_HOPS (match reg with
    | some c => frHops (s.froute c)
    | none => 0)
  let s := setUpstream (match reg with
    | some c => if own || !frValid (s.froute c) then none else some (frPrimary (s.froute c))
    | none => none) s
  let s := s.setFld F.PAR_STAT_PARTNER_ID (((List.range 64).find? (fun c => frPartner (s.froute c))).getD 0)
  alignCheck (mirrorCheck ((List.range 4).foldl (fun s p => settleQueue p s) s))

/-- REGISTRAR_CHANGE (R413, R422): due once the database has been unchanged for 10 ms and names another chip. -/
def runRegistrarChange (s : State) : State :=
  let new := s.electedRegistrar
  let old := s.zoant.registrar
  if new = old ∨ s.now < s.zoant.changedAt + 1200000 then s
  else
    let own := new ≠ 0 ∧ new.toNat = s.serial
    let s := { s with zoant.registrar := new, zoant.thetas := [] }.setFlag F.ZFB_ID_REGISTRAR (decide own)
    let s := if own then s.setFld F.ZFB_TIME_OFS_THETA 0 else s
    let s := post (27 + s.zoant.changedBy.getD 0) sevInfo 0x1103 (arg8 old.toNat ++ arg8 new.toNat) (zfbRaise 0x10 s)
    alignCheck (settleId s)

/-! ### Commands -/

/-- The links of a chip that changes its district begin again, and the district's state goes. -/
def setDistrict (d : Nat) (s : State) : State :=
  if d = s.district then s
  else
    let s := s.setFld F.ZFB_DISTRICT_DISTRICT_ID d
    let s := (List.range 4).foldl (fun s p =>
      if s.portState p = portUp ∨ s.portState p = portForeign then setPortState p portHello s else s) s
    let s := { s with zoant.lsdb := [], zoant.lsaSent := none, zoant.grants := [], zoant.froute := [] }
    let s := if s.flag F.ZFB_ID_VALID then loseId s else dbChanged s
    alignCheck (mirrorCheck s)

/-- FAB_CFG_SET (R444). -/
def opFabCfgSet (p : Packet) (s : State) : State :=
  let (rate, thr, tmo) := (p.u16 4, p.u16 6, p.u32 8)
  checked p
    [(rate < 1 || 1000 < rate || thr < 3 || 12000 < thr || tmo < 1200000 || 120000000 < tmo || p.dirty 12 4,
      St.BAD_PARAM),
     (p.u32 0 != s.district && !s.inMode [.calibrate, .test], St.NOT_IN_MODE)]
    (fun s =>
      let s := setDistrict (p.u32 0) s
      let s := (s.setFld F.ZFB_TIME_CFG_RATE rate).setFld F.ZFB_TIME_CFG_ALIGN_THR thr
      done p [] (alignCheck (s.setFld F.ZFB_LEASE_TMO_TICKS tmo))) s

def runFabCfgSet (p : Packet) (s : State) : State := command 0xB001 (lenIs 16) coreModes opFabCfgSet p s

/-- FAB_STATUS (R444). -/
def opFabStatus (p : Packet) (s : State) : State :=
  let foreign := (List.range 4).any (fun q => s.portState q == portForeign)
  let flags := s.fld F.ZFB_ID_REGISTRAR + 2 * s.fld F.ZFB_ID_ALIGNED + (if foreign then 4 else 0)
  let reach := countIf (fun c => s.reachable c) (List.range 64)
  done p (leBytes 1 (s.fld F.ZFB_ID_ID + 64 * s.fld F.ZFB_ID_VALID) ++ leBytes 1 (s.fld F.ZFB_ID_REG_ID) ++
    leBytes 1 (s.fld F.ZFB_ID_HOPS) ++ leBytes 1 flags ++ leBytes 4 reach ++
    leBytes 4 (s.fld F.ZFB_TIME_OFS_THETA) ++ leBytes 1 (s.portState 0) ++ leBytes 1 (s.portState 1) ++
    leBytes 1 (s.portState 2) ++ leBytes 1 (s.portState 3) ++ leBytes 8 s.zoant.registrar.toNat ++
    leBytes 4 s.zoant.handovers.length ++ leBytes 4 0) s

def runFabStatus (p : Packet) (s : State) : State := command 0xB002 (lenIs 0) coreModes opFabStatus p s

/-- The Almanac parameters that two chips compare (R428). -/
def State.almanacWords (s : State) : List Nat :=
  let a := s.mac.running
  [a.slotLen, a.rounds, a.baseSeed, a.start, a.epoch0, a.evOfs, a.ackTurn]

/-- What an offer carries of a node (R428, R429). -/
def State.offerOf (s : State) (id le : Nat) : HandoverNode :=
  { eui := BitVec.ofNat 64 (s.nf id N.EUI64), shortId := id, entry := s.node id, digest := s.digest id,
    naux := s.naux id, ctr := s.nf id N.EVENT_CTR, anchor := s.nf id N.ANCHOR, leaseEvents := le,
    almanac := s.almanacWords, chmap := s.ledger.chmap.get 0 (s.nf id N.CHMAP_IDX),
    profile := s.demod.profiles.get [] (s.nf id N.PHY_PROFILE), keyEpoch := s.keyCur }

/-- A node may not be handed over (R428). -/
def State.hoBarred (s : State) (id : Nat) : Bool :=
  s.nf id N.LOCAL == 0 || s.nodeState id != nsAssociated || s.nf id N.MISS != 0 ||
    s.sched.updates.any (fun u => u.node == id) || (s.handoverOf id).isSome

/-- FAB_HANDOVER (R428, R429, R444): the offer goes out; the reply waits for the end of the handover. -/
def opFabHandover (p : Packet) (s : State) : State :=
  let (id, t) := (p.u32 0, p.u8 4)
  checked p
    [(broadcastId ≤ id || 64 ≤ t || s.chipId == some t || 16 < p.u8 5 || p.dirty 6 2, St.BAD_PARAM),
     (s.district == 0 || s.chipId.isNone, FAB_NO_DISTRICT),
     (s.hoBarred id, FAB_HO_STATE),
     (!s.reachable t, FAB_UNREACHABLE),
     (!s.flag F.ZFB_ID_ALIGNED || entryBits (s.froute t) 2 2 1 == 0, FAB_UNALIGNED)]
    (fun s =>
      let le := if p.u8 5 = 0 then 4 else p.u8 5
      let o := s.offerOf id le
      let r := defer p s
      let h : Handover :=
        { source := true, eui := o.eui, node := id, other := t, newId := 0, cell := 0, eh := 0, ehAnchor := 0,
          leaseEvents := le, cmd := some r.1, ready := false, switched := false, committed := false,
          acked := false, plain := false, offer := none, reused := false, heardAt := s.now }
      zoantSend t 1 200 (.hoOffer o) { r.2 with zoant.handovers := r.2.zoant.handovers ++ [h] }) s

def runFabHandover (p : Packet) (s : State) : State := command 0xB003 (lenIs 8) [.service] opFabHandover p s

end Sys2Proof.Machine
end

