-- ==== Sys2Proof/Machine/Token.lean ====
section
/-! DEFINITION. PAIR_TOKEN and the mirror of a redundant pair: claims, releases, the watchdog and the updates that the
holder sends (R433 to R441, R444). -/

namespace Sys2Proof.Machine

def PAIR_NONE : Nat := 0x8B06
def PAIR_UNSYNCED : Nat := 0x8B07
def PAIR_NOT_HOLDER : Nat := 0x8B08

/-- The chip is in a pair role. -/
def State.paired (s : State) : Bool := s.fld F.PAR_STAT_ROLE != 0

/-- The chip drives PAIR_TOKEN: its held-token indication in a pair role. -/
def State.holder (s : State) : Bool := s.paired && s.flag F.PAR_STAT_HELD

/-! ### Claims (R435) -/

/-- Arm a claim, where the chip may claim. -/
def armClaim (s : State) : State :=
  if !s.paired || s.holder || s.flag F.PAR_STAT_WDT_FIRED || s.flag F.PAR_STAT_LINE_FAULT || s.flag F.PAR_STAT_ARMED then s
  else { s with pairU.high := 0 }.setFlag F.PAR_STAT_ARMED true

def disarmClaim (s : State) : State := { s with pairU.high := 0 }.setFlag F.PAR_STAT_ARMED false

/-- The standing claims: in BANKED with AUTO_CLAIM (R435), in TEST while PAIR_SENSE is low (R473); the sequencer's own
claim in CALIBRATE, and in BANKED after EMBER, stays as it is. -/
def autoArm (s : State) : State :=
  if s.seq.trans.isSome then s
  else match s.seq.mode with
    | .banked => if s.flag F.PAR_CTL_AUTO_CLAIM then armClaim s else if s.seq.claimWait then s else disarmClaim s
    | .test => if s.flag F.PAR_STAT_SENSE then disarmClaim s else armClaim s
    | _ => s

/-- High cycles after which a chip claims. -/
def State.claimAfter (s : State) : Nat := if s.fld F.PAR_STAT_ROLE = 2 then 4160 else 4096

/-! ### Releases (R436) -/

/-- The chip stops driving the line, with the cause: PA_EN falls in the same cycle (R112, R434). -/
def releaseToken (cause : Nat) (s : State) : State :=
  if !s.holder then s
  else
    let s := abortAll St.TX_NO_TOKEN ({ s with seq.releasedAt := some s.now }.setFlag F.PAR_STAT_HELD false)
    let s := s.count F.PAR_CNT_RELEASES 1
    mirrorCheck (post 31 sevInfo 0x1202 (arg1 cause) (resvSettle ({ s with pairU.swept := false }.setFld F.PAR_STAT_MIRROR 0)))

/-- A transition is cut short (R565): its MODE_REQ is answered, and transmission is no longer held for it. -/
def cutShort (status : Nat) (s : State) : State :=
  let s := match s.seq.trans with
    | some t => finishOpt t.cmd status [] s
    | none => s
  { s with seq.trans := none, seq.stopTx := false, seq.stopAt := 0 }

/-- A held MODE_REQ is cut short (R565). -/
def cutHeld (s : State) : State :=
  finishOpt (s.seq.heldExit.map (·.2)) St.NOT_IN_MODE [] { s with seq.heldExit := none }

/-- A claim's way to SERVICE is in progress. -/
def State.claiming (s : State) : Bool :=
  match s.seq.trans with
  | some t => t.target == .service && t.cause == 3
  | none => false

/-- After a release the sequencer takes SERVICE to BANKED (R470), a MODE_REQ in progress being replaced (R565); a
release at the tick at which a MODE_REQ EMBER was accepted is part of that entry (R472). A claim whose token is lost
before SERVICE is reached ends there: BANKED stays, CALIBRATE goes to BANKED. -/
def toBanked (s : State) : State :=
  match s.seq.mode with
  | .service =>
    if s.seq.emberReqAt == some s.now then s
    else
      let s := cutShort St.NOT_IN_MODE s
      { s with seq.trans := some ⟨.banked, 4, none⟩ }
  | .banked => if s.claiming then cutHeld (cutShort St.NOT_IN_MODE s) else s
  | .calibrate => if s.claiming then { cutShort St.NOT_IN_MODE s with seq.trans := some ⟨.banked, 4, none⟩ } else s
  | _ => s

/-- A release that leads to BANKED. -/
def releaseToBanked (cause : Nat) (s : State) : State := if s.holder then toBanked (releaseToken cause s) else s

/-- TOKEN_LINE_FAULT (R434): due 8 cycles after the chip began to drive a line that still reads high. -/
def runTokenLineFault (s : State) : State :=
  if s.holder && s.flag F.PAR_STAT_LINE && s.pair R.PAR_CLAIM_T_LO R.PAR_CLAIM_T_HI + 8 ≤ s.now then
    let s := abortAll St.TX_NO_TOKEN (s.setFlag F.PAR_STAT_HELD false)
    let s := disarmClaim (s.setFlag F.PAR_STAT_LINE_FAULT true)
    toBanked (post 31 sevDegraded 0x1205 [] s)
  else s

/-! ### Watchdog (R437) -/

/-- Tick at which the watchdog expires. -/
def State.wdtAt (s : State) : Nat := most2 s.pairU.kickAt (s.pair R.PAR_CLAIM_T_LO R.PAR_CLAIM_T_HI) + 1200000

/-- Ticks that remain. -/
def State.wdtLeft (s : State) : Nat := if s.holder then s.wdtAt - s.now else 0

/-- PAIR_WDT_KICK. -/
def runPairWdtKick (_v : Word) (s : State) : State := atReg R.PAR_WDT (fun s => { s with pairU.kickAt := s.now }) s

/-- PAIR_WDT_EXPIRY. -/
def runPairWdtExpiry (s : State) : State :=
  if !s.holder || s.now < s.wdtAt then s
  else
    let s := releaseToBanked 5 s
    let s := (s.setFlag F.PAR_STAT_WDT_FIRED true).count F.PAR_CNT_WDT 1
    mgtCause 18 (post 31 sevDegraded 0x1203 [] (disarmClaim s))

/-- A write of PAR_CTL. -/
def parCtlWrite (v : Word) (s : State) : State :=
  let s := s.setFlag F.PAR_CTL_AUTO_CLAIM (F.PAR_CTL_AUTO_CLAIM.read v == 1)
  let s := s.setFlag F.PAR_CTL_REL_ON_CP_STOP (F.PAR_CTL_REL_ON_CP_STOP.read v == 1)
  let s := if F.PAR_CTL_WDT_CLR.read v = 1 then s.setFlag F.PAR_STAT_WDT_FIRED false else s
  autoArm s

/-! ### The mirror (R439, R440) -/

/-- Send a mirror item to the partner. -/
def mirrorSend (c : Nat) (i : MirrorItem) (s : State) : State := zoantSend c 2 64 (.mirror i) s

/-- The image of a node that the partner is sent. -/
def State.nodeImage (s : State) (id : Nat) : BitVec 512 × Word × Word := (s.node id &&& ~~~mirroredBit, s.digest id, s.naux id)

/-- Nodes whose image differs from the one last sent. -/
def State.changedNodes (s : State) : List Nat :=
  let ids := s.ledger.ntab.map (·.1)
  let gone := (s.pairU.sentNodes.map (·.1)).filter (fun i => !ids.contains i)
  (ids ++ gone).filter (fun i => s.nodeImage i != s.pairU.sentNodes.get (0, 0, 0) i)

def sendNode (c id : Nat) (s : State) : State :=
  let x := s.nodeImage id
  mirrorSend c (.node id x.1 x.2.1 x.2.2)
    { s with pairU.sentNodes := s.pairU.sentNodes.set (0, 0, 0) id x }

/-- What two ledgers differ by, from a key on. -/
def ledgerDiff (fromKey : Nat) (old new : Sparse Nat) : List (Nat × Int) :=
  let keys := new.map (·.1) ++ (old.map (·.1)).filter (fun k => !(new.map (·.1)).contains k)
  (keys.map (fun k => (k, ((new.get 0 k : Nat) : Int) - ((old.get 0 k : Nat) : Int)))).filter (fun d => fromKey ≤ d.1 && d.2 != 0)

/-- The ledger updates since the last ones. -/
def State.ledgerItems (s : State) : List MirrorItem :=
  let feast := (ledgerDiff (16 * (feastSec s.now - 3600)) s.pairU.sentFeast (s.feastCopy 0)).map
    (fun d => MirrorItem.ledger false (d.1 % 16) (d.1 / 16) 0 d.2)
  let dwell := s.mac.dwell.flatMap (fun (x : Nat × DwellLedger) =>
    let old := (s.pairU.sentDwell.get DwellLedger.empty x.1).rebuild x.2.ms x.2.wd s.now
    (ledgerDiff (dwellSec x.2.wd s.now - 32) old.buckets x.2.buckets).map
      (fun d => MirrorItem.ledger true x.1 d.1 x.2.wd d.2))
  feast ++ dwell

/-- The plan state: Almanac, Herald set, maps, key epochs and the values of R224. -/
def State.planItems (s : State) : List MirrorItem :=
  let run := if s.almanacRuns then
      let a := s.mac.running
      [MirrorItem.almanac false a.slotLen a.roundsM1 a.baseSeed a.epoch0 a.evOfs a.ackTurn a.start]
    else []
  let next := match s.mac.nextAlmanac with
    | some a => [MirrorItem.almanac true a.slotLen a.roundsM1 a.baseSeed a.epoch0 a.evOfs a.ackTurn a.start]
    | none => []
  let herald := if s.mac.heraldOn then
      [MirrorItem.herald none (s.word R.MAC_HERALD_CFG) ((List.range 4).map (fun k => s.word (R.MAC_HERALD_SET k)))]
    else []
  let heraldNext := match s.mac.heraldPend with
    | some h => [MirrorItem.herald (some h.epoch) h.cfg h.hset]
    | none => []
  let maps := (List.range 64).map (fun i => MirrorItem.chmap i none (s.ledger.chmap.get 0 i))
  let mapsNext := s.mac.mapPend.map (fun (c : MapChange) => MirrorItem.chmap c.idx (some c.epoch) c.map)
  let epochs := [MirrorItem.epochs s.keyState s.keyCur (if s.keyLoaded 4 then s.keyPrev else 256) (s.fld F.KEY_STAT_NEXT)
    (s.fld F.KEY_ACT_EPOCH_ACT_EPOCH)]
  let spans := (List.range 4).map (fun q =>
    MirrorItem.span q (s.fld (F.RFE_PAIR_STAT_CENTRE_KHZ q)) (s.pairState q == 1))
  let streams := s.heads.map (fun n => MirrorItem.stream n (s.word (R.CHZ_CH_CFG n)) (s.word (R.CHZ_CH_FREQ n)))
  let lanes := (List.range 16).map (fun n => MirrorItem.lane n (s.word (R.LNS_LANE_CTL n)) (s.lane n).dlPerEvent)
  let returns := sumOf ((List.range 4).map (fun n => if s.flag (F.RFE_TX_CTL_RETURN n) then 2 ^ n else 0))
  run ++ next ++ herald ++ heraldNext ++ maps ++ mapsNext ++ epochs ++ spans ++ streams ++ lanes ++
    [MirrorItem.plan returns (s.word R.CHZ_PAIR_PRIO)]

/-- Streams that the partner was told of and that are gone. -/
def State.goneStreams (s : State) : List MirrorItem :=
  s.pairU.sentPlan.filterMap (fun i => match i with
    | .stream n _ _ => if s.isHead n then none else some (.stream n 0 0)
    | _ => none)

/-- Every update since the last (R439). -/
def mirrorUpdates (c : Nat) (s : State) : State :=
  let s := feastVoteIf (fun _ => true) s
  let plan := s.planItems
  let items := plan.filter (fun i => !s.pairU.sentPlan.contains i) ++ s.goneStreams ++ s.ledgerItems
  let s := (s.changedNodes).foldl (fun s id => sendNode c id s) s
  let s := items.foldl (fun s i => mirrorSend c i s) s
  { s with pairU.sentPlan := plan, pairU.sentDwell := s.mac.dwell, pairU.sentFeast := s.feastCopy 0 }

/-- Highest reservation of every scope that has one. -/
def State.reservations (s : State) : List (Nat × Nat) :=
  let m := s.frames.usable.filterMap (fun (e : Nat × Nat) => if e.2 < 2 then none else some (e.1, e.2 - 2))
  (s.frames.resv.foldl (fun (m : Sparse Nat) r => if m.get 0 r.scope < r.p then m.set 0 r.scope r.p else m) m)

/-- The sweep to a newly BANKED partner (R440): LOCAL entries, reservations, ledgers and plan. -/
def mirrorSweep (c : Nat) (s : State) : State :=
  let s := { s with pairU.sentNodes := s.ledger.ntab.filterMap (fun (e : Nat × BitVec 512) =>
                      if N.LOCAL.read e.2 = 1 then none else some (e.1, s.nodeImage e.1)),
                    pairU.sentPlan := [], pairU.sentDwell := [], pairU.sentFeast := [], pairU.swept := true }
  let s := mirrorUpdates c (s.setFld F.PAR_STAT_MIRROR 1)
  let s := s.reservations.foldl (fun s r => mirrorSend c (.reservation r.1 r.2) s) s
  mirrorSend c .sweepEnd s

/-- MIRROR_HEARTBEAT (R438, R439): due every 120,000 ticks while the partner can be reached. The holder sweeps a newly
BANKED partner, and sends what has changed to one that it has swept. -/
def runMirrorHeartbeat (s : State) : State :=
  match s.partnerId with
  | none => s
  | some c =>
    if !s.paired || !s.flag F.PAR_STAT_SENSE || s.now < s.pairU.beatAt then s
    else
      let s := if s.holder && s.pairU.met && s.pairU.partnerMode == Mode.banked.code then
          (if s.pairU.swept then mirrorUpdates c s else mirrorSweep c s)
        else s
      let ok := (s.word R.FRM_RX_OK).toNat
      let since := (ok + 2 ^ 32 - s.pairU.rxOkAt) % 2 ^ 32
      let s := { s with pairU.beatAt := s.now + 120000, pairU.rxOkAt := ok }
      mirrorSend c (.heartbeat s.holder false s.seq.mode.code since) s

/-- The partner holds while this chip holds too (R438). -/
def tokenConflict (s : State) : State :=
  let s := post 31 sevDegraded 0x1204 [] (s.count F.PAR_CNT_CONFLICTS 1)
  match s.partner with
  | some x => if x < s.serial then releaseToBanked 8 s else s
  | none => s

/-- A heartbeat of the partner. -/
def beatRx (held flushed : Bool) (mode : Nat) (s : State) : State :=
  let s := { s with pairU.met := true, pairU.partnerMode := mode, pairU.partnerHeld := held,
                    pairU.flushed := flushed || (s.pairU.flushed && !held) }
  let s := if s.holder && mode != Mode.banked.code && s.pairU.swept then
      resvSettle ({ s with pairU.swept := false }.setFld F.PAR_STAT_MIRROR 0)
    else s
  if held && s.holder then tokenConflict s else s

/-- Age of the oldest unacknowledged update (PAR_MIRROR_LAG). -/
def State.mirrorLag (s : State) : Nat :=
  greatest ((s.zoant.unacked.filter (fun u => u.frame.cls == 2)).map (fun u => s.now - u.firstAt))

/-! ### Commands -/

/-- PAIR_CFG. -/
def opPairCfg (p : Packet) (s : State) : State :=
  checked p [(3 < p.u8 8 || p.dirty 9 3, St.BAD_PARAM), (s.strapRole == 0, PAIR_NONE)]
    (fun s =>
      let s := (s.setPair R.PAR_PARTNER_LO R.PAR_PARTNER_HI (p.u64 0))
      let s := (s.setFlag F.PAR_CTL_AUTO_CLAIM (p.bit 8 0)).setFlag F.PAR_CTL_REL_ON_CP_STOP (p.bit 8 1)
      let s := (List.range 4).foldl (fun s q => roleCheck q s) s
      done p [] (autoArm (mirrorCheck s))) s

def runPairCfg (p : Packet) (s : State) : State :=
  command 0xB004 (lenIs 12) [.calibrate, .banked, .test] opPairCfg p s

/-- PAIR_STATUS. -/
def opPairStatus (p : Packet) (s : State) : State :=
  checked p [(s.strapRole == 0, PAIR_NONE)]
    (done p (leBytes 4 (s.word R.PAR_STAT).toNat ++ leBytes 4 s.mirrorLag ++ leBytes 8 (s.partner.getD 0) ++
      leBytes 8 (s.pair R.PAR_CLAIM_T_LO R.PAR_CLAIM_T_HI))) s

def runPairStatus (p : Packet) (s : State) : State := command 0xB006 (lenIs 0) coreModes opPairStatus p s

end Sys2Proof.Machine
end

