-- ==== Sys2Proof/Machine/Modes.lean ====
section
/-! DEFINITION. The mode sequencer: transitions, entries to and exits from the modes, the boot command list and the
commands of class 0x0 that concern modes (R469 to R479, R495 to R498, R502, R503, R565). -/

namespace Sys2Proof.Machine

def MODE_BAD_TRANSITION : Nat := 0x8000
def MODE_HOLDS_TOKEN : Nat := 0x8001
def MODE_LIST_BAD : Nat := 0x8002

/-- STP_MODE as read. -/
def State.stpMode (s : State) : Nat :=
  let t := match s.seq.trans with
    | some x => 0x10000 + 0x20000 * x.target.code
    | none => 0
  t + 0x1000 * s.seq.cause + 0x10 * s.seq.prev.code + s.seq.mode.code

/-- The chip is in a mode from now on. -/
def enterMode (m : Mode) (cause : Nat) (s : State) : State :=
  let old := s.seq.mode
  let s := { s with seq.mode := m, seq.prev := old, seq.cause := cause, seq.trans := none, seq.stopTx := false,
                    seq.stopAt := 0, mac.heraldAt := if laneModes.contains m then s.mac.heraldAt else 0 }
  let s := setLaser 0 (setLaser 1 (s.setPair R.STP_MODE_T_LO R.STP_MODE_T_HI s.now))
  post 1 sevInfo 0x1301 (arg1 old.code ++ arg1 m.code ++ arg1 cause) s

/-! ### What several entries share -/

/-- No chain is in RAMP_UP, TX or RAMP_DOWN. -/
def State.chainsQuiet (s : State) : Bool := (List.range 4).all (fun n => !(txRampUp ≤ s.txState n && s.txState n ≤ txRampDown))

/-- Pairs that are ARMED are remembered, and all go OFF (R98). -/
def pairsOff (s : State) : State :=
  (List.range 4).foldl (fun s p =>
    let armed := s.pairArmed p || (s.pairOf p).armedBefore
    pairOff p (s.setPairU p { s.pairOf p with armedBefore := armed })) s

/-- The pairs that were ARMED arm again at their centres (R476, R481). -/
def pairsArm (s : State) : State :=
  (List.range 4).foldl (fun s p =>
    if !(s.pairOf p).armedBefore then s
    else
      let s := s.setPairU p { s.pairOf p with armedBefore := false }
      spanChanged true p (setPairLock p false (setPairState p 1 s))) s

/-- The radios, lanes, channels and links stop for COLD or QUARANTINE (R98, R103, R149, R201, R364, R385, R404,
R436). -/
def planeStop (kill : Bool) (release : Nat) (s : State) : State :=
  let s := (List.range 4).foldl (fun s n => if kill then chainKill n s else chainOff n s) s
  let s := disarmClaim (releaseToken release s)
  let s := (List.range 16).foldl (fun s n => laneStop n .unserved s) s
  let s := pairsOff (capStop 3 s)
  let s := dmaAllOff false s
  let s := (List.range 16).foldl (fun s c => campAbort c 4 s) s
  linksDown { s with seq.claimWait := false, seq.calStep := 0 }

/-- Entry to COLD clears WARN, CRIT and every step (R567). -/
def coldThermal (s : State) : State :=
  let t := if s.fld F.THM_STAT_STEPS = 0 then s.thermal.changedAt else s.now
  let s := (s.setFlag F.THM_STAT_WARN false).setFlag F.THM_STAT_CRIT false
  { s.setFld F.THM_STAT_STEPS 0 with thermal := { Thermal.reset with changedAt := t } }

/-- Commands that were ready to start are answered, as they would be in a mode in which the cores do not run (R34). -/
def dropReady (s : State) : State :=
  answerReady (fun p => !byManagement p) St.NOT_IN_MODE s

/-- Every command is answered on the way to COLD (R29, R41): scheduled and ready ones NOT_IN_MODE, started ones
INTERNAL. -/
def allAnswered (s : State) : State :=
  endRunning (fun _ => true) St.INTERNAL
    (answerReady (fun _ => true) St.NOT_IN_MODE (dropScheduled St.NOT_IN_MODE s))

/-- Records of the policy envelope return to FREE with the default bounds (R228). -/
def envelopeReset (s : State) : State :=
  { s with sched.chipRec := [], sched.pairRec := [], sched.mapRec := [], sched.override := [], sched.planDue := true }

/-- Every resource returns to its initial owner (R463); what another holder held is released first (R467). -/
def ownersReset (cause : Nat) (s : State) : State :=
  let init := ownersInitial s.consortium
  let s := (s.host.owners.filter (fun e => init.get 0 e.1 != e.2)).foldl (fun s e => resVanish cause e.1 s) s
  { s with host.owners := init, host.releasing := [] }

/-! ### QUARANTINE (R306, R309, R470) -/

/-- Steps 2 and 3 of R306. -/
def enterQuarantine (cause : Nat) (s : State) : State :=
  let s := cutHeld (cutShort St.NOT_IN_MODE s)
  let s := dropReady (dropScheduled St.NOT_IN_MODE s)
  let s := endRunning (fun p => !byManagement p) St.INTERNAL s
  let s := planeStop false 3 s
  let s := abandonOf 0 0x20 0x2F (abandonOf 0 0x02 0x08 s)
  let s := envelopeReset (ownersReset 5 (keysErase s))
  let s := { s with interp.cpRunning := false, interp.cpStopped := false, frames.builds := [],
                    seq.boot.phase := .idle }
  if s.seq.mode == .quarantine then s else enterMode .quarantine cause s

/-! ### CALIBRATE (R116, R470, R474) -/

/-- Durations of the seven steps of the start-up calibrations, 180 ms in all. -/
def startupDurations : List Nat := [2880000, 2160000, 3600000, 4800000, 3360000, 3840000, 960000]
def startupTicks : Nat := sumOf startupDurations

/-- A step of the start-up calibrations takes a pair, from step 1 to step 4: a calibration that runs or waits is
abandoned. -/
def pairStartup (p : Nat) (s : State) : State :=
  let armed := s.pairArmed p
  let s := match (s.pairOf p).cal with
    | some c => calAnswer (10 + p) (pairFail p) 3 c (s.setPairU p { s.pairOf p with cal := none })
    | none => s
  let c : Cal := ⟨startupBits, true, none, s.now, 0, s.now, 0, true, armed⟩
  let s := s.setPairU p { s.pairOf p with cal := some c }
  setPairState p 2 (setPairLock p false (s.setFlag (pairPend p) false))

/-- A pair returns to the state before the start-up calibrations. -/
def pairStartupEnd (p : Nat) (s : State) : State :=
  match (s.pairOf p).cal with
  | some c =>
    if c.bits ≠ startupBits then s
    else
      let s := setPairState p (if c.fromArmed then 1 else 0) (s.setPairU p { s.pairOf p with cal := none })
      if c.fromArmed then spanChanged false p s else s
  | none => s

/-- The start-up calibrations take a chain for a number of ticks, and what overlaps is returned (R119). A chain that is
OFF is calibrated too. -/
def chainStartup (ticks n : Nat) (s : State) : State :=
  let was := s.txState n != txOff
  let s := match (s.chain n).cal with
    | some c => calAnswer (6 + n) (chainFail n) 3 c (blankCut (4 + n) s.now (s.setChain n { s.chain n with cal := none }))
    | none => s
  let hit := (s.chain n).queue.filter (fun d => overlapsCal ticks d s)
  let c : Cal := ⟨startupBits, true, none, s.now, 0, s.now, hit.length, true, was⟩
  let s := s.setChain n { s.chain n with
    queue := (s.chain n).queue.filter (fun d => !overlapsCal ticks d s), tuning := false, cal := some c }
  let s := returnAll n St.TX_CAL_CONFLICT hit s
  let s := blankAdd (2 * n) (4 + n) s.now (s.now + ticks) s
  setTxState n txCal (setTxLock n false (s.setFlag (chainPend n) false))

/-- A chain returns from the start-up calibrations to IDLE, or to OFF where it was OFF; `temp` where its output was
calibrated. -/
def chainStartupEnd (temp : Bool) (n : Nat) (s : State) : State :=
  match (s.chain n).cal with
  | some c =>
    if c.bits ≠ startupBits then s
    else
      let t := if temp then some (s.sfld F.RFE_TEMP_TEMP) else (s.chain n).calTemp
      let s := blankCut (4 + n) s.now (s.setChain n { s.chain n with cal := none, calTemp := t })
      tuneForQueue n (setTxState n (if c.fromArmed then txIdle else txOff) s)
  | none => s

/-- What the end of a step of R116 brings: chains are under calibration in steps 1, 5 and 6, pairs in steps 1 to 4. -/
def stepEnd (k : Nat) (s : State) : State :=
  match k with
  | 1 => (List.range 4).foldl (fun s n => chainStartupEnd false n s) s
  | 4 => (List.range 4).foldl (fun s p => pairStartupEnd p (rssiCalibrate p s)) s
  | 6 => (List.range 4).foldl (fun s n => chainStartupEnd true n s) s
  | _ => s

/-- What the start of a step brings. -/
def stepStart (k : Nat) (s : State) : State :=
  match k with
  | 1 =>
    let s := (List.range 4).foldl (fun s p => pairStartup p s) s
    (List.range 4).foldl (fun s n => chainStartup (nth startupDurations 0) n s) s
  | 5 => (List.range 4).foldl (fun s n => chainStartup (nth startupDurations 4 + nth startupDurations 5) n s) s
  | _ => s

/-- A step begins at a tick. -/
def stepBegin (k t : Nat) (s : State) : State := stepStart k { s with seq.calStep := k, seq.calAt := t }

/-- Start-up calibrations begin. -/
def startupCal (s : State) : State := stepBegin 1 s.now { s with seq.calibrated := false }

/-- A step whose duration has passed gives way to the next; the last one ends with the sequence. -/
def calAdvance (s : State) : State :=
  let k := s.seq.calStep
  let t := s.seq.calAt + nth startupDurations (k - 1)
  if k = 0 ∨ 7 ≤ k ∨ s.now < t then s else stepBegin (k + 1) t (stepEnd k s)

/-- Start-up calibrations end: whatever they still hold returns to its state, and the pairs that were ARMED before a
warm reset arm again (R481). -/
def startupEnd (s : State) : State :=
  let s := pairsArm (stepEnd 6 (stepEnd 4 s))
  { s with seq.calibrated := true, seq.calStep := 0 }

/-- Entry to CALIBRATE: the QSPI bus is released (R461), reservations are requested in the background (R270). -/
def enterCalibrate (cause : Nat) (s : State) : State :=
  let first := s.seq.mode == .kindling
  let s := enterMode .calibrate cause s
  let s := if s.ownerOf 0x0900 == 0x01 then setOwner 0x0900 0 s else s
  let s := if first then ctrBackground { s with frames.bgRow := 0 } else s
  startupCal s

/-! ### The boot command list (R495 to R498) -/

/-- Entries of a list with their FLAGS, from their bytes; nothing where an ELEN is wrong. -/
def listEntries : Nat → List Byte → Option (List (Nat × Packet))
  | 0, _ => some []
  | n + 1, bs =>
    let elen := leAt bs 2 2
    if bs.length < elen || elen < 20 || elen != 20 + leAt bs 8 2 then none
    else match listEntries n (bs.drop elen) with
      | none => none
      | some l => some ((leAt bs 0 1, Packet.ofBytes ((bs.take elen).drop 4)) :: l)

/-- Bytes that a list's entries take. -/
def entriesLen (l : List (Nat × Packet)) : Nat := sumOf (l.map (fun e => 20 + e.2.n))

/-- The entries of a list that passes its checks: MAGIC, VERSION, CRC and every ELEN. -/
def listChecked (bs : List Byte) : Option (List (Nat × Packet)) :=
  if sliceBytes bs 0 4 != [0x46#8, 0x5A#8, 0x42#8, 0x4C#8] || leAt bs 4 1 != 1 then none
  else match listEntries (leAt bs 8 2) (bs.drop 16) with
    | none => none
    | some l => if (crc32 (sliceBytes bs 16 (entriesLen l))).toNat = leAt bs 12 4 then some l else none

/-- An entry as it is issued now (NB_REL, START_REL). -/
def listPacket (flags : Nat) (p : Packet) (s : State) : Packet :=
  let p := { p with issuer := 0x02 }
  let p := if flags % 2 = 1 then { p with notBefore := p.notBefore + BitVec.ofNat 64 s.now } else p
  if flags / 2 % 2 = 1 ∧ p.opcode = 0x4001 then
    { p with params := patchBytes p.params 16 (leBytes 8 (p.u64 16 + s.now)) }
  else p

/-- Replay the list on entry to SERVICE or BANKED from CALIBRATE. -/
def listReplay (banked : Bool) (s : State) : State :=
  if !s.flag F.STP_CTL_BOOT_LIST_EN || s.seq.listState = 0 then s
  else match listChecked s.seq.list with
    | none => post 1 sevDegraded 0x1305 (arg2 0xFFFF ++ arg2 0) { s with seq.listState := 2 }
    | some l =>
      let l := ((List.range l.length).zip l).filter (fun e => !banked || e.2.1 / 4 % 2 = 1)
      let s := { s with seq.replay := l.map (fun e => (65536 * e.2.2.opcode.toNat + e.2.2.tag.toNat, e.1)) }
      l.foldl (fun s e => firmwareCommand true (listPacket e.2.1 e.2.2 s) s) s

/-! ### SERVICE, BANKED and TEST -/

/-- What follows a warm reset: nodes whose ANCHOR lies less than two rounds ahead skip events (R498). -/
def resumeEvents (s : State) : State :=
  if !s.seq.resume then s
  else
    let until' := s.now + 2 * s.slotTicks
    let s := { s with seq.resume := false }
    if s.almanacRuns then s.wheel.foldl (fun s id => skipEvents id until' s) s else s

/-- Entry to SERVICE: the scheduler's reviews start anew (R231). -/
def enterService (cause : Nat) (s : State) : State :=
  let fromCal := s.seq.mode == .calibrate
  let s := enterMode .service cause { s with seq.claimWait := false }
  let s := { s with sched.serviceAt := s.now, sched.loads := 0, sched.channels := 0, sched.plans := 0,
                    sched.committed := 0, sched.reverted := 0, sched.mapChanges := 0, sched.planAt := s.now,
                    sched.summary := s.sched.summary.take 4, sched.retunes := [] }
  let s := keyUpdatesOwed (planHerald (resumeEvents s))
  if fromCal then listReplay false s else s

/-- Entry to BANKED. -/
def enterBanked (cause : Nat) (s : State) : State :=
  let fromCal := s.seq.mode == .calibrate
  let s := keyUpdatesOwed (planHerald (resumeEvents (enterMode .banked cause s)))
  let s := { s with sched.updates := [], sched.retunes := [] }
  let s := if fromCal then listReplay true s else s
  autoArm s

/-- Entry to TEST. -/
def enterTest (cause : Nat) (s : State) : State :=
  autoArm (keyUpdatesOwed (planHerald (enterMode .test cause { s with seq.claimWait := false })))

/-- CALIBRATE_DONE (R116, R474): due 180 ms after the start-up calibrations began. -/
def runCalibrateDone (s : State) : State :=
  if s.seq.calibrated || !s.inMode [.calibrate, .test] ||
      s.now < s.seq.calAt + sumOf (startupDurations.drop (s.seq.calStep - 1)) then s
  else
    let s := startupEnd s
    if s.seq.mode = .test then s
    else match s.seq.trans with
      | some t => finishOpt t.cmd St.OK [] (enterTest 2 s)
      | none =>
        if !s.paired then enterService 1 s
        else if !s.flag F.PAR_STAT_LINE then enterBanked 1 s
        else armClaim { s with seq.claimWait := true }

/-! ### EMBER (R475 to R477) -/

/-- The clocks of the data plane start or stop. -/
def dataClocks (on : Bool) (s : State) : State := (s.setFlag F.CLK_GATE_MAC_RUN on).setFlag F.CLK_GATE_SAMP_RUN on

/-- Entry to EMBER, its steps in their order. -/
def enterEmber (byRef : Bool) (s : State) : State :=
  let from' := s.seq.mode
  let cmd := s.seq.trans.bind (fun t => t.cmd)
  let s := if byRef then cutHeld (cutShort St.NOT_IN_MODE s) else s
  let s := (List.range 4).foldl (fun s n => if byRef then chainKill n s else chainOff n s) s
  let s := disarmClaim (releaseToken 1 s)
  let s := (List.range 16).foldl (fun s n => laneStop n .skipped s) s
  let s := pairsOff (capStop 3 (dmaPauseAll s))
  let s := dataClocks false (linksSleep s)
  let s := if byRef then s.setFlag F.CLK_GATE_CORE_RUN false else s
  let s := enterSlow (if byRef then 3 else 1) s
  let s := enterMode .ember (if byRef then 5 else 2) { s with seq.emberFrom := from', seq.emberByRef := byRef,
                                                              seq.claimWait := false, seq.calStep := 0 }
  if byRef then s else finishOpt cmd St.OK [] s

/-- An exit from EMBER begins: MAC_CLK starts (R476). -/
def emberExit (m : Mode) (cause : Nat) (cmd : Option Nat) (s : State) : State :=
  let s := dataClocks true (s.setFlag F.CLK_GATE_CORE_RUN true)
  { s with seq.trans := some ⟨m, cause, cmd⟩, seq.heldExit := none }

/-- Ports leave LOWPOWER where the neighbour is not in EMBER (R404). -/
def linksWake (s : State) : State :=
  (List.range 4).foldl (fun s p =>
    if s.portState p = portLow ∧ (s.zport p).nbrEmber = false then setPortState p portHello s else s) s

/-- The end of an exit from EMBER: the mode is reached; a chip in a pair role waits in BANKED for its claim. -/
def emberLeft (t : Transition) (s : State) : State :=
  let s := flushHeld (linksWake (dmaUnpauseAll (pairsArm { s with seq.emberByRef := false })))
  let s := match t.target with
    | .calibrate => enterCalibrate t.cause s
    | .test => startupCal (enterTest t.cause s)
    | _ =>
      if !s.paired then (if t.target = .service then enterService t.cause s else enterBanked t.cause s)
      else
        let s := enterBanked t.cause s
        if s.flag F.PAR_STAT_LINE then armClaim { s with seq.claimWait := true } else s
  finishOpt t.cmd St.OK [] s

/-! ### Mode requests (R470 to R474, R478, R502) -/

/-- The transitions that a MODE_REQ may ask for (R470). -/
def State.reqAllowed (s : State) (m : Mode) : Bool :=
  match s.seq.mode, m with
  | .cold, _ | .quarantine, _ => false
  | _, .quarantine => true
  | .service, .calibrate => !s.paired
  | .banked, .calibrate | .test, .calibrate | .calibrate, .test => true
  | .service, .ember | .banked, .ember => true
  | .ember, m => m == s.seq.emberFrom
  | _, _ => false

/-- Tick of the next round boundary; the present one without an Almanac. -/
def State.nextBoundary (s : State) : Nat :=
  match s.nextRound with
  | some (a, g) => a.start + g * a.ticks
  | none => s.now

/-- Accept a MODE_REQ: one from BANKED, or from a CALIBRATE that waits for the line, disarms the claim. -/
def modeBegin (m : Mode) (cmd : Nat) (s : State) : State :=
  let s := if s.seq.mode = .banked ∨ s.seq.mode = .calibrate then disarmClaim { s with seq.claimWait := false } else s
  match m with
  | .quarantine => finish cmd St.OK [] (enterQuarantine 2 s)
  | .ember => { s with seq.trans := some ⟨m, 2, some cmd⟩, seq.stopAt := most2 1 s.nextBoundary,
                       seq.emberReqAt := some s.now }
  | .calibrate =>
    if s.seq.mode = .ember then
      (if s.flag F.CLK_STAT_PLL_LOCK then emberExit m 2 (some cmd) s else { s with seq.heldExit := some (m, cmd) })
    else { s with seq.trans := some ⟨m, 2, some cmd⟩, seq.stopTx := true }
  | m =>
    if s.seq.mode = .ember then
      (if s.flag F.CLK_STAT_PLL_LOCK then emberExit m 2 (some cmd) s else { s with seq.heldExit := some (m, cmd) })
    else { s with seq.trans := some ⟨m, 2, some cmd⟩ }

/-- A transition that keeps a MODE_REQ for `m` out (R471). A release to BANKED at this very tick does not keep
EMBER out (R472). -/
def State.seqBusy (s : State) (m : Mode) : Bool :=
  match s.seq.trans with
  | some t => !(m == .ember && t.target == .banked && t.cause == 4 && s.seq.releasedAt == some s.now)
  | none => s.seq.heldExit.isSome

/-- What a MODE_REQ for `m` is refused with, if anything, from the mode the chip is in. -/
def State.modeReqFail (s : State) (m : Mode) : Option Nat :=
  firstFail
    [(s.holder && (m == .calibrate || m == .test), MODE_HOLDS_TOKEN),
     (!s.reqAllowed m, MODE_BAD_TRANSITION),
     (s.flag F.THM_STAT_CRIT && (m == .calibrate || m == .test), St.THERMAL_LIMIT),
     (m == .ember && !s.flag F.CLK_STAT_SLOW_OK, St.NOT_IN_MODE)]

/-- Carry out a MODE_REQ that waits as the deferred command `cmd`. -/
def modeApply (m : Mode) (cmd : Nat) (s : State) : State :=
  if m = s.seq.mode then finish cmd St.OK [] s
  else match s.modeReqFail m with
    | some st => finish cmd st [] s
    | none => modeBegin m cmd s

/-- The request that a claim has overtaken is applied to the chip in SERVICE (R472). -/
def heldApply (s : State) : State :=
  match s.seq.heldExit with
  | some (m, cmd) => modeApply m cmd { s with seq.heldExit := none }
  | none => s

/-- MODE_TRANSITION_DONE (R470): the target mode of the transition in progress is reached. -/
def runModeTransitionDone (s : State) : State :=
  match s.seq.trans with
  | none => s
  | some t =>
    if s.seq.mode = .ember then (if s.slowing then s else emberLeft t s)
    else match t.target with
      | .service => heldApply (finishOpt t.cmd St.OK [] (enterService t.cause s))
      | .banked => finishOpt t.cmd St.OK [] (enterBanked t.cause s)
      | .calibrate => if s.chainsQuiet then finishOpt t.cmd St.OK [] (enterCalibrate t.cause s) else s
      | .ember => if s.txStopped && s.chainsQuiet then enterEmber false s else s
      | .test => if s.seq.calibrated then finishOpt t.cmd St.OK [] (enterTest t.cause s) else s
      | _ => s

/-- MODE_REQ. -/
def opModeReq (p : Packet) (s : State) : State :=
  match Mode.ofCode (p.u8 0) with
  | none => reply p St.BAD_PARAM [] s
  | some m =>
    if p.dirty 1 3 then reply p St.BAD_PARAM [] s
    else if m != .quarantine && s.seq.mode == .banked && s.claiming && s.seq.heldExit.isNone then
      let r := defer p s
      { r.2 with seq.heldExit := some (m, r.1) }
    else if m != .quarantine && s.seqBusy m then reply p St.BUSY [] s
    else if m = s.seq.mode then done p [] s
    else match s.modeReqFail m with
      | some st => reply p st [] s
      | none =>
        let r := defer p s
        modeBegin m r.1 r.2

def runModeReq (p : Packet) (s : State) : State := mgtCommand 0x0010 (lenIs 4) allButCold opModeReq p s

/-- MODE_STATUS. -/
def opModeStatus (p : Packet) (s : State) : State :=
  done p (leBytes 4 s.stpMode ++ leBytes 4 (s.word R.STP_RESET_CAUSE).toNat ++
    leBytes 4 (s.word R.STP_BOOT_STAT).toNat ++ leBytes 8 (s.pair R.STP_MODE_T_LO R.STP_MODE_T_HI) ++
    leBytes 1 s.seq.listState ++ leBytes 3 0) s

def runModeStatus (p : Packet) (s : State) : State := mgtCommand 0x0011 (lenIs 0) allButCold opModeStatus p s

/-- BOOT_LIST_WRITE. -/
def opBootListWrite (p : Packet) (s : State) : State :=
  let off := p.u32 0
  let n := p.u16 4
  checked p [(480 < n || 3 < p.u8 6 || p.u8 6 == 3 || p.dirty 7 1 || 16384 < off + n, St.BAD_PARAM)]
    (fun s =>
      let top := if n = 0 then s.seq.stagingLen else most2 s.seq.stagingLen (off + n)
      let s := { s with seq.staging := s.seq.staging.setRun 0 off (p.bytes 8 n), seq.stagingLen := top }
      if p.bit 6 1 then done p [] { s with seq.list := [], seq.listState := 0 }
      else if !p.bit 6 0 then done p [] s
      else
        let bs := s.seq.staging.getRun 0 0 top
        match listChecked bs with
        | none => reply p MODE_LIST_BAD [] s
        | some l => done p [] { s with seq.list := bs.take (16 + entriesLen l), seq.listState := 1 }) s

def runBootListWrite (p : Packet) (s : State) : State := command 0x0013 chunkLen [.calibrate, .test] opBootListWrite p s

end Sys2Proof.Machine
end

