-- ==== Sys2Proof/Machine/Resets.lean ====
section
/-! DEFINITION. Power-on reset, warm reset and the restart of the control plane (R61, R480 to R484, R486, R561). -/

namespace Sys2Proof.Machine

/-! ### What a reset keeps of the registers -/

/-- Registers of a state by block, or by a range of offsets. -/
def State.regsIn (s : State) (lo hi : Nat) : List (Nat × Word) := s.csr.filter (fun e => lo ≤ e.1 && e.1 < hi)

/-- Write back registers that a reset keeps: those in a range take their old words, the others of the range 0. -/
def keepRange (old : State) (lo hi : Nat) (s : State) : State :=
  let s := (s.regsIn lo hi).foldl (fun s e => s.setWord e.1 0) s
  (old.regsIn lo hi).foldl (fun s e => s.setWord e.1 e.2) s

/-- Keep a field. -/
def keepField (old : State) (f : Field) (s : State) : State := s.setFld f (old.fld f)

/-- LOCK bits and LK fields (R561). -/
def lockFields : List Field :=
  [F.CMD_CTL_LOCK, F.CMD_CTL_ZOANT_EN, F.CMD_CTL_SMB_EN, F.CMD_CLASS_MASK_SMB_CLASSES, F.CMD_CLASS_MASK_ZOANT_CLASSES,
   F.MAC_CTL_LOCK, F.MAC_CTL_FEAST_COLD, F.NVS_CTR_CTL_LOCK, F.NVS_CTR_CTL_EXT_PERSIST, F.ARB_CTL_LOCK,
   F.ARB_CTL_FORERUNNER, F.PCI_BAR2_CTL_LOCK, F.PCI_BAR2_CTL_BASE, F.PCI_BAR2_CTL_BUF_READ, F.PCI_BAR2_CTL_EN,
   F.MGT_SMB_CFG_LOCK, F.MGT_SMB_CFG_ADDR]

/-- Fields that report pin levels. -/
def pinFields : List Field :=
  [F.PAR_STAT_LINE, F.PAR_STAT_SENSE] ++ (List.range 2).flatMap (fun p =>
    [F.ETH_PORT_STAT_TX_FAULT p, F.ETH_PORT_STAT_RX_LOS p, F.ETH_PORT_STAT_MOD_ABS p])

/-! ### Power-on reset (R61, R481) -/

/-- The chip in power-on reset: OTP, the NV store and what lies outside the chip stay. -/
def porState (s : State) : State :=
  let z := State.reset
  let z := { z with
    cal.porLow := s.cal.porLow, cal.aonLost := s.cal.aonLost,
    timers.gptLevel := s.timers.gptLevel, timers.ppsLevel := s.timers.ppsLevel,
    frames.rows := s.frames.rows, frames.rowSeq := s.frames.rowSeq,
    keys.orkBlob := s.keys.orkBlob, keys.dkBlob := s.keys.dkBlob, keys.nvCur := s.keys.nvCur,
    keys.nvPrev := s.keys.nvPrev }
  let z := { z with
    zoant.lastId := s.zoant.lastId, host.msix := s.host.msix, host.gpioIn := s.host.gpioIn,
    seq.list := s.seq.list, seq.listState := s.seq.listState }
  let z := { z with otp := s.otp, dramBytes := s.dramBytes, hostMem := s.hostMem, readData := s.readData,
                    free := s.free, pending := s.pending }
  (pinFields ++ [F.ZFB_DISTRICT_DISTRICT_ID, F.CLK_STAT_SLOW_OK, F.STP_RESET_CAUSE_THERMTRIP]).foldl (fun z f => keepField s f z) z

/-- PORESET_ASSERT (R480, R484): STP_RESET_CAUSE.THERMTRIP lies in the always-on domain and survives. -/
def runPoresetAssert (s : State) : State :=
  if s.cal.porLow then s else (porState { s with cal.porLow := true }).setFlag F.STP_RESET_CAUSE_POR_PIN true

/-- AON_POWER_LOSS: what the always-on domain held is gone. -/
def runAonPowerLoss (s : State) : State :=
  if s.cal.aonLost then s
  else
    let z := porState { s with cal.aonLost := true }
    let z := z.setFlag F.STP_RESET_CAUSE_THERMTRIP false
    (z.setFlag F.STP_RESET_CAUSE_AON_LOSS true).setFlag F.CLK_STAT_SLOW_OK false

/-- The power-on reset ends where neither cause stands: CALCNT begins to count in the slow advance (R61, R69). -/
def porEnd (s : State) : State := if s.cal.porLow ∨ s.cal.aonLost then s else post 0 sevInfo 0x0006 (arg1 4) s

/-- PORESET_DEASSERT. -/
def runPoresetDeassert (s : State) : State :=
  if !s.cal.porLow then s
  else porEnd ({ s with cal.porLow := false }.setFlag F.STP_RESET_CAUSE_POR_PIN true)

/-- VDD_AON_RESTORED. -/
def runVddAonRestored (s : State) : State := if !s.cal.aonLost then s else porEnd { s with cal.aonLost := false }

/-- STRAP_SAMPLE (R485 to R487): the levels in the order of STP_STRAPS. -/
def runStrapSample (levels : BitVec 14) (s : State) : State :=
  if s.cal.porLow || s.cal.aonLost || s.seq.strapsSampled || s.seq.mode != .cold then s
  else
    let v := levels.toNat
    let s := s.setWord R.STP_STRAPS (BitVec.ofNat 32 v)
    let s := s.setFlag F.STP_STRAPS_CONFLICT (s.fld F.STP_STRAPS_BOOTSRC == 1 && s.flag F.STP_STRAPS_HOSTIF)
    let s := s.setFld F.CLK_STAT_REFSEL (s.fld F.STP_STRAPS_REFSEL)
    let s := s.setFld F.PAR_STAT_ROLE s.strapRole
    let s := s.setFlag F.ARB_CTL_FORERUNNER s.consortium
    let s := s.setFlag F.ARB_STAT_MODE s.consortium
    { s with seq.strapsSampled := true, host.owners := ownersInitial s.consortium }

/-! ### Warm reset (R481, R482) -/

/-- Emit every record of the reorder window. -/
def emitAll : Nat → State → State
  | 0, s => s
  | n + 1, s =>
    match firstRec s.journal.window with
    | none => s
    | some e => emitAll n (emitRec e.2 { s with journal.window := dropRec e s.journal.window })

/-- The registers that a warm reset keeps. -/
def warmRegs (old : State) (s : State) : State :=
  let s := keepRange old 0x000000 0x000008 s
  let s := keepRange old 0x010000 0x020000 s
  let s := keepRange old 0x040040 0x040050 s
  let s := (List.range 256).foldl (fun s n =>
    let s := keepRange old (0x041000 + 16 * n) (0x04100C + 16 * n) s
    if old.isHead n then setChState n stSuspended s else s) s
  let s := (List.range 4).foldl (fun s p => keepField old (F.RFE_PAIR_STAT_CENTRE_KHZ p) s) s
  let s := keepField old F.RFE_REG_STAT_TIGHTENED s
  let s := keepRange old 0x050004 0x05000C s
  let s := keepRange old R.MAC_ALM_STAT (R.MAC_SLOT_CFG + 4) s
  let s := keepRange old R.MAC_HERALD_CFG (R.MAC_HERALD_SET 3 + 4) s
  let s := keepRange old 0x1B0000 0x1C0000 s
  let s := keepRange old R.DBG_STAT (R.DBG_STAT + 4) s
  let s := keepRange old R.STP_STRAPS (R.STP_BOOT_STAT + 4) s
  let s := keepRange old R.STP_MODE_T_LO (R.STP_MODE_T_HI + 4) s
  let s := keepRange old R.EVJ_AON_WR (R.EVJ_AON_LOST + 4) s
  let s := keepField old F.EVJ_STAT_FATAL_VALID s
  let s := (lockFields ++ pinFields).foldl (fun s f => keepField old f s) s
  let s := keepField old F.ZFB_DISTRICT_DISTRICT_ID s
  let s := s.setFld F.PAR_STAT_ROLE old.strapRole
  s.setFlag F.ARB_STAT_MODE (old.flag F.ARB_CTL_FORERUNNER)

/-- The pairs that were ARMED stay so marked. -/
def warmPairs (s : State) : Sparse Pair :=
  (List.range 4).foldl (fun (m : Sparse Pair) p =>
    m.set Pair.reset p { Pair.reset with armedBefore := s.pairArmed p || (s.pairOf p).armedBefore }) []

/-- Medium access as a warm reset keeps it: the Almanac and the Herald set, pending ones included, and the airtime
ledgers. -/
def warmMac (m : Mac) : Mac :=
  let next := m.nextAlmanac.map (fun (a : Almanac) => { a with cmd := none })
  { Mac.reset with
    running := m.running, round := m.round, heraldOn := m.heraldOn, nextAlmanac := next,
    heraldPend := m.heraldPend, mapPend := m.mapPend, mapOld := m.mapOld, dwell := m.dwell, feast := m.feast,
    feastSampled := m.feastSampled, scrub := m.scrub, voteAt := m.voteAt, txResume := m.txResume }

/-- Ledger memory as a warm reset keeps it: every DL_QDEPTH is set to 0 in KINDLING. -/
def warmLedger (l : Ledger) : Ledger :=
  { Ledger.reset with
    ntab := l.ntab.map (fun (e : Nat × BitVec 512) => (e.1, N.DL_QDEPTH.write 0 e.2)), emap := l.emap, digest := l.digest,
    naux := l.naux, bnt := l.bnt, chmap := l.chmap, bad := l.bad, tokens := l.tokens, tokenAt := l.tokenAt,
    bntTokens := l.bntTokens, bntTokenAt := l.bntTokenAt }

/-- The counter store and the reservations of counters, which stand in NV and beside NTAB. -/
def warmFrames (f : Frames) : Frames :=
  { Frames.reset with
    rows := f.rows, rowSeq := f.rowSeq, writeQueue := f.writeQueue, programming := f.programming, usable := f.usable, usable0 := f.usable0,
    resv := f.resv, restored := f.restored, restoreDone := false, lostRows := f.lostRows,
    scopeExhAt := f.scopeExhAt, scopeExh := f.scopeExh, restart := f.restart, bgRow := f.bgRow,
    groupLowAt := f.groupLowAt }

/-- The chip after every domain but the always-on one has been reset, in COLD. -/
def warmState (s : State) : State :=
  let s := emitAll s.journal.window.length s
  let z := State.reset
  let z := { z with
    interp.mbox := s.interp.mbox, interp.nextSeq := s.interp.nextSeq, cal := { s.cal with resync := none },
    timers.gptLevel := s.timers.gptLevel, timers.ppsLevel := s.timers.ppsLevel,
    radio.pairs := warmPairs s, radio.tighten := s.radio.tighten, chz.store := s.chz.store, chz.fill := s.chz.fill,
    demod.profiles := s.demod.profiles }
  let z := { z with
    mac := warmMac s.mac, frames := warmFrames s.frames, ledger := warmLedger s.ledger,
    keys.orkBlob := s.keys.orkBlob, keys.dkBlob := s.keys.dkBlob, keys.nvCur := s.keys.nvCur,
    keys.nvPrev := s.keys.nvPrev, zoant.lastId := s.zoant.lastId }
  let z := { z with
    host.msix := s.host.msix, host.gpioIn := s.host.gpioIn, host.owners := ownersInitial s.consortium,
    thermal.changedAt := s.now,
    seq := { Seq.reset with
      mode := s.seq.mode, prev := s.seq.prev, cause := s.seq.cause, resume := true, strapsSampled := true,
      kindlingAt := s.seq.kindlingAt, list := s.seq.list, listState := s.seq.listState },
    journal := { Journal.reset with last := s.journal.last, aon := s.journal.aon, fatal := s.journal.fatal } }
  let z := { z with otp := s.otp, dramBytes := s.dramBytes, hostMem := s.hostMem, readData := s.readData,
                    free := s.free, pending := s.pending }
  (warmRegs s z).setFlag F.CLK_STAT_PLL_LOCK false

/-- A warm reset's entry to COLD (R41, R482): replies first, then the planes stop. -/
def warmEnter (cause : Nat) (s : State) : State :=
  let s := allAnswered s
  let s := planeStop false 2 { s with seq.trans := none, seq.heldExit := none, seq.boot.phase := .idle }
  coldThermal (enterMode .cold cause { s with interp.cpRunning := false })

/-- WARM_RESET (R482): due once SYS_RESET has been answered. CALCNT enters the slow advance, and every domain but the
always-on one is reset. -/
def runWarmReset (s : State) : State :=
  if !s.seq.warmDue then s
  else (warmState (enterSlow 5 s)).setFlag F.STP_RESET_CAUSE_WARM true

/-! ### Control-plane restart (R463, R483) -/

/-- A control-plane restart begins: the protocol cores are held in their reset, what they executed is answered, what
they held is released; their image is loaded again from the boot source: BOOT_IMAGE_LOADED. -/
def cpRestart (s : State) : State :=
  let s := endRunning (fun p => !byManagement p) St.INTERNAL s
  let s := abandonOf 0 0x02 0x05 s
  let s := regainInitial (resVanishAll 3 0x02 0x05 s)
  let s := envelopeReset { s with interp.cpStopped := true, interp.cpStoppedAt := s.now, seq.boot.phase := .restart }
  s.count F.STP_RESET_CAUSE_CP_RESTARTS 1

/-- The end of a control-plane restart: the cores run again (R483). -/
def cpResume (s : State) : State :=
  keyUpdatesOwed (post 1 sevRecovered 0x1304 [] { s with interp.cpStopped := false })

/-- CP_STOPPED (R24): due while the cores run and are not known to have stopped. -/
def runCpStopped (s : State) : State :=
  if !s.interp.cpRunning || s.interp.cpStopped || !s.coresServe then s
  else
    let ended := countIf (fun (r : Running) => !byManagement r.pkt) s.interp.running
    let s := endRunning (fun p => !byManagement p) St.INTERNAL
      { s with interp.cpStopped := true, interp.cpStoppedAt := s.now }
    let s := post 1 sevDegraded 0x0101 (arg2 ended ++ arg2 s.interp.sched.length) s
    if s.flag F.PAR_CTL_REL_ON_CP_STOP then releaseToBanked 7 s else s

/-- AUTO_CP_RESTART_TIMEOUT (R480): due 1 s after the stop. -/
def runAutoCpRestartTimeout (s : State) : State :=
  if s.interp.cpStopped && s.seq.boot.phase != .restart && s.flag F.STP_CTL_AUTO_CP_RESTART &&
      s.interp.cpStoppedAt + 120000000 ≤ s.now then cpRestart s
  else s

/-- SYS_RESET (R503). -/
def opSysReset (p : Packet) (s : State) : State :=
  checked p
    [(p.u32 0 != 0x52455345 || 1 < p.u8 4 || p.dirty 5 3, St.BAD_PARAM),
     (p.u8 4 == 1 && s.inMode [.quarantine], St.NOT_IN_MODE),
     (p.u8 4 == 0 && (s.flag F.DBG_STAT_OPEN || s.latched), MODE_BAD_TRANSITION)]
    (fun s =>
      let s := done p [] s
      if p.u8 4 = 0 then { warmEnter 0 s with seq.warmDue := true }
      else if s.seq.mode = .kindling then s
      else cpRestart s) s

def runSysReset (p : Packet) (s : State) : State := mgtCommand 0x0012 (lenIs 8) allButCold opSysReset p s

end Sys2Proof.Machine
end

