-- ==== Sys2Proof/Machine/Boot.lean ====
section
/-! DEFINITION. The boot ROM, KINDLING, reference losses and the debug gate (R59, R60, R300 to R302, R305 to R309, R477,
R478, R487 to R494, R566). -/

namespace Sys2Proof.Machine

/-! ### The OTP check of KINDLING (R566) -/

/-- The set bits of a number are its lowest ones. -/
def thermometer (v : Nat) : Bool := (List.range 33).any (fun n => v == 2 ^ n - 1)

def popCount (v : Nat) : Nat := countIf (fun i => v / 2 ^ i % 2 == 1) (List.range 32)

/-- The fuse words hold what R558 allows. The two sense margins read alike in this model. -/
def State.otpSound (s : State) : Bool :=
  let w (i : Nat) : Nat := (s.otp.get 0 i).toNat
  w 0x40 < 16 && w 0x46 == 0 && w 0x47 < 65536 && thermometer (w 0x47 % 32768) &&
    (List.range 5).all (fun i => thermometer (w (0x41 + i)))

/-! ### Image sets (R489 to R493) -/

/-- Bytes of the image set that the chip itself holds: host boot in DRAM, Zoant and recovery as received. -/
def State.setBytes (s : State) (off n : Nat) : List Byte :=
  if s.seq.boot.source = 1 then s.dramRead (s.seq.boot.dirAt + off) n else s.seq.boot.stream.getRun 0 off n

/-- A directory is valid: MAGIC, VERSION, COUNT and CRC. -/
def dirOk (d : List Byte) : Bool :=
  sliceBytes d 0 4 == [0x46#8, 0x5A#8, 0x42#8, 0x44#8] && leAt d 4 1 == 1 && leAt d 12 1 == 5 &&
    (crc32 (sliceBytes d 0 252)).toNat == leAt d 252 4

/-- OFFSET and LENGTH of the image of a TYPE in a directory. -/
def dirEntry (d : List Byte) (type : Nat) : Option (Nat × Nat) :=
  ((List.range 5).find? (fun k => leAt d (16 + 16 * k) 1 == type)).map
    (fun k => (leAt d (20 + 16 * k) 4, leAt d (24 + 16 * k) 4))

/-- The image of a TYPE in the set that the chip holds. -/
def State.heldImage (s : State) (type : Nat) : Option BootImage :=
  let d := s.setBytes 0 256
  if !dirOk d then none
  else match dirEntry d type with
    | none => none
    | some (off, len) => if len < 256 then none else some ⟨s.setBytes off 256, s.setBytes (off + 256) (len - 256)⟩

/-- End of the furthest image of a directory. -/
def dirEnd (d : List Byte) : Nat :=
  (List.range 5).foldl (fun m k => most2 m (leAt d (20 + 16 * k) 4 + leAt d (24 + 16 * k) 4)) 256

/-- The first check of R301 that an image of an expected TYPE fails; 0: it passes. -/
def State.imageCheck (s : State) (type : Nat) (img : BootImage) : Nat :=
  let h := img.header
  let key := leAt h 5 1
  let pub := sliceBytes h 64 64
  if sliceBytes h 0 4 != [0x46#8, 0x5A#8, 0x42#8, 0x49#8] || leAt h 4 1 != type || leAt h 6 2 != 1 ||
      1 < leAt h 28 4 || (sliceBytes h 192 64).any (fun b => b != 0) then 1
  else if key < 4 && (s.otp.get 0 0x40).getLsbD key then 2
  else if 4 ≤ key || digestBytes (sha256 pub) != s.otpBytes (0x20 + 8 * key) 8 then 3
  else if !ecdsaVerify pub (sha256 (sliceBytes h 0 128)) (sliceBytes h 128 64) then 4
  else if leAt h 8 4 < popCount (s.otp.get 0 (0x40 + type)).toNat then 5
  else if digestBytes (sha256 img.body) != sliceBytes h 32 32 || img.body.length != leAt h 12 4 then 6
  else 0

/-- A rejection (R301). -/
def imageReject (type check : Nat) (s : State) : State :=
  let s := (s.setFld F.STP_BOOT_STAT_FAIL_TYPE type).setFld F.STP_BOOT_STAT_FAIL_CHECK check
  post 38 sevDegraded 0x0C01 (arg1 check) s

/-! ### Boot sources -/

/-- Change the boot record. -/
def setBoot (f : Boot → Boot) (s : State) : State := { s with seq.boot := f s.seq.boot }

/-- ROM recovery waits for a stream (R493). -/
def recoveryStart (s : State) : State :=
  let s := setBoot (fun b => { b with phase := .recovery, source := 3, stream := [], streamLen := 0, accepted := [],
                                      commit := [], fwStarted := false }) s
  post 1 sevDegraded 0x1303 [] (s.setFld F.STP_BOOT_STAT_SOURCE 3)

/-- The ROM falls back to recovery (R488). -/
def bootFallback (s : State) : State :=
  let s := post 1 sevDegraded 0x1302
    (arg1 s.seq.boot.source ++ arg1 (if s.seq.boot.setB then 1 else 0) ++ arg1 (s.fld F.STP_BOOT_STAT_FAIL_TYPE) ++
      arg1 (s.fld F.STP_BOOT_STAT_FAIL_CHECK)) s
  recoveryStart (s.setFlag F.STP_BOOT_STAT_FALLBACK true)

/-- Ask a port's neighbour for bytes of its image set (R492). -/
def bootAsk (p tries off : Nat) (s : State) : State :=
  let f : ZFrame := { dst := 0, bcast := false, src := 0, cls := 4, ttl := 1, seq := 0, len := 16, crcOk := true,
                      msg := .bootReq (BitVec.ofNat 64 s.serial) off 2048 }
  portQueue p f (setBoot (fun b => { b with phase := .zoant p tries off, askedAt := s.now }) s)

/-- Try the ports from a port on; after the last one the ROM falls back. -/
def bootPort (p : Nat) (s : State) : State :=
  match (List.range 4).find? (fun q => p ≤ q && s.bit F.ZFB_CTL_PORT_EN q) with
  | some q => bootAsk q 1 0 (setBoot (fun b => { b with stream := [], streamLen := 0, accepted := [], commit := [] }) s)
  | none => bootFallback s

/-- The set at hand is abandoned, and the next candidate begins. -/
def setFailed (port : Nat) (s : State) : State :=
  let s := setBoot (fun b => { b with accepted := [], commit := [], fwStarted := false }) s
  match s.seq.boot.source with
  | 0 =>
    if s.seq.boot.otherTried then bootFallback s
    else
      let s := setBoot (fun b => { b with otherTried := true, setB := !b.setB, phase := .loading 1 }) s
      (s.setFld F.STP_BOOT_STAT_SET (if s.seq.boot.setB then 1 else 0)).setFlag F.STP_BOOT_STAT_FALLBACK true
  | 1 => bootFallback s
  | 2 => bootPort (port + 1) (s.setFlag F.STP_BOOT_STAT_FALLBACK true)
  | _ => setBoot (fun b => { b with phase := .recovery, stream := [], streamLen := 0 }) s

/-- A whole set has arrived: its directory decides. -/
def setArrived (port : Nat) (s : State) : State :=
  if dirOk (s.setBytes 0 256) then setBoot (fun b => { b with phase := .loading 1, askedAt := port }) s else setFailed port s

/-- The ROM reads both directories of the flash (R490). What they hold is open: a free value says whether none is
valid, one of them, or both, and then which has the higher SEQ. -/
def flashCandidates (s : State) : State :=
  let d := s.draw
  let first (setB only : Bool) : State :=
    let s := setBoot (fun b => { b with phase := .loading 1, setB := setB, otherTried := only }) d.2
    s.setFld F.STP_BOOT_STAT_SET (if setB then 1 else 0)
  match d.1 % 5 with
  | 0 => bootFallback d.2
  | 1 => first false true
  | 2 => first true true
  | 3 => first false false
  | _ => first true false

/-- The ROM begins (R488). -/
def bootStart (s : State) : State :=
  let conflict := s.flag F.STP_STRAPS_CONFLICT
  let src := if conflict then 3 else s.fld F.STP_STRAPS_BOOTSRC
  let s := { s with seq.boot := { Boot.reset with source := src } }
  let s := s.setFld F.STP_BOOT_STAT_SOURCE src
  let s := (s.setFld F.STP_BOOT_STAT_SET 0).setFlag F.STP_BOOT_STAT_FALLBACK false
  let s := (s.setFld F.STP_BOOT_STAT_FAIL_TYPE 0).setFld F.STP_BOOT_STAT_FAIL_CHECK 0
  let s := if conflict then post 1 sevDegraded 0x1306 [] s else s
  match src with
  | 0 => flashCandidates s
  | 1 => setBoot (fun b => { b with phase := .doorbell none }) s
  | 2 => bootPort 0 s
  | _ => recoveryStart s

/-- The chip enters KINDLING: the ROM reads the counter store after a power-on reset and the regulatory profile, checks
the fuse words and begins to boot. -/
def kindle (cause : Nat) (s : State) : State :=
  let s := dataClocks true ((s.setFlag F.CLK_GATE_CORE_RUN true).setFlag F.CLK_GATE_MGT_RUN true)
  let s := s.setFlag F.CLK_STAT_PLL_LOCK true
  let s := if s.fld F.CLK_REF_LOSS_CNT_COUNT = 0 then s.setFlag F.CLK_STAT_REF_OK true else s
  let first := s.seq.kindlingAt == 0
  let s := enterMode .kindling cause { s with seq.kindlingAt := most2 1 s.now, seq.refRestart := false }
  let s := post 1 sevInfo 0x1307 (arg4 (s.word R.STP_RESET_CAUSE).toNat) s
  let s := if first then ctrReset s else s
  let s := dwellRefresh (adoptOtpProfile s)
  let s := s.setFlag F.DBG_STAT_LOCKED_OUT ((s.otp.get 0 0x47).getLsbD 15)
  if s.otpSound then bootStart (s.setFlag F.OTP_STAT_INTEGRITY_FAIL false)
  else enterQuarantine 8 (s.setFlag F.OTP_STAT_INTEGRITY_FAIL true)

/-- COLD goes on whatever the PLL does: a reset is asserted or still to act, the straps are not sampled, or THERMTRIP is
latched (R470). -/
def State.coldWaits (s : State) : Bool :=
  s.cal.porLow || s.cal.aonLost || !s.seq.strapsSampled || s.seq.thermtrip || s.seq.warmDue

/-- PLL_LOCK (R59, R470): due in COLD. A boot that a reference loss stopped waits for REF_RESTORED (R478). -/
def runPllLock (s : State) : State :=
  if s.seq.mode != .cold || s.coldWaits || s.seq.refRestart then s else kindle 1 s

/-- An image passes: it is measured and counts for its set. -/
def imageAccept (type : Nat) (img : BootImage) (s : State) : State :=
  let s := measure type img.header s
  let commit := leAt img.header 28 4 == 1
  setBoot (fun b => { b with
    accepted := b.accepted ++ [type], commit := if commit then b.commit ++ [(type, leAt img.header 8 4)] else b.commit,
    fwStarted := b.fwStarted || type == 1, phase := if type = 5 then .idle else .loading (type + 1) }) s

/-- MIN_SVN of a TYPE rises to an SVN (R301). -/
def raiseSvn (s : State) (c : Nat × Nat) : State := burn (0x40 + c.1) (BitVec.ofNat 32 (2 ^ c.2 - 1)) s

/-- BOOT_IMAGE_LOADED (R301): an image of the boot in progress, the image of a control-plane restart (R483), or a lane
image that is loaded again (R201, R302). The operand is the image as flash holds it; a set that the chip itself holds
gives its own. -/
def runBootImageLoaded (img : BootImage) (s : State) : State :=
  match s.seq.boot.phase with
  | .loading next =>
    let found := if s.seq.boot.source = 0 then some img else s.heldImage next
    match found with
    | none => setFailed s.seq.boot.askedAt (imageReject next 1 s)
    | some x =>
      let c := s.imageCheck next x
      if c = 0 then imageAccept next x s else setFailed s.seq.boot.askedAt (imageReject next c s)
  | .restart =>
    let found := if s.seq.boot.source = 1 ∨ s.seq.boot.source = 0 then some img else s.heldImage 2
    let c := match found with
      | some x => s.imageCheck 2 x
      | none => 1
    let s := setBoot (fun b => { b with phase := .idle }) s
    if c = 0 then cpResume (measure 2 (found.getD img).header s) else enterQuarantine 1 (imageReject 2 c s)
  | _ =>
    if !s.interp.cpRunning || leAt img.header 4 1 != 3 then s
    else
      let c := s.imageCheck 3 img
      if c ≠ 0 then imageReject 3 c s
      else
        let s := measure 3 img.header s
        (List.range 16).foldl (fun s n => putLane n { s.lane n with imageValid := true } s) s

/-- STP_BOOT_DOORBELL (R491): ignored outside the wait of a PCIe host boot. -/
def runStpBootDoorbell (v : Word) (s : State) : State :=
  atReg 0x1E0014 (fun s =>
    match s.seq.boot.phase with
    | .doorbell (some _) =>
      let off := v.toNat % 2 ^ 26 / 256 * 256
      setArrived 0 (setBoot (fun b => { b with dirAt := s.fld F.PCI_BAR2_CTL_BASE * 2 ^ 26 + off }) s)
    | _ => s) s

/-- PCIE_BOOT_TIMEOUT (R491): due 30 s after L0. -/
def runPcieBootTimeout (s : State) : State :=
  match s.seq.boot.phase with
  | .doorbell (some t) => if s.now < t + 3600000000 then s else bootFallback s
  | _ => s

/-- ZOANT_BOOT_TIMEOUT (R492): due 10 ms after a request. -/
def runZoantBootTimeout (s : State) : State :=
  match s.seq.boot.phase with
  | .zoant p tries off =>
    if s.now < s.seq.boot.askedAt + 1200000 then s
    else if tries < 3 then bootAsk p (tries + 1) off s
    else bootPort (p + 1) s
  | _ => s

/-- BOOT_DATA_RX (R492): the bytes asked for; once the directory is there it says how many follow. -/
def runBootDataRx (p : Fin 4) (off : Nat) (bytes : List Byte) (s : State) : State :=
  match s.seq.boot.phase with
  | .zoant q _ at' =>
    if p.val ≠ q ∨ off ≠ at' ∨ bytes.length = 0 ∨ 2048 < bytes.length then s
    else
      let s := setBoot (fun b => { b with stream := b.stream.setRun 0 off bytes, streamLen := off + bytes.length }) s
      let d := s.setBytes 0 256
      let top := s.seq.boot.streamLen
      if top < 256 then bootAsk q 1 top s
      else if !dirOk d then setFailed q s
      else if top < dirEnd d then bootAsk q 1 top s
      else setArrived q s
  | _ => s

/-- BOOT_REQ_RX (R492): the firmware of this chip answers from CALIBRATE to TEST, from the image set it booted from. -/
def runBootReqRx (p : Fin 4) (_serial : Quad) (off len : Nat) (image : List Byte) (s : State) : State :=
  if !s.inMode [.calibrate, .service, .banked, .ember, .test] || !s.coresWork || 2048 < len then s
  else
    let bytes := (image.drop off).take len
    let f : ZFrame := { dst := 0, bcast := false, src := s.chipNo, cls := 4, ttl := 1, seq := 0, len := 4 + bytes.length,
                        crcOk := true, msg := .bootData off bytes }
    portQueue p.val f s

/-- BOOT_RECOVERY_LOAD (R493). -/
def opBootRecoveryLoad (p : Packet) (s : State) : State :=
  let off := p.u32 0
  let n := p.u16 4
  checked p
    [(!s.inRecovery, St.NOT_IN_MODE), (n == 0 || 480 < n || 1 < p.u8 6 || p.dirty 7 1, St.BAD_PARAM)]
    (fun s =>
      let old := s.seq.boot.streamLen
      let s := setBoot (fun b => { b with stream := b.stream.setRun 0 off (p.bytes 8 n),
                                          streamLen := most2 b.streamLen (off + n) }) s
      let s := done p [] (if old / 65536 < s.seq.boot.streamLen / 65536 then uartText s else s)
      if p.bit 6 0 then setArrived 0 s else s) s

def runBootRecoveryLoad (p : Packet) (s : State) : State := mgtCommand 0xF001 loadLen allButCold opBootRecoveryLoad p s

/-! ### The end of KINDLING (R494, R563) -/

/-- The Ethernet addresses of OTP (R450). -/
def loadMacs (s : State) : State :=
  (List.range 2).foldl (fun s p =>
    let s := s.setWord (R.ETH_PORT_MAC_LO p) (s.otp.get 0 (0x48 + 2 * p))
    s.setFld (F.ETH_PORT_MAC_HI_MAC p) (s.otp.get 0 (0x49 + 2 * p)).toNat) s

/-- NTAB entry 0 after a power-on reset (R316). -/
def entryZero (s : State) : State :=
  if s.node 0 != 0 then s
  else s.setNode 0 (N.OUT_CTR.write (s.outCtr 0) (N.EUI64.write (s.pair R.FRM_CELL_EUI_LO R.FRM_CELL_EUI_HI) 0))

/-- The default region, the fault ring of 512 records below it and the journal's ring below that (R375, R393, R522). -/
def ringsPlace (s : State) : State :=
  let s := (defaultRegion s).setFld F.MMU_FLT_CTL_LOG2 9
  let flt := s.pair R.MMU_FLT_BASE_LO R.MMU_FLT_BASE_HI
  let ring := (flt - 2 ^ 21) / 2 ^ 21 * 2 ^ 21
  let s := (s.setWord R.EVJ_BASE_LO (BitVec.ofNat 32 ring)).setFld F.EVJ_BASE_HI_BASE (ring / 2 ^ 32)
  evjCtlWrite (s.word R.EVJ_CTL ||| 0x80000000#32) s

/-- KINDLING_DONE (R470, R494): due when the five images of a set have been accepted. -/
def runKindlingDone (s : State) : State :=
  if s.seq.mode != .kindling || s.seq.boot.phase != .idle || s.seq.boot.accepted.length != 5 then s
  else
    let s := loadMacs (entryZero (ringsPlace (keysKindling s)))
    let s := { s with interp.cpRunning := true }
    let s := (List.range 16).foldl (fun s n => putLane n { s.lane n with imageValid := true } (s.setBit F.LNS_CTL_RUN n true)) s
    let s := s.setFld F.STP_BOOT_STAT_KINDLING_MS (least2 0xFFFF ((s.now - s.seq.kindlingAt) / 120000))
    let commit := s.seq.boot.commit
    commit.foldl raiseSvn (enterCalibrate 1 s)

/-! ### Losses of the reference (R60, R477, R478) -/

/-- A command held in the SMBus mailbox is answered INTERNAL. -/
def mailboxAbandon (s : State) : State :=
  let m := s.interp.mbox
  if !m.busy || m.replyReady then s
  else reply { Packet.ofBytes (m.mem.getRun 0 0 512) with issuer := 0x90 } St.INTERNAL []
    { s with interp.mbox.submitted := false }

/-- REF_LOSS. -/
def runRefLoss (counts : Option (List Nat)) (s : State) : State :=
  if !s.flag F.CLK_STAT_REF_OK || !s.refLost counts then s
  else
    let s := (s.setFlag F.CLK_STAT_REF_OK false).setFlag F.CLK_STAT_PLL_LOCK counts.isSome
    let s := s.count F.CLK_REF_LOSS_CNT_COUNT 1
    let s := enterSlow 3 s
    let s := post 0 sevDegraded 0x0004 [] (abortAll RF_ABORTED s)
    match s.seq.mode with
    | .service | .banked | .calibrate | .test => enterEmber true s
    | .kindling =>
      let s := warmState (mailboxAbandon (allAnswered s))
      enterMode .cold 5 { s with seq.refRestart := true }
    | .ember =>
      let s := dataClocks false (s.setFlag F.CLK_GATE_CORE_RUN (counts.isSome && s.flag F.CLK_GATE_CORE_RUN))
      match s.seq.trans with
      | some t => { s with seq.trans := none, seq.heldExit := t.cmd.map (fun c => (t.target, c)) }
      | none => s
    | .quarantine => dataClocks false (s.setFlag F.CLK_GATE_CORE_RUN (counts.isSome && s.flag F.CLK_GATE_CORE_RUN))
    | .cold => s

/-- REF_RESTORED: REFCLK is back in tolerance and the PLL has relocked; without a declared loss there is nothing to
restore. In COLD the chip goes to KINDLING as at any lock of the PLL (R470). -/
def runRefRestored (s : State) : State :=
  if s.flag F.CLK_STAT_REF_OK || s.fld F.CLK_REF_LOSS_CNT_COUNT == 0 then s
  else
    let s := (s.setFlag F.CLK_STAT_REF_OK true).setFlag F.CLK_STAT_PLL_LOCK true
    let s := post 0 sevInfo 0x0005 [] s
    match s.seq.mode with
    | .cold => if s.coldWaits then s else kindle (if s.seq.refRestart then 6 else 1) s
    | .quarantine => dataClocks true (s.setFlag F.CLK_GATE_CORE_RUN true)
    | .ember =>
      match s.seq.heldExit with
      | some (m, c) => emberExit m 2 (some c) s
      | none =>
        if s.seq.emberByRef then emberExit s.seq.emberFrom 6 none s else s.setFlag F.CLK_GATE_CORE_RUN true
    | _ => s

/-! ### The debug gate (R305 to R309) -/

def DBG_FUSES_SPENT : Nat := 0x8F01
def DBG_LOCKED_OUT : Nat := 0x8F02
def DBG_ALREADY_OPEN : Nat := 0x8F03

/-- Where a read-back fails the sequence stops (R307). -/
def debugFail (step : Nat) (s : State) : Nat × State :=
  (St.INTERNAL, post 38 sevFatal 0x0C03 (arg1 step) (s.setFld F.DBG_STAT_FAIL step))

/-- Lowest unblown DBG_OPEN fuse. -/
def State.nextFuse (s : State) : Option Nat := (List.range 15).find? (fun i => !(s.otp.get 0 0x47).getLsbD i)

/-- The sequence of R306 with its status; `bad` is the step whose read-back fails, 0 for none. -/
def debugOpen (bad : Nat) (s : State) : Nat × State :=
  if s.flag F.DBG_STAT_OPEN then (DBG_ALREADY_OPEN, s)
  else match s.nextFuse with
    | none => (DBG_FUSES_SPENT, s)
    | some f =>
      if (s.otp.get 0 0x47).getLsbD 15 then (DBG_LOCKED_OUT, s)
      else
        let s := enterQuarantine 7 s
        if bad = 3 then debugFail 3 s
        else
          let s := { s with keys.orkBlob := none, keys.dkBlob := none }
          if bad = 4 then debugFail 4 s
          else
            let s := burn 0x47 (BitVec.ofNat 32 (2 ^ f)) (s.setFlag F.DBG_STAT_LATCHED true)
            if bad = 6 then debugFail 6 s
            else (St.OK, post 38 sevDegraded 0x0C02 [] ((s.setFld F.DBG_STAT_FAIL 0).setFlag F.DBG_STAT_OPEN true))

/-- DBG_OPEN. -/
def opDbgOpen (bad : Nat) (p : Packet) (s : State) : State :=
  checked p [(p.u32 0 != 0x4F50454E, St.BAD_PARAM)]
    (fun s =>
      let r := debugOpen bad s
      reply p r.1 [] r.2) s

def runDbgOpen (p : Packet) (readback : Nat) (s : State) : State :=
  mgtCommand 0xF102 (lenIs 4) allButCold (opDbgOpen readback) p s

/-- JTAG_DBG_OPEN: Update-DR with the 32-bit data register. -/
def runJtagDbgOpen (magic : Quad) (readback : Nat) (s : State) : State :=
  if s.seq.mode = .cold ∨ magic.toNat % 2 ^ 32 ≠ 0x4F50454E then s else (debugOpen readback s).2

/-- DBG_STAT as read. -/
def State.dbgStat (s : State) : Word :=
  s.word R.DBG_STAT ||| BitVec.ofNat 32 (16 * s.seq.mode.code + s.dbgCount)

/-- JTAG_INSTRUCTION: what the data register shifts out is the model's `readData`; an instruction that acts as BYPASS
leaves the chip as it is. -/
def runJtagInstruction (ir : Nat) (data : Quad) (s : State) : State :=
  match ir with
  | 0x01 => { s with readData := 0x10C585A3#32 }
  | 0x20 => { s with readData := s.dbgStat }
  | 0x21 => runJtagDbgOpen data 0 s
  | _ => s

/-- SWD_REQUEST: a FAULT acknowledgement while the gate is closed, read as the three acknowledgement bits. -/
def runSwdRequest (s : State) : State := if s.flag F.DBG_STAT_OPEN then s else { s with readData := 4 }

end Sys2Proof.Machine
end

