-- ==== Sys2Proof/Machine/PairRole.lean ====
section
/-! DEFINITION. The pair: claims, the line and sense pins, the end of a sweep, takeover and PAIR_SWITCH (R434, R435,
R440, R442, R443). -/

namespace Sys2Proof.Machine

/-- TOKEN_CLAIMED (R435): due when an armed chip has seen the line high long enough. -/
def runTokenClaimed (s : State) : State :=
  if !s.paired || s.holder || !s.flag F.PAR_STAT_ARMED || !s.flag F.PAR_STAT_LINE || s.pairU.high < s.claimAfter then s
  else
    let banked := s.seq.mode == .banked
    let unsynced := s.fld F.PAR_STAT_MIRROR != 2
    let s := disarmClaim (s.setFlag F.PAR_STAT_HELD true)
    let s := (s.setPair R.PAR_CLAIM_T_LO R.PAR_CLAIM_T_HI s.now).count F.PAR_CNT_CLAIMS 1
    let s := post 31 sevInfo 0x1201 [] { s with seq.claimWait := false }
    let s := if banked then
        { s with pairU.takeover := some unsynced, pairU.swept := false }.setFld F.PAR_STAT_MIRROR 0
      else s
    if s.seq.mode = .banked ∨ s.seq.mode = .calibrate then
      { cutShort St.NOT_IN_MODE s with seq.trans := some ⟨.service, 3, none⟩ }
    else s

/-- PAIR_TOKEN_LINE_CHANGE (R434, R435, R474): the synchronised level. -/
def runPairTokenLineChange (high : Bool) (s : State) : State :=
  let s := s.setFlag F.PAR_STAT_LINE high
  if high then s
  else
    let s := { s with pairU.high := 0 }
    if s.seq.claimWait && !s.holder then
      let s := { s with seq.claimWait := false }
      if s.seq.mode = .calibrate then enterBanked 1 (disarmClaim s) else autoArm s
    else s

/-- PAIR_SENSE_CHANGE (R434, R440, R473): a partner that loses power is to be met anew. -/
def runPairSenseChange (high : Bool) (s : State) : State :=
  let s := s.setFlag F.PAR_STAT_SENSE high
  let s := if high then s else { s with pairU.met := false, pairU.partnerHeld := false }
  autoArm (mirrorCheck s)

/-- MIRROR_SYNCED (R440): due at the holder when the end of its sweep has been acknowledged. -/
def runMirrorSynced (s : State) : State :=
  if s.holder && s.fld F.PAR_STAT_MIRROR == 1 && s.pairU.swept &&
      s.zoant.unacked.all (fun u => u.frame.msg != .mirror .sweepEnd) then
    post 31 sevInfo 0x1206 [] (resvSettle (s.setFld F.PAR_STAT_MIRROR 2))
  else s

/-! ### Takeover (R442) -/

/-- Step 1: each mirrored scope restarts above its highest mirrored reservation. -/
def takeoverCounters (s : State) : State :=
  let s := s.pairU.mirrored.foldl (fun (s : State) (e : Nat × Nat) =>
    let u := most2 e.2 (s.usableHalves e.1)
    { s with frames.restart := s.frames.restart.set 0 e.1 (u + 1), frames.usable := s.frames.usable.set 0 e.1 (u + 1) }) s
  ctrBackground { s with frames.bgRow := 0 }

/-- A bucket raised, within a limit. -/
def raised (old by' limit : Nat) : Nat := most2 old (least2 (old + by') limit)

/-- Step 2: the current bucket of each feast ledger and of the dwell ledger of each channel with a dwell limit. -/
def takeoverLedgers (by' : Nat) (s : State) : State :=
  let s := (List.range 16).foldl (fun s e =>
    let b := s.band e
    if !b.valid || !b.feast then s
    else
      feastWrite (feastKey e (feastSec s.now)) (fun v => raised v by' (b.dutyPpm * b.dutyWin)) s) s
  (List.range 256).foldl (fun s ch =>
    match s.channelEff ch with
    | none => s
    | some eff =>
      match eff.dwell with
      | none => s
      | some (limit, wd) =>
        let d := (s.dwellOf ch).rebuild limit wd s.now
        let k := dwellSec wd s.now
        s.setDwell ch { d with buckets := d.buckets.set 0 k (raised (d.buckets.get 0 k) by' (limit * 1000)) }) s

/-- Step 3: mirrored LOCAL entries become this chip's. -/
def takeoverOwners (s : State) : State :=
  let mine := s.chipNo
  let pick (e : BitVec 512) : Bool := N.LOCAL.read e == 1 && N.OWNER_CHIP.read e != mine
  match (s.ledger.ntab.find? (fun e => pick e.2)).map (fun e => N.OWNER_CHIP.read e.2) with
  | none => s
  | some a => zoantFlood none 16 (.ownerMove a mine (BitVec.ofNat 64 (s.partner.getD 0))) (moveOwner pick mine s)

/-- TAKEOVER: due when a claim made in BANKED has brought the chip to SERVICE. -/
def runTakeover (s : State) : State :=
  match s.pairU.takeover with
  | none => s
  | some unsynced =>
    if s.seq.mode ≠ .service then s
    else
      let claim := s.pair R.PAR_CLAIM_T_LO R.PAR_CLAIM_T_HI
      let s := takeoverCounters { s with pairU.takeover := none }
      let s := if s.pairU.flushed then s
        else takeoverLedgers ((4 * (claim - s.pairU.ledgerAt) + 119) / 120) s
      let s := takeoverOwners s
      let until' := s.now + 2 * s.slotTicks
      let s := if s.almanacRuns then s.wheel.foldl (fun s id => skipEvents id until' s) s else s
      let s := { s with pairU.heraldFrom := s.pair R.STP_MODE_T_LO R.STP_MODE_T_HI + 2400000, pairU.mirrored := [] }
      let s := planHerald { s with mac.heraldAt := 0, frames.builds := s.frames.builds.filter (fun b => b.kind != .herald) }
      if unsynced then post 31 sevDegraded 0x1207 [] s else s

/-! ### PAIR_SWITCH (R443) -/

/-- Carry a switch on: once no frame is on air the last updates and a flushed heartbeat go out; once they have been
acknowledged the line is released. A switch that loses the token or SERVICE on the way ends. -/
def switchAdvance (s : State) : State :=
  match s.pairU.switch with
  | none => s
  | some (cmd, step) =>
    if !s.holder || s.seq.mode != .service then
      finish cmd PAIR_NOT_HOLDER [] { s with pairU.switch := none, seq.stopAt := 0 }
    else if step = 1 then
      if !s.txStopped || !s.chainsQuiet then s
      else
        let s := match s.partnerId with
          | some c => mirrorSend c (.heartbeat true true s.seq.mode.code 0) (mirrorUpdates c s)
          | none => s
        { s with pairU.switch := some (cmd, 2) }
    else if s.zoant.unacked.any (fun u => u.frame.cls == 2) then s
    else
      let s := releaseToBanked 4 { s with pairU.switch := none }
      finish cmd St.OK [] s

/-- PAIR_SWITCH. -/
def opPairSwitch (p : Packet) (s : State) : State :=
  checked p
    [(1 < p.u8 0 || p.dirty 1 3, St.BAD_PARAM), (s.strapRole == 0, PAIR_NONE), (!s.holder, PAIR_NOT_HOLDER),
     (s.fld F.PAR_STAT_MIRROR != 2 && !p.bit 0 0, PAIR_UNSYNCED),
     (s.pairU.switch.isSome || s.seq.trans.isSome, St.BUSY)]
    (fun s =>
      let r := defer p s
      switchAdvance { r.2 with pairU.switch := some (r.1, 1), seq.stopAt := most2 1 r.2.nextBoundary }) s

def runPairSwitch (p : Packet) (s : State) : State := command 0xB005 (lenIs 4) [.service] opPairSwitch p s

end Sys2Proof.Machine
end

