-- ==== Sys2Proof/Machine/ZoantRx.lean ====
section
/-! DEFINITION. Frames that arrive over Zoant and the timers of the fabric: transit, reliable delivery, time messages,
handovers, leases and the mirror at a standby (R406 to R409, R415, R419, R420, R423 to R432, R439). -/

namespace Sys2Proof.Machine

/-! ### The mirror at a standby (R439) -/

/-- Move a slot to an epoch's EK, derived locally (R292); 256 names no epoch. -/
def mirrorEpoch (slot e : Nat) (s : State) : State :=
  if 255 < e then emptySlot slot false s
  else if !s.keyLoaded 2 || (s.keyLoaded slot && (s.keySlot slot).epoch == e) then s
  else loadEpoch slot e s

/-- The holder's key epochs. -/
def mirrorEpochs (state cur prev next act : Nat) (s : State) : State :=
  let s := (s.setFld F.KEY_STAT_STATE state).setFld F.KEY_STAT_CUR cur
  let s := (s.setFld F.KEY_STAT_PREV (prev % 256)).setFld F.KEY_STAT_NEXT next
  let s := s.setFld F.KEY_ACT_EPOCH_ACT_EPOCH act
  let s := mirrorEpoch 3 (if state = keNone then 256 else cur) s
  epochsKept (mirrorEpoch 5 (if state = kePrepared then next else 256) (mirrorEpoch 4 prev s))

/-- The holder's image of an entry replaces this chip's, by short ID. -/
def mirrorNode (id : Nat) (e : BitVec 512) (dig aux : Word) (s : State) : State :=
  let eui := N.EUI64.read e
  let s := if s.nf id N.EUI64 = eui ∧ s.nodeState id ≠ nsFree then s
    else if s.nodeState id = nsFree then s else freeNode id s
  let s := if N.STATE.read e = nsFree then s
    else match s.idOf eui with
      | some old => if old = id then s else freeNode old s
      | none => s
  let s := if N.STATE.read e = nsFree ∨ s.idOf eui = some id then s
    else match emapPlace eui s with
      | some (slot, s) => s.setSlot slot (emapEntry eui id)
      | none => s
  let s := if onWheel (N.STATE.read e) then s else dropSchedule id s
  ((s.putNode id (e &&& ~~~mirroredBit)).setDigest id dig).setNaux id aux

/-- A charge or a removal of the holder goes into the same bucket. -/
def mirrorLedger (dwell : Bool) (idx bucket wd : Nat) (us : Int) (s : State) : State :=
  let s := { s with pairU.ledgerAt := s.now }
  let add (v : Nat) : Nat := ((v : Int) + us).toNat
  if dwell then
    let d := (s.dwellOf idx).rebuild (s.dwellOf idx).ms wd s.now
    s.setDwell idx { d with buckets := d.buckets.set 0 bucket (add (d.buckets.get 0 bucket)) }
  else
    feastWrite (feastKey idx bucket) add s

/-- The holder's Almanac: one that runs is taken as it is, one that waits for its START waits here too. -/
def mirrorAlmanac (pending : Bool) (a : Almanac) (s : State) : State :=
  if pending then { s with mac.nextAlmanac := some a }
  else if s.almanacRuns && s.almanacWords == [a.slotLen, a.roundsM1 + 1, a.baseSeed, a.start, a.epoch0, a.evOfs, a.ackTurn] then s
  else
    let s := loadAlmanac a s
    { s with mac.round := if s.almStart ≤ s.now then s.roundOf s.now + 1 else 0 }

/-- A pair's centre as the holder has it. -/
def mirrorSpan (p khz : Nat) (armed : Bool) (s : State) : State :=
  if !armed then (if s.pairArmed p then pairOff p s else s)
  else if s.pairState p = 2 ∨ (s.pairState p = 1 ∧ s.fld (F.RFE_PAIR_STAT_CENTRE_KHZ p) = khz) then s
  else
    let s := if s.pairState p = 1 then s.count (F.RFE_PAIR_CNT_RETUNES p) 1 else s
    let arming := s.pairState p == 0
    let s := { s.setFld (F.RFE_PAIR_STAT_CENTRE_KHZ p) khz with sched.planDue := true }
    spanChanged arming p (setPairLock p false (setPairState p 1 s))

/-- A stream as the holder has it: it changes at its block boundaries, as by PHY_CHAN_SET (R137, R140). -/
def mirrorStream (n : Nat) (cfg freq : Word) (s : State) : State :=
  let pend (x : StreamPend) (s : State) : State := s.setStream n { s.stream n with pend := some x }
  if cfg = 0 then (if s.isHead n then pend .disable s else s)
  else if s.isHead n then
    (if s.word (R.CHZ_CH_CFG n) = cfg ∧ s.word (R.CHZ_CH_FREQ n) = freq then s else pend (.change cfg freq false) s)
  else streamEnable n cfg freq s

/-- One update. -/
def mirrorItem (i : MirrorItem) (s : State) : State :=
  match i with
  | .node id e dig aux => mirrorNode id e dig aux s
  | .reservation scope p =>
    { s with pairU.mirrored := s.pairU.mirrored.set 0 scope (most2 (p + 1) (s.pairU.mirrored.get 0 scope)) }
  | .ledger dwell idx bucket wd us => mirrorLedger dwell idx bucket wd us s
  | .almanac pending slotLen roundsM1 seed epoch0 evOfs ackTurn start =>
    let a : Almanac := ⟨slotLen, roundsM1, seed, epoch0, evOfs, ackTurn, start, none⟩
    mirrorAlmanac pending a s
  | .herald (some e) cfg hset => { s with mac.heraldPend := some ⟨e, cfg, hset⟩ }
  | .herald none cfg hset =>
    let s := s.setWord R.MAC_HERALD_CFG cfg
    let s := (List.range 4).foldl (fun (s : State) k => s.setWord (R.MAC_HERALD_SET k) (hset.getD k 0)) s
    { s with mac.heraldOn := true }
  | .chmap i (some e) m => scheduleMap i e m s
  | .chmap i none m => { s with ledger.chmap := s.ledger.chmap.set 0 i m }
  | .epochs state cur prev next act => mirrorEpochs state cur prev next act s
  | .span p khz armed => mirrorSpan p khz armed s
  | .stream n cfg freq => mirrorStream n cfg freq s
  | .lane n ctl dl =>
    let s := s.setWord (R.LNS_LANE_CTL n) ctl
    putLane n { s.lane n with dlPerEvent := dl } s
  | .plan returns prio =>
    let s := (List.range 4).foldl (fun s n => s.setFlag (F.RFE_TX_CTL_RETURN n) (returns / 2 ^ n % 2 == 1)) s
    s.setWord R.CHZ_PAIR_PRIO prio
  | .heartbeat _ _ _ _ => s
  | .sweepEnd => s.setFld F.PAR_STAT_MIRROR 2

/-- A MIRROR message: only from the partner, and updates only in BANKED without the token. -/
def mirrorRx (src : Nat) (i : MirrorItem) (s : State) : State :=
  if !s.paired || s.partnerId != some src then s
  else match i with
    | .heartbeat held flushed mode _ => beatRx held flushed mode s
    | i =>
      if !s.inMode [.banked] || s.holder then s
      else mirrorItem i (if s.fld F.PAR_STAT_MIRROR = 0 then s.setFld F.PAR_STAT_MIRROR 1 else s)

/-! ### Handovers and leases (R427 to R431) -/

/-- Why this chip refuses an offer (R428, R444). -/
def State.offerRefusal (s : State) (o : HandoverNode) : Option Nat :=
  firstFail
    [(!s.inMode [.service], 5), (!s.almanacRuns || s.almanacWords != o.almanac, 1),
     (s.ledger.chmap.get 0 (N.CHMAP_IDX.read o.entry) != o.chmap, 2),
     (s.demod.profiles.get [] (N.PHY_PROFILE.read o.entry) != o.profile, 3), (s.keyCur != o.keyEpoch, 4),
     (decide (64 ≤ s.zoant.handovers.length), 7)]

/-- HO_OFFER at the target (R428, R429). -/
def offerRx (src : Nat) (o : HandoverNode) (s : State) : State :=
  let refuse (r : Nat) (s : State) : State := zoantSend src 1 9 (.hoRefuse o.eui r) s
  let accept (id : Nat) (reused : Bool) (s : State) : State :=
    let h : Handover :=
      { source := false, eui := o.eui, node := id, other := src, newId := id, cell := s.cellEui, eh := 0, ehAnchor := 0,
        leaseEvents := o.leaseEvents, cmd := none, ready := true, switched := false, committed := false,
        acked := false, plain := false, offer := some o, reused := reused, heardAt := s.now }
    zoantSend src 1 20 (.hoReady o.eui id (BitVec.ofNat 64 s.cellEui))
      { s with zoant.handovers := s.zoant.handovers ++ [h] }
  match s.offerRefusal o with
  | some r => refuse r s
  | none =>
    match s.idOf o.eui.toNat with
    | some id => if s.nodeState id = nsHandedOff ∧ (s.handoverFor o.eui).isNone then accept id true s else refuse 6 s
    | none =>
      let want := if s.nodeState o.shortId = nsFree then o.shortId else 0
      let r := allocNode 2 o.eui.toNat want 0 s
      if r.1.status = St.OK then accept r.1.index false r.2 else refuse 6 s

/-- A handover message of the chip at the other end. -/
def withHandover (src : Nat) (source : Bool) (eui : Quad) (act : Handover → State → State) (s : State) : State :=
  match s.handoverFor eui with
  | some h => if h.other == src && h.source == source then act h s else s
  | none => s

/-- OWNER_NOTICE (R430): a HANDED_OFF entry for the EUI-64 follows its node. -/
def ownerNoticeRx (eui : Quad) (chip : Nat) (s : State) : State :=
  match s.idOf eui.toNat with
  | some id => if s.nodeState id = nsHandedOff then s.setNf id N.OWNER_CHIP chip else s
  | none => s

/-- OWNER_MOVE (R415): HANDED_OFF entries follow, provided FROUTE of the old ID held that serial. -/
def ownerMoveRx (a b : Nat) (serial : Quad) (s : State) : State :=
  if frSerial (s.froute a) = serial.toNat then
    moveOwner (fun e => N.STATE.read e == nsHandedOff && N.OWNER_CHIP.read e == a) b s
  else s

/-- A CTRL frame of a chip keeps the leases that concern it alive (R427). -/
def leaseHeard (src : Nat) (s : State) : State :=
  { s with zoant.ctxHeard := s.zoant.ctxHeard.set 0 src s.now,
           zoant.handovers := s.zoant.handovers.map (fun h => if h.other = src then { h with heardAt := s.now } else h) }

/-! ### Delivery -/

/-- A CTRL message that is delivered. -/
def ctrlDeliver (p : Fin 4) (src : Nat) (m : ZMsg) (s : State) : State :=
  let s := leaseHeard src s
  match m with
  | .lsa l => lsaRx p.val l s
  | .idRequest serial pref => idRequested serial pref s
  | .idGrant serial id =>
    if serial.toNat = s.serial ∧ s.flag F.ZFB_ID_STRAPPED = false ∧ s.chipId ≠ some id then takeId id false s else s
  | .ownerMove a b serial => ownerMoveRx a b serial s
  | .ownerNotice eui chip _ => ownerNoticeRx eui chip s
  | .command c => runCommandArrival (.zoant p (Fin.ofNat 64 src)) (some c) s
  | .hoOffer o => offerRx src o s
  | .hoReady eui id cell =>
    withHandover src true eui (fun h s =>
      if h.ready then s else putHandover { h with newId := id, cell := cell.toNat, ready := true, heardAt := s.now } s) s
  | .hoRefuse eui reason =>
    withHandover src true eui (fun h s =>
      if h.ready then s else finishOpt h.cmd FAB_HO_REFUSED (h.reply reason) (dropHandover eui s)) s
  | .hoSwitch eui eh anchor => withHandover src false eui (fun _ s => hoSwitchTarget eui eh anchor s) s
  | .hoCommit eui => withHandover src true eui (fun h s => if h.switched then hoDoneSource eui s else s) s
  | .hoRevert eui c w d => withHandover src true eui (fun h s => hoRevertSource h (some (c, w, d)) s) s
  | _ => s

/-- A forwarded packet goes into buffer pages and waits for its decision (R349, R379). -/
def dataRx (src : Nat) (packet : List Byte) (s : State) : State :=
  match allocPages true (pagesFor packet.length) s with
  | none => s.count F.FWD_DROP3_NO_BUF 1
  | some (pages, s) =>
    let it : QItem := { pages := pages, data := packet, ingress := 3, orig := broadcastId, time := s.now, ref := src }
    let s := writePages pages packet s
    { s with fwd.ingress := s.fwd.ingress ++ [it] }

/-- A datagram that moves with its node (R429, step 4). -/
def movedRx (src : Nat) (eui : Quad) (datagram : List Byte) (s : State) : State :=
  let it : QItem := { pages := [], data := datagram, ingress := 3, orig := broadcastId, time := s.now, ref := src }
  match s.idOf eui.toNat with
  | some id => queueDownlink id it s
  | none => s.count F.FWD_DROP0_NO_NODE 1

/-- A message for this chip. -/
def zoantDeliver (p : Fin 4) (f : ZFrame) (s : State) : State :=
  match f.msg with
  | .mirror i => mirrorRx f.src i s
  | .data packet => dataRx f.src packet s
  | .moved eui d => movedRx f.src eui d s
  | m => ctrlDeliver p f.src m s

/-! ### Reliable delivery (R409) -/

/-- What an acknowledgement settles: MIRRORED, a reservation, a commit (R269, R430, R439). -/
def onAcked (u : Unacked) (s : State) : State :=
  match u.frame.msg with
  | .mirror (.node id e dig aux) =>
    if s.nodeImage id = (e, dig, aux) then s.putNode id (s.node id ||| mirroredBit) else s
  | .mirror (.reservation scope p) => resvMirrored scope p s
  | .hoCommit eui => withHandover u.frame.dst false eui (fun _ s => hoDoneTarget eui s) s
  | _ => s

/-- A cumulative acknowledgement: every frame before `seq` has been delivered. -/
def ackRx (src cls seq : Nat) (s : State) : State :=
  let hit (u : Unacked) : Bool :=
    u.frame.dst == src && u.frame.cls == cls &&
      decide (1 ≤ (seq + 65536 - u.frame.seq) % 65536 ∧ (seq + 65536 - u.frame.seq) % 65536 ≤ 32768)
  let got := s.zoant.unacked.filter hit
  let s := { s with zoant.unacked := s.zoant.unacked.filter (fun u => !hit u) }
  switchAdvance (got.foldl (fun s u => onAcked u s) s)

/-- A CTRL frame has to wait: a command behind the sixteenth, or any behind one that waits (R49). -/
def State.heldBack (s : State) (f : ZFrame) : Bool :=
  f.cls == 1 && (!s.zoant.rxHeld.isEmpty ||
    match f.msg with
    | .command _ => zoantLimit ≤ s.zoant.outstanding
    | _ => false)

/-- Deliver a frame, or keep it in the receive buffer until the interpreter has room. -/
def deliverOrHold (p : Fin 4) (f : ZFrame) (s : State) : State :=
  if s.heldBack f then
    { cellsTake p.val f.cls (zCells f) s with zoant.rxHeld := s.zoant.rxHeld ++ [(p.val, ⟨f, some p.val⟩)] }
  else zoantDeliver p f s

/-- The interpreter has room again: the frames that wait are delivered in their order. -/
def releaseHeld : Nat → State → State
  | 0, s => s
  | n + 1, s =>
    match s.zoant.rxHeld with
    | [] => s
    | (p, o) :: l =>
      if zoantLimit ≤ s.zoant.outstanding && (match o.frame.msg with
          | .command _ => true
          | _ => false) then s
      else releaseHeld n (outDrop o (zoantDeliver (Fin.ofNat 4 p) o.frame { s with zoant.rxHeld := l }))

/-- A frame of a reliable class: delivered in SEQ order, duplicates discarded, acknowledged. SEQ 0 with another
message than the one that began the series begins a new one. -/
def reliableRx (p : Fin 4) (f : ZFrame) (s : State) : State :=
  let k := seqKey f.cls f.src
  let expect := s.zoant.rxSeq.get 0 k
  let fresh := f.seq == 0 && s.zoant.rxFirst.all (fun x => x.1 != k || x.2 != f.msg)
  if f.seq = expect ∨ fresh = true then
    let first := if f.seq = 0 then (k, f.msg) :: s.zoant.rxFirst.filter (fun x => x.1 != k) else s.zoant.rxFirst
    let next := (f.seq + 1) % 65536
    let s := { s with zoant.rxSeq := s.zoant.rxSeq.set 0 k next, zoant.rxFirst := first }
    deliverOrHold p f (zoantRaw f.src f.cls 2 (.ack f.cls next) s)
  else zoantRaw f.src f.cls 2 (.ack f.cls expect) s

/-! ### Time messages (R423 to R426) -/

/-- A message of one hop. -/
def hopFrame (s : State) (len : Nat) (m : ZMsg) : ZFrame := ⟨0, false, s.chipNo, 0, 8, 0, len, true, m⟩

/-- A stamp at the ball: the calendar with its 4 fraction bits, which the model leaves open. -/
def stampNow (s : State) : Nat × State :=
  let r := s.draw
  (16 * s.now + r.1 % 16, r.2)

/-- The upstream chip's exchanges give no correction (R426). -/
def State.upFaulty (s : State) (p : Nat) : Bool := (s.zport p).syncFault || (s.zport p).nbrEmber

/-- Round 1/16 ticks to ticks. -/
def roundSixteenths (t : Int) : Int := (t + 8) / 16

/-- The exchange on the upstream port is complete. -/
def exchangeDone (p : Nat) (t1 t2 t3 t4 : Nat) (s : State) : State :=
  let up : Int := (t2 : Int) - t1
  let delay := (up + ((t4 : Int) - t3)).tdiv 2
  let theta := up - delay - s.sfld (F.ZFB_PORT_ASYM_ASYM p)
  if s.upFaulty p then alignCheck { s with zoant.thetas := [] }
  else
    let s := s.setFld (F.ZFB_PORT_DELAY_DELAY p) (unsignedOf 32 delay)
    let s := s.setFld F.ZFB_TIME_OFS_THETA (unsignedOf 32 theta)
    if s.flag F.TMB_STAT_CAL_FAULT then
      match s.cal.resync with
      | some (q, _) =>
        finish q St.OK [] (resyncLoad (((t2 : Int) - theta) / 16).toNat { s with cal.resync := none })
      | none => s
    else
      let s := { s with zoant.thetas := (s.zoant.thetas ++ [theta]).drop (s.zoant.thetas.length - 7) }
      let ofs := roundSixteenths theta
      let s := if s.fld F.ZFB_TIME_CFG_RATE = 0 ∨ (ofs = 0 ∧ s.flag F.TMB_STAT_SLEWING = false) then s
        else startSlew (-ofs) (s.fld F.ZFB_TIME_CFG_RATE) s
      alignCheck s

/-- A time message on an UP port. -/
def timeRx (p : Nat) (m : ZMsg) (stamp : Nat) (s : State) : State :=
  let z := s.zport p
  let mine := s.flag (F.ZFB_PORT_STAT_UPSTREAM p)
  match m with
  | .sync fault =>
    let s := capEvent (0x0C + p) none s
    if !mine then s
    else
      let (t3, s) := stampNow s
      portQueue p (hopFrame s 0 .delayReq)
        (s.setZport p { s.zport p with t1 := none, t2 := some stamp, t3 := some t3, syncFault := fault })
  | .followUp t1 => if mine && z.t2.isSome then s.setZport p { z with t1 := some t1.toNat } else s
  | .delayReq => portQueue p (hopFrame s 8 (.delayResp (BitVec.ofNat 64 stamp))) s
  | .delayResp t4 =>
    match z.t1, z.t2, z.t3 with
    | some t1, some t2, some t3 =>
      if !mine then s
      else exchangeDone p t1 t2 t3 t4.toNat (s.setZport p { z with t1 := none, t2 := none, t3 := none })
    | _, _, _ => s
  | _ => s

/-- A message that never travels beyond one hop. -/
def perHop : ZMsg → Bool
  | .sync _ | .followUp _ | .delayReq | .delayResp _ => true
  | _ => false

/-! ### Frames (R406, R408, R414, R418, R420) -/

/-- A broadcast: taken here and passed on; an LSA goes on by its own rule (R412). -/
def broadcastRx (p : Fin 4) (f : ZFrame) (s : State) : State :=
  let flood := match f.msg with
    | .lsa _ => false
    | _ => s.chipId.isSome && f.ttl != 0
  let s := ctrlDeliver p f.src f.msg s
  if flood then
    (List.range 4).foldl (fun s q =>
      if q ≠ p.val ∧ s.carries q 1 = true then portQueue q { f with ttl := f.ttl - 1 } s else s) s
  else s

/-- A frame for one chip: consumed, or forwarded with TTL lowered. -/
def unicastRx (p : Fin 4) (f : ZFrame) (s : State) : State :=
  if s.chipId = some f.dst then
    match f.msg with
    | .ack cls seq => ackRx f.src cls seq s
    | _ => if f.cls = 1 ∨ f.cls = 2 then reliableRx p f s else zoantDeliver p f s
  else if f.ttl = 0 then s.count F.ZFB_CNT0_TTL 1
  else if s.chipId.isNone || s.asleep f.dst f.cls then s
  else zoantPass p.val { f with ttl := f.ttl - 1 } s

/-- A frame that was consumed while 16 commands are outstanding: the CTRL credit is held back (R49). -/
def consumed (p : Fin 4) (f : ZFrame) (s : State) : State :=
  if f.cls = 1 ∧ zoantLimit ≤ s.zoant.outstanding then cellsFree p.val 1 (zCells f) (cellsTake p.val 1 (zCells f) s) else s

/-- The frame still stands in the receive buffer: it is in transit, or it waits for the interpreter. -/
def State.standsIn (s : State) (p : Fin 4) (f : ZFrame) : Bool :=
  (!f.bcast && s.chipId != some f.dst) || s.zoant.rxHeld.any (fun e => e.1 == p.val && e.2.frame == f)

/-- A sound frame, by its message. -/
def soundRx (p : Fin 4) (f : ZFrame) (stamp : Quad) (s : State) : State :=
  match f.msg with
  | .hello .. => runHelloRx p f s
  | .bootData off bytes => if s.portState p.val = portHello then runBootDataRx p off bytes s else s
  | .bootReq .. => s
  | .credit cls n =>
    let z := s.zport p.val
    s.setZport p.val { z with used := z.used.set 0 cls (z.used.get 0 cls - n) }
  | m =>
    if perHop m then (if s.portState p.val = portUp then timeRx p.val m stamp.toNat s else s)
    else if !s.carries p.val f.cls then s
    else if f.bcast then consumed p f (broadcastRx p f s)
    else
      let s := unicastRx p f s
      if s.standsIn p f then s else consumed p f s

/-- ZOANT_FRAME_RX. -/
def runZoantFrameRx (p : Fin 4) (f : ZFrame) (stamp : Quad) (s : State) : State :=
  if s.portState p.val < portHello then s
  else if !f.crcOk then s.count (F.ZFB_PORT_CNT_CRC_ERR p.val) 1
  else soundRx p f stamp (s.setZport p.val { s.zport p.val with lastRx := s.now })

/-! ### Retransmission (R49, R409) -/

/-- The port at which a frame waits. -/
def State.retransPort (s : State) (f : ZFrame) : Nat := (s.egress f.dst f.cls).getD (frPrimary (s.froute f.dst))

/-- A reply that is discarded with its peer (R49). -/
def replyLost (port : Nat) (u : Unacked) (s : State) : State :=
  match u.frame.msg with
  | .reply b =>
    let s := s.setFlag F.CMD_ERR_ZOANT_ERR true
    post (27 + port) sevDegraded 0x0104
      (arg1 u.frame.dst ++ leBytes 2 (leAt b 0 2) ++ leBytes 2 (leAt b 2 2) ++ leBytes 2 (leAt b 6 2)) s
  | _ => s

/-- The eighth attempt has brought no answer. -/
def peerLost (dst cls : Nat) (s : State) : State :=
  let mine (u : Unacked) : Bool := u.frame.dst == dst && u.frame.cls == cls
  let lost := s.zoant.unacked.filter mine
  let port := frPrimary (s.froute dst)
  let s := (List.range 4).foldl (fun s p =>
    s.setZport p { s.zport p with txq := (s.zport p).txq.filter (fun o =>
      !(o.via.isNone && o.frame.dst == dst && o.frame.cls == cls && !o.frame.bcast)) }) s
  let s := { s with zoant.unacked := s.zoant.unacked.filter (fun u => !mine u),
                    zoant.txSeq := s.zoant.txSeq.set 0 (seqKey cls dst) 0 }
  let s := post 27 sevDegraded 0x1109 [] s
  let s := lost.foldl (fun s u => replyLost port u s) s
  let s := if cls = 2 ∧ s.partnerId = some dst then
      resvSettle ({ s with pairU.swept := false, pairU.met := false }.setFld F.PAR_STAT_MIRROR 0)
    else s
  switchAdvance s

/-- One frame that is due again. -/
def retransmit (u : Unacked) (s : State) : State :=
  if !s.zoant.unacked.contains u then s
  else if 8 < u.tries then peerLost u.frame.dst u.frame.cls s
  else
    let s := { s with zoant.unacked := s.zoant.unacked.map (fun x =>
                        if x = u then { u with tries := u.tries + 1, sentAt := s.now } else x) }
    zoantRoute u.frame (s.count F.ZFB_CNT1_RETRANS 1)

/-- ZFB_RETRANSMIT_TIMEOUT: due for the frames of a port that 24,000 ticks have left unacknowledged. -/
def runZfbRetransmitTimeout (p : Fin 4) (s : State) : State :=
  let due := s.zoant.unacked.filter (fun u =>
    s.retransPort u.frame == p.val && decide (u.sentAt + 24000 ≤ s.now) && !s.waitsOut u.frame)
  due.foldl (fun s u => retransmit u s) s

/-! ### The firmware's timers (R423, R427) -/

/-- SYNC and FOLLOW_UP on one port. -/
def syncPort (s : State) (p : Nat) : State :=
  if s.portState p ≠ portUp then s
  else
    let s := portQueue p (hopFrame s 1 (.sync (s.flag F.TMB_STAT_CAL_FAULT))) s
    let (t1, s) := stampNow s
    portQueue p (hopFrame s 8 (.followUp (BitVec.ofNat 64 t1))) s

/-- SYNC_TX: due every 120,000 ticks. -/
def runSyncTx (s : State) : State :=
  if s.now < s.zoant.syncAt || s.inMode [.ember] then s
  else (List.range 4).foldl syncPort { s with zoant.syncAt := s.now + 120000 }

def State.leaseTmo (s : State) : Nat := s.fld F.ZFB_LEASE_TMO_TICKS

/-- The chips toward which this chip keeps a lease alive: the other ends of its handovers, and the owners of contexts
here, so that their own leases see this chip. -/
def State.leasePeers (s : State) : List Nat :=
  (List.range 64).filter (fun c => s.zoant.handovers.any (fun h => h.other == c) || (s.ctxOf (0x40 + c)).isSome)

/-- LEASE_RENEW: due every LEASE_TMO / 4. -/
def runLeaseRenew (s : State) : State :=
  if s.now < s.zoant.renewAt || !s.coresWork then s
  else
    s.leasePeers.foldl (fun s c => zoantSend c 1 0 .leaseRenew s)
      { s with zoant.renewAt := s.now + s.leaseTmo / 4 }

/-- A handover whose lease has expired. -/
def handoverExpired (h : Handover) (s : State) : State :=
  if h.source then hoRevertSource h none s
  else if h.switched then hoRevertTarget h s
  else
    let s := dropHandover h.eui s
    if h.reused then s else freeNode h.node s

/-- LEASE_EXPIRED: due for a chip whose last frame lies LEASE_TMO back (cause 4 of R340, R431, R467). -/
def runLeaseExpired (chip : Fin 64) (s : State) : State :=
  let c := chip.val
  let owner := 0x40 + c
  let quiet := s.zoant.ctxHeard.get 0 c + s.leaseTmo ≤ s.now
  let ctx := quiet && (s.ctxOf owner).isSome
  let hos := s.zoant.handovers.filter (fun h => h.other == c && decide (h.heardAt + s.leaseTmo ≤ s.now))
  if !ctx && hos.isEmpty then s
  else
    let s := if ctx then resVanishAll 4 owner owner (abandonOf 4 owner owner s) else s
    let s := hos.foldl (fun s h => handoverExpired h s) s
    post 27 sevRecovered 0x110A (arg1 c) s

end Sys2Proof.Machine
end

