-- ==== Sys2Proof/Machine/Power.lean ====
section
/-! DEFINITION. Temperature, the thermal governor, THERMTRIP and the rails (R507, R510 to R518, R567). -/

namespace Sys2Proof.Machine

/-! ### The governor's steps (R512, R513) -/

/-- The order in which step 2 takes streams: pairs in ascending CHZ_PAIR_PRIO, ties to the higher number; within a pair
in descending first slot; streams on Herald channels never. -/
def State.suspendOrder (s : State) : List Nat :=
  let prio (p : Nat) : Nat := s.fld F.CHZ_PAIR_PRIO_PRIO / 4 ^ p % 4
  let pairs := sortBy (fun p => 4 * prio p + (3 - p)) (List.range 4)
  pairs.flatMap (fun p =>
    (s.heads.filter (fun n => s.streamPair n == p && !s.heraldChannels.contains n)).reverse)

/-- Streams taken until their slots reach a count. -/
def State.takeSlots (s : State) : Nat → List Nat → List Nat
  | _, [] => []
  | 0, _ => []
  | left + 1, n :: rest => n :: s.takeSlots (left + 1 - widthSlots (s.streamWidth n)) rest

/-- Mark the streams that the governor suspends or gives back; they follow at their block boundaries (R140). -/
def govern (on : Bool) (ns : List Nat) (s : State) : State :=
  ns.foldl (fun s n => s.setStream n { s.stream n with governed := on }) s

/-- The action of a step. -/
def stepTaken (k : Nat) (s : State) : State :=
  match k with
  | 1 =>
    let cap := s.fld F.LDP_CTL_ITER_CAP
    (s.setFld F.THM_SAVED_ITER_CAP cap).setFld F.LDP_CTL_ITER_CAP (least2 cap 6)
  | 2 =>
    let ns := s.takeSlots ((s.slotsEnabled + 3) / 4) s.suspendOrder
    govern true ns { s with thermal.suspended := ns }
  | _ => s

/-- The release of a step. -/
def stepReleased (k : Nat) (s : State) : State :=
  match k with
  | 1 => s.setFld F.LDP_CTL_ITER_CAP (s.fld F.THM_SAVED_ITER_CAP)
  | 2 => govern false s.thermal.suspended { s with thermal.suspended := [] }
  | _ => s

/-- An action of the governor takes effect at its tick. -/
def govAct (a : GovAction) (s : State) : State :=
  let args := arg1 a.step ++ leBytes 2 a.tj.toNat
  let s := { s with thermal.changedAt := a.tick }
  if a.take then
    let s := (stepTaken a.step s).setFld F.THM_STAT_STEPS a.step
    mgtCause 2 (postAt a.tick 35 sevDegraded 0x1403 args (s.count F.THM_CNT_STEPS_TAKEN 1))
  else
    let s := (stepReleased a.step { s with thermal.releasedAt := a.tick }).setFld F.THM_STAT_STEPS (a.step - 1)
    mgtCause 2 (postAt a.tick 35 sevInfo 0x1404 args s)

/-- Every action whose tick has come, in order. -/
def govDue (s : State) : State :=
  let due := s.thermal.actions.filter (fun a => a.tick ≤ s.now)
  due.foldl (fun s a => govAct a s) { s with thermal.actions := s.thermal.actions.filter (fun a => !decide (a.tick ≤ s.now)) }

/-- Decide an action. Its tick lies after the sample, within 240,000 ticks and not before an action decided earlier;
which of these ticks is open (R512). -/
def govDecide (take : Bool) (step : Nat) (s : State) : State :=
  let first := greatest ((s.now + 1) :: s.thermal.actions.map (·.tick))
  let (v, s) := s.draw
  let tick := first + v % (s.now + 240001 - first)
  { s with thermal.actions := s.thermal.actions ++ [⟨tick, take, step, BitVec.ofNat 16 (s.fld F.THM_TJ_TJ)⟩],
           thermal.decided := if take then step else step - 1 }

/-! ### A sample (R510, R511, R514, R516, R567) -/

def seconds (n : Nat) : Nat := n * 120000000

/-- T_warn. -/
def warnSample (tj : Int) (s : State) : State :=
  let w := s.flag F.THM_STAT_WARN
  if !w && 1600 ≤ tj then mgtCause 1 (post 35 sevInfo 0x1401 [] (s.setFlag F.THM_STAT_WARN true))
  else if w && s.thermal.above95 + seconds 60 ≤ s.now then post 35 sevInfo 0x1402 [] (s.setFlag F.THM_STAT_WARN false)
  else s

/-- T_crit. -/
def critSample (tj : Int) (s : State) : State :=
  let c := s.flag F.THM_STAT_CRIT
  if !c && 1840 ≤ tj then
    mgtCause 3 (post 35 sevDegraded 0x1405 [] ((s.setFlag F.THM_STAT_CRIT true).count F.THM_CNT_CRIT_ENTRIES 1))
  else if c && s.thermal.above115 + seconds 10 ≤ s.now then post 35 sevInfo 0x1406 [] (s.setFlag F.THM_STAT_CRIT false)
  else s

/-- Steps are taken: all at once under T_crit, else one at a time. -/
def governorTake (tj : Int) (s : State) : State :=
  let k := s.thermal.decided
  if s.flag F.THM_STAT_CRIT then
    (List.range 3).foldl (fun s i => if k ≤ i then govDecide true (i + 1) s else s) s
  else if tj < 1680 ∨ s.thermal.actions ≠ [] ∨ 3 ≤ k then s
  else if k = 0 ∨ most2 s.thermal.changedAt s.thermal.below105 + seconds 30 ≤ s.now then govDecide true (k + 1) s
  else s

/-- The most recent step is released. -/
def governorRelease (s : State) : State :=
  let k := s.thermal.decided
  if s.flag F.THM_STAT_CRIT = true ∨ s.thermal.actions ≠ [] ∨ k = 0 then s
  else if most2 s.thermal.above100 s.thermal.releasedAt + seconds 60 ≤ s.now then govDecide false k s
  else s

/-- The firmware calibrates the output of a chain whose RF temperature has moved since its last calibration (R119): by
10 °C where a gap is found, by 20 °C at once. -/
def driftCal (n : Nat) (s : State) : State :=
  match (s.chain n).calTemp with
  | none => s
  | some t =>
    let d := distInt t (s.sfld F.RFE_TEMP_TEMP)
    let force := decide (320 ≤ d) && !s.flag F.THM_STAT_CRIT
    match (s.chain n).cal with
    | some c =>
      if force && !c.running && !c.force && c.cmd.isNone then
        chainCalTry n ((s.setFlag (chainPend n) false).setChain n { s.chain n with cal := some { c with force := true } })
      else s
    | none =>
      if s.txState n = txOff ∨ d < 160 then s
      else
        let c : Cal := ⟨0x30, force, none, s.now, 0, 0, 0, false, false⟩
        chainCalTry n ((s.setFlag (chainPend n) (!force)).setChain n { s.chain n with cal := some c })

/-- THERMAL_SAMPLE: the eight readings and RFE_TEMP, in 1/16 °C. In COLD they update the registers only. -/
def runThermalSample (sensors : List (BitVec 16)) (s : State) : State :=
  let temps := (List.range 8).map (fun k => sensors.getD k 0)
  let s := (List.range 8).foldl (fun s k => s.setFld (F.THM_SENSOR_TEMP k) (nth (temps.map (·.toNat)) k)) s
  let s := s.setFld F.RFE_TEMP_TEMP (sensors.getD 8 0).toNat
  let hot := (List.range 8).foldl (fun b k => if (temps.getD b 0).toInt < (temps.getD k 0).toInt then k else b) 0
  let tj := (temps.getD hot 0).toInt
  let s := (s.setFld F.THM_TJ_TJ (temps.getD hot 0).toNat).setFld F.THM_TJ_HOT hot
  let s := if s.sfld F.THM_PEAK_PEAK < tj then s.setFld F.THM_PEAK_PEAK (temps.getD hot 0).toNat else s
  if s.inMode [.cold] then s
  else
    let t := s.thermal
    let mark (c : Bool) (old : Nat) : Nat := if c then s.now else old
    let s := { s with thermal := { t with
      below105 := mark (tj < 1680) t.below105, above100 := mark (1600 ≤ tj) t.above100,
      above95 := mark (1520 ≤ tj) t.above95, above115 := mark (1840 ≤ tj) t.above115 } }
    let s := critSample tj (warnSample tj s)
    let s := if s.coresWork && s.inMode radioModes then (List.range 4).foldl (fun s n => driftCal n s) s else s
    if s.inMode [.kindling] then s
    else governorRelease (if s.inMode [.quarantine] then s else governorTake tj s)

/-! ### THERMTRIP (R484, R500, R518) -/

/-- THERMTRIP: every output takes its reset state, the clocks but SLOW_CLK stop, and the latch is set; the always-on
domain writes its record at once. No reply is written. What SLOW_WHY reads for this slow advance is open. -/
def runThermtrip (sensor : Fin 8) (s : State) : State :=
  if s.seq.thermtrip then s
  else
    let s := { s with interp.sched := [], interp.ready := [], interp.running := [], interp.cpRunning := false,
                      interp.cpStopped := false }
    let s := planeStop true 2 s
    let s := { s with seq.thermtrip := true, seq.heldExit := none, seq.warmDue := false, seq.boot.phase := .idle }
    let s := s.setFlag F.STP_RESET_CAUSE_THERMTRIP true
    let s := if s.inMode [.cold] then s else enterMode .cold 0 s
    let s := emitRec (JRec.of s.now 35 sevFatal 0x1407 (arg1 sensor.val)) s
    let s := { coldThermal s with host.pps.out := false, host.pps.left := 0 }
    let s := (s.setFlag F.PCI_LINK_UP false).setFlag F.PCI_LINK_BME false
    let (why, s) := s.draw
    let s := if s.slowing then s else enterSlow (why % 8) s
    let s := (s.setFlag F.CLK_STAT_PLL_LOCK false).setFlag F.CLK_GATE_CORE_RUN false
    dataClocks false (s.setFlag F.CLK_GATE_MGT_RUN false)

/-! ### Rails (R504, R507) -/

/-- The operating ranges of a rail, in mV: VDD_IO has two. -/
def railRanges (r : Nat) : List (Nat × Nat) :=
  match r with
  | 0 => [(728, 772)]
  | 1 | 2 => [(776, 824)]
  | 3 => [(1164, 1236)]
  | 4 | 8 => [(1746, 1854)]
  | 5 => [(1067, 1133)]
  | 6 => [(570, 650)]
  | 7 => [(873, 927)]
  | _ => [(1710, 1890), (3135, 3465)]

def railOk (r mv : Nat) : Bool := (railRanges r).any (fun x => x.1 ≤ mv && mv ≤ x.2)

/-- A rail that stayed out of range faults; one that has been back for 1 ms is restored. -/
def railSample (r : Nat) (x : RailSample) (s : State) : State :=
  let mv := x.mv.toNat
  let ok := railOk r mv
  let s := (s.setFld (F.PWR_RAIL_MON_MW r) x.mw.toNat).setFld (F.PWR_RAIL_MON_MV r) mv
  let s := s.setBit F.PWR_RAIL_OK_OK r ok
  let bad := s.rails.faulted.contains r
  if x.out then
    let s := { s with rails.okSince := s.rails.okSince.set 0 r 0 }
    let s := s.setBit F.PWR_RAIL_FAULT_FAULT r true
    if bad then s
    else
      let s := post 36 sevDegraded 0x1411 (arg2 r ++ arg2 mv) { s with rails.faulted := s.rails.faulted ++ [r] }
      mgtCause 4 (mgtCause 20 s)
  else if !bad then s
  else if !ok then { s with rails.okSince := s.rails.okSince.set 0 r 0 }
  else
    let since := s.rails.okSince.get 0 r
    if since = 0 then { s with rails.okSince := s.rails.okSince.set 0 r (s.now + 1) }
    else if since - 1 + 120000 ≤ s.now then
      post 36 sevInfo 0x1412 []
        { s with rails.faulted := s.rails.faulted.filter (· != r), rails.okSince := s.rails.okSince.set 0 r 0 }
    else s

/-- RAIL_SAMPLE: measured by the management controller. -/
def runRailSample (rails : List RailSample) (s : State) : State :=
  if s.inMode [.cold] then s
  else
    let s := ((List.range 10).zip rails).foldl (fun s x => railSample x.1 x.2 s) s
    s.setFld F.PWR_TOTAL_MW (least2 65535 (sumOf ((List.range 10).map (fun r => s.fld (F.PWR_RAIL_MON_MW r)))))

/-! ### Commands -/

/-- Seconds since STEPS changed. -/
def State.heldSeconds (s : State) : Nat := (s.now - s.thermal.changedAt) / 120000000

/-- THM_STATUS. -/
def opThmStatus (p : Packet) (s : State) : State :=
  let flags := s.fld F.THM_STAT_STEPS + 4 * s.fld F.THM_STAT_WARN + 8 * s.fld F.THM_STAT_CRIT
  done p (leBytes 2 (s.fld F.THM_TJ_TJ) ++ leBytes 1 (s.fld F.THM_TJ_HOT) ++ leBytes 1 flags ++
    leBytes 2 (s.fld F.THM_PEAK_PEAK) ++ leBytes 2 0 ++ leBytes 4 s.heldSeconds ++
    leBytes 4 (s.fld F.THM_CNT_TX_REFUSED)) s

def runThmStatus (p : Packet) (s : State) : State := mgtCommand 0xD001 (lenIs 0) allButCold opThmStatus p s

/-- PWR_STATUS. -/
def opPwrStatus (p : Packet) (s : State) : State :=
  done p ((List.range 10).flatMap (fun r => leBytes 4 (s.word (R.PWR_RAIL_MON r)).toNat) ++
    leBytes 2 (s.fld F.PWR_TOTAL_MW) ++ leBytes 2 (s.fld F.PWR_RAIL_FAULT_FAULT) ++ leBytes 4 0) s

def runPwrStatus (p : Packet) (s : State) : State := mgtCommand 0xD002 (lenIs 0) allButCold opPwrStatus p s

end Sys2Proof.Machine
end

