-- ==== Sys2Proof/Machine/Faults.lean ====
section
/-! DEFINITION. A calendar fault, memory faults, ring and PCI Express resets, and Ethernet frames that arrive (R46, R47,
R65, R340, R387 to R391, R448, R451, R562). -/

namespace Sys2Proof.Machine

/-! ### The calendar fault (R65) -/

/-- A class-L timer is disarmed by the fault. -/
def faultDisarm (s : State) (n : Nat) : State :=
  (s.setFlag (F.TMR_L_CTL_ARM n) false).setFlag (F.TMR_L_CTL_FAULT_DISARM n) true

/-- CAL_FAULT: the three copies as the voter finds them, all different. -/
def runCalFault (a b c : Quad) (s : State) : State :=
  if s.flag F.TMB_STAT_CAL_FAULT || a == b || a == c || b == c then s
  else
    let s := { s with cal.copyA := a, cal.copyB := b, cal.copyC := c }
    let s := s.setFlag F.TMB_STAT_CAL_FAULT true
    let s := s.setFld F.TMB_FAULT_A_COPY_LO a.toNat
    let s := s.setFld F.TMB_FAULT_B_COPY_LO b.toNat
    let s := s.setFld F.TMB_FAULT_C_COPY_LO c.toNat
    let s := abortAll RF_ABORTED { s with host.pps.out := false, host.pps.left := 0 }
    let s := abandonSlew ((List.range 32).foldl faultDisarm s)
    let s := post 0 sevFatal 0x0002 (arg8 b.toNat ++ arg8 c.toNat) s
    if s.fld F.PAR_STAT_MIRROR = 2 then releaseToBanked 6 s else s

/-! ### Host rings (R46, R47, R562) -/

/-- A ring reset and its record; what the ring held in resources is the caller's. -/
def ringResetCore (n : Nat) (s : State) : State :=
  let r := ringClear n s
  abandonOf 3 (0x80 + n) (0x80 + n) (post 32 sevRecovered 0x0103 (arg1 n ++ arg2 r.1) r.2)

/-- CMD_RINGn_CTL.RESET. -/
def ringReset (n : Nat) (s : State) : State := resVanishAll 1 (0x80 + n) (0x80 + n) (ringResetCore n s)

/-- A write of CMD_RINGn_CTL: its settings, then RESET, then EN. -/
def ringCtlWrite (n : Nat) (reset en : Bool) (v : Word) (s : State) : State :=
  let s := ringSettings n v s
  let s := if reset then ringReset n s else s
  if en then ringOn n s else ringOff n s

/-- RING_RESET, RING_ENABLE and RING_DISABLE: the rows' own bits are as the rows name them. -/
def runRingReset (n : Fin 16) (v : Word) (s : State) : State :=
  atReg (R.CMD_RING_CTL n.val) (ringCtlWrite n.val true ((F.CMD_RING_CTL_EN n.val).read v == 1) v) s
def runRingEnable (n : Fin 16) (v : Word) (s : State) : State :=
  atReg (R.CMD_RING_CTL n.val) (ringCtlWrite n.val ((F.CMD_RING_CTL_RESET n.val).read v == 1) true v) s
def runRingDisable (n : Fin 16) (v : Word) (s : State) : State :=
  atReg (R.CMD_RING_CTL n.val) (ringCtlWrite n.val ((F.CMD_RING_CTL_RESET n.val).read v == 1) false v) s

/-! ### PCI Express resets (R448) -/

/-- The MSI-X table is cleared, all vectors masked, and no message pends. -/
def msixClear (s : State) : State :=
  (List.range 64).foldl (fun s v =>
    let s := (s.setWord (msixEntry v) 0).setWord (msixEntry v + 4) 0
    let s := (s.setWord (msixEntry v + 8) 0).setWord (msixEntry v + 12) 1
    s.setFlag (msixPend v) false) s

/-- PCIE_RESET, with its kind: a Function Level Reset keeps the link. -/
def runPcieReset (kind : Fin 4) (s : State) : State :=
  if !s.hostUp then s
  else
    let s := s.setFlag F.PCI_LINK_BME false
    let s := if kind = 0 then s.count F.PCI_RESET_CNT_FLR 1
      else (s.setFlag F.PCI_LINK_UP false).count F.PCI_RESET_CNT_LINK 1
    let s := (List.range 16).foldl (fun s n => (ringResetCore n s).setFlag (F.CMD_RING_CTL_EN n) false) s
    let s := msixClear (dmaAllOff false s)
    post 32 sevInfo 0x1501 (arg1 kind.val) (resVanishAll 0 0x80 0x8F s)

/-! ### Memory faults (R381, R387, R391) -/

/-- Drop the first packet that waits for forwarding and that a test picks. -/
def dropIngress (pick : QItem → Bool) (s : State) : State :=
  match s.fwd.ingress.find? pick with
  | none => s
  | some it => freePages it.pages { s with fwd.ingress := s.fwd.ingress.erase it }

/-- The frame engine's read of a downlink: the frame goes with the rest of its datagram. -/
def dropDownlink (page : Nat) (s : State) : State :=
  match s.fwd.dlq.find? (fun (e : Nat × List DlFrame) => e.2.any (fun f => f.page == page)) with
  | none => s
  | some (id, l) =>
    match l.find? (fun f => f.page == page) with
    | none => s
    | some x =>
      let s := { s with frames.builds := s.frames.builds.filter (fun b => !(b.kind == .downlink && b.node == id)) }
      exchangeEnds id (dlqRemove id (fun f => f.dgram == x.dgram) s).2

/-- The encoder's read of source symbols (R364, R367): the frame is skipped; the sixteenth in succession aborts. -/
def encoderFault (s : State) : State :=
  let s := s.count F.ROL_ENC_CNT_ENC_ERR 1
  match s.frames.builds.find? (fun b => b.kind == .rollout) with
  | none => s
  | some b =>
    let x := s.camp b.ref
    let s := { s with frames.builds := s.frames.builds.erase b }
    let s := s.setCamp b.ref { x with encSkips := x.encSkips + 1, faults := x.faults + 1 }
    if 16 ≤ x.faults + 1 then campAbort b.ref 3 s else s

/-- The spill (R381): a write discards its frame; a restore frees the copy, and the attempt combines without it. -/
def spillFault (write : Bool) (shortId : Nat) (s : State) : State :=
  let mine (e : CombEntry) : Bool := e.shortId == shortId && e.spilled && e.frame.isSome == !write
  let s := { s with demod.comb := s.demod.comb.filter (fun e => !mine e) }
  if write then s else s.count F.MMU_SPILL_STAT_RESTORE_FAULT 1

/-- What a fault does to a requester that does not halt. -/
def faultEffect (r : Nat) (write : Bool) (ref : Nat) (s : State) : State :=
  if r = 0x07 then (s.setFlag F.LDG_BGC_CTL_EN false).setFlag F.LDG_BGC_STAT_RUNNING false
  else if r = 0x09 then (if write then { s with frames.rxq := s.frames.rxq.drop 1 } else dropDownlink ref s)
  else if r = 0x0A then dropIngress (fun it => it.pages.head? == some ref) s
  else if r = 0x0B then encoderFault s
  else if r = 0x0C then spillFault write ref s
  else if r = 0x34 ∨ r = 0x35 then dropIngress (fun it => it.ingress == r - 0x33 && it.pages.head? == some ref) s
  else if 0x30 ≤ r ∧ r ≤ 0x33 then dropIngress (fun it => it.ingress == 3 && it.pages.head? == some ref) s
  else s

/-- REF of a record: of packet requesters and the spill only (R393). -/
def faultRef (r ref : Nat) : Nat :=
  if r = 0x09 ∨ r = 0x0A ∨ r = 0x0C ∨ (0x30 ≤ r ∧ r ≤ 0x35) then ref else 0

/-- MEM_FAULT. -/
def runMemFault (r : Req) (f : FaultReport) (s : State) : State :=
  let q := r.toNat
  let cause := f.cause.val + 1
  if s.inMode [.cold] then s
  else if 0x10 ≤ q ∧ q ≤ 0x1F then dmaFaultReport (q - 0x10) f s
  else if q = 0x0E then (if s.ringReady then journalFault cause f.addr.toNat s else s)
  else
    let s := looseFault q cause f.write f.preempted (faultRef q f.ref) f.addr.toNat f.progress f.bursts s
    faultEffect q f.write f.ref s

/-! ### Ethernet (R333, R451, R454, R455) -/

/-- The frame carries an 802.1Q tag. -/
def ethTagged (frame : List Byte) : Bool := beAt frame 12 2 == 0x8100

/-- A MAC control frame, PAUSE included: discarded, and counted as FILTER (R450). -/
def macControl (frame : List Byte) : Bool := beAt frame (if ethTagged frame then 16 else 12) 2 == 0x8808

/-- The VID that a frame carries: 0 for an untagged or priority-tagged one. -/
def ethVid (frame : List Byte) : Nat := if ethTagged frame then beAt frame 14 2 % 4096 else 0

/-- The port's VID list. -/
def State.vidList (s : State) (p : Nat) : List Nat :=
  (List.range 4).flatMap (fun k => [s.fld (F.ETH_PORT_VID_VIDA p k), s.fld (F.ETH_PORT_VID_VIDB p k)])

/-- The destination is the port's own address, broadcast, or an IPv6 multicast address. -/
def State.ethMine (s : State) (p : Nat) (frame : List Byte) : Bool :=
  let own := leBytes 4 (s.word (R.ETH_PORT_MAC_LO p)).toNat ++ leBytes 2 (s.word (R.ETH_PORT_MAC_HI p)).toNat
  let dst := frame.take 6
  dst == own || dst == List.replicate 6 0xFF#8 || dst.take 2 == [0x33#8, 0x33#8]

/-- A 1588 message for the firmware's time queue; an event message has its timestamp with it. -/
def ethTime (p : Nat) (frame : List Byte) (o : Nat) (stamp : Quad) (s : State) : State :=
  let event := ptpEvent frame o
  let t := adjusted stamp (s.sfld (F.ETH_PORT_TS_ADJ_RX_ADJ p))
  let it : QItem :=
    { pages := [], data := frame, ingress := 1 + p, orig := broadcastId, time := s.now,
      ref := if event then t.toNat + (if s.taints then 2 ^ 64 else 0) else 0 }
  let s := if event then s.wrapCount (F.ETH_PORT_TS_COUNT p) 1 else s
  (queuePush 42 it (s.wrapCount (F.ETH_PORT_RX_OK_OK p) 1)).2

/-- A frame for forwarding: the packet after its Ethernet header. -/
def ethForward (p vid : Nat) (frame : List Byte) (s : State) : State :=
  let head := if ethTagged frame then 18 else 14
  let data := (frame.take (frame.length - 4)).drop head
  let s := s.wrapCount (F.ETH_PORT_RX_OK_OK p) 1
  match allocPages true (pagesFor data.length) s with
  | none => s.count F.FWD_DROP3_NO_BUF 1
  | some (ps, s) =>
    let it : QItem :=
      { pages := ps, data := data, ingress := 1 + p, orig := broadcastId, time := s.now,
        ref := beAt frame (head - 2) 2 + 65536 * vid }
    { writePages ps data s with fwd.ingress := s.fwd.ingress ++ [it] }

/-- The key under which the sender of a frame is learned, if its address is unicast (R333). -/
def ethKey (vid : Nat) (frame : List Byte) : Option Nat :=
  let src := sliceBytes frame 6 6
  if leAt src 0 1 % 2 = 1 then none else some (leNat src + 2 ^ 48 * vid)

/-- The lookup of a frame's sender meets an uncorrectable error: the frame is dropped (R344). -/
def State.ethLookupBad (s : State) (vid : Nat) (frame : List Byte) : Bool :=
  match ethKey vid frame with
  | some k => s.bntBad k
  | none => false

/-- The port learns the sender of a frame received without error (R333). -/
def ethLearn (p vid : Nat) (frame : List Byte) (s : State) : State :=
  match ethKey vid frame with
  | some k => bntLearn p k s
  | none => s

/-- ETH_FRAME_RX: the frame with its FCS; the first rule of R451 that applies decides. -/
def runEthFrameRx (p : Fin 2) (frame : List Byte) (fcsOk : Bool) (stamp : Quad) (s : State) : State :=
  let q := p.val
  if !s.flag (F.ETH_PORT_CTL_EN q) || !s.flag (F.ETH_PORT_STAT_LINK q) || !s.inMode radioModes then s
  else if !fcsOk then s.count (F.ETH_PORT_RX_DROP0_FCS q) 1
  else if frame.length < 64 ∨ s.fld F.FWD_CTL_ETH_MTU + 22 < frame.length then s.count (F.ETH_PORT_RX_DROP0_SIZE q) 1
  else
    let pvid := s.fld (F.ETH_PORT_VLAN_PVID q)
    let tag := ethVid frame
    let vid := if tag = 0 then pvid else tag
    let s := ethLearn q vid frame s
    if macControl frame then s.count (F.ETH_PORT_RX_DROP1_FILTER q) 1
    else if s.ethLookupBad vid frame then s
    else if vid = 0 ∨ (tag ≠ 0 ∧ tag ≠ pvid ∧ (s.vidList q).contains tag = false) then s.count (F.ETH_PORT_RX_DROP1_VLAN q) 1
    else match ptpOffset frame with
      | some o => ethTime q frame o stamp s
      | none =>
        if s.ethMine q frame && s.inMode [.service, .test] then ethForward q vid frame s
        else s.count (F.ETH_PORT_RX_DROP1_FILTER q) 1

end Sys2Proof.Machine
end

