-- ==== Sys2Proof/Machine/Registers.lean ====
section
/-! DEFINITION. Writes of registers: the access codes (R14), locks (R561), what a write of a register does
beyond its fields, and the counter-clear registers. -/

namespace Sys2Proof.Machine

/-! ### The register map -/

/-- The member of an indexed family that an offset names. -/
def member (base stride count off : Nat) : Option Nat :=
  if base ≤ off ∧ (off - base) % stride = 0 ∧ (off - base) / stride < count then some ((off - base) / stride)
  else none

/-- An offset is that of a member of a register family. -/
def RegDesc.covers (d : RegDesc) (off : Nat) : Bool :=
  match d.idx with
  | [] => off == d.off
  | [(a, n)] => (member d.off a n off).isSome
  | (a, n) :: (b, m) :: _ => (List.range n).any (fun i => (member (d.off + a * i) b m off).isSome)

/-- The register at an offset, where there is one (R554). -/
def findReg (off : Nat) : Option RegDesc := (regsOfBlock (off / 0x10000)).find? (fun d => d.covers off)

/-! ### Access codes (R14, R561) -/

/-- The lock of a register's LK fields is set: bit 31 of its lock register. -/
def State.locked (s : State) (d : RegDesc) : Bool := (s.word d.lockOff).getLsbD 31

/-- What a write leaves in a register: RW fields take the value, FW fields from the firmware only, LK fields
while their lock is clear; a 1 clears W1C bits and sets W1S bits. Other bits keep their value. -/
def RegDesc.written (d : RegDesc) (fw locked : Bool) (old v : Word) : Word :=
  let mask := d.rw ||| (if fw then d.fw else 0) ||| (if locked then 0 else d.lk)
  (((old &&& ~~~mask) ||| (v &&& mask)) &&& ~~~(v &&& d.w1c)) ||| (v &&& d.w1s)

/-- A write under the access codes alone. -/
def plainWrite (w : Writer) (off : Nat) (v : Word) (s : State) : State :=
  atReg off (fun s =>
    match findReg off with
    | some d => s.setWord off (d.written (writerIsFirmware w) (s.locked d) (s.word off) v)
    | none => s) s

/-- An act that a write of an FW field stands for. -/
def byFirmware (w : Writer) (off : Nat) (act : State → State) (s : State) : State :=
  if writerIsFirmware w then atReg off act s else s

/-! ### Counter-clear registers -/

/-- Clear the registers whose bits are set: pairs of a bit and an offset. -/
def clearRegs (v : Word) (l : List (Nat × Nat)) (s : State) : State :=
  l.foldl (fun s e => if v.getLsbD e.1 then s.setWord e.2 0 else s) s

/-- Bits `0 … n − 1` clear the registers from an offset on. -/
def bitsFrom (off n : Nat) : List (Nat × Nat) := (List.range n).map (fun i => (i, off + 4 * i))

/-- What each counter-clear register clears. -/
def clearMap (off : Nat) : List (Nat × Nat) :=
  if off = 0x030014 then
    (List.range 4).map (fun n => (n, 0x030114 + 32 * n)) ++ (List.range 4).map (fun n => (4 + n, 0x030204 + 32 * n))
  else if off = 0x040030 then (8, 0x040008) :: (List.range 8).map (fun b => (b, 0x040010 + 4 * b))
  else if off = 0x050020 then bitsFrom 0x050010 4
  else if off = 0x06002C then [(0, 0x060008), (1, 0x06000C), (2, 0x060010), (3, 0x060028)]
  else if off = 0x08006C then bitsFrom 0x080040 11
  else if off = 0x090034 then bitsFrom 0x090010 9
  else if off = 0x0B0020 then [(0, 0x0B0014), (0, 0x0B0018), (1, 0x0B001C)]
  else if off = 0x0C0080 then bitsFrom 0x0C0010 4 ++ [(4, 0x0C0034), (5, 0x0C0038), (6, 0x0C003C)]
  else if off = 0x0D003C then bitsFrom 0x0D0020 7
  else if off = 0x11002C then bitsFrom 0x110020 3
  else if off = 0x140020 then bitsFrom 0x140018 2 ++ (List.range 4).map (fun p => (2 + p, 0x14010C + 16 * p))
  else if off = 0x150028 then [(0, 0x150014), (0, 0x15001C)]
  else if off = 0x160008 then
    (List.range 2).flatMap (fun p => (List.range 5).map (fun k => (p, 0x160128 + 256 * p + 4 * k)))
  else []

/-- COUNTER_CLEAR_WRITE. EVJ_CLR clears counters too. -/
def runCounterClearWrite (_w : Writer) (off : BitVec 24) (v : Word) (s : State) : State :=
  if off.toNat = R.EVJ_CLR then evjClrWrite v s else atReg off.toNat (clearRegs v (clearMap off.toNat)) s

/-! ### Registers whose writes act -/

/-- Timers and captures: the holder writes (R87). -/
def writeTmr (w : Writer) (off : Nat) (v : Word) (s : State) : State :=
  let l := (off - 0x020100) / 16
  let i := (off - 0x020400) / 32
  let c := (off - 0x020600) / 16
  if off = R.TMR_L_INT then runTmrLIntWrite w false v s
  else if off = R.TMR_L_IE then runTmrLIntWrite w true v s
  else if 0x020100 ≤ off ∧ off < 0x020300 then
    if off = R.TMR_L_CMP l then runTmrLCmpWrite w (Fin.ofNat 32 l) v s
    else if off = R.TMR_L_CTL l then
      if v.getLsbD 0 then runTmrLRearm w (Fin.ofNat 32 l) s else runTmrLDisarm w (Fin.ofNat 32 l) s
    else if off = R.TMR_L_PERIOD l then tmrOwned w (0x0500 + l) off (fun s => s.setWord off v) s
    else s
  else if 0x020400 ≤ off ∧ off < 0x020500 then
    if off = R.TMR_I_CTL i then runTmrICtlWrite w (Fin.ofNat 8 i) v s
    else if off = R.TMR_I_PRESC i then runTmrIPrescWrite w (Fin.ofNat 8 i) v s
    else if off = R.TMR_I_COUNT i then runTmrICountWrite w (Fin.ofNat 8 i) v s
    else if off = R.TMR_I_CMP i then runTmrICmpWrite w (Fin.ofNat 8 i) v s
    else if off = R.TMR_I_STAT i then tmrIStatWrite w i v s
    else s
  else if 0x020600 ≤ off ∧ off < 0x020700 then
    if off = R.TMR_CAP_CTL c then capCtlWrite w c v s
    else if off = R.TMR_CAP_STAT c then capStatWrite w c v s
    else s
  else s

/-- The radio front end: values that the channel plan rests on make it due (R234). -/
def writeRfe (w : Writer) (off : Nat) (v : Word) (s : State) : State :=
  if off = R.RFE_REG_TIGHTEN_A then runRfeRegTightenA v s
  else if off = R.RFE_REG_TIGHTEN_B then runRfeRegTightenB v s
  else if off = 0x030010 ∨ (0x030020 ≤ off ∧ off < 0x030030) then
    atReg off (fun s => { s with sched.planDue := true }) (plainWrite w off v s)
  else match member (R.RFE_TX_SEQ 0) 0x20 4 off with
    | some n => if txIdle < s.txState n then s else plainWrite w off v s
    | none => plainWrite w off v s

/-- The channelizer: a write of TRIM by the firmware waits for the block boundary (R143). -/
def writeChz (w : Writer) (off : Nat) (v : Word) (s : State) : State :=
  match member (R.CHZ_CH_TRIM 0) 16 256 off with
  | some n => byFirmware w off (trimWrite n (v.truncate 16)) s
  | none => plainWrite w off v s

/-- The Ledger: windows 1 to 3 take writes of the firmware only. -/
def writeLdg (w : Writer) (off : Nat) (v : Word) (s : State) : State :=
  let win := (off - 0x0C0100) / 256
  if off = R.LDG_BGC_CTL then runBgcCtlWrite v s
  else if off = R.LDG_MMF_POP then runLdgMmfPop v s
  else if 0x0C0100 ≤ off then
    if off = R.LDG_CMD win then ldgCmdWrite w win v s
    else if win ≠ 0 ∧ writerIsFirmware w = false then s
    else plainWrite w off v s
  else plainWrite w off v s

/-- Forwarding: a FWD_HOSTQ whose queues would pass QID 15 is ignored. -/
def writeFwd (w : Writer) (off : Nat) (v : Word) (s : State) : State :=
  if off = 0x0D000C ∧ 15 < v.toNat % 16 + bitsOf v.toNat 7 4 then s else plainWrite w off v s

/-- The buffer MMU: RAW windows belong to their holders. -/
def writeMmu (w : Writer) (off : Nat) (v : Word) (s : State) : State :=
  if off = R.MMU_FLT_CTL then runFltRingResize v s
  else if off = R.MMU_FLT_CI then runMmuFltCiWrite v s
  else if off = F.MMU_LOW_WATER_LOW_WATER.off then
    atReg off (fun s => if v.getLsbD 31 then s.setFld F.MMU_LOW_WATER_LOW_WATER s.freePages else s) s
  else if 0x0F0080 ≤ off ∧ off < 0x0F00A0 then
    busOwned w (0x0800 + (off - 0x0F0080) / 8) off (plainWrite w off v) s
  else plainWrite w off v s

def writeDma (w : Writer) (off : Nat) (v : Word) (s : State) : State :=
  let n := (off - 0x100100) / 64
  if 0x100100 ≤ off ∧ off < 0x100500 ∧ off = R.DMA_CH_CTL n then atReg off (dmaCtlWrite n v) s
  else if 0x100100 ≤ off ∧ off < 0x100500 ∧ off = R.DMA_CH_PI n then runDmaPiWrite (Fin.ofNat 16 n) v s
  else plainWrite w off v s

def writeArb (w : Writer) (off : Nat) (v : Word) (s : State) : State :=
  if off = R.ARB_QUOTA then runArbQuotaWrite [] v s
  else match member 0x110100 4 7 off with
    | some k => runArbPrioWrite [] (Fin.ofNat 7 k) v s
    | none => plainWrite w off v s

/-- Queues: QUE_LEVEL is that of the queue in QUE_SEL; QID 32 to 63 have none. -/
def writeQue (w : Writer) (off : Nat) (v : Word) (s : State) : State :=
  if off = 0x120014 then runQueDrop v s
  else if off = 0x120004 then
    atReg off (fun s =>
      let q := s.fld F.QUE_SEL_QID
      if 32 ≤ q then s
      else s.setQueue q { s.queue q with level := v.toNat % 65536, levelIe := v.getLsbD 16 }) s
  else plainWrite w off v s

/-- Rings: base addresses take writes only while EN is 0 (R56). -/
def writeCmd (w : Writer) (off : Nat) (v : Word) (s : State) : State :=
  let n := (off - 0x130100) / 32
  if 0x130100 ≤ off ∧ off < 0x130300 then
    if off = R.CMD_RING_CTL n then atReg off (ringCtlWrite n (v.getLsbD 2) (v.getLsbD 0) v) s
    else if s.flag (F.CMD_RING_CTL_EN n) then s
    else plainWrite w off v s
  else plainWrite w off v s

/-- The fabric: a port that is disabled goes DOWN (R404). -/
def writeZfb (w : Writer) (off : Nat) (v : Word) (s : State) : State :=
  let s' := plainWrite w off v s
  if off = F.ZFB_CTL_PORT_EN.off then
    atReg off (fun s => (List.range 4).foldl (fun s p =>
      if s.bit F.ZFB_CTL_PORT_EN p || s.portState p == portDown then s else linkLost p portDown s) s) s'
  else s'

def writePar (w : Writer) (off : Nat) (v : Word) (s : State) : State :=
  if off = F.PAR_CTL_AUTO_CLAIM.off then byFirmware w off (parCtlWrite v) s
  else if off = R.PAR_WDT then byFirmware w off (runPairWdtKick v) s
  else plainWrite w off v s

/-- Ethernet: the laser follows EN (R453); the SFP buses belong to their holders. -/
def writeEth (w : Writer) (off : Nat) (v : Word) (s : State) : State :=
  if off = 0x160100 ∨ off = 0x160200 then
    byFirmware w off (fun s =>
      let p := (off - 0x160100) / 256
      let s := plainWrite w off v s
      let s := if s.flag (F.ETH_PORT_CTL_EN p) then
          s.setEthPort p { s.ethPort p with faultSeen := s.flag (F.ETH_PORT_STAT_TX_FAULT p) }
        else s
      setLaser p s) s
  else if 0x160400 ≤ off then
    let b := (off - 0x160400) / 16
    if off = R.ETH_I2C_CMD b ∧ b < 2 then runEthI2cTransaction w (Fin.ofNat 2 b) v s
    else if off = R.ETH_I2C_DATA b ∧ b < 2 then busOwned w (0x0A00 + b) off (fun s => s.setWord off v) s
    else s
  else plainWrite w off v s

/-- The MSI-X table (R449): address, data, and the mask bit, whose clearing sends a pending message. -/
def writePci (w : Writer) (off : Nat) (v : Word) (s : State) : State :=
  if 0x178000 ≤ off ∧ off < 0x178400 then
    let n := (off - 0x178000) / 16
    if off % 16 = 12 then
      if v.getLsbD 0 then atReg off (fun s => s.setFlag (msixMask n) true) s
      else atReg off (runMsixUnmask (Fin.ofNat 64 n)) s
    else atReg off (fun s => s.setWord off (if off % 16 = 0 then v &&& 0xFFFFFFFC#32 else v)) s
  else plainWrite w off v s

def writeMgt (w : Writer) (off : Nat) (v : Word) (s : State) : State :=
  if off = R.MGT_GPIO_OUT then gpioOutWrite w v s
  else if off = 0x180100 then runMgtIntClear v s
  else if off = R.MGT_QSPI_CMD then runMgtQspiOp w v s
  else if off = 0x180044 ∨ (0x180080 ≤ off ∧ off < 0x1800C0) then
    busOwned w 0x0900 off (plainWrite w off v) s
  else match member 0x180010 4 3 off with
    | some k => runMgtGpioFuncWrite w (Fin.ofNat 3 k) v s
    | none => plainWrite w off v s

/-- The journal: a write of the level checks it at once (R527). -/
def writeEvj (w : Writer) (off : Nat) (v : Word) (s : State) : State :=
  if off = R.EVJ_CTL then evjCtlWrite v s
  else if off = R.EVJ_RD then runEvjRdWrite v s
  else if off = R.EVJ_CLR then evjClrWrite v s
  else if off = F.EVJ_LEVEL_LEVEL.off then atReg off levelCheck (plainWrite w off v s)
  else plainWrite w off v s

/-- External persistence (R276 to R278). -/
def writeNvs (w : Writer) (off : Nat) (v : Word) (s : State) : State :=
  if off = F.NVS_CTR_CTL_EXT_PERSIST.off then atReg off (extPersistWritten s.extPersist) (plainWrite w off v s)
  else plainWrite w off v s

/-- A write of a whole word to an offset. -/
def writeWord (w : Writer) (off : Nat) (v : Word) (s : State) : State :=
  if clearMap off ≠ [] then atReg off (clearRegs v (clearMap off)) s
  else match off / 0x10000 with
    | 0x02 => writeTmr w off v s
    | 0x03 => writeRfe w off v s
    | 0x04 => writeChz w off v s
    | 0x07 => if off = F.LNS_CTL_RUN.off then byFirmware w off (laneCtlWrite (v.toNat % 65536)) s
      else plainWrite w off v s
    | 0x0C => writeLdg w off v s
    | 0x0D => writeFwd w off v s
    | 0x0F => writeMmu w off v s
    | 0x10 => writeDma w off v s
    | 0x11 => writeArb w off v s
    | 0x12 => writeQue w off v s
    | 0x13 => writeCmd w off v s
    | 0x14 => writeZfb w off v s
    | 0x15 => writePar w off v s
    | 0x16 => writeEth w off v s
    | 0x17 => writePci w off v s
    | 0x18 => writeMgt w off v s
    | 0x19 =>
      if off = F.THM_PEAK_PEAK.off then
        atReg off (fun s => if v.getLsbD 31 then s.setFld F.THM_PEAK_PEAK (s.fld F.THM_TJ_TJ) else s) s
      else plainWrite w off v s
    | 0x1B => writeNvs w off v s
    | 0x1E => if off = 0x1E0014 then runStpBootDoorbell v s else plainWrite w off v s
    | 0x1F => writeEvj w off v s
    | _ => plainWrite w off v s

/-- REGISTER_WRITE: a write with partial byte enables is ignored (R555). -/
def runRegisterWrite (w : Writer) (off : BitVec 24) (wholeWord : Bool) (v : Word) (s : State) : State :=
  if wholeWord then writeWord w off.toNat v s else s

/-- LOCK_SET: a write with LOCK = 1 to a register that has a LOCK bit. LK fields of the write that sets the lock
still take its values. -/
def runLockSet (w : Writer) (off : BitVec 24) (v : Word) (s : State) : State :=
  match findReg off.toNat with
  | some d => if d.w1s.getLsbD 31 then writeWord w off.toNat (v ||| 0x80000000#32) s else s
  | none => s

end Sys2Proof.Machine
end

