-- ==== Sys2Proof/Machine/Start.lean ====
section
/-! DEFINITION. Starting a ready command: the operation that its opcode names (R34, R36 to R39). -/

namespace Sys2Proof.Machine

/-- The operations of classes 0x0 to 0x5. -/
def startOpA (p : Packet) (s : State) : State :=
  match p.opcode.toNat with
  | 0x0001 => runCmdNop p s
  | 0x0002 => runCmdCancel p s
  | 0x0003 => runCmdSchedQuery p s
  | 0x0010 => runModeReq p s
  | 0x0011 => runModeStatus p s
  | 0x0012 => runSysReset p s
  | 0x0013 => runBootListWrite p s
  | 0x1001 => runTimeRead p s
  | 0x1002 => runTimeResync p s
  | 0x1003 => runTimeSlew p s
  | 0x2001 => runRadioSpanSet p s
  | 0x2002 => runRadioTxConfig p s
  | 0x2003 => runRadioCal p s
  | 0x2004 => runRadioRegLoad p s
  | 0x2005 => runRadioRegRead p s
  | 0x3001 => runPhyChanSet p s
  | 0x3002 => runPhyChanRead p s
  | 0x3003 => runPhyCapture p s
  | 0x3004 => runPhyCaptureRead p s
  | 0x3010 => runPhyProfileLoad p s
  | 0x3011 => runPhyProfileRead p s
  | 0x4001 => runMacAlmanacSet p s
  | 0x4002 => runMacHeraldSet p s
  | 0x4003 => runMacChmapSet p s
  | 0x4004 => runMacAssocSet p s
  | 0x4005 => runMacAssocDrop p s
  | 0x4006 => runMacNodeTiming p s
  | 0x4007 => runMacTimingSet p s
  | 0x4008 => runMacLedgerRead p s
  | 0x5001 => runSchedEnvelopeSet p s
  | 0x5002 => runSchedEnvelopeRead p s
  | 0x5003 => runSchedStatus p s
  | 0x5004 => runSchedNodeView p s
  | _ => reply p St.BAD_OPCODE [] s

/-- The operations of classes 0x6 to 0x8. -/
def startOpB (p : Packet) (s : State) : State :=
  match p.opcode.toNat with
  | 0x6001 => runKeyOrkProvision p s
  | 0x6002 => runKeyDkLoad p s
  | 0x6003 => runKeyLoad p s
  | 0x6004 => runKeyEpochPrepare p s
  | 0x6005 => runKeyEpochStatus p s
  | 0x6006 => runKeyZap p s
  | 0x6007 => runKeySlotInfo p s
  | 0x6101 => runCtrQuery p s
  | 0x6102 => runCtrResvFetch p s
  | 0x6103 => runCtrResvAck p s
  | 0x6104 => runCtrRestore p s
  | 0x7001 => runLdgAccess p s
  | 0x7002 => runLdgLock p s
  | 0x7003 => runLdgUnlock p s
  | 0x7004 => runLdgLearnSet p s
  | 0x7005 => runLdgMismatchRead p s
  | 0x8001 => runFwdRouteSet p s
  | 0x8002 => runFwdRouteRead p s
  | 0x8003 => runFwdCfgSet p s
  | 0x8004 => runFwdDlqFlush p s
  | 0x8101 => runFrmCfgSet p s
  | 0x8102 => runFrmCtxSet p s
  | _ => reply p St.BAD_OPCODE [] s

/-- The operations of classes 0x9 to 0xC. -/
def startOpC (p : Packet) (s : State) : State :=
  match p.opcode.toNat with
  | 0x9001 => runRolCampaignSet p s
  | 0x9002 => runRolTarget p s
  | 0x9003 => runRolStart p s
  | 0x9004 => runRolStop p s
  | 0x9005 => runRolStatus p s
  | 0xA001 => runBufPoolSet p s
  | 0xA002 => runBufStatus p s
  | 0xB001 => runFabCfgSet p s
  | 0xB002 => runFabStatus p s
  | 0xB003 => runFabHandover p s
  | 0xB004 => runPairCfg p s
  | 0xB005 => runPairSwitch p s
  | 0xB006 => runPairStatus p s
  | 0xC001 => runResClaim p s
  | 0xC002 => runResRelease p s
  | 0xC003 => runResQuery p s
  | 0xC010 => runEthPortSet p s
  | 0xC020 => runPpsSet p s
  | _ => reply p St.BAD_OPCODE [] s

/-- The operations of classes 0xD to 0xF. -/
def startOpD (p : Packet) (s : State) : State :=
  match p.opcode.toNat with
  | 0xD001 => runThmStatus p s
  | 0xD002 => runPwrStatus p s
  | 0xF001 => runBootRecoveryLoad p s
  | 0xF101 => runAttest p s
  | 0xF102 => runDbgOpen p 0 s
  | 0xF103 => runDbgLockout p s
  | 0xF201 => runRegBurn p s
  | 0xF301 => runJournalAonRead p s
  | _ => reply p St.BAD_OPCODE [] s

/-- Run the operation of a command that has started. -/
def startOp (p : Packet) (s : State) : State :=
  if p.cls < 6 then startOpA p s else if p.cls < 9 then startOpB p s else if p.cls < 13 then startOpC p s else startOpD p s

/-- COMMAND_START: the command of the class that R36 to R38 put first leaves its queue and runs. A debug open that
starts here reads its fuses back as burned. -/
def runCommandStart (cls : Fin 16) (s : State) : State :=
  match s.nextStart cls.val with
  | some w =>
    match s.queueBroken w with
    | some q => queueFault q s
    | none =>
      let s := startOp w.pkt { takeReady w s with interp.starting := some w.seq }
      { s with interp.starting := none }
  | none => s

end Sys2Proof.Machine
end

