-- ==== Sys2Proof/Machine/Tick.lean ====
section
/-! DEFINITION. What a tick brings whatever is commanded: the counts (R61 to R70, R78, R79, R434, R456), due
actions of the governor (R512), and work that is carried on (R196, R385, R407, R443, R460). -/

namespace Sys2Proof.Machine

/-- `k` edges of MGT_CLK: the class-I timers, and a pulse on PPS_OUT (R79, R456). -/
def mgtEdges (k : Nat) (s : State) : State :=
  if !s.timersRun then s
  else
    let s := (List.range 8).foldl (fun s n => edgeI n k s) s
    if !s.host.pps.out then s
    else if s.host.pps.left ≤ k then { s with host.pps.out := false, host.pps.left := 0 }
    else { s with host.pps.left := s.host.pps.left - k }

/-- A MAC_CLK tick is every second one's MGT_CLK edge. -/
def mgtTick (s : State) : State :=
  let s' := { s with cal.mgtHalf := !s.cal.mgtHalf }
  if s.cal.mgtHalf then mgtEdges 1 s' else s'

/-- This tick ends a SLOW_CLK period. -/
def State.slowEdgeNow (s : State) : Bool := s.flag F.CLK_STAT_SLOW_OK && decide (234375 ≤ s.cal.slowAcc + 64)

/-- SLOW_CLK while MAC_CLK counts: PHASE advances at its edges (R67). -/
def slowWhileMac (s : State) : State :=
  if !s.flag F.CLK_STAT_SLOW_OK then s
  else if !s.slowEdgeNow then { s with cal.slowAcc := s.cal.slowAcc + 64 }
  else
    let s := s.setFld F.TMB_STAT_PHASE (slowStep (s.fld F.TMB_STAT_PHASE)).2
    gatherI 3 1 { s with cal.slowAcc := s.cal.slowAcc + 64 - 234375 }

/-- A free line is seen high for one more tick (R434). -/
def lineHigh (s : State) : State :=
  if s.flag F.PAR_STAT_ARMED && s.flag F.PAR_STAT_LINE then { s with pairU.high := s.pairU.high + 1 } else s

/-- In SERVICE the error of SLOW_CLK is measured over each second (R68): what it measures is open. -/
def slowErr (s : State) : State :=
  if s.inMode [.service] && s.flag F.CLK_STAT_SLOW_OK && s.now % 120000000 == 0 then
    let r := s.draw
    r.2.setFld F.TMB_SLOW_ERR_PPB r.1
  else s

/-- One MAC_CLK tick. The tick at which S0 lies is no longer counted: the slow advance begins (R69). -/
def macTick (s : State) : State :=
  match s.slowEdgeNow, s.cal.slowPend with
  | true, some why => mgtTick (slowBegin why (slowWhileMac s))
  | _, _ =>
    let r := macIncrement s
    let s := slowErr (slowWhileMac (lineHigh (addTicks r.1 r.2)))
    mgtTick (landings false (gatherI 4 r.1 s))

/-- One SLOW_CLK edge of the slow advance: MGT_CLK has an edge on every second of the ticks it stands for, and MAC_CLK
has been stable for that long if it was ready all the time (R70). -/
def slowTick (s : State) : State :=
  let inc := (slowStep (s.fld F.TMB_STAT_PHASE)).1
  let total := inc + (if s.cal.mgtHalf then 1 else 0)
  let s := landings true (gatherI 3 1 (gatherI 4 inc (slowEdge s)))
  mgtEdges (total / 2) { s with cal.mgtHalf := total % 2 == 1, cal.stable := if s.macReady then s.cal.stable + inc else 0 }

/-- A MAC_CLK cycle of the slow advance without SLOW_CLK: CALCNT holds, and MAC_CLK has been stable for one cycle
more (R70). -/
def heldTick (s : State) : State := mgtTick { s with cal.stable := s.cal.stable + 1 }

/-- SLOW_EXIT (R70): due while the slow advance is in use, once MAC_CLK has been stable for 64 cycles. At Sx, a SLOW_CLK
edge like the others, the slow increment is added; without SLOW_CLK none. -/
def runSlowExit (s : State) : State :=
  if s.flag F.TMB_STAT_SLOW && s.macReady && 64 ≤ s.cal.stable then
    let s := if s.flag F.CLK_STAT_SLOW_OK then slowTick s else s
    let s := (s.setFlag F.TMB_STAT_SLOW false).setFld F.TMB_STAT_SLOW_WHY 0
    post 0 sevInfo 0x0007 [] { s with cal.slowAcc := 0 }
  else s

/-! ### Zoant ports (R404, R407) -/

/-- A frame may leave a port in the port's state: all classes in UP, HELLO and CTRL in LOWPOWER, and before that HELLO
and the boot messages of chips without a district. -/
def mayLeave (st : Nat) (f : ZFrame) : Bool :=
  if st = portUp then true
  else if st = portLow then f.cls ≤ 1
  else if st = portHello ∨ st = portForeign then f.cls == 0 || (f.cls == 4 && zHop f)
  else false

/-- The class that leaves next: strict priority, but one BULK frame after 16 DATA frames while both wait. -/
def nextClass (dataRun : Nat) (cls : List Nat) : Option Nat :=
  match [0, 1, 2, 3, 4].find? (fun c => cls.contains c) with
  | some 3 => if 16 ≤ dataRun ∧ cls.contains 4 = true then some 4 else some 3
  | c => c

/-- Ticks that a frame takes on the lane at 10 Gb/s (R403). -/
def zTicks (f : ZFrame) : Nat := ((f.len + 12) * 96 + 999) / 1000

/-- The frame of a class that is next at a port, if there is one. -/
def State.firstOut (s : State) (p c : Nat) : Option ZOut :=
  (s.zport p).txq.find? (fun o => o.frame.cls == c && mayLeave (s.portState p) o.frame)

/-- The neighbour's receiver has the credit that a frame takes (R408). -/
def State.credited (s : State) (p : Nat) (f : ZFrame) : Bool :=
  (s.zport p).used.get 0 f.cls + (zCells f) ≤ classCredit f.cls

/-- A frame of a reliable class waits for its acknowledgement from the tick at which it leaves (R409). -/
def sentNow (o : ZOut) (s : State) : State :=
  if o.via.isNone then
    { s with zoant.unacked := s.zoant.unacked.map (fun u => if u.frame = o.frame then { u with sentAt := s.now } else u) }
  else s

/-- One frame leaves a port whose lane is free: of the classes whose next frame has credit, the first (R407, R408). -/
def portDrain (p : Nat) (s : State) : State :=
  let z := s.zport p
  let next := [0, 1, 2, 3, 4].filterMap (s.firstOut p)
  let ready := (next.filter (fun o => s.credited p o.frame)).map (·.frame.cls)
  if s.now < z.freeAt then s
  else match nextClass z.dataRun ready with
    | none => s
    | some c =>
      match s.firstOut p c with
      | none => s
      | some o =>
        let f := o.frame
        let run := if c = 3 ∧ next.any (fun x => x.frame.cls == 4) = true then z.dataRun + 1 else 0
        let s := s.setZport p { z with
          txq := z.txq.erase o, dataRun := run, sent := z.sent + 1, freeAt := s.now + zTicks f,
          used := z.used.set 0 c (z.used.get 0 c + (zCells f)) }
        sentNow o (outDrop o s)

/-- The fabric's work of a tick: each port sends, and what waited for the interpreter is taken (R49, R407, R408). -/
def fabricTick (s : State) : State :=
  let s := (List.range 4).foldl (fun s p => portDrain p s) s
  releaseHeld s.zoant.rxHeld.length (cellsBack s)

/-! ### The console (R460) -/

/-- Bits per second of a RATE code. -/
def uartRate (code : Nat) : Nat :=
  if code = 1 then 230400 else if code = 2 then 460800 else if code = 3 then 921600 else if code = 4 then 1000000
  else 115200

/-- The transmitter works for `n` ticks: ten bits per character. -/
def uartDrain (n : Nat) (s : State) : State :=
  if s.host.uart = 0 then { s with host.uartAcc := 0 }
  else
    let acc := s.host.uartAcc + n * uartRate (s.fld F.MGT_UART_CFG_RATE)
    { s with host.uart := s.host.uart - acc / 1200000000, host.uartAcc := acc % 1200000000 }

/-! ### Windows that transmissions blank (R198) -/

/-- The branches that a stream holds now. -/
def State.heldBranches (s : State) (n : Nat) : List Bool :=
  let st := s.chState n
  if st = stSingle then [s.primaryB n]
  else if st = stDual then [false, true]
  else if st = stLocked then [s.flag (F.CHZ_CH_STAT_BRANCH n)]
  else []

/-- Every branch that an event's streams hold is blank-marked now, and there is one. -/
def State.allBlank (s : State) (e : RxEvent) : Bool :=
  e.chans.any (fun n => !(s.heldBranches n).isEmpty) &&
    e.chans.all (fun n => (s.heldBranches n).all (fun b => s.blankNow (s.streamPair n) b))

/-- What a tick of its window does to an event's outcome: every branch blank-marked, the channel not served, a calendar
fault or the time before the resume round after one (R198, R209). -/
def markWindows (s : State) : State :=
  mapAllEvents (fun e => decide (e.lo ≤ s.now ∧ s.now ≤ e.hi)) (fun e =>
    { e with obstructed := e.obstructed || s.allBlank e, unserved := e.unserved || !s.served e.ch,
             skip := e.skip || s.flag F.TMB_STAT_CAL_FAULT || decide (e.hi < s.mac.txResume) }) s

/-! ### The whole -/

/-- The firmware takes the item at the head of one of its queues: exceptions (QID 41), IEEE 1588 messages (QID 42). -/
def firmwareTakes (q : Nat) (s : State) : State :=
  if !s.coresWork || (s.queue q).items.isEmpty then s
  else match queuePop q s with
    | (some it, s) => freePages it.pages s
    | (none, s) => s

/-- The firmware takes the oldest transmit timestamp of each port (R455). -/
def stampsTaken (s : State) : State :=
  if !s.coresWork then s
  else (List.range 2).foldl (fun s p =>
    let e := s.ethPort p
    if e.stamps.isEmpty then s else s.setEthPort p { e with stamps := e.stamps.drop 1 }) s

/-- Work that goes on at every tick. -/
def carryOn (s : State) : State :=
  let s := calAdvance (govDue s)
  let s := fabricTick s
  let s := stampsTaken (firmwareTakes 42 (firmwareTakes 41 s))
  let s := (List.range 16).foldl (fun s n => if s.dmaState n = dmaActive then dmaRetry n s else s) s
  switchAdvance s

/-- One tick of the clock that runs: MAC_CLK, in the slow advance SLOW_CLK; none while CALCNT is held (R61). -/
def clockTick (s : State) : State :=
  let s := serveClaims s
  if s.cal.porLow || s.cal.aonLost then s
  else if s.flag F.TMB_STAT_SLOW then
    if s.flag F.CLK_STAT_SLOW_OK then carryOn (uartDrain 3662 (slowTick s))
    else if s.macReady then carryOn (uartDrain 1 (heldTick s))
    else s
  else markWindows (carryOn (uartDrain 1 (macTick s)))

end Sys2Proof.Machine
end

