-- ==== Sys2Proof/Machine/Meanings.lean ====
section
/-! DEFINITION. The meaning of each command: the spec lets every command of this block end in a next state, so
each answers the state that its effect leaves. -/

namespace Sys2Proof.Machine

/-- What a command answers. -/
abbrev Answer := Host.Outcome State Fault Refusal

/-- A command acts on everything but the queue, which is the step's. -/
def answer (run : State → State) (s : State) : Answer := .next { run s with pending := s.pending }

def execCommandArrival (t : Transport) (p : Option Packet) (s : State) : Answer := answer (runCommandArrival t p) s
def execCommandStart (cls : Fin 16) (s : State) : Answer := answer (runCommandStart cls) s
def execHostCommandDoorbell (n : Fin 16) (pi : BitVec 16) (s : State) : Answer := answer (runHostCommandDoorbell n pi) s
def execHostReplyDoorbell (n : Fin 16) (ci : BitVec 16) (s : State) : Answer := answer (runHostReplyDoorbell n ci) s
def execRingReset (n : Fin 16) (v : Word) (s : State) : Answer := answer (runRingReset n v) s
def execRingEnable (n : Fin 16) (v : Word) (s : State) : Answer := answer (runRingEnable n v) s
def execRingDisable (n : Fin 16) (v : Word) (s : State) : Answer := answer (runRingDisable n v) s
def execReplyCoalesceTimeout (n : Fin 16) (s : State) : Answer := answer (runReplyCoalesceTimeout n) s
def execCmdNop (p : Packet) (s : State) : Answer := answer (runCmdNop p) s
def execCmdCancel (p : Packet) (s : State) : Answer := answer (runCmdCancel p) s
def execCmdSchedQuery (p : Packet) (s : State) : Answer := answer (runCmdSchedQuery p) s
def execSmbBlockWrite (pec : Bool) (off : BitVec 16) (data : List Byte) (s : State) : Answer := answer (runSmbBlockWrite pec off data) s
def execSmbSubmit (pec : Bool) (s : State) : Answer := answer (runSmbSubmit pec) s
def execSmbSetReadOffset (pec : Bool) (off : BitVec 16) (s : State) : Answer := answer (runSmbSetReadOffset pec off) s
def execSmbRelease (pec : Bool) (s : State) : Answer := answer (runSmbRelease pec) s
def execQueDrop (v : Word) (s : State) : Answer := answer (runQueDrop v) s
def execLockSet (w : Writer) (off : BitVec 24) (v : Word) (s : State) : Answer := answer (runLockSet w off v) s
def execRegisterWrite (w : Writer) (off : BitVec 24) (wholeWord : Bool) (v : Word) (s : State) : Answer := answer (runRegisterWrite w off wholeWord v) s
def execCounterClearWrite (w : Writer) (off : BitVec 24) (v : Word) (s : State) : Answer := answer (runCounterClearWrite w off v) s
def execStrapSample (levels : BitVec 14) (s : State) : Answer := answer (runStrapSample levels) s
def execBootImageLoaded (img : BootImage) (s : State) : Answer := answer (runBootImageLoaded img) s
def execStpBootDoorbell (v : Word) (s : State) : Answer := answer (runStpBootDoorbell v) s
def execBootDataRx (p : Fin 4) (off : Nat) (bytes : List Byte) (s : State) : Answer := answer (runBootDataRx p off bytes) s
def execBootReqRx (p : Fin 4) (serial : Quad) (off len : Nat) (image : List Byte) (s : State) : Answer := answer (runBootReqRx p serial off len image) s
def execModeReq (p : Packet) (s : State) : Answer := answer (runModeReq p) s
def execModeStatus (p : Packet) (s : State) : Answer := answer (runModeStatus p) s
def execSysReset (p : Packet) (s : State) : Answer := answer (runSysReset p) s
def execBootListWrite (p : Packet) (s : State) : Answer := answer (runBootListWrite p) s
def execBootRecoveryLoad (p : Packet) (s : State) : Answer := answer (runBootRecoveryLoad p) s
def execRefLoss (counts : Option (List Nat)) (s : State) : Answer := answer (runRefLoss counts) s
def execVoteCorrected (copy : Fin 3) (v : Quad) (s : State) : Answer := answer (runVoteCorrected copy v) s
def execCalFault (a b c : Quad) (s : State) : Answer := answer (runCalFault a b c) s
def execTimeRead (p : Packet) (s : State) : Answer := answer (runTimeRead p) s
def execTimeResync (p : Packet) (s : State) : Answer := answer (runTimeResync p) s
def execTimeSlew (p : Packet) (s : State) : Answer := answer (runTimeSlew p) s
def execTmbNowLoRead (w : Writer) (s : State) : Answer := answer (runTmbNowLoRead w) s
def execTmrLCmpWrite (w : Writer) (n : Fin 32) (v : Word) (s : State) : Answer := answer (runTmrLCmpWrite w n v) s
def execTmrLRearm (w : Writer) (n : Fin 32) (s : State) : Answer := answer (runTmrLRearm w n) s
def execTmrLDisarm (w : Writer) (n : Fin 32) (s : State) : Answer := answer (runTmrLDisarm w n) s
def execTmrLIntWrite (w : Writer) (ie : Bool) (v : Word) (s : State) : Answer := answer (runTmrLIntWrite w ie v) s
def execTimerLFire (n : Fin 32) (s : State) : Answer := answer (runTimerLFire n) s
def execTmrICmpWrite (w : Writer) (n : Fin 8) (v : Word) (s : State) : Answer := answer (runTmrICmpWrite w n v) s
def execTmrICountWrite (w : Writer) (n : Fin 8) (v : Word) (s : State) : Answer := answer (runTmrICountWrite w n v) s
def execTmrIPrescWrite (w : Writer) (n : Fin 8) (v : Word) (s : State) : Answer := answer (runTmrIPrescWrite w n v) s
def execTmrICtlWrite (w : Writer) (n : Fin 8) (v : Word) (s : State) : Answer := answer (runTmrICtlWrite w n v) s
def execTimerIMatch (n : Fin 8) (s : State) : Answer := answer (runTimerIMatch n) s
def execGptInEdge (pin : Fin 4) (rising : Bool) (s : State) : Answer := answer (runGptInEdge pin rising) s
def execPpsInEdge (rising : Bool) (s : State) : Answer := answer (runPpsInEdge rising) s
def execCapValueLoRead (w : Writer) (n : Fin 16) (s : State) : Answer := answer (runCapValueLoRead w n) s
def execCapValueHiRead (w : Writer) (n : Fin 16) (s : State) : Answer := answer (runCapValueHiRead w n) s
def execCapReadPairTimeout (n : Fin 16) (s : State) : Answer := answer (runCapReadPairTimeout n) s
def execRadioSpanSet (p : Packet) (s : State) : Answer := answer (runRadioSpanSet p) s
def execRadioTxConfig (p : Packet) (s : State) : Answer := answer (runRadioTxConfig p) s
def execRadioCal (p : Packet) (s : State) : Answer := answer (runRadioCal p) s
def execRadioRegLoad (p : Packet) (s : State) : Answer := answer (runRadioRegLoad p) s
def execRadioRegRead (p : Packet) (s : State) : Answer := answer (runRadioRegRead p) s
def execRegBurn (p : Packet) (s : State) : Answer := answer (runRegBurn p) s
def execRfeRegTightenA (v : Word) (s : State) : Answer := answer (runRfeRegTightenA v) s
def execRfeRegTightenB (v : Word) (s : State) : Answer := answer (runRfeRegTightenB v) s
def execSynthLock (u : RfUnit) (s : State) : Answer := answer (runSynthLock u) s
def execSynUnlock (u : RfUnit) (s : State) : Answer := answer (runSynUnlock u) s
def execChainBiasSettled (n : Fin 4) (s : State) : Answer := answer (runChainBiasSettled n) s
def execTxDescriptorIssue (n : Fin 4) (d : TxDesc) (s : State) : Answer := answer (runTxDescriptorIssue n d) s
def execTxStartTick (n : Fin 4) (lbt : Option Byte) (s : State) : Answer := answer (runTxStartTick n lbt) s
def execTxLate (n : Fin 4) (s : State) : Answer := answer (runTxLate n) s
def execTxFirstSymbol (n : Fin 4) (s : State) : Answer := answer (runTxFirstSymbol n) s
def execTxFrameEnd (n : Fin 4) (s : State) : Answer := answer (runTxFrameEnd n) s
def execRampDownEnd (n : Fin 4) (s : State) : Answer := answer (runRampDownEnd n) s
def execCalStart (u : RfUnit) (s : State) : Answer := answer (runCalStart u) s
def execCalDone (u : RfUnit) (result : Byte) (s : State) : Answer := answer (runCalDone u result) s
def execCalDeferExpired (u : RfUnit) (s : State) : Answer := answer (runCalDeferExpired u) s
def execPhyChanSet (p : Packet) (s : State) : Answer := answer (runPhyChanSet p) s
def execPhyChanRead (p : Packet) (s : State) : Answer := answer (runPhyChanRead p) s
def execPhyCapture (p : Packet) (s : State) : Answer := answer (runPhyCapture p) s
def execPhyCaptureRead (p : Packet) (s : State) : Answer := answer (runPhyCaptureRead p) s
def execCaptureTimeout (is qs : List Int) (s : State) : Answer := answer (runCaptureTimeout is qs) s
def execCaptureEnd (is qs : List Int) (s : State) : Answer := answer (runCaptureEnd is qs) s
def execStreamBlockBoundary (slot : Fin 256) (a b : List Int) (clipA clipB : Bool) (s : State) : Answer := answer (runStreamBlockBoundary slot a b clipA clipB) s
def execPhyProfileLoad (p : Packet) (s : State) : Answer := answer (runPhyProfileLoad p) s
def execPhyProfileRead (p : Packet) (s : State) : Answer := answer (runPhyProfileRead p) s
def execPreambleDetect (slot : Fin 256) (branchB : Bool) (d : Detection) (s : State) : Answer := answer (runPreambleDetect slot branchB d) s
def execDiversityDecision (slot : Fin 256) (energyA energyB : List Nat) (hyp : Int) (powerA powerB : Int) (s : State) : Answer := answer (runDiversityDecision slot energyA energyB hyp powerA powerB) s
def execSyncEnd (slot : Fin 256) (lead : Nat) (power snr : Int) (x : SyncMeasure) (residual : Int) (training : List LmsStep) (s : State) : Answer := answer (runSyncEnd slot lead power snr x residual training) s
def execSyncTimeout (slot : Fin 256) (s : State) : Answer := answer (runSyncTimeout slot) s
def execRxFrameEnd (slot : Fin 256) (offset : Int) (soft : List Int) (s : State) : Answer := answer (runRxFrameEnd slot offset soft) s
def execModeSwitchTimeout (slot : Fin 256) (s : State) : Answer := answer (runModeSwitchTimeout slot) s
def execLdpcJobReady (slot : Fin 256) (x : SoftBlock) (s : State) : Answer := answer (runLdpcJobReady slot x) s
def execLdpcJobDone (decoder : Fin 8) (s : State) : Answer := answer (runLdpcJobDone decoder) s
def execCombRetentionExpired (shortId : Nat) (s : State) : Answer := answer (runCombRetentionExpired shortId) s
def execSpillRestore (shortId : Nat) (s : State) : Answer := answer (runSpillRestore shortId) s
def execMacAlmanacSet (p : Packet) (s : State) : Answer := answer (runMacAlmanacSet p) s
def execMacHeraldSet (p : Packet) (s : State) : Answer := answer (runMacHeraldSet p) s
def execMacChmapSet (p : Packet) (s : State) : Answer := answer (runMacChmapSet p) s
def execMacAssocSet (p : Packet) (s : State) : Answer := answer (runMacAssocSet p) s
def execMacAssocDrop (p : Packet) (s : State) : Answer := answer (runMacAssocDrop p) s
def execMacNodeTiming (p : Packet) (s : State) : Answer := answer (runMacNodeTiming p) s
def execMacTimingSet (p : Packet) (s : State) : Answer := answer (runMacTimingSet p) s
def execMacLedgerRead (p : Packet) (s : State) : Answer := answer (runMacLedgerRead p) s
def execRoundStart (idle : List (Fin 256 × Int)) (s : State) : Answer := answer (runRoundStart idle) s
def execLaneRun (n : Fin 16) (imageValid : Bool) (s : State) : Answer := answer (runLaneRun n imageValid) s
def execLaneFault (n : Fin 16) (code : Byte) (s : State) : Answer := answer (runLaneFault n code) s
def execEventDelivery (node : BitVec 17) (s : State) : Answer := answer (runEventDelivery node) s
def execWindowPrepare (node : BitVec 17) (s : State) : Answer := answer (runWindowPrepare node) s
def execWindowClose (node : BitVec 17) (s : State) : Answer := answer (runWindowClose node) s
def execEventEnd (node : BitVec 17) (s : State) : Answer := answer (runEventEnd node) s
def execLedgerScrub (upsets : List Upset) (s : State) : Answer := answer (runLedgerScrub upsets) s
def execNodeReview (node : BitVec 17) (candidates : List Candidate) (s : State) : Answer := answer (runNodeReview node candidates) s
def execSchedEnvelopeSet (p : Packet) (s : State) : Answer := answer (runSchedEnvelopeSet p) s
def execSchedEnvelopeRead (p : Packet) (s : State) : Answer := answer (runSchedEnvelopeRead p) s
def execSchedStatus (p : Packet) (s : State) : Answer := answer (runSchedStatus p) s
def execSchedNodeView (p : Packet) (s : State) : Answer := answer (runSchedNodeView p) s
def execJoinRequest (req : JoinAnswer) (s : State) : Answer := answer (runJoinRequest req) s
def execDownlinkExchange (node : BitVec 17) (s : State) : Answer := answer (runDownlinkExchange node) s
def execReassemblyTimeout (sender : BitVec 17) (size dtag : Nat) (s : State) : Answer := answer (runReassemblyTimeout sender size dtag) s
def execCtrRowWriteDone (ok : Bool) (s : State) : Answer := answer (runCtrRowWriteDone ok) s
def execFrmCfgSet (p : Packet) (s : State) : Answer := answer (runFrmCfgSet p) s
def execFrmCtxSet (p : Packet) (s : State) : Answer := answer (runFrmCtxSet p) s
def execCtrQuery (p : Packet) (s : State) : Answer := answer (runCtrQuery p) s
def execCtrResvFetch (p : Packet) (s : State) : Answer := answer (runCtrResvFetch p) s
def execCtrResvAck (p : Packet) (s : State) : Answer := answer (runCtrResvAck p) s
def execCtrRestore (p : Packet) (s : State) : Answer := answer (runCtrRestore p) s
def execKeyOrkProvision (p : Packet) (s : State) : Answer := answer (runKeyOrkProvision p) s
def execKeyDkLoad (p : Packet) (s : State) : Answer := answer (runKeyDkLoad p) s
def execKeyLoad (p : Packet) (s : State) : Answer := answer (runKeyLoad p) s
def execKeyEpochPrepare (p : Packet) (s : State) : Answer := answer (runKeyEpochPrepare p) s
def execKeyEpochStatus (p : Packet) (s : State) : Answer := answer (runKeyEpochStatus p) s
def execKeyZap (p : Packet) (s : State) : Answer := answer (runKeyZap p) s
def execKeySlotInfo (p : Packet) (s : State) : Answer := answer (runKeySlotInfo p) s
def execAttest (p : Packet) (s : State) : Answer := answer (runAttest p) s
def execDbgOpen (p : Packet) (readback : Nat) (s : State) : Answer := answer (runDbgOpen p readback) s
def execJtagDbgOpen (magic : Quad) (readback : Nat) (s : State) : Answer := answer (runJtagDbgOpen magic readback) s
def execJtagInstruction (ir : Nat) (data : Quad) (s : State) : Answer := answer (runJtagInstruction ir data) s
def execDbgLockout (p : Packet) (s : State) : Answer := answer (runDbgLockout p) s
def execLdgAccess (p : Packet) (s : State) : Answer := answer (runLdgAccess p) s
def execLdgOpRead (w : Writer) (win : Fin 4) (v : Word) (s : State) : Answer := answer (runLdgOpRead w win v) s
def execLdgOpWrite (w : Writer) (win : Fin 4) (v : Word) (s : State) : Answer := answer (runLdgOpWrite w win v) s
def execLdgOpWriteMasked (w : Writer) (win : Fin 4) (v : Word) (s : State) : Answer := answer (runLdgOpWriteMasked w win v) s
def execLdgOpCas (w : Writer) (win : Fin 4) (v : Word) (s : State) : Answer := answer (runLdgOpCas w win v) s
def execLdgOpInvalidate (w : Writer) (win : Fin 4) (v : Word) (s : State) : Answer := answer (runLdgOpInvalidate w win v) s
def execLdgOpAlloc (w : Writer) (win : Fin 4) (v : Word) (s : State) : Answer := answer (runLdgOpAlloc w win v) s
def execLdgOpFree (w : Writer) (win : Fin 4) (v : Word) (s : State) : Answer := answer (runLdgOpFree w win v) s
def execLdgLock (p : Packet) (s : State) : Answer := answer (runLdgLock p) s
def execLdgUnlock (p : Packet) (s : State) : Answer := answer (runLdgUnlock p) s
def execLdgLearnSet (p : Packet) (s : State) : Answer := answer (runLdgLearnSet p) s
def execLdgMismatchRead (p : Packet) (s : State) : Answer := answer (runLdgMismatchRead p) s
def execLdgMmfPop (v : Word) (s : State) : Answer := answer (runLdgMmfPop v) s
def execLdgLockTimeout (ctx : Fin 4) (s : State) : Answer := answer (runLdgLockTimeout ctx) s
def execLearnAged (node : BitVec 17) (s : State) : Answer := answer (runLearnAged node) s
def execBntAge (idx : Fin 4096) (s : State) : Answer := answer (runBntAge idx) s
def execBgcCtlWrite (v : Word) (s : State) : Answer := answer (runBgcCtlWrite v) s
def execLdgEccUncorr (table : Fin 9) (idx : BitVec 18) (word : Fin 8) (s : State) : Answer := answer (runLdgEccUncorr table idx word) s
def execFwdRouteSet (p : Packet) (s : State) : Answer := answer (runFwdRouteSet p) s
def execFwdRouteRead (p : Packet) (s : State) : Answer := answer (runFwdRouteRead p) s
def execFwdCfgSet (p : Packet) (s : State) : Answer := answer (runFwdCfgSet p) s
def execFwdDlqFlush (p : Packet) (s : State) : Answer := answer (runFwdDlqFlush p) s
def execRolCampaignSet (p : Packet) (s : State) : Answer := answer (runRolCampaignSet p) s
def execRolTarget (p : Packet) (s : State) : Answer := answer (runRolTarget p) s
def execRolStart (p : Packet) (s : State) : Answer := answer (runRolStart p) s
def execRolStop (p : Packet) (s : State) : Answer := answer (runRolStop p) s
def execRolStatus (p : Packet) (s : State) : Answer := answer (runRolStatus p) s
def execRolloutWindow (n : Fin 16) (s : State) : Answer := answer (runRolloutWindow n) s
def execBufPoolSet (p : Packet) (s : State) : Answer := answer (runBufPoolSet p) s
def execBufStatus (p : Packet) (s : State) : Answer := answer (runBufStatus p) s
def execDmaEnable (n : Fin 16) (v : Word) (s : State) : Answer := answer (runDmaEnable n v) s
def execDmaDisable (n : Fin 16) (v : Word) (s : State) : Answer := answer (runDmaDisable n v) s
def execDmaPiWrite (n : Fin 16) (v : Word) (s : State) : Answer := answer (runDmaPiWrite n v) s
def execDmaResume (n : Fin 16) (v : Word) (s : State) : Answer := answer (runDmaResume n v) s
def execDmaSkip (n : Fin 16) (v : Word) (s : State) : Answer := answer (runDmaSkip n v) s
def execDmaDescriptorDone (n : Fin 16) (data : List Byte) (s : State) : Answer := answer (runDmaDescriptorDone n data) s
def execMemFault (r : Req) (f : FaultReport) (s : State) : Answer := answer (runMemFault r f) s
def execFltRingRetry (v : Word) (s : State) : Answer := answer (runFltRingRetry v) s
def execFltRingResize (v : Word) (s : State) : Answer := answer (runFltRingResize v) s
def execDramEccError (a : BitVec 40) (corrected : Bool) (s : State) : Answer := answer (runDramEccError a corrected) s
def execArbPrioWrite (cycles : List ArbCycle) (k : Fin 7) (v : Word) (s : State) : Answer := answer (runArbPrioWrite cycles k v) s
def execArbQuotaWrite (cycles : List ArbCycle) (v : Word) (s : State) : Answer := answer (runArbQuotaWrite cycles v) s
def execArbWindowEnd (cycles : List ArbCycle) (s : State) : Answer := answer (runArbWindowEnd cycles) s
def execZoantSignalDetect (p : Fin 4) (s : State) : Answer := answer (runZoantSignalDetect p) s
def execZoantBlockLock (p : Fin 4) (s : State) : Answer := answer (runZoantBlockLock p) s
def execHelloTx (p : Fin 4) (s : State) : Answer := answer (runHelloTx p) s
def execHelloRx (p : Fin 4) (f : ZFrame) (s : State) : Answer := answer (runHelloRx p f) s
def execLinkDown (p : Fin 4) (s : State) : Answer := answer (runLinkDown p) s
def execZoantFrameRx (p : Fin 4) (f : ZFrame) (stamp : Quad) (s : State) : Answer := answer (runZoantFrameRx p f stamp) s
def execZfbRetransmitTimeout (p : Fin 4) (s : State) : Answer := answer (runZfbRetransmitTimeout p) s
def execLsaExpiry (chip : Fin 64) (s : State) : Answer := answer (runLsaExpiry chip) s
def execLeaseExpired (chip : Fin 64) (s : State) : Answer := answer (runLeaseExpired chip) s
def execFabCfgSet (p : Packet) (s : State) : Answer := answer (runFabCfgSet p) s
def execFabStatus (p : Packet) (s : State) : Answer := answer (runFabStatus p) s
def execFabHandover (p : Packet) (s : State) : Answer := answer (runFabHandover p) s
def execHandoverReverted (node : BitVec 17) (s : State) : Answer := answer (runHandoverReverted node) s
def execPairTokenLineChange (high : Bool) (s : State) : Answer := answer (runPairTokenLineChange high) s
def execPairSenseChange (high : Bool) (s : State) : Answer := answer (runPairSenseChange high) s
def execPairWdtKick (v : Word) (s : State) : Answer := answer (runPairWdtKick v) s
def execPairCfg (p : Packet) (s : State) : Answer := answer (runPairCfg p) s
def execPairSwitch (p : Packet) (s : State) : Answer := answer (runPairSwitch p) s
def execPairStatus (p : Packet) (s : State) : Answer := answer (runPairStatus p) s
def execPcieReset (kind : Fin 4) (s : State) : Answer := answer (runPcieReset kind) s
def execMsixUnmask (n : Fin 64) (s : State) : Answer := answer (runMsixUnmask n) s
def execBar2Access (off : BitVec 26) (write : Bool) (data : List Byte) (s : State) : Answer := answer (runBar2Access off write data) s
def execEthFrameRx (p : Fin 2) (frame : List Byte) (fcsOk : Bool) (stamp : Quad) (s : State) : Answer := answer (runEthFrameRx p frame fcsOk stamp) s
def execEthPortSet (p : Packet) (s : State) : Answer := answer (runEthPortSet p) s
def execSfpTxFault (p : Fin 2) (s : State) : Answer := answer (runSfpTxFault p) s
def execSfpSignalChange (p : Fin 2) (modAbs rxLos txFault blockLock : Bool) (s : State) : Answer := answer (runSfpSignalChange p modAbs rxLos txFault blockLock) s
def execEthI2cTransaction (w : Writer) (b : Fin 2) (v : Word) (s : State) : Answer := answer (runEthI2cTransaction w b v) s
def execMgtQspiOp (w : Writer) (v : Word) (s : State) : Answer := answer (runMgtQspiOp w v) s
def execMgtGpioFuncWrite (w : Writer) (k : Fin 3) (v : Word) (s : State) : Answer := answer (runMgtGpioFuncWrite w k v) s
def execResClaim (p : Packet) (s : State) : Answer := answer (runResClaim p) s
def execResRelease (p : Packet) (s : State) : Answer := answer (runResRelease p) s
def execResQuery (p : Packet) (s : State) : Answer := answer (runResQuery p) s
def execPpsSet (p : Packet) (s : State) : Answer := answer (runPpsSet p) s
def execThmStatus (p : Packet) (s : State) : Answer := answer (runThmStatus p) s
def execPwrStatus (p : Packet) (s : State) : Answer := answer (runPwrStatus p) s
def execThermalSample (sensors : List (BitVec 16)) (s : State) : Answer := answer (runThermalSample sensors) s
def execThermtrip (sensor : Fin 8) (s : State) : Answer := answer (runThermtrip sensor) s
def execRailSample (rails : List RailSample) (s : State) : Answer := answer (runRailSample rails) s
def execJournalRecordPost (src sev : Byte) (code : BitVec 16) (args : List Byte) (s : State) : Answer := answer (runJournalRecordPost src sev code args) s
def execJournalEnable (v : Word) (s : State) : Answer := answer (runJournalEnable v) s
def execEvjRdWrite (v : Word) (s : State) : Answer := answer (runEvjRdWrite v) s
def execEvjFatalClear (v : Word) (s : State) : Answer := answer (runEvjFatalClear v) s
def execEvjAonWinRead (k : Fin 8) (s : State) : Answer := answer (runEvjAonWinRead k) s
def execJournalAonRead (p : Packet) (s : State) : Answer := answer (runJournalAonRead p) s
def execMgtIntClear (v : Word) (s : State) : Answer := answer (runMgtIntClear v) s
def execPhrEnd (slot : Fin 256) (phr : SunPhr) (s : State) : Answer := answer (runPhrEnd slot phr) s
def execMmuFltCiWrite (v : Word) (s : State) : Answer := answer (runMmuFltCiWrite v) s
def execPcieLinkUp (width speed : BitVec 4) (s : State) : Answer := answer (runPcieLinkUp width speed) s
def execEthFrameTx (p : Fin 2) (stamp : Option Quad) (s : State) : Answer := answer (runEthFrameTx p stamp) s
def execEthI2cDone (b : Fin 2) (nack : Bool) (data : Word) (s : State) : Answer := answer (runEthI2cDone b nack data) s
def execMgtQspiDone (data : List Byte) (s : State) : Answer := answer (runMgtQspiDone data) s
def execScheduledCommandReady (s : State) : Answer := answer runScheduledCommandReady s
def execCpStopped (s : State) : Answer := answer runCpStopped s
def execAutoCpRestartTimeout (s : State) : Answer := answer runAutoCpRestartTimeout s
def execSmbStatusRead (s : State) : Answer := answer runSmbStatusRead s
def execSmbBlockRead (s : State) : Answer := answer runSmbBlockRead s
def execSmbClockTimeout (s : State) : Answer := answer runSmbClockTimeout s
def execSmbAlertResponse (s : State) : Answer := answer runSmbAlertResponse s
def execPoresetAssert (s : State) : Answer := answer runPoresetAssert s
def execAonPowerLoss (s : State) : Answer := answer runAonPowerLoss s
def execPoresetDeassert (s : State) : Answer := answer runPoresetDeassert s
def execPllLock (s : State) : Answer := answer runPllLock s
def execPcieBootTimeout (s : State) : Answer := answer runPcieBootTimeout s
def execZoantBootTimeout (s : State) : Answer := answer runZoantBootTimeout s
def execKindlingDone (s : State) : Answer := answer runKindlingDone s
def execCalibrateDone (s : State) : Answer := answer runCalibrateDone s
def execModeTransitionDone (s : State) : Answer := answer runModeTransitionDone s
def execWarmReset (s : State) : Answer := answer runWarmReset s
def execRefRestored (s : State) : Answer := answer runRefRestored s
def execSlowExit (s : State) : Answer := answer runSlowExit s
def execSlewDone (s : State) : Answer := answer runSlewDone s
def execPpsLost (s : State) : Answer := answer runPpsLost s
def execLdpcJobStart (s : State) : Answer := answer runLdpcJobStart s
def execAlmanacStart (s : State) : Answer := answer runAlmanacStart s
def execEpochRoll (s : State) : Answer := answer runEpochRoll s
def execLoadReview (s : State) : Answer := answer runLoadReview s
def execChannelReview (s : State) : Answer := answer runChannelReview s
def execPlanReview (s : State) : Answer := answer runPlanReview s
def execRxFrameCheck (s : State) : Answer := answer runRxFrameCheck s
def execTxBuild (s : State) : Answer := answer runTxBuild s
def execDerivedKeyMiss (s : State) : Answer := answer runDerivedKeyMiss s
def execCtrGroupLow (s : State) : Answer := answer runCtrGroupLow s
def execLearnTokenRefill (s : State) : Answer := answer runLearnTokenRefill s
def execBgcVisit (s : State) : Answer := answer runBgcVisit s
def execPacketForward (s : State) : Answer := answer runPacketForward s
def execFwdDropsReport (s : State) : Answer := answer runFwdDropsReport s
def execLsaTx (s : State) : Answer := answer runLsaTx s
def execRouteRecompute (s : State) : Answer := answer runRouteRecompute s
def execRegistrarChange (s : State) : Answer := answer runRegistrarChange s
def execSyncTx (s : State) : Answer := answer runSyncTx s
def execLeaseRenew (s : State) : Answer := answer runLeaseRenew s
def execTokenClaimed (s : State) : Answer := answer runTokenClaimed s
def execTokenLineFault (s : State) : Answer := answer runTokenLineFault s
def execPairWdtExpiry (s : State) : Answer := answer runPairWdtExpiry s
def execMirrorHeartbeat (s : State) : Answer := answer runMirrorHeartbeat s
def execMirrorSynced (s : State) : Answer := answer runMirrorSynced s
def execTakeover (s : State) : Answer := answer runTakeover s
def execPcieBmeClear (s : State) : Answer := answer runPcieBmeClear s
def execJournalEmit (s : State) : Answer := answer runJournalEmit s
def execJournalDrop (s : State) : Answer := answer runJournalDrop s
def execSlowClkStart (s : State) : Answer := answer runSlowClkStart s
def execVddAonRestored (s : State) : Answer := answer runVddAonRestored s
def execTimeResyncTimeout (s : State) : Answer := answer runTimeResyncTimeout s
def execCtrResvFetchTimeout (s : State) : Answer := answer runCtrResvFetchTimeout s
def execBntTokenRefill (s : State) : Answer := answer runBntTokenRefill s
def execPcieBmeSet (s : State) : Answer := answer runPcieBmeSet s
def execSwdRequest (s : State) : Answer := answer runSwdRequest s

end Sys2Proof.Machine
end

