-- ==== Sys2Proof/Machine/Dispatch.lean ====
section
/-! DEFINITION. The dispatch: one arm for each command, one direct call of its meaning. -/

namespace Sys2Proof.Machine

def exec (i : Instr) (s : State) : Host.Outcome State Fault Refusal :=
  match i with
  | .commandArrival t p => Sys2Proof.Machine.execCommandArrival t p s
  | .commandStart cls => Sys2Proof.Machine.execCommandStart cls s
  | .hostCommandDoorbell n pi => Sys2Proof.Machine.execHostCommandDoorbell n pi s
  | .hostReplyDoorbell n ci => Sys2Proof.Machine.execHostReplyDoorbell n ci s
  | .ringReset n v => Sys2Proof.Machine.execRingReset n v s
  | .ringEnable n v => Sys2Proof.Machine.execRingEnable n v s
  | .ringDisable n v => Sys2Proof.Machine.execRingDisable n v s
  | .replyCoalesceTimeout n => Sys2Proof.Machine.execReplyCoalesceTimeout n s
  | .cmdNop p => Sys2Proof.Machine.execCmdNop p s
  | .cmdCancel p => Sys2Proof.Machine.execCmdCancel p s
  | .cmdSchedQuery p => Sys2Proof.Machine.execCmdSchedQuery p s
  | .smbBlockWrite pec off data => Sys2Proof.Machine.execSmbBlockWrite pec off data s
  | .smbSubmit pec => Sys2Proof.Machine.execSmbSubmit pec s
  | .smbSetReadOffset pec off => Sys2Proof.Machine.execSmbSetReadOffset pec off s
  | .smbRelease pec => Sys2Proof.Machine.execSmbRelease pec s
  | .queDrop v => Sys2Proof.Machine.execQueDrop v s
  | .lockSet w off v => Sys2Proof.Machine.execLockSet w off v s
  | .registerWrite w off wholeWord v => Sys2Proof.Machine.execRegisterWrite w off wholeWord v s
  | .counterClearWrite w off v => Sys2Proof.Machine.execCounterClearWrite w off v s
  | .strapSample levels => Sys2Proof.Machine.execStrapSample levels s
  | .bootImageLoaded img => Sys2Proof.Machine.execBootImageLoaded img s
  | .stpBootDoorbell v => Sys2Proof.Machine.execStpBootDoorbell v s
  | .bootDataRx p off bytes => Sys2Proof.Machine.execBootDataRx p off bytes s
  | .bootReqRx p serial off len image => Sys2Proof.Machine.execBootReqRx p serial off len image s
  | .modeReq p => Sys2Proof.Machine.execModeReq p s
  | .modeStatus p => Sys2Proof.Machine.execModeStatus p s
  | .sysReset p => Sys2Proof.Machine.execSysReset p s
  | .bootListWrite p => Sys2Proof.Machine.execBootListWrite p s
  | .bootRecoveryLoad p => Sys2Proof.Machine.execBootRecoveryLoad p s
  | .refLoss counts => Sys2Proof.Machine.execRefLoss counts s
  | .voteCorrected copy v => Sys2Proof.Machine.execVoteCorrected copy v s
  | .calFault a b c => Sys2Proof.Machine.execCalFault a b c s
  | .timeRead p => Sys2Proof.Machine.execTimeRead p s
  | .timeResync p => Sys2Proof.Machine.execTimeResync p s
  | .timeSlew p => Sys2Proof.Machine.execTimeSlew p s
  | .tmbNowLoRead w => Sys2Proof.Machine.execTmbNowLoRead w s
  | .tmrLCmpWrite w n v => Sys2Proof.Machine.execTmrLCmpWrite w n v s
  | .tmrLRearm w n => Sys2Proof.Machine.execTmrLRearm w n s
  | .tmrLDisarm w n => Sys2Proof.Machine.execTmrLDisarm w n s
  | .tmrLIntWrite w ie v => Sys2Proof.Machine.execTmrLIntWrite w ie v s
  | .timerLFire n => Sys2Proof.Machine.execTimerLFire n s
  | .tmrICmpWrite w n v => Sys2Proof.Machine.execTmrICmpWrite w n v s
  | .tmrICountWrite w n v => Sys2Proof.Machine.execTmrICountWrite w n v s
  | .tmrIPrescWrite w n v => Sys2Proof.Machine.execTmrIPrescWrite w n v s
  | .tmrICtlWrite w n v => Sys2Proof.Machine.execTmrICtlWrite w n v s
  | .timerIMatch n => Sys2Proof.Machine.execTimerIMatch n s
  | .gptInEdge pin rising => Sys2Proof.Machine.execGptInEdge pin rising s
  | .ppsInEdge rising => Sys2Proof.Machine.execPpsInEdge rising s
  | .capValueLoRead w n => Sys2Proof.Machine.execCapValueLoRead w n s
  | .capValueHiRead w n => Sys2Proof.Machine.execCapValueHiRead w n s
  | .capReadPairTimeout n => Sys2Proof.Machine.execCapReadPairTimeout n s
  | .radioSpanSet p => Sys2Proof.Machine.execRadioSpanSet p s
  | .radioTxConfig p => Sys2Proof.Machine.execRadioTxConfig p s
  | .radioCal p => Sys2Proof.Machine.execRadioCal p s
  | .radioRegLoad p => Sys2Proof.Machine.execRadioRegLoad p s
  | .radioRegRead p => Sys2Proof.Machine.execRadioRegRead p s
  | .regBurn p => Sys2Proof.Machine.execRegBurn p s
  | .rfeRegTightenA v => Sys2Proof.Machine.execRfeRegTightenA v s
  | .rfeRegTightenB v => Sys2Proof.Machine.execRfeRegTightenB v s
  | .synthLock u => Sys2Proof.Machine.execSynthLock u s
  | .synUnlock u => Sys2Proof.Machine.execSynUnlock u s
  | .chainBiasSettled n => Sys2Proof.Machine.execChainBiasSettled n s
  | .txDescriptorIssue n d => Sys2Proof.Machine.execTxDescriptorIssue n d s
  | .txStartTick n lbt => Sys2Proof.Machine.execTxStartTick n lbt s
  | .txLate n => Sys2Proof.Machine.execTxLate n s
  | .txFirstSymbol n => Sys2Proof.Machine.execTxFirstSymbol n s
  | .txFrameEnd n => Sys2Proof.Machine.execTxFrameEnd n s
  | .rampDownEnd n => Sys2Proof.Machine.execRampDownEnd n s
  | .calStart u => Sys2Proof.Machine.execCalStart u s
  | .calDone u result => Sys2Proof.Machine.execCalDone u result s
  | .calDeferExpired u => Sys2Proof.Machine.execCalDeferExpired u s
  | .phyChanSet p => Sys2Proof.Machine.execPhyChanSet p s
  | .phyChanRead p => Sys2Proof.Machine.execPhyChanRead p s
  | .phyCapture p => Sys2Proof.Machine.execPhyCapture p s
  | .phyCaptureRead p => Sys2Proof.Machine.execPhyCaptureRead p s
  | .captureTimeout is qs => Sys2Proof.Machine.execCaptureTimeout is qs s
  | .captureEnd is qs => Sys2Proof.Machine.execCaptureEnd is qs s
  | .streamBlockBoundary slot a b clipA clipB => Sys2Proof.Machine.execStreamBlockBoundary slot a b clipA clipB s
  | .phyProfileLoad p => Sys2Proof.Machine.execPhyProfileLoad p s
  | .phyProfileRead p => Sys2Proof.Machine.execPhyProfileRead p s
  | .preambleDetect slot branchB d => Sys2Proof.Machine.execPreambleDetect slot branchB d s
  | .diversityDecision slot energyA energyB hyp powerA powerB => Sys2Proof.Machine.execDiversityDecision slot energyA energyB hyp powerA powerB s
  | .syncEnd slot lead power snr x residual training => Sys2Proof.Machine.execSyncEnd slot lead power snr x residual training s
  | .syncTimeout slot => Sys2Proof.Machine.execSyncTimeout slot s
  | .rxFrameEnd slot offset soft => Sys2Proof.Machine.execRxFrameEnd slot offset soft s
  | .modeSwitchTimeout slot => Sys2Proof.Machine.execModeSwitchTimeout slot s
  | .ldpcJobReady slot x => Sys2Proof.Machine.execLdpcJobReady slot x s
  | .ldpcJobDone decoder => Sys2Proof.Machine.execLdpcJobDone decoder s
  | .combRetentionExpired shortId => Sys2Proof.Machine.execCombRetentionExpired shortId s
  | .spillRestore shortId => Sys2Proof.Machine.execSpillRestore shortId s
  | .macAlmanacSet p => Sys2Proof.Machine.execMacAlmanacSet p s
  | .macHeraldSet p => Sys2Proof.Machine.execMacHeraldSet p s
  | .macChmapSet p => Sys2Proof.Machine.execMacChmapSet p s
  | .macAssocSet p => Sys2Proof.Machine.execMacAssocSet p s
  | .macAssocDrop p => Sys2Proof.Machine.execMacAssocDrop p s
  | .macNodeTiming p => Sys2Proof.Machine.execMacNodeTiming p s
  | .macTimingSet p => Sys2Proof.Machine.execMacTimingSet p s
  | .macLedgerRead p => Sys2Proof.Machine.execMacLedgerRead p s
  | .roundStart idle => Sys2Proof.Machine.execRoundStart idle s
  | .laneRun n imageValid => Sys2Proof.Machine.execLaneRun n imageValid s
  | .laneFault n code => Sys2Proof.Machine.execLaneFault n code s
  | .eventDelivery node => Sys2Proof.Machine.execEventDelivery node s
  | .windowPrepare node => Sys2Proof.Machine.execWindowPrepare node s
  | .windowClose node => Sys2Proof.Machine.execWindowClose node s
  | .eventEnd node => Sys2Proof.Machine.execEventEnd node s
  | .ledgerScrub upsets => Sys2Proof.Machine.execLedgerScrub upsets s
  | .nodeReview node candidates => Sys2Proof.Machine.execNodeReview node candidates s
  | .schedEnvelopeSet p => Sys2Proof.Machine.execSchedEnvelopeSet p s
  | .schedEnvelopeRead p => Sys2Proof.Machine.execSchedEnvelopeRead p s
  | .schedStatus p => Sys2Proof.Machine.execSchedStatus p s
  | .schedNodeView p => Sys2Proof.Machine.execSchedNodeView p s
  | .joinRequest req => Sys2Proof.Machine.execJoinRequest req s
  | .downlinkExchange node => Sys2Proof.Machine.execDownlinkExchange node s
  | .reassemblyTimeout sender size dtag => Sys2Proof.Machine.execReassemblyTimeout sender size dtag s
  | .ctrRowWriteDone ok => Sys2Proof.Machine.execCtrRowWriteDone ok s
  | .frmCfgSet p => Sys2Proof.Machine.execFrmCfgSet p s
  | .frmCtxSet p => Sys2Proof.Machine.execFrmCtxSet p s
  | .ctrQuery p => Sys2Proof.Machine.execCtrQuery p s
  | .ctrResvFetch p => Sys2Proof.Machine.execCtrResvFetch p s
  | .ctrResvAck p => Sys2Proof.Machine.execCtrResvAck p s
  | .ctrRestore p => Sys2Proof.Machine.execCtrRestore p s
  | .keyOrkProvision p => Sys2Proof.Machine.execKeyOrkProvision p s
  | .keyDkLoad p => Sys2Proof.Machine.execKeyDkLoad p s
  | .keyLoad p => Sys2Proof.Machine.execKeyLoad p s
  | .keyEpochPrepare p => Sys2Proof.Machine.execKeyEpochPrepare p s
  | .keyEpochStatus p => Sys2Proof.Machine.execKeyEpochStatus p s
  | .keyZap p => Sys2Proof.Machine.execKeyZap p s
  | .keySlotInfo p => Sys2Proof.Machine.execKeySlotInfo p s
  | .attest p => Sys2Proof.Machine.execAttest p s
  | .dbgOpen p readback => Sys2Proof.Machine.execDbgOpen p readback s
  | .jtagDbgOpen magic readback => Sys2Proof.Machine.execJtagDbgOpen magic readback s
  | .jtagInstruction ir data => Sys2Proof.Machine.execJtagInstruction ir data s
  | .dbgLockout p => Sys2Proof.Machine.execDbgLockout p s
  | .ldgAccess p => Sys2Proof.Machine.execLdgAccess p s
  | .ldgOpRead w win v => Sys2Proof.Machine.execLdgOpRead w win v s
  | .ldgOpWrite w win v => Sys2Proof.Machine.execLdgOpWrite w win v s
  | .ldgOpWriteMasked w win v => Sys2Proof.Machine.execLdgOpWriteMasked w win v s
  | .ldgOpCas w win v => Sys2Proof.Machine.execLdgOpCas w win v s
  | .ldgOpInvalidate w win v => Sys2Proof.Machine.execLdgOpInvalidate w win v s
  | .ldgOpAlloc w win v => Sys2Proof.Machine.execLdgOpAlloc w win v s
  | .ldgOpFree w win v => Sys2Proof.Machine.execLdgOpFree w win v s
  | .ldgLock p => Sys2Proof.Machine.execLdgLock p s
  | .ldgUnlock p => Sys2Proof.Machine.execLdgUnlock p s
  | .ldgLearnSet p => Sys2Proof.Machine.execLdgLearnSet p s
  | .ldgMismatchRead p => Sys2Proof.Machine.execLdgMismatchRead p s
  | .ldgMmfPop v => Sys2Proof.Machine.execLdgMmfPop v s
  | .ldgLockTimeout ctx => Sys2Proof.Machine.execLdgLockTimeout ctx s
  | .learnAged node => Sys2Proof.Machine.execLearnAged node s
  | .bntAge idx => Sys2Proof.Machine.execBntAge idx s
  | .bgcCtlWrite v => Sys2Proof.Machine.execBgcCtlWrite v s
  | .ldgEccUncorr table idx word => Sys2Proof.Machine.execLdgEccUncorr table idx word s
  | .fwdRouteSet p => Sys2Proof.Machine.execFwdRouteSet p s
  | .fwdRouteRead p => Sys2Proof.Machine.execFwdRouteRead p s
  | .fwdCfgSet p => Sys2Proof.Machine.execFwdCfgSet p s
  | .fwdDlqFlush p => Sys2Proof.Machine.execFwdDlqFlush p s
  | .rolCampaignSet p => Sys2Proof.Machine.execRolCampaignSet p s
  | .rolTarget p => Sys2Proof.Machine.execRolTarget p s
  | .rolStart p => Sys2Proof.Machine.execRolStart p s
  | .rolStop p => Sys2Proof.Machine.execRolStop p s
  | .rolStatus p => Sys2Proof.Machine.execRolStatus p s
  | .rolloutWindow n => Sys2Proof.Machine.execRolloutWindow n s
  | .bufPoolSet p => Sys2Proof.Machine.execBufPoolSet p s
  | .bufStatus p => Sys2Proof.Machine.execBufStatus p s
  | .dmaEnable n v => Sys2Proof.Machine.execDmaEnable n v s
  | .dmaDisable n v => Sys2Proof.Machine.execDmaDisable n v s
  | .dmaPiWrite n v => Sys2Proof.Machine.execDmaPiWrite n v s
  | .dmaResume n v => Sys2Proof.Machine.execDmaResume n v s
  | .dmaSkip n v => Sys2Proof.Machine.execDmaSkip n v s
  | .dmaDescriptorDone n data => Sys2Proof.Machine.execDmaDescriptorDone n data s
  | .memFault r f => Sys2Proof.Machine.execMemFault r f s
  | .fltRingRetry v => Sys2Proof.Machine.execFltRingRetry v s
  | .fltRingResize v => Sys2Proof.Machine.execFltRingResize v s
  | .dramEccError a corrected => Sys2Proof.Machine.execDramEccError a corrected s
  | .arbPrioWrite cycles k v => Sys2Proof.Machine.execArbPrioWrite cycles k v s
  | .arbQuotaWrite cycles v => Sys2Proof.Machine.execArbQuotaWrite cycles v s
  | .arbWindowEnd cycles => Sys2Proof.Machine.execArbWindowEnd cycles s
  | .zoantSignalDetect p => Sys2Proof.Machine.execZoantSignalDetect p s
  | .zoantBlockLock p => Sys2Proof.Machine.execZoantBlockLock p s
  | .helloTx p => Sys2Proof.Machine.execHelloTx p s
  | .helloRx p f => Sys2Proof.Machine.execHelloRx p f s
  | .linkDown p => Sys2Proof.Machine.execLinkDown p s
  | .zoantFrameRx p f stamp => Sys2Proof.Machine.execZoantFrameRx p f stamp s
  | .zfbRetransmitTimeout p => Sys2Proof.Machine.execZfbRetransmitTimeout p s
  | .lsaExpiry chip => Sys2Proof.Machine.execLsaExpiry chip s
  | .leaseExpired chip => Sys2Proof.Machine.execLeaseExpired chip s
  | .fabCfgSet p => Sys2Proof.Machine.execFabCfgSet p s
  | .fabStatus p => Sys2Proof.Machine.execFabStatus p s
  | .fabHandover p => Sys2Proof.Machine.execFabHandover p s
  | .handoverReverted node => Sys2Proof.Machine.execHandoverReverted node s
  | .pairTokenLineChange high => Sys2Proof.Machine.execPairTokenLineChange high s
  | .pairSenseChange high => Sys2Proof.Machine.execPairSenseChange high s
  | .pairWdtKick v => Sys2Proof.Machine.execPairWdtKick v s
  | .pairCfg p => Sys2Proof.Machine.execPairCfg p s
  | .pairSwitch p => Sys2Proof.Machine.execPairSwitch p s
  | .pairStatus p => Sys2Proof.Machine.execPairStatus p s
  | .pcieReset kind => Sys2Proof.Machine.execPcieReset kind s
  | .msixUnmask n => Sys2Proof.Machine.execMsixUnmask n s
  | .bar2Access off write data => Sys2Proof.Machine.execBar2Access off write data s
  | .ethFrameRx p frame fcsOk stamp => Sys2Proof.Machine.execEthFrameRx p frame fcsOk stamp s
  | .ethPortSet p => Sys2Proof.Machine.execEthPortSet p s
  | .sfpTxFault p => Sys2Proof.Machine.execSfpTxFault p s
  | .sfpSignalChange p modAbs rxLos txFault blockLock => Sys2Proof.Machine.execSfpSignalChange p modAbs rxLos txFault blockLock s
  | .ethI2cTransaction w b v => Sys2Proof.Machine.execEthI2cTransaction w b v s
  | .mgtQspiOp w v => Sys2Proof.Machine.execMgtQspiOp w v s
  | .mgtGpioFuncWrite w k v => Sys2Proof.Machine.execMgtGpioFuncWrite w k v s
  | .resClaim p => Sys2Proof.Machine.execResClaim p s
  | .resRelease p => Sys2Proof.Machine.execResRelease p s
  | .resQuery p => Sys2Proof.Machine.execResQuery p s
  | .ppsSet p => Sys2Proof.Machine.execPpsSet p s
  | .thmStatus p => Sys2Proof.Machine.execThmStatus p s
  | .pwrStatus p => Sys2Proof.Machine.execPwrStatus p s
  | .thermalSample sensors => Sys2Proof.Machine.execThermalSample sensors s
  | .thermtrip sensor => Sys2Proof.Machine.execThermtrip sensor s
  | .railSample rails => Sys2Proof.Machine.execRailSample rails s
  | .journalRecordPost src sev code args => Sys2Proof.Machine.execJournalRecordPost src sev code args s
  | .journalEnable v => Sys2Proof.Machine.execJournalEnable v s
  | .evjRdWrite v => Sys2Proof.Machine.execEvjRdWrite v s
  | .evjFatalClear v => Sys2Proof.Machine.execEvjFatalClear v s
  | .evjAonWinRead k => Sys2Proof.Machine.execEvjAonWinRead k s
  | .journalAonRead p => Sys2Proof.Machine.execJournalAonRead p s
  | .mgtIntClear v => Sys2Proof.Machine.execMgtIntClear v s
  | .phrEnd slot phr => Sys2Proof.Machine.execPhrEnd slot phr s
  | .mmuFltCiWrite v => Sys2Proof.Machine.execMmuFltCiWrite v s
  | .pcieLinkUp width speed => Sys2Proof.Machine.execPcieLinkUp width speed s
  | .ethFrameTx p stamp => Sys2Proof.Machine.execEthFrameTx p stamp s
  | .ethI2cDone b nack data => Sys2Proof.Machine.execEthI2cDone b nack data s
  | .mgtQspiDone data => Sys2Proof.Machine.execMgtQspiDone data s
  | .scheduledCommandReady => Sys2Proof.Machine.execScheduledCommandReady s
  | .cpStopped => Sys2Proof.Machine.execCpStopped s
  | .autoCpRestartTimeout => Sys2Proof.Machine.execAutoCpRestartTimeout s
  | .smbStatusRead => Sys2Proof.Machine.execSmbStatusRead s
  | .smbBlockRead => Sys2Proof.Machine.execSmbBlockRead s
  | .smbClockTimeout => Sys2Proof.Machine.execSmbClockTimeout s
  | .smbAlertResponse => Sys2Proof.Machine.execSmbAlertResponse s
  | .poresetAssert => Sys2Proof.Machine.execPoresetAssert s
  | .aonPowerLoss => Sys2Proof.Machine.execAonPowerLoss s
  | .poresetDeassert => Sys2Proof.Machine.execPoresetDeassert s
  | .pllLock => Sys2Proof.Machine.execPllLock s
  | .pcieBootTimeout => Sys2Proof.Machine.execPcieBootTimeout s
  | .zoantBootTimeout => Sys2Proof.Machine.execZoantBootTimeout s
  | .kindlingDone => Sys2Proof.Machine.execKindlingDone s
  | .calibrateDone => Sys2Proof.Machine.execCalibrateDone s
  | .modeTransitionDone => Sys2Proof.Machine.execModeTransitionDone s
  | .warmReset => Sys2Proof.Machine.execWarmReset s
  | .refRestored => Sys2Proof.Machine.execRefRestored s
  | .slowExit => Sys2Proof.Machine.execSlowExit s
  | .slewDone => Sys2Proof.Machine.execSlewDone s
  | .ppsLost => Sys2Proof.Machine.execPpsLost s
  | .ldpcJobStart => Sys2Proof.Machine.execLdpcJobStart s
  | .almanacStart => Sys2Proof.Machine.execAlmanacStart s
  | .epochRoll => Sys2Proof.Machine.execEpochRoll s
  | .loadReview => Sys2Proof.Machine.execLoadReview s
  | .channelReview => Sys2Proof.Machine.execChannelReview s
  | .planReview => Sys2Proof.Machine.execPlanReview s
  | .rxFrameCheck => Sys2Proof.Machine.execRxFrameCheck s
  | .txBuild => Sys2Proof.Machine.execTxBuild s
  | .derivedKeyMiss => Sys2Proof.Machine.execDerivedKeyMiss s
  | .ctrGroupLow => Sys2Proof.Machine.execCtrGroupLow s
  | .learnTokenRefill => Sys2Proof.Machine.execLearnTokenRefill s
  | .bgcVisit => Sys2Proof.Machine.execBgcVisit s
  | .packetForward => Sys2Proof.Machine.execPacketForward s
  | .fwdDropsReport => Sys2Proof.Machine.execFwdDropsReport s
  | .lsaTx => Sys2Proof.Machine.execLsaTx s
  | .routeRecompute => Sys2Proof.Machine.execRouteRecompute s
  | .registrarChange => Sys2Proof.Machine.execRegistrarChange s
  | .syncTx => Sys2Proof.Machine.execSyncTx s
  | .leaseRenew => Sys2Proof.Machine.execLeaseRenew s
  | .tokenClaimed => Sys2Proof.Machine.execTokenClaimed s
  | .tokenLineFault => Sys2Proof.Machine.execTokenLineFault s
  | .pairWdtExpiry => Sys2Proof.Machine.execPairWdtExpiry s
  | .mirrorHeartbeat => Sys2Proof.Machine.execMirrorHeartbeat s
  | .mirrorSynced => Sys2Proof.Machine.execMirrorSynced s
  | .takeover => Sys2Proof.Machine.execTakeover s
  | .pcieBmeClear => Sys2Proof.Machine.execPcieBmeClear s
  | .journalEmit => Sys2Proof.Machine.execJournalEmit s
  | .journalDrop => Sys2Proof.Machine.execJournalDrop s
  | .slowClkStart => Sys2Proof.Machine.execSlowClkStart s
  | .vddAonRestored => Sys2Proof.Machine.execVddAonRestored s
  | .timeResyncTimeout => Sys2Proof.Machine.execTimeResyncTimeout s
  | .ctrResvFetchTimeout => Sys2Proof.Machine.execCtrResvFetchTimeout s
  | .bntTokenRefill => Sys2Proof.Machine.execBntTokenRefill s
  | .pcieBmeSet => Sys2Proof.Machine.execPcieBmeSet s
  | .swdRequest => Sys2Proof.Machine.execSwdRequest s

end Sys2Proof.Machine
end

