-- ==== Sys2Proof/Machine/Step.lean ====
section
/-! DEFINITION. The step: the command at the front of the queue, or one clock tick on an empty queue. -/

namespace Sys2Proof.Machine

/-- Take the command at the front and run it with the rest of the queue; with no command waiting the clock
advances (DESIGN CHOICE). -/
def step (s : State) : Host.Outcome State Fault Refusal :=
  match s.pending with
  | [] => .next { clockTick s with pending := [] }
  | c :: rest => exec c { s with pending := rest }

/-- `s` with the command that a word spells in front of its queue; no row of the table has bits, so no word
spells one and `s` is unchanged. -/
def State.withFetchWord (s : State) (nbits w : Nat) : State :=
  match decodeTableWord nbits w with
  | some c => { s with pending := c :: s.pending }
  | none => s

end Sys2Proof.Machine
end

