-- ==== Sys2Proof/Machine/View.lean ====
section
/-! DEFINITION. What a register reads (R14, R15, R554, R557): the stored word, but for fields that follow other
state, WO fields, and blocks that QUARANTINE has stopped. No row of the table reads a register but those with an
effect of their own; this is what the statements about registers are said with. -/

namespace Sys2Proof.Machine

/-- A word with a value put at a bit. -/
def at' (lo v : Nat) : Nat := v * 2 ^ lo

/-- A flag at a bit. -/
def flagAt (lo : Nat) (b : Bool) : Nat := if b then 2 ^ lo else 0

/-- STP_DEVICE_ID: 0x0C58, stepping B1, the grade of OTP word 0x000A and the PROFILE strap (R2). -/
def State.deviceId (s : State) : Nat :=
  0x0C581100 + at' 4 ((s.otp.get 0 0x0A).toNat % 16) + flagAt 3 (s.flag F.STP_STRAPS_PROFILE)

/-- Registers of LDG that follow other state. -/
def State.readLdg (s : State) (off : Nat) : Option Nat :=
  match member 0x0C0020 4 4 off, s.ledger.mmf.head? with
  | some c, _ => some (flagAt 31 (s.ctx c).owner.isSome + at' 16 ((s.ctx c).owner.getD 0 % 256) + (s.ctx c).staged.length)
  | none, m =>
    if off = 0x0C0000 then some (at' 17 s.stashUsed + s.freeIds)
    else if off = 0x0C0060 then some (at' 16 (s.fld F.LDG_MMF_STAT_OVERFLOW) + s.ledger.mmf.length)
    else if off = 0x0C0064 then some ((m.map (fun m => flagAt 31 m.xref + flagAt 30 m.ecc + m.shortId)).getD 0)
    else if off = 0x0C0068 then some ((m.map (fun m => m.mask)).getD 0)
    else if off = 0x0C006C then some ((m.map (fun m => m.mask / 2 ^ 32)).getD 0)
    else if off = 0x0C0070 then some ((m.map (fun m => m.at24)).getD 0)
    else none

/-- Registers of the data plane that follow other state. -/
def State.readData' (s : State) (off : Nat) : Option Nat :=
  if off = 0x040000 then some (at' 16 (countIf (fun n => s.flag (F.CHZ_CH_CFG_EN n)) (List.range 256)) + s.ctxFree)
  else if off = R.CHZ_CAP_STAT then
    some (match s.chz.cap with
      | some c =>
        let n := s.rawCount c
        if s.fld F.CHZ_CAP_STAT_MODE = 0 then
          (s.word off).toNat / 2 ^ 26 * 2 ^ 26 + flagAt 24 (ringSamples < n) + least2 n ringSamples
        else (s.word off).toNat
      | none => (s.word off).toNat)
  else if (member (R.CHZ_CAP_WIN 0) 4 8192 off).isSome then
    let o := 32768 * s.fld F.CHZ_CAP_PAGE_PAGE + (off - R.CHZ_CAP_WIN 0)
    some (leAt ((List.range 4).map (fun i => s.storeByte (o + i))) 0 4)
  else if off = 0x060004 then
    some (at' 8 (sumOf ((List.range 8).map (fun d => if (s.demod.decoders.get none d).isSome then 2 ^ d else 0))) +
      s.demod.queue.length)
  else if off = 0x060024 then some (at' 16 s.combUnits + (s.demod.comb.map (fun e => (e.shortId, e.fctr16))).eraseDups.length)
  else if off / 0x10000 = 0x0C then s.readLdg off
  else if off = 0x0A0000 then
    some (least2 256 (countIf (fun (r : RxRecord) => (leAt r.psdu 0 1).testBit 3) s.frames.rxq + s.frames.builds.length))
  else if off = 0x0F0028 then
    some (at' 18 (s.fld F.MMU_SPILL_STAT_RESTORE_FAULT) + countIf (fun e => e.spilled) s.demod.comb)
  else if off = 0x120004 then
    let q := s.queue (s.fld F.QUE_SEL_QID)
    some (flagAt 16 q.levelIe + q.level)
  else if off = 0x120008 then
    some (at' 16 (s.queueCredit (s.fld F.QUE_SEL_QID)) + (s.queue (s.fld F.QUE_SEL_QID)).fill)
  else match member 0x080100 4 16 off with
    | some e =>
      let now := feastSec s.now
      let b := s.band e
      some (if b.valid && b.feast then s.feastSum e (now + 1 - b.dutyWin) now else 0)
    | none => none

/-- Registers of the management and control planes that follow other state. -/
def State.readMgt (s : State) (off : Nat) : Option Nat :=
  if off = 0x130008 then some (flagAt 16 (s.flag F.TMB_STAT_CAL_FAULT) + s.interp.sched.length)
  else if off = 0x010000 then some s.now
  else if off = 0x150010 then some s.wdtLeft
  else if off = 0x150018 then some s.mirrorLag
  else if off = 0x180008 then some (sumOf ((List.range 24).map (fun i => if s.gpioLevel i then 2 ^ i else 0)))
  else if off = 0x180034 then
    let o := (s.ownerOf (s.word 0x180030).toNat).toNat
    some (flagAt 31 (o != 0) + o)
  else if off = 0x190024 then
    some (flagAt 31 (s.flag F.THM_STAT_CRIT) + flagAt 30 (s.flag F.THM_STAT_WARN) + at' 28 (s.fld F.THM_STAT_STEPS) +
      least2 65535 s.heldSeconds)
  else if off = 0x1C0004 then
    let n := s.fld ⟨0x1C0000, 0, 10⟩
    some (if 0x10 ≤ n ∧ n ≤ 0x1F then 0 else (s.otp.get 0 n).toNat)
  else if off = 0x1D0000 then some s.dbgStat.toNat
  else if off = 0x1D0004 then some s.serial
  else if off = 0x1D0008 then some (s.serial / 2 ^ 32)
  else if off = 0x1E0000 then some s.deviceId
  else if off = 0x1E0008 then some s.stpMode
  else if off = 0x1F0018 then
    some (at' 30 (s.fld F.EVJ_STAT_STATE) + flagAt 29 s.journal.fatal.isSome + s.journal.held.length)
  else match member 0x1F0040 4 8 off, member 0x1F0060 4 8 off with
    | some k, _ =>
      some (match s.journal.aon.get none (s.fld F.EVJ_AON_SEL_SLOT) with
        | some (r, _) => leAt r.bytes (4 * k) 4
        | none => 0)
    | none, some k => some ((s.journal.fatal.map (fun r => leAt r.bytes (4 * k) 4)).getD 0)
    | none, none => none

/-- The high half that a requester's last read of a low half left for it (R95). -/
def State.snapshot (s : State) (w : Writer) (off : Nat) : Option Nat :=
  if off = R.TMB_NOW_LO + 4 then some (s.cal.nowHi.get 0 (writerKey w)).toNat
  else match member 0x020604 16 16 off, member 0x020608 16 16 off with
    | some n, _ => some ((s.capture n).value.toNat % 2 ^ 32)
    | none, some n => some ((s.capture n).snap.get 0 (writerKey w)).toNat
    | none, none => none

/-- What a read of a register does beyond its answer where no row of the table is that read: MAC_FEASTe_USED votes the
buckets that it sums (R218). -/
def readVotes (off : Nat) (s : State) : State :=
  match member 0x080100 4 16 off with
  | some e => feastVoteRange e (feastSec s.now + 1 - (s.band e).dutyWin) (feastSec s.now) s
  | none => s

/-- The word that a register reads for a requester. -/
def State.readRegAs (s : State) (who : Writer) (off : Nat) : Word :=
  let blk := off / 0x10000
  let stopped := s.inMode [.quarantine] && (dataBlock blk && blk != 0x17)
  if s.inMode [.cold] || stopped then 0
  else match findReg off with
    | none => if 0x178000 ≤ off ∧ off < 0x179008 then s.word off else 0
    | some d =>
      let w := match s.snapshot who off, (if dataBlock blk && blk != 0x13 then s.readData' off else s.readMgt off) with
        | some v, _ => BitVec.ofNat 32 v
        | none, some v => BitVec.ofNat 32 v
        | none, none => s.word off
      w &&& ~~~d.wo

/-- The word that a register reads through BAR0. -/
def State.readReg (s : State) (off : Nat) : Word := s.readRegAs .bar0 off

/-! ### Pins (R500, R532) -/

/-- Levels of the output pins; an open-drain pin, a pin with a pull, or one at high impedance is released. -/
inductive Level where
  | low
  | high
  | released
  deriving DecidableEq, Repr

def Level.of (b : Bool) : Level := if b then .high else .low

/-- An open-drain pin is driven low or released. -/
def Level.drain (low : Bool) : Level := if low then .low else .released

/-- The chip is in a state of R500: power-on reset, warm reset, COLD, or after THERMTRIP, all of which are COLD. -/
def State.outputsOff (s : State) : Bool := s.inMode [.cold]

/-- What the pins of the chip show to the board. -/
structure Pins where
  paEn : List Level
  paMode : List Nat
  trsw : List Level
  lnaByp : List Level
  sfpTxDisable : List Level
  pairToken : Level
  ppsOut : Level
  alertN : Level
  faultN : Level
  thermtripN : Level
  gpio : List Level
  /-- The transmitters of the Zoant ports and of PCI Express are in electrical idle. -/
  zoantIdle : List Bool
  pcieIdle : Bool
  ddrResetN : Level
  deriving DecidableEq, Repr

/-- The pins as the state gives them; every output takes its level of R500 in the states of that rule. -/
def State.pins (s : State) : Pins :=
  let on := !s.outputsOff
  let each {α : Type} (n : Nat) (f : Nat → α) : List α := (List.range n).map f
  { paEn := each 4 (fun n => Level.of (on && s.paEn n))
    paMode := each 4 (fun n => if on then s.paMode n else 0)
    trsw := each 4 (fun n => Level.of (on && s.trsw n))
    lnaByp := each 4 (fun n => Level.of (on && s.lnaByp n))
    sfpTxDisable := each 2 (fun p => Level.drain (on && s.flag (F.ETH_PORT_STAT_LASER_ON p)))
    pairToken := Level.drain (on && s.holder)
    ppsOut := Level.of (on && s.host.pps.out)
    alertN := Level.drain (on && s.alertN)
    faultN := Level.drain (on && s.faultN)
    thermtripN := Level.drain s.seq.thermtrip
    gpio := each 24 (fun i => match s.gpioDrive i with
      | some b => if on then Level.of b else .released
      | none => .released)
    zoantIdle := each 4 (fun p => !on || !s.bit F.ZFB_CTL_PORT_EN p)
    pcieIdle := !on || !s.flag F.PCI_LINK_UP
    ddrResetN := Level.of on }

end Sys2Proof.Machine
end

