-- ==== Sys2Proof/Safety.lean ====
section
/-! DEFINITION. What a safe step is: it ends in a next state. The spec gives the block no fault, and every
command an effect. -/

namespace Sys2Proof.Machine

/-- A step that neither faults nor is refused. -/
def Safe (s : State) : Prop := ∃ t, step s = .next t

end Sys2Proof.Machine
end

