-- ==== Sys2Proof/WellFormed.lean ====
section
/-! DEFINITION. Commands that the surroundings can send: operands that a field's width or a packet's own header bounds.
The machine runs every command, well-formed or not. -/

namespace Sys2Proof

/-- LEN is the number of parameter bytes, at most 496 (R27). -/
def Packet.wf (p : Packet) : Bool := p.params.length == p.len.toNat && p.len.toNat ≤ 496

/-- A register access is to a 32-bit word (R555). -/
def aligned {n : Nat} (off : BitVec n) : Bool := off.toNat % 4 == 0

/-- A descriptor's node, drive code and frame lie within their fields (R99, R110). -/
def TxDesc.wf (d : TxDesc) : Bool := decide (d.node ≤ 0x1FFFF ∧ d.drive ≤ 127 ∧ d.psdu.length ≤ 2047)

/-- A Zoant frame's header fields lie within their widths (R406). -/
def ZFrame.wf (f : ZFrame) : Bool := decide (f.dst < 64 ∧ f.src < 64 ∧ f.cls ≤ 4 ∧ f.ttl ≤ 15 ∧ f.len ≤ 2304 ∧ f.seq < 65536)

/-- The requesters that a cycle names are those of the arbiter (R395). -/
def cyclesOk (cs : List ArbCycle) : Bool :=
  cs.all (fun c => c.asks.all (fun r => decide (1 ≤ r ∧ r ≤ 53)) && c.low.all (fun r => decide (1 ≤ r ∧ r ≤ 53)))

/-- A command whose operands the surroundings can give. -/
def Instr.wf (i : Instr) : Bool :=
  match i with
  | .commandArrival _ p => (match p with
      | some q => q.wf
      | none => true)
  | .commandStart _ => true
  | .hostCommandDoorbell _ _ => true
  | .hostReplyDoorbell _ _ => true
  | .ringReset _ _ => true
  | .ringEnable _ _ => true
  | .ringDisable _ _ => true
  | .replyCoalesceTimeout _ => true
  | .cmdNop p => p.wf
  | .cmdCancel p => p.wf
  | .cmdSchedQuery p => p.wf
  | .smbBlockWrite _ _ data => (data.length ≤ 255)
  | .smbSubmit _ => true
  | .smbSetReadOffset _ _ => true
  | .smbRelease _ => true
  | .queDrop _ => true
  | .lockSet _ off _ => aligned off
  | .registerWrite _ off _ _ => aligned off
  | .counterClearWrite _ off _ => aligned off
  | .strapSample _ => true
  | .bootImageLoaded img => (img.header.length == 256)
  | .stpBootDoorbell _ => true
  | .bootDataRx _ _ bytes => (bytes.length ≤ 2048)
  | .bootReqRx _ _ _ _ _ => true
  | .modeReq p => p.wf
  | .modeStatus p => p.wf
  | .sysReset p => p.wf
  | .bootListWrite p => p.wf
  | .bootRecoveryLoad p => p.wf
  | .refLoss _ => true
  | .voteCorrected _ _ => true
  | .calFault _ _ _ => true
  | .timeRead p => p.wf
  | .timeResync p => p.wf
  | .timeSlew p => p.wf
  | .tmbNowLoRead _ => true
  | .tmrLCmpWrite _ _ _ => true
  | .tmrLRearm _ _ => true
  | .tmrLDisarm _ _ => true
  | .tmrLIntWrite _ _ _ => true
  | .timerLFire _ => true
  | .tmrICmpWrite _ _ _ => true
  | .tmrICountWrite _ _ _ => true
  | .tmrIPrescWrite _ _ _ => true
  | .tmrICtlWrite _ _ _ => true
  | .timerIMatch _ => true
  | .gptInEdge _ _ => true
  | .ppsInEdge _ => true
  | .capValueLoRead _ _ => true
  | .capValueHiRead _ _ => true
  | .capReadPairTimeout _ => true
  | .radioSpanSet p => p.wf
  | .radioTxConfig p => p.wf
  | .radioCal p => p.wf
  | .radioRegLoad p => p.wf
  | .radioRegRead p => p.wf
  | .regBurn p => p.wf
  | .rfeRegTightenA _ => true
  | .rfeRegTightenB _ => true
  | .synthLock _ => true
  | .synUnlock _ => true
  | .chainBiasSettled _ => true
  | .txDescriptorIssue _ d => d.wf
  | .txStartTick _ _ => true
  | .txLate _ => true
  | .txFirstSymbol _ => true
  | .txFrameEnd _ => true
  | .rampDownEnd _ => true
  | .calStart _ => true
  | .calDone _ _ => true
  | .calDeferExpired _ => true
  | .phyChanSet p => p.wf
  | .phyChanRead p => p.wf
  | .phyCapture p => p.wf
  | .phyCaptureRead p => p.wf
  | .captureTimeout _ _ => true
  | .captureEnd _ _ => true
  | .streamBlockBoundary _ _ _ _ _ => true
  | .phyProfileLoad p => p.wf
  | .phyProfileRead p => p.wf
  | .preambleDetect _ _ _ => true
  | .diversityDecision _ _ _ _ _ _ => true
  | .syncEnd _ _ _ _ _ _ _ => true
  | .syncTimeout _ => true
  | .rxFrameEnd _ _ _ => true
  | .modeSwitchTimeout _ => true
  | .ldpcJobReady _ _ => true
  | .ldpcJobDone _ => true
  | .combRetentionExpired id => decide (id < 0x20000)
  | .spillRestore id => decide (id < 0x20000)
  | .macAlmanacSet p => p.wf
  | .macHeraldSet p => p.wf
  | .macChmapSet p => p.wf
  | .macAssocSet p => p.wf
  | .macAssocDrop p => p.wf
  | .macNodeTiming p => p.wf
  | .macTimingSet p => p.wf
  | .macLedgerRead p => p.wf
  | .roundStart _ => true
  | .laneRun _ _ => true
  | .laneFault _ _ => true
  | .eventDelivery _ => true
  | .windowPrepare _ => true
  | .windowClose _ => true
  | .eventEnd _ => true
  | .ledgerScrub _ => true
  | .nodeReview _ cs => (cs.all (fun c => decide (c.node < 0x1FFFF)))
  | .schedEnvelopeSet p => p.wf
  | .schedEnvelopeRead p => p.wf
  | .schedStatus p => p.wf
  | .schedNodeView p => p.wf
  | .joinRequest _ => true
  | .downlinkExchange _ => true
  | .reassemblyTimeout _ size dtag => decide (size < 2048 ∧ dtag < 65536)
  | .ctrRowWriteDone _ => true
  | .frmCfgSet p => p.wf
  | .frmCtxSet p => p.wf
  | .ctrQuery p => p.wf
  | .ctrResvFetch p => p.wf
  | .ctrResvAck p => p.wf
  | .ctrRestore p => p.wf
  | .keyOrkProvision p => p.wf
  | .keyDkLoad p => p.wf
  | .keyLoad p => p.wf
  | .keyEpochPrepare p => p.wf
  | .keyEpochStatus p => p.wf
  | .keyZap p => p.wf
  | .keySlotInfo p => p.wf
  | .attest p => p.wf
  | .dbgOpen p _ => p.wf
  | .jtagDbgOpen _ _ => true
  | .jtagInstruction _ _ => true
  | .dbgLockout p => p.wf
  | .ldgAccess p => p.wf
  | .ldgOpRead _ _ _ => true
  | .ldgOpWrite _ _ _ => true
  | .ldgOpWriteMasked _ _ _ => true
  | .ldgOpCas _ _ _ => true
  | .ldgOpInvalidate _ _ _ => true
  | .ldgOpAlloc _ _ _ => true
  | .ldgOpFree _ _ _ => true
  | .ldgLock p => p.wf
  | .ldgUnlock p => p.wf
  | .ldgLearnSet p => p.wf
  | .ldgMismatchRead p => p.wf
  | .ldgMmfPop _ => true
  | .ldgLockTimeout _ => true
  | .learnAged _ => true
  | .bntAge _ => true
  | .bgcCtlWrite _ => true
  | .ldgEccUncorr _ _ _ => true
  | .fwdRouteSet p => p.wf
  | .fwdRouteRead p => p.wf
  | .fwdCfgSet p => p.wf
  | .fwdDlqFlush p => p.wf
  | .rolCampaignSet p => p.wf
  | .rolTarget p => p.wf
  | .rolStart p => p.wf
  | .rolStop p => p.wf
  | .rolStatus p => p.wf
  | .rolloutWindow _ => true
  | .bufPoolSet p => p.wf
  | .bufStatus p => p.wf
  | .dmaEnable _ _ => true
  | .dmaDisable _ _ => true
  | .dmaPiWrite _ _ => true
  | .dmaResume _ _ => true
  | .dmaSkip _ _ => true
  | .dmaDescriptorDone _ data => (data.length ≤ 12288)
  | .memFault _ _ => true
  | .fltRingRetry _ => true
  | .fltRingResize _ => true
  | .dramEccError _ _ => true
  | .arbPrioWrite cycles _ _ => cyclesOk cycles
  | .arbQuotaWrite cycles _ => cyclesOk cycles
  | .arbWindowEnd cycles => cyclesOk cycles
  | .zoantSignalDetect _ => true
  | .zoantBlockLock _ => true
  | .helloTx _ => true
  | .helloRx _ f => f.wf
  | .linkDown _ => true
  | .zoantFrameRx _ f _ => f.wf
  | .zfbRetransmitTimeout _ => true
  | .lsaExpiry _ => true
  | .leaseExpired _ => true
  | .fabCfgSet p => p.wf
  | .fabStatus p => p.wf
  | .fabHandover p => p.wf
  | .handoverReverted _ => true
  | .pairTokenLineChange _ => true
  | .pairSenseChange _ => true
  | .pairWdtKick _ => true
  | .pairCfg p => p.wf
  | .pairSwitch p => p.wf
  | .pairStatus p => p.wf
  | .pcieReset _ => true
  | .msixUnmask _ => true
  | .bar2Access off write data => (aligned off && (!write || data.length % 4 == 0))
  | .ethFrameRx _ frame _ _ => (frame.length ≤ 16384)
  | .ethPortSet p => p.wf
  | .sfpTxFault _ => true
  | .sfpSignalChange _ _ _ _ _ => true
  | .ethI2cTransaction _ _ _ => true
  | .mgtQspiOp _ _ => true
  | .mgtGpioFuncWrite _ _ _ => true
  | .resClaim p => p.wf
  | .resRelease p => p.wf
  | .resQuery p => p.wf
  | .ppsSet p => p.wf
  | .thmStatus p => p.wf
  | .pwrStatus p => p.wf
  | .thermalSample sensors => (sensors.length == 9)
  | .thermtrip _ => true
  | .railSample rails => (rails.length == 10)
  | .journalRecordPost _ sev _ args => (sev.toNat ≤ 3 && args.length ≤ 20)
  | .journalEnable _ => true
  | .evjRdWrite _ => true
  | .evjFatalClear _ => true
  | .evjAonWinRead _ => true
  | .journalAonRead p => p.wf
  | .mgtIntClear _ => true
  | .phrEnd _ phr => decide (phr.len ≤ 2047)
  | .mmuFltCiWrite _ => true
  | .pcieLinkUp _ _ => true
  | .ethFrameTx _ _ => true
  | .ethI2cDone _ _ _ => true
  | .mgtQspiDone data => (data.length ≤ 64)
  | .scheduledCommandReady => true
  | .cpStopped => true
  | .autoCpRestartTimeout => true
  | .smbStatusRead => true
  | .smbBlockRead => true
  | .smbClockTimeout => true
  | .smbAlertResponse => true
  | .poresetAssert => true
  | .aonPowerLoss => true
  | .poresetDeassert => true
  | .pllLock => true
  | .pcieBootTimeout => true
  | .zoantBootTimeout => true
  | .kindlingDone => true
  | .calibrateDone => true
  | .modeTransitionDone => true
  | .warmReset => true
  | .refRestored => true
  | .slowExit => true
  | .slewDone => true
  | .ppsLost => true
  | .ldpcJobStart => true
  | .almanacStart => true
  | .epochRoll => true
  | .loadReview => true
  | .channelReview => true
  | .planReview => true
  | .rxFrameCheck => true
  | .txBuild => true
  | .derivedKeyMiss => true
  | .ctrGroupLow => true
  | .learnTokenRefill => true
  | .bgcVisit => true
  | .packetForward => true
  | .fwdDropsReport => true
  | .lsaTx => true
  | .routeRecompute => true
  | .registrarChange => true
  | .syncTx => true
  | .leaseRenew => true
  | .tokenClaimed => true
  | .tokenLineFault => true
  | .pairWdtExpiry => true
  | .mirrorHeartbeat => true
  | .mirrorSynced => true
  | .takeover => true
  | .pcieBmeClear => true
  | .journalEmit => true
  | .journalDrop => true
  | .slowClkStart => true
  | .vddAonRestored => true
  | .timeResyncTimeout => true
  | .ctrResvFetchTimeout => true
  | .bntTokenRefill => true
  | .pcieBmeSet => true
  | .swdRequest => true

end Sys2Proof
end

