-- ==== Sys2Proof/Certificates/Slice0/Obligations.lean ====
section
/-! DEFINITION. The statements for the provers. -/

namespace Sys2Proof.Claims
open Sys2Proof Sys2Proof.Machine

/-- A packet as the row of an opcode runs it. -/
def asOp (op : Nat) (p : Packet) : Packet := { p with opcode := BitVec.ofNat 16 op }

/-- A packet command has its LEN, the protocol cores serve it, and the mode is one of the row's. -/
def Served (n : Nat) (modes : List Mode) (p : Packet) (s : State) : Prop :=
  p.n = n ∧ s.coresServe = true ∧ s.inMode modes = true

/-- A packet command that the management controller runs has its LEN, and the mode is one of the row's. -/
def Managed (n : Nat) (modes : List Mode) (p : Packet) (s : State) : Prop := p.n = n ∧ s.inMode modes = true

/-- A state, but with the queue of another: what a command's effect leaves, the queue as it was before. -/
def sameQueue (s t : State) : State := { t with pending := s.pending }

end Sys2Proof.Claims

section

open Sys2Proof Sys2Proof.Machine Sys2Proof.Claims

/-- The step of the block: with a command at the front of the queue it is that command's effect with the rest of the
queue left; with none waiting it is one tick of the clock (the model's choice, log entry 3). -/
def Obligations.StepRunsFront : Prop :=
  (∀ (c : Instr) (rest : List Instr) (s : State), s.pending = c :: rest →
    step s = exec c { s with pending := rest }) ∧
  (∀ s : State, s.pending = [] → step s = .next { clockTick s with pending := [] })

/-- Every command answers a next state, and no command touches the queue. -/
def Obligations.CommandsKeepQueue : Prop :=
  ∀ (c : Instr) (s : State), ∃ t, exec c s = .next t ∧ t.pending = s.pending

/-- In every step the queue keeps holding well-formed commands only. -/
def Obligations.QueueStaysWellFormed : Prop :=
  ∀ s t : State, (∀ c ∈ s.pending, c.wf = true) → step s = .next t → ∀ c ∈ t.pending, c.wf = true

/-- What power-on reset leaves: the mode COLD with the reset held, no command waiting, and every register at the reset
value that its table gives, of which the ones listed are not zero. -/
def Obligations.ResetLeaves : Prop :=
  State.reset.pending = [] ∧ State.reset.seq.mode = .cold ∧
  State.reset.cal.porLow = true ∧ State.reset.now = 0 ∧
  (∀ r ∈ ([
    (F.CMD_CTL_ZOANT_EN, 1), (F.CMD_CTL_SMB_EN, 1), (F.CMD_CLASS_MASK_SMB_CLASSES, 0xF9BF),
    (F.CMD_CLASS_MASK_ZOANT_CLASSES, 0x0AF2), (F.TMB_STAT_SLOW, 1), (F.RFE_BLANK_THR_THR, 226),
    (F.DMD_CTL_CFO_VALID_S, 3600), (F.LDP_CTL_ITER_CAP, 32), (F.LDP_COMB_CTL_HOLD, 6000),
    (F.MAC_ALM_CFG_SLOT_LEN, 8), (F.MAC_ALM_CFG_ROUNDS_M1, 65535), (F.MAC_SLOT_CFG_ACK_TURN, 200),
    (F.MAC_SLOT_CFG_EV_OFS, 100), (F.MAC_DRIFT_CFG_ALPHA_SH, 3), (F.MAC_DRIFT_CFG_CORR_MIN, 32),
    (F.MAC_DRIFT_CFG_G_MIN, 7680), (F.MAC_DRIFT_U_U_MAX, 40000), (F.MAC_DRIFT_U_U_MIN, 200), (F.FRM_CTL_PAN_ID,
    65535), (F.FRM_CTL_TX_LEVEL, 1)] ++ [ (F.FRM_CTL_FRAG_PSDU, 255), (F.FRM_FRAG_STAT_REASM_S, 60),
    (F.NVS_CTR_STAT_SPARES, 32), (F.LDG_LEARN_CTL_RATE, 200), (F.LDG_LEARN_CTL_BURST, 16),
    (F.LDG_AGE_CFG_LEARN_AGE_S, 600), (F.LDG_AGE_CFG_BNT_AGE_S, 300), (F.LDG_BGC_CTL_RATE, 1000),
    (F.FWD_CTL_SRC_CHECK, 1), (F.FWD_CTL_ETH_MTU, 1500), (F.FWD_DLQ_CFG_TTL_S, 900), (F.FWD_DLQ_CFG_MAX, 8),
    (F.FWD_DLQ_PAGES_LIMIT, 32768), (F.MMU_FLT_CTL_LOG2, 9), (F.ARB_QUOTA_W_M1, 255), (F.ARB_QUOTA_Q_M1, 63),
    (F.ZFB_CTL_PORT_EN, 15), (F.ZFB_TIME_CFG_ALIGN_THR, 24), (F.ZFB_TIME_CFG_RATE, 20), (F.ZFB_LEASE_TMO_TICKS,
    12000000), (F.PAR_CTL_REL_ON_CP_STOP, 1), (F.PAR_CTL_AUTO_CLAIM, 1), (F.MGT_SMB_CFG_ADDR, 92),
    (F.STP_CTL_BOOT_LIST_EN, 1), (F.STP_CTL_AUTO_CP_RESTART, 1), (F.EVJ_CTL_AON_MIN, 2), (F.MGT_ALERT_EN_EN,
    127), (F.CMD_RING_CTL_LOG2_SLOTS 15, 4)] :
    List (Field × Nat)), State.reset.fld r.1 = r.2) ∧
  State.reset.word R.LDG_LOCK_TMO = 1200000 ∧ State.reset.word R.TMR_L_INT = 0 ∧ State.reset.flag F.CLK_STAT_PLL_LOCK = false

/-- A queue is served first in, first out: `k` steps answer a next state, and take the first `k` commands in order. -/
def Obligations.QueueServedInOrder : Prop :=
  ∀ (k : Nat) (s : State), ∃ t, core.run k s = .next t ∧ t.pending = s.pending.drop k

/-- A command packet on the wire: 16 header bytes, then its parameters; the bytes of a well-formed packet spell that
packet again, and bytes of the length that their LEN tells are the bytes of the packet that they spell (R27). -/
def Obligations.PacketRoundTrip : Prop :=
  (∀ p : Packet, p.wf = true → Packet.ofBytes p.wire = p ∧ p.wire.length = 16 + p.n) ∧
  (∀ bs : List Byte, bs.length = 16 + leAt bs 4 2 → (Packet.ofBytes bs).wire = bs)

/-- A packet command answers BAD_LENGTH to a LEN that is not its own, and does nothing else (R30, check 4). A packet
command that has its LEN but arrives in a mode that does not serve it is answered NOT_IN_MODE, and nothing else
happens (R34). -/
def Obligations.PacketRefusals : Prop :=
  (∀ (op n : Nat) (row : Packet → Instr),
     (op, n, row) ∈ ([(0x0002, 8, .cmdCancel), (0x0003, 0, .cmdSchedQuery), (0x0010, 4, .modeReq), (0x0011, 0, .modeStatus),
       (0x0012, 8, .sysReset), (0x1001, 0, .timeRead), (0x1002, 16, .timeResync), (0x1003, 8, .timeSlew),
       (0x2001, 8, .radioSpanSet), (0x2002, 4, .radioTxConfig), (0x2003, 12, .radioCal), (0x2004, 272, .radioRegLoad),
       (0x2005, 4, .radioRegRead), (0x3001, 16, .phyChanSet), (0x3002, 4, .phyChanRead), (0x3003, 48, .phyCapture),
       (0x3004, 8, .phyCaptureRead), (0x3010, 40, .phyProfileLoad), (0x3011, 4, .phyProfileRead),
       (0x4001, 32, .macAlmanacSet), (0x4002, 28, .macHeraldSet), (0x4003, 40, .macChmapSet), (0x4004, 32, .macAssocSet),
       (0x4005, 4, .macAssocDrop), (0x4006, 4, .macNodeTiming), (0x4007, 12, .macTimingSet), (0x4008, 4, .macLedgerRead),
       (0x5001, 52, .schedEnvelopeSet), (0x5002, 8, .schedEnvelopeRead), (0x5003, 0, .schedStatus),
       (0x5004, 4, .schedNodeView), (0x6001, 84, .keyOrkProvision), (0x6002, 84, .keyDkLoad), (0x6003, 84, .keyLoad),
       (0x6004, 8, .keyEpochPrepare), (0x6005, 0, .keyEpochStatus), (0x6006, 12, .keyZap), (0x6007, 4, .keySlotInfo),
       (0x6101, 4, .ctrQuery), (0x6102, 12, .ctrResvFetch), (0x6103, 4, .ctrResvAck), (0x7001, 96, .ldgAccess),
       (0x7002, 0, .ldgLock), (0x7003, 4, .ldgUnlock), (0x7004, 12, .ldgLearnSet), (0x7005, 4, .ldgMismatchRead),
       (0x8001, 32, .fwdRouteSet), (0x8002, 4, .fwdRouteRead), (0x8003, 16, .fwdCfgSet), (0x8004, 4, .fwdDlqFlush),
       (0x8101, 20, .frmCfgSet), (0x8102, 20, .frmCtxSet), (0x9001, 48, .rolCampaignSet), (0x9003, 12, .rolStart),
       (0x9004, 4, .rolStop), (0x9005, 4, .rolStatus), (0xA001, 24, .bufPoolSet), (0xA002, 0, .bufStatus),
       (0xB001, 16, .fabCfgSet), (0xB002, 0, .fabStatus), (0xB003, 8, .fabHandover), (0xB004, 12, .pairCfg),
       (0xB005, 4, .pairSwitch), (0xB006, 0, .pairStatus), (0xC003, 4, .resQuery), (0xC010, 24, .ethPortSet),
       (0xC020, 16, .ppsSet), (0xD001, 0, .thmStatus), (0xD002, 0, .pwrStatus), (0xF101, 32, .attest),
       (0xF103, 4, .dbgLockout), (0xF201, 276, .regBurn), (0xF301, 8, .journalAonRead)] :
       List (Nat × Nat × (Packet → Instr))) →
     ∀ (p : Packet) (s : State), p.n ≠ n → exec (row p) s = .next (reply (asOp op p) St.BAD_LENGTH [] s)) ∧
  (∀ (op n : Nat) (modes : List Mode) (row : Packet → Instr),
     (op, n, modes, row) ∈ ([(0x0002, 8, coreModes, .cmdCancel), (0x0003, 0, coreModes, .cmdSchedQuery),
       (0x1001, 0, coreModes, .timeRead), (0x1002, 16, coreModes, .timeResync), (0x1003, 8, radioModes, .timeSlew),
       (0x2001, 8, radioModes, .radioSpanSet), (0x2002, 4, radioModes, .radioTxConfig), (0x2003, 12, radioModes, .radioCal),
       (0x2004, 272, [.calibrate, .test], .radioRegLoad), (0x2005, 4, coreModes, .radioRegRead),
       (0x3001, 16, radioModes, .phyChanSet), (0x3002, 4, coreModes, .phyChanRead), (0x3003, 48, radioModes, .phyCapture),
       (0x3004, 8, coreModes, .phyCaptureRead), (0x3010, 40, radioModes, .phyProfileLoad),
       (0x3011, 4, coreModes, .phyProfileRead), (0x4001, 32, radioModes, .macAlmanacSet),
       (0x4002, 28, radioModes, .macHeraldSet), (0x4003, 40, radioModes, .macChmapSet),
       (0x4004, 32, radioModes, .macAssocSet), (0x4005, 4, radioModes, .macAssocDrop),
       (0x4006, 4, coreModes, .macNodeTiming), (0x4007, 12, radioModes, .macTimingSet),
       (0x4008, 4, coreModes, .macLedgerRead), (0x5001, 52, radioModes, .schedEnvelopeSet),
       (0x5002, 8, coreModes, .schedEnvelopeRead), (0x5003, 0, coreModes, .schedStatus),
       (0x5004, 4, coreModes, .schedNodeView), (0x6001, 84, radioModes, .keyOrkProvision),
       (0x6002, 84, radioModes, .keyDkLoad), (0x6003, 84, radioModes, .keyLoad), (0x6004, 8, radioModes, .keyEpochPrepare),
       (0x6005, 0, coreModes, .keyEpochStatus), (0x6006, 12, coreModes, .keyZap), (0x6007, 4, coreModes, .keySlotInfo),
       (0x6101, 4, coreModes, .ctrQuery), (0x6102, 12, coreModes, .ctrResvFetch), (0x6103, 4, coreModes, .ctrResvAck),
       (0x7001, 96, coreModes, .ldgAccess), (0x7002, 0, coreModes, .ldgLock), (0x7003, 4, coreModes, .ldgUnlock),
       (0x7004, 12, coreModes, .ldgLearnSet), (0x7005, 4, coreModes, .ldgMismatchRead),
       (0x8001, 32, radioModes, .fwdRouteSet), (0x8002, 4, radioModes, .fwdRouteRead), (0x8003, 16, radioModes, .fwdCfgSet),
       (0x8004, 4, radioModes, .fwdDlqFlush), (0x8101, 20, radioModes, .frmCfgSet), (0x8102, 20, radioModes, .frmCtxSet),
       (0x9001, 48, [.service, .test], .rolCampaignSet), (0x9003, 12, [.service, .test], .rolStart),
       (0x9004, 4, [.service, .test], .rolStop), (0x9005, 4, coreModes, .rolStatus),
       (0xA001, 24, [.calibrate, .test], .bufPoolSet), (0xA002, 0, coreModes, .bufStatus),
       (0xB001, 16, coreModes, .fabCfgSet), (0xB002, 0, coreModes, .fabStatus), (0xB003, 8, [.service], .fabHandover),
       (0xB004, 12, [.calibrate, .banked, .test], .pairCfg), (0xB005, 4, [.service], .pairSwitch),
       (0xB006, 0, coreModes, .pairStatus), (0xC003, 4, coreModes, .resQuery), (0xC010, 24, radioModes, .ethPortSet),
       (0xC020, 16, coreModes, .ppsSet)] : List (Nat × Nat × List Mode × (Packet → Instr))) →
     ∀ (p : Packet) (s : State), p.n = n → (s.coresServe = false ∨ s.inMode modes = false) →
       exec (row p) s = .next (reply (asOp op p) St.NOT_IN_MODE [] s))

/-- The queries answer and do nothing else, whatever their packet, their mode or their refusal: the state changes only
where an answer is delivered, in the interpreter, the queues of Zoant, host memory, the journal, and registers of
the blocks CMD, ZFB, PCI and MGT. -/
def Obligations.QueriesOnlyAnswer : Prop :=
  ∀ row ∈ ([.cmdNop, .cmdSchedQuery, .modeStatus, .timeRead, .radioRegRead, .phyChanRead, .phyCaptureRead, .phyProfileRead,
      .macNodeTiming, .schedEnvelopeRead, .schedStatus, .schedNodeView, .keyEpochStatus, .keySlotInfo, .ctrQuery,
      .fwdRouteRead, .rolStatus, .bufStatus, .fabStatus, .pairStatus, .resQuery, .thmStatus, .pwrStatus, .attest] :
      List (Packet → Instr)),
    ∀ (p : Packet) (s t : State), exec (row p) s = .next t →
      t = { s with csr := t.csr, interp := t.interp, zoant := t.zoant, host := t.host, seq := t.seq, journal := t.journal,
                   hostMem := t.hostMem } ∧
      t.seq.mode = s.seq.mode ∧ t.host.owners = s.host.owners ∧ t.zoant.froute = s.zoant.froute ∧
      (∀ off, off / 0x10000 ∉ [0x13, 0x14, 0x17, 0x18] → t.word off = s.word off) ∧
      (p.issuer.toNat < 0x40 → t.csr = s.csr ∧ t.hostMem = s.hostMem ∧ t.zoant = s.zoant)

/-- A command that arrives over a transport that takes it, and that passes the checks of arrival, is ready, or waits in
the schedule table where NOT_BEFORE is later than the tick of its arrival. The firmware's own commands and those of
a host ring pass through a hardware queue, in which a ready command lies until it starts; the firmware's wait where
that queue is full, a district's in their receiver where 16 are outstanding (R30, R35, R44, R45, R48 to R51). A
command that fails a check of arrival is answered with that status and neither scheduled nor ready; one that came
through a queue leaves it (R30). -/
def Obligations.CommandsArrive : Prop :=
  ((∀ (core : Fin 4) (p : Packet) (s t : State), s.interp.cpRunning = true → 2 ≤ p.issuer.toNat → p.issuer.toNat ≤ 5 →
     (s.queue cmdQid).agrees = true → s.queueFull cmdQid = false → (s.queue cmdQid).waiting = [] →
     t = queueEnter cmdQid ⟨[], p.wire, 0, 0, s.now, s.interp.nextSeq⟩ s → t.arrivalFail p = none →
     (t.now < p.notBefore.toNat →
       exec (.commandArrival (.firmware core) (some p)) s = .next (sameQueue s (queueLeave cmdQid t.interp.nextSeq
         { t with interp.nextSeq := t.interp.nextSeq + 1,
                  interp.sched := t.interp.sched ++ [⟨p, t.interp.nextSeq, t.now, none⟩] }))) ∧
     (p.notBefore.toNat ≤ t.now →
       exec (.commandArrival (.firmware core) (some p)) s =
         .next (sameQueue s { t with interp.nextSeq := t.interp.nextSeq + 1,
                                     interp.ready := t.interp.ready ++ [⟨p, t.interp.nextSeq, t.now, some 0⟩] }))) ∧
   (∀ (core : Fin 4) (p : Packet) (s : State), s.interp.cpRunning = true → 2 ≤ p.issuer.toNat → p.issuer.toNat ≤ 5 →
     (s.queue cmdQid).agrees = true → s.queueFull cmdQid = true →
     exec (.commandArrival (.firmware core) (some p)) s = .next (s.setQueue cmdQid { s.queue cmdQid with
       waiting := (s.queue cmdQid).waiting ++ [⟨[], p.wire, 0, 0, s.now, 0⟩] })) ∧
   (∀ (p : Packet) (s t : State), s.inMode [.cold] = false → p.issuer = 0x01 → (s.queue cmdQid).agrees = true →
     s.queueFull cmdQid = false → (s.queue cmdQid).waiting = [] →
     t = queueEnter cmdQid ⟨[], p.wire, 0, 0, s.now, s.interp.nextSeq⟩ s → t.arrivalFail p = none →
     p.notBefore.toNat ≤ t.now →
     exec (.commandArrival .management (some p)) s =
       .next (sameQueue s { t with interp.nextSeq := t.interp.nextSeq + 1,
                                   interp.ready := t.interp.ready ++ [⟨p, t.interp.nextSeq, t.now, some 0⟩] })) ∧
   (∀ (port : Fin 4) (chip : Fin 64) (p q : Packet) (s t : State), s.zoant.outstanding < 16 →
     s.inMode [.cold, .quarantine] = false → q = { p with issuer := BitVec.ofNat 8 (0x40 + chip.val) } →
     t = { s with zoant.outstanding := s.zoant.outstanding + 1 } → t.arrivalFail q = none →
     exec (.commandArrival (.zoant port chip) (some p)) s =
       .next { t with interp.nextSeq := t.interp.nextSeq + 1,
                      interp.sched := if s.now < q.notBefore.toNat then
                          s.interp.sched ++ [⟨q, s.interp.nextSeq, s.now, none⟩] else s.interp.sched,
                      interp.ready := if s.now < q.notBefore.toNat then s.interp.ready
                        else s.interp.ready ++ [⟨q, s.interp.nextSeq, s.now, none⟩] }) ∧
   (∀ (port : Fin 4) (chip : Fin 64) (p : Packet) (s : State), 16 ≤ s.zoant.outstanding →
     s.inMode [.cold, .quarantine] = false →
     exec (.commandArrival (.zoant port chip) (some p)) s = .next { s with zoant.rxHeld := s.zoant.rxHeld ++
       [(port.val, ⟨⟨s.chipNo, false, chip.val, 1, 8, 0, p.wire.length, true, .command p⟩, none⟩)] }) ∧
   (∀ (p : Option Packet) (q : Packet) (s t : State), s.interp.mbox.submitted = true →
     (s.interp.cpStopped = false ∨ q.cls = 0xF) → s.inMode [.cold] = false →
     q = { Packet.ofBytes (s.interp.mbox.mem.getRun 0 0 512) with issuer := 0x90 } →
     t = { s with interp.mbox.submitted := false } → t.arrivalFail q = none →
     exec (.commandArrival .smbus p) s =
       .next { t with interp.nextSeq := t.interp.nextSeq + 1,
                      interp.sched := if s.now < q.notBefore.toNat then
                          s.interp.sched ++ [⟨q, s.interp.nextSeq, s.now, none⟩] else s.interp.sched,
                      interp.ready := if s.now < q.notBefore.toNat then s.interp.ready
                        else s.interp.ready ++ [⟨q, s.interp.nextSeq, s.now, none⟩] }) ∧
   (∀ (n : Fin 16) (p q : Packet) (s u t : State), s.mayFetch n.val = true → (s.queue (16 + n.val)).agrees = true →
     (s.ring n.val).ahead.contains (s.ring n.val).fetch = false →
     q = { p with issuer := BitVec.ofNat 8 (0x80 + n.val) } →
     u = s.setRing n.val { s.ring n.val with fetch := ((s.ring n.val).fetch + 1) % 65536, errs := 0, inFlight := false } →
     t = queueEnter (16 + n.val) ⟨[], q.wire, 0, 0, s.now, s.interp.nextSeq⟩ u → t.arrivalFail q = none →
     q.notBefore.toNat ≤ t.now →
     exec (.commandArrival (.ring n) (some p)) s =
       .next (sameQueue s { t with interp.nextSeq := t.interp.nextSeq + 1,
                                   interp.ready := t.interp.ready ++
                                     [⟨q, t.interp.nextSeq, t.now, some (s.ring n.val).fetch⟩] }))) ∧
  ((∀ (core : Fin 4) (p : Packet) (st : Nat) (s t : State), s.interp.cpRunning = true → 2 ≤ p.issuer.toNat →
     p.issuer.toNat ≤ 5 → (s.queue cmdQid).agrees = true → s.queueFull cmdQid = false → (s.queue cmdQid).waiting = [] →
     t = queueEnter cmdQid ⟨[], p.wire, 0, 0, s.now, s.interp.nextSeq⟩ s → t.arrivalFail p = some st →
     exec (.commandArrival (.firmware core) (some p)) s = .next (sameQueue s
       (queueLeave cmdQid t.interp.nextSeq (reply p st [] { t with interp.nextSeq := t.interp.nextSeq + 1 })))) ∧
   (∀ (p : Option Packet) (q : Packet) (st : Nat) (s t : State), s.interp.mbox.submitted = true →
     (s.interp.cpStopped = false ∨ q.cls = 0xF) → s.inMode [.cold] = false →
     q = { Packet.ofBytes (s.interp.mbox.mem.getRun 0 0 512) with issuer := 0x90 } →
     t = { s with interp.mbox.submitted := false } → t.arrivalFail q = some st →
     exec (.commandArrival .smbus p) s =
       .next (sameQueue s (reply q st [] { t with interp.nextSeq := t.interp.nextSeq + 1 }))) ∧
   (∀ (port : Fin 4) (chip : Fin 64) (p q : Packet) (st : Nat) (s t : State), s.zoant.outstanding < 16 →
     s.inMode [.cold, .quarantine] = false → q = { p with issuer := BitVec.ofNat 8 (0x40 + chip.val) } →
     t = { s with zoant.outstanding := s.zoant.outstanding + 1 } → t.arrivalFail q = some st →
     exec (.commandArrival (.zoant port chip) (some p)) s =
       .next (sameQueue s (reply q st [] { t with interp.nextSeq := t.interp.nextSeq + 1 }))) ∧
   (∀ (n : Fin 16) (p q : Packet) (st : Nat) (s u t v : State), s.mayFetch n.val = true →
     (s.queue (16 + n.val)).agrees = true → (s.ring n.val).ahead.contains (s.ring n.val).fetch = false →
     q = { p with issuer := BitVec.ofNat 8 (0x80 + n.val) } →
     u = s.setRing n.val { s.ring n.val with fetch := ((s.ring n.val).fetch + 1) % 65536, errs := 0, inFlight := false } →
     t = queueEnter (16 + n.val) ⟨[], q.wire, 0, 0, s.now, s.interp.nextSeq⟩ u → t.arrivalFail q = some st →
     v = reply q st [] { t with interp.nextSeq := t.interp.nextSeq + 1 } →
     exec (.commandArrival (.ring n) (some p)) s = .next (sameQueue s
       (writeBack n.val (passSlot n.val (s.ring n.val).fetch (queueLeave (16 + n.val) t.interp.nextSeq v))))))

/-- The checks of arrival, in their order: the status of the first that fails (R30, R34, R35, R40). -/
def Obligations.ArrivalChecksInOrder : Prop :=
  ∀ (p : Packet) (s : State),
    (496 < p.n → s.arrivalFail p = some St.BAD_LENGTH) ∧
    (p.n ≤ 496 → 8 ≤ p.flags.toNat → s.arrivalFail p = some St.BAD_PARAM) ∧
    (p.n ≤ 496 → p.flags.toNat < 8 →
      (s.permitted p = false → s.arrivalFail p = some St.NOT_PERMITTED) ∧
      (s.permitted p = true →
        (opLen p = none → s.arrivalFail p = some St.BAD_OPCODE) ∧
        (opLen p = some false → s.arrivalFail p = some St.BAD_LENGTH) ∧
        (opLen p = some true →
          (s.now + 2 ^ 40 < p.notBefore.toNat → s.arrivalFail p = some St.BAD_PARAM) ∧
          (p.notBefore.toNat ≤ s.now + 2 ^ 40 →
            (s.flag F.TMB_STAT_CAL_FAULT = true → p.notBefore ≠ 0 → s.arrivalFail p = some St.FAULT_PENDING) ∧
            (s.flag F.TMB_STAT_CAL_FAULT = false → s.now < p.notBefore.toNat → 256 ≤ s.interp.sched.length →
              s.arrivalFail p = some St.BUSY) ∧
            (s.flag F.TMB_STAT_CAL_FAULT = false → s.now < p.notBefore.toNat → s.interp.sched.length < 256 →
              (byManagement p = true ∨ s.coresServe = true) → s.arrivalFail p = none)))))

/-- Doorbells, ring control, the release of scheduled commands, the coalescing timeout and the start of a command (R35,
R36, R44 to R47, R562). What a ring reset clears (R47). -/
def Obligations.HostRingCommands : Prop :=
  ((∀ (n : Fin 16) (pi : BitVec 16) (s t : State), s.hostUp = true → s.inMode [.quarantine] = false →
     t = s.setRing n.val { s.ring n.val with piCmd := pi.toNat } →
     exec (.hostCommandDoorbell n pi) s =
       .next (if s.ringSlots n.val < (pi.toNat + 65536 - (s.ring n.val).ci) % 65536 then ringStop n.val 1 t else t)) ∧
   (∀ (n : Fin 16) (ci : BitVec 16) (s : State), s.hostUp = true → s.inMode [.quarantine] = false →
     s.ringSlots n.val < ((s.ring n.val).piRep + 65536 - ci.toNat) % 65536 →
     exec (.hostReplyDoorbell n ci) s =
       .next (ringStop n.val 2 (s.setRing n.val { s.ring n.val with ciRep := ci.toNat }))) ∧
   (∀ (n : Fin 16) (ci : BitVec 16) (s t : State), s.hostUp = true → s.inMode [.quarantine] = false →
     ((s.ring n.val).piRep + 65536 - ci.toNat) % 65536 ≤ s.ringSlots n.val →
     t = regrant n.val (s.setRing n.val { s.ring n.val with
       ciRep := ci.toNat,
       returned := ((s.ring n.val).returned + (ci.toNat + 65536 - (s.ring n.val).ciRep) % 65536) % 2 ^ 32 }) →
     exec (.hostReplyDoorbell n ci) s = .next (if t.ringLive n.val then writeBack n.val t else t)) ∧
   (∀ (n : Fin 16) (v : Word) (s : State), s.reaches (R.CMD_RING_CTL n.val) = true →
     exec (.ringReset n v) s = .next (sameQueue s
       (if v.getLsbD 0 then ringOn n.val (ringReset n.val (ringSettings n.val v s))
        else ringOff n.val (ringReset n.val (ringSettings n.val v s)))) ∧
     (v.getLsbD 2 = false →
       exec (.ringEnable n v) s = .next (sameQueue s (ringOn n.val (ringSettings n.val v s))) ∧
       exec (.ringDisable n v) s = .next (sameQueue s (ringOff n.val (ringSettings n.val v s))))) ∧
   (∀ (n : Fin 16) (s : State), (s.ring n.val).unsig ≠ 0 → (s.ring n.val).unsigAt + 12000 ≤ s.now →
     exec (.replyCoalesceTimeout n) s = .next (signal n.val (s.setRing n.val { s.ring n.val with unsig := 0 }))) ∧
   (∀ s : State, s.flag F.TMB_STAT_CAL_FAULT = false →
     exec .scheduledCommandReady s = .next { s with
       interp.ready := s.interp.ready ++ s.interp.sched.filter (fun w => decide (w.pkt.notBefore.toNat ≤ s.now)),
       interp.sched := s.interp.sched.filter (fun w => !decide (w.pkt.notBefore.toNat ≤ s.now)) }) ∧
   (∀ (cls : Fin 16) (w : Waiting) (q : Nat) (s : State), s.nextStart cls.val = some w → s.queueBroken w = some q →
     exec (.commandStart cls) s = .next (sameQueue s (queueFault q s))) ∧
   (∀ (cls : Fin 16) (w : Waiting) (s t : State), s.nextStart cls.val = some w → s.queueBroken w = none →
     t = startOp w.pkt { takeReady w s with interp.starting := some w.seq } →
     exec (.commandStart cls) s = .next (sameQueue s { t with interp.starting := none })) ∧
   (∀ (cls : Fin 16) (s : State), s.nextStart cls.val = none → exec (.commandStart cls) s = .next s)) ∧
  (∀ (n : Fin 16) (s : State),
     (ringClear n.val s).2.ring n.val = Ring.empty ∧
     ((ringClear n.val s).2.queue (16 + n.val)).items = [] ∧ ((ringClear n.val s).2.queue (16 + n.val)).agrees = true ∧
     (∀ w ∈ (ringClear n.val s).2.interp.sched, w.pkt.issuer.toNat ≠ 0x80 + n.val) ∧
     (∀ w ∈ (ringClear n.val s).2.interp.ready, w.pkt.issuer.toNat ≠ 0x80 + n.val) ∧
     (∀ r ∈ (ringClear n.val s).2.interp.running, r.pkt.issuer.toNat = 0x80 + n.val → r.drop = true) ∧
     (∀ k, k ≠ n.val → (ringClear n.val s).2.ring k = s.ring k) ∧
     (ringClear n.val s).2.flag (F.CMD_RING_CTL_STOPPED n.val) = false ∧
     (ringClear n.val s).2.fld (F.CMD_RING_CTL_CAUSE n.val) = 0 ∧
     (ringClear n.val s).2.bit F.CMD_ERR_RING_ERR n.val = false ∧
     (ringClear n.val s).2.fld (F.CMD_RING_CTL_EN n.val) = s.fld (F.CMD_RING_CTL_EN n.val) ∧
     (ringClear n.val s).2.ringSlots n.val = s.ringSlots n.val ∧
     (ringClear n.val s).2.word (R.CMD_RING_GRANTED n.val) = BitVec.ofNat 32 (s.ringSlots n.val))

/-- The command that a class starts: it is ready and may start; nothing that may start goes before it; as a barrier it
leaves nothing of its issuer that arrived before it open; and no barrier of its issuer that arrived before it is
open (R36 to R38). -/
def Obligations.StartOrder : Prop :=
  ∀ (cls : Nat) (w : Waiting) (s : State), s.nextStart cls = some w →
    w ∈ s.interp.ready ∧ w.pkt.cls = cls ∧
    (∀ x ∈ s.interp.ready, x.pkt.cls = cls → s.mayStart x = true → x.seq ≠ w.seq → prefer x w = false) ∧
    (w.pkt.ordered = true → ∀ x ∈ s.interp.sched ++ s.interp.ready, x.pkt.issuer = w.pkt.issuer → w.seq ≤ x.seq) ∧
    (∀ x ∈ s.interp.sched ++ s.interp.ready, x.pkt.issuer = w.pkt.issuer → x.pkt.ordered = true → w.seq ≤ x.seq) ∧
    (∀ r ∈ s.interp.running, r.pkt.issuer = w.pkt.issuer → r.pkt.ordered = true → w.seq ≤ r.arrived)

/-- The SMBus mailbox: each transaction that the target serves (R48, R458, R459). CMD_NOP returns its bytes, CMD_CANCEL
takes the issuer's scheduled commands that it names off the table and answers them CANCELLED, CMD_SCHED_QUERY tells
what waits (R35, R42). -/
def Obligations.MailboxAndInterpreterCommands : Prop :=
  (∀ (s : State) (m : Mailbox), s.inMode [.cold] = false →
     m = { s.interp.mbox with ack := true, out := [] } →
     (∀ (off : BitVec 16) (data : List Byte), m.busy = false → data.length ≤ 253 → off.toNat + data.length ≤ 512 →
       data ≠ [] →
       exec (.smbBlockWrite true off data) s = .next { s with interp.mbox := { m with
         mem := m.mem.setRun 0 off.toNat data,
         high := some (match m.high with
           | some h => if h ≤ off.toNat + data.length - 1 then off.toNat + data.length - 1 else h
           | none => off.toNat + data.length - 1) } }) ∧
     (m.busy = false → m.incomplete = false → s.flag F.CMD_CTL_SMB_EN = true →
       exec (.smbSubmit true) s =
         .next { s with interp.mbox := { m with busy := true, err := false, submitted := true } }) ∧
     (m.busy = false → m.incomplete = true →
       exec (.smbSubmit true) s =
         .next (({ s with interp.mbox := { m with err := true } } : State).setFlag F.CMD_ERR_SMB_ERR true)) ∧
     (∀ off : BitVec 16, exec (.smbSetReadOffset true off) s =
       .next { s with interp.mbox := { m with readOff := off.toNat } }) ∧
     (m.busy = true → m.replyReady = true → exec (.smbRelease true) s = .next { s with interp.mbox := { m with
       busy := false, replyReady := false, err := false, high := none, alert := false } }) ∧
     (m.busy = true → m.replyReady = false →
       exec (.smbRelease true) s = .next { s with interp.mbox := { m with ack := false } }) ∧
     (m.busy = false → exec (.smbRelease true) s = .next { s with interp.mbox := { m with err := false } }) ∧
     exec .smbStatusRead s = .next { s with interp.mbox := { m with
       out := leBytes 1 ((if m.busy then 1 else 0) + (if m.replyReady then 2 else 0) + (if m.err then 4 else 0)) } } ∧
     (∀ n : Nat, m.replyReady = true →
       n = (if 255 ≤ 16 + leAt (m.mem.getRun 0 0 16) 4 2 - m.readOff then 255
         else 16 + leAt (m.mem.getRun 0 0 16) 4 2 - m.readOff) →
       exec .smbBlockRead s = .next { s with interp.mbox := { m with
         out := m.mem.getRun 0 m.readOff n, readOff := m.readOff + n } }) ∧
     exec .smbClockTimeout s = .next { s with interp.mbox := { m with ack := false } } ∧
     (s.alertN = true → exec .smbAlertResponse s =
       .next (({ s with interp.mbox := { m with out := leBytes 1 (2 * s.fld F.MGT_SMB_CFG_ADDR),
                                                alert := false } } : State).setFlag ⟨0x180100, 0, 1⟩ false)) ∧
     (∀ (off : BitVec 16) (data : List Byte), m.busy = true →
       exec (.smbBlockWrite true off data) s = .next { s with interp.mbox := { m with ack := false } } ∧
       exec (.smbSubmit true) s = .next { s with interp.mbox := { m with ack := false } })) ∧
  (∀ (p : Packet) (s : State), s.coresServe = true → s.inMode coreModes = true →
     (p.n ≤ 496 → exec (.cmdNop p) s = .next (reply (asOp 0x0001 p) St.OK (p.bytes 0 p.n) s)) ∧
     (p.n = 8 → p.u8 2 ≤ 1 → p.dirty 3 5 = false →
       ∀ hit : Waiting → Bool, hit = (fun w => w.pkt.issuer == p.issuer && (p.u8 2 == 1 || w.pkt.tag.toNat == p.u16 0)) →
       exec (.cmdCancel p) s = .next (sameQueue s
         (reply (asOp 0x0002 p) St.OK (leBytes 2 (s.interp.sched.filter hit).length ++ leBytes 2 0)
           ((s.interp.sched.filter hit).foldl (fun s w => reply w.pkt St.CANCELLED [] s)
             { s with interp.sched := s.interp.sched.filter (fun w => !hit w) })))) ∧
     (p.n = 0 → ∀ own : List Waiting, own = s.interp.sched.filter (fun w => w.pkt.issuer == p.issuer) →
       exec (.cmdSchedQuery p) s = .next (reply (asOp 0x0003 p) St.OK
         (leBytes 2 own.length ++ leBytes 2 s.interp.sched.length ++ leBytes 1 (s.fld F.TMB_STAT_CAL_FAULT) ++
           leBytes 3 0 ++ leBytes 8 (leastOf (own.map (fun w => w.pkt.notBefore.toNat)))) s)))

/-- A field reads back what was written to it, bits beyond its width dropped; every field that shares no bit with it, in
its register or in another, reads as before; and nothing but that one register changes. DRAM and the sparse tables
under every large memory: bytes written are read back, every other byte reads as before, and writing keeps the
canonical form. -/
def Obligations.StateReadsBack : Prop :=
  (∀ (f : Field) (v : Nat) (s : State), f.lo + f.width ≤ 32 →
     (s.setFld f v).fld f = v % 2 ^ f.width ∧
     (∀ g : Field, g.lo + g.width ≤ 32 → (g.off ≠ f.off ∨ g.lo + g.width ≤ f.lo ∨ f.lo + f.width ≤ g.lo) →
       (s.setFld f v).fld g = s.fld g) ∧
     (∀ off, off ≠ f.off → (s.setFld f v).word off = s.word off) ∧
     s.setFld f v = { s with csr := (s.setFld f v).csr }) ∧
  (∀ (a : Nat) (bs : List Byte) (s : State),
     (s.dramWrite a bs).dramRead a bs.length = bs ∧
     (∀ b, b < a ∨ a + bs.length ≤ b → (s.dramWrite a bs).dramRead b 1 = s.dramRead b 1) ∧
     (s.hostWrite a bs).hostMem.getRun 0 a bs.length = bs ∧
     (∀ b, b < a ∨ a + bs.length ≤ b → (s.hostWrite a bs).hostMem.get 0 b = s.hostMem.get 0 b) ∧
     (Sparse.wf 0 s.dram = true → Sparse.wf 0 (s.dramWrite a bs).dram = true) ∧
     (Sparse.wf 0 s.hostMem = true → Sparse.wf 0 (s.hostWrite a bs).hostMem = true) ∧
     (∀ l : List Nat, l = s.bufs.badBursts.filter (fun b => !(a ≤ 64 * b && 64 * b + 64 ≤ a + bs.length)) →
       s.dramWrite a bs = { s with dram := (s.dramWrite a bs).dram, bufs.badBursts := l }) ∧
     s.hostWrite a bs = { s with hostMem := (s.hostWrite a bs).hostMem })

/-- A register write with partial byte enables changes nothing; nor does a write that does not reach its block: any in
COLD, one to a control-plane or data-plane block other than PCI in QUARANTINE, one to CHZ, DMD, LDP or LNS in EMBER.
-/
def Obligations.WritesOutOfReachLost : Prop :=
  ∀ (w : Writer) (off : BitVec 24) (v : Word) (s : State),
    exec (.registerWrite w off false v) s = .next s ∧
    (s.seq.mode = .cold ∨
      (s.seq.mode = .quarantine ∧ dataBlock (off.toNat / 0x10000) = true ∧ off.toNat / 0x10000 ≠ 0x17) ∨
      (s.seq.mode = .ember ∧ 4 ≤ off.toNat / 0x10000 ∧ off.toNat / 0x10000 ≤ 7) →
      s.reaches off.toNat = false ∧
      exec (.registerWrite w off true v) s = .next s ∧
      exec (.lockSet w off v) s = .next s ∧
      exec (.counterClearWrite w off v) s = .next s)

/-- Blocks whose registers take writes by their access codes alone. -/
def Sys2Proof.Claims.plainBlock (blk : Nat) : Bool :=
  [0x00, 0x01, 0x05, 0x06, 0x08, 0x09, 0x0A, 0x0B, 0x0E, 0x1A, 0x1C, 0x1D].contains blk

/-- A write of a register by its access codes: each bit of a RW field takes the value, of an LK field while its lock is
clear, of a FW field from the firmware; a 1 clears a W1C bit and sets a W1S bit; every other bit keeps its value,
and so does every other register. -/
def Obligations.AccessCodes : Prop :=
  ∀ (w : Writer) (off : BitVec 24) (v : Word) (s : State) (d : RegDesc), s.reaches off.toNat = true →
    plainBlock (off.toNat / 0x10000) = true → clearMap off.toNat = [] → findReg off.toNat = some d →
    ∃ t : State, exec (.registerWrite w off true v) s = .next t ∧
      t = { s with csr := t.csr } ∧ (∀ o, o ≠ off.toNat → t.word o = s.word o) ∧
      ∀ i, i < 32 →
        (d.w1c.getLsbD i = true → d.w1s.getLsbD i = false → d.rw.getLsbD i = false → d.fw.getLsbD i = false →
          d.lk.getLsbD i = false →
          (t.word off.toNat).getLsbD i = ((s.word off.toNat).getLsbD i && !v.getLsbD i)) ∧
        (d.w1s.getLsbD i = true → d.w1c.getLsbD i = false → d.rw.getLsbD i = false → d.fw.getLsbD i = false →
          d.lk.getLsbD i = false →
          (t.word off.toNat).getLsbD i = ((s.word off.toNat).getLsbD i || v.getLsbD i)) ∧
        (d.w1c.getLsbD i = false → d.w1s.getLsbD i = false →
          (d.rw.getLsbD i = true → (t.word off.toNat).getLsbD i = v.getLsbD i) ∧
          (d.rw.getLsbD i = false → d.lk.getLsbD i = true → d.fw.getLsbD i = false →
            (t.word off.toNat).getLsbD i = if s.locked d then (s.word off.toNat).getLsbD i else v.getLsbD i) ∧
          (d.rw.getLsbD i = false → d.fw.getLsbD i = true → d.lk.getLsbD i = false →
            (t.word off.toNat).getLsbD i = if writerIsFirmware w then v.getLsbD i else (s.word off.toNat).getLsbD i) ∧
          (d.rw.getLsbD i = false → d.fw.getLsbD i = false → d.lk.getLsbD i = false →
            (t.word off.toNat).getLsbD i = (s.word off.toNat).getLsbD i))

/-- LOCK_SET sets the LOCK bit of a register that has one and answers a next state; an LK bit of a locked register keeps
its value under it, and every other register. At NVS_CTR_CTL the write takes the effect of EXT_PERSIST too.
COUNTER_CLEAR_WRITE clears the registers that its set bits name, and no other. -/
def Obligations.LocksAndCounterClears : Prop :=
  (∀ (w : Writer) (off : BitVec 24) (v : Word) (s : State) (d : RegDesc), s.reaches off.toNat = true →
     findReg off.toNat = some d → d.w1s.getLsbD 31 = true →
     (off.toNat ≠ F.NVS_CTR_CTL_EXT_PERSIST.off →
       ∃ t : State, exec (.lockSet w off v) s = .next t ∧ t = { s with csr := t.csr } ∧
         (t.word off.toNat).getLsbD 31 = true ∧ (∀ o, o ≠ off.toNat → t.word o = s.word o) ∧
         (s.locked d = true → ∀ i, i < 32 → d.lk.getLsbD i = true → d.rw.getLsbD i = false → d.fw.getLsbD i = false →
           d.w1c.getLsbD i = false → d.w1s.getLsbD i = false →
           (t.word off.toNat).getLsbD i = (s.word off.toNat).getLsbD i)) ∧
     (off.toNat = F.NVS_CTR_CTL_EXT_PERSIST.off →
       exec (.lockSet w off v) s = .next (sameQueue s
         (extPersistWritten s.extPersist (plainWrite w off.toNat (v ||| 0x80000000#32) s))) ∧
       ((plainWrite w off.toNat (v ||| 0x80000000#32) s).word off.toNat).getLsbD 31 = true)) ∧
  (∀ (w : Writer) (off : BitVec 24) (v : Word) (s : State), s.reaches off.toNat = true → off.toNat ≠ R.EVJ_CLR →
     ∃ t : State, exec (.counterClearWrite w off v) s = .next t ∧ t = { s with csr := t.csr } ∧
       (∀ e ∈ clearMap off.toNat, v.getLsbD e.1 = true → t.word e.2 = 0) ∧
       (∀ o, (∀ e ∈ clearMap off.toNat, v.getLsbD e.1 = true → e.2 ≠ o) → t.word o = s.word o))

/-- The commands about modes: what each leaves where its checks pass (R470, R495, R496, R502, R503). -/
def Obligations.ModeCommands : Prop :=
  (∀ (p : Packet) (s : State) (m : Mode), Managed 4 allButCold p s → Mode.ofCode (p.u8 0) = some m →
    p.dirty 1 3 = false →
    (m ≠ .quarantine → s.seq.mode = .banked → s.claiming = true → s.seq.heldExit = none →
      exec (.modeReq p) s = .next (sameQueue s
        { (defer (asOp 0x0010 p) s).2 with seq.heldExit := some (m, (defer (asOp 0x0010 p) s).1) })) ∧
    (m ≠ .quarantine → (s.seq.mode ≠ .banked ∨ s.claiming = false) → s.seqBusy m = true →
      exec (.modeReq p) s = .next (reply (asOp 0x0010 p) St.BUSY [] s)) ∧
    (m = .quarantine ∨ ((s.seq.mode ≠ .banked ∨ s.claiming = false) ∧ s.seqBusy m = false) →
      (m = s.seq.mode → exec (.modeReq p) s = .next (reply (asOp 0x0010 p) St.OK [] s)) ∧
      (m ≠ s.seq.mode → ∀ st, s.modeReqFail m = some st →
        exec (.modeReq p) s = .next (reply (asOp 0x0010 p) st [] s)) ∧
      (m ≠ s.seq.mode → (m = .calibrate ∨ m = .test → s.holder = false ∧ s.flag F.THM_STAT_CRIT = false) →
        s.reqAllowed m = true → (m = .ember → s.flag F.CLK_STAT_SLOW_OK = true) →
        exec (.modeReq p) s = .next (sameQueue s
          (modeBegin m (defer (asOp 0x0010 p) s).1 (defer (asOp 0x0010 p) s).2))))) ∧
  (∀ (p : Packet) (s : State), Managed 0 allButCold p s →
    exec (.modeStatus p) s = .next (reply (asOp 0x0011 p) St.OK
      (leBytes 4 s.stpMode ++ leBytes 4 (s.word R.STP_RESET_CAUSE).toNat ++
        leBytes 4 (s.word R.STP_BOOT_STAT).toNat ++ leBytes 8 (s.pair R.STP_MODE_T_LO R.STP_MODE_T_HI) ++
        leBytes 1 s.seq.listState ++ leBytes 3 0) s)) ∧
  (∀ (p : Packet) (s : State), Managed 8 allButCold p s → p.u32 0 = 0x52455345 → p.dirty 5 3 = false →
    (p.u8 4 = 0 → s.flag F.DBG_STAT_OPEN = false → s.latched = false →
      exec (.sysReset p) s = .next (sameQueue s
        { warmEnter 0 (reply (asOp 0x0012 p) St.OK [] s) with seq.warmDue := true })) ∧
    (p.u8 4 = 1 → s.inMode [.quarantine] = false → (reply (asOp 0x0012 p) St.OK [] s).seq.mode ≠ .kindling →
      exec (.sysReset p) s = .next (sameQueue s (cpRestart (reply (asOp 0x0012 p) St.OK [] s))))) ∧
  (∀ (p : Packet) (s : State), chunkLen p = true → s.coresServe = true → s.inMode [.calibrate, .test] = true →
    p.u16 4 ≤ 480 → p.u8 6 = 0 → p.dirty 7 1 = false → p.u32 0 + p.u16 4 ≤ 16384 →
    exec (.bootListWrite p) s = .next (reply (asOp 0x0013 p) St.OK []
      { s with seq.staging := s.seq.staging.setRun 0 (p.u32 0) (p.bytes 8 (p.u16 4)),
               seq.stagingLen := if p.u16 4 = 0 then s.seq.stagingLen
                 else most2 s.seq.stagingLen (p.u32 0 + p.u16 4) }))

/-- The ends of transitions: start-up calibrations end in SERVICE, BANKED or the wait for the claim, and a transition in
progress reaches its mode (R116, R470, R474 to R476). An entry to a mode: STP_MODE's fields, the tick of the entry,
and a record; the transition in progress ends, and beside the tick only the Ethernet ports' LASER_ON may change in
the registers (R433, R470, R502). -/
def Obligations.TransitionsEnd : Prop :=
  ((∀ s t : State, s.seq.calibrated = false → s.inMode [.calibrate, .test] = true →
     s.seq.calAt + sumOf (startupDurations.drop (s.seq.calStep - 1)) ≤ s.now → t = startupEnd s →
     (t.seq.mode = .test → exec .calibrateDone s = .next (sameQueue s t)) ∧
     (∀ x, t.seq.mode ≠ .test → t.seq.trans = some x →
       exec .calibrateDone s = .next (sameQueue s (finishOpt x.cmd St.OK [] (enterTest 2 t)))) ∧
     (t.seq.mode ≠ .test → t.seq.trans = none → t.paired = false →
       exec .calibrateDone s = .next (sameQueue s (enterService 1 t))) ∧
     (t.seq.mode ≠ .test → t.seq.trans = none → t.paired = true → t.flag F.PAR_STAT_LINE = false →
       exec .calibrateDone s = .next (sameQueue s (enterBanked 1 t))) ∧
     (t.seq.mode ≠ .test → t.seq.trans = none → t.paired = true → t.flag F.PAR_STAT_LINE = true →
       exec .calibrateDone s = .next (sameQueue s (armClaim { t with seq.claimWait := true })))) ∧
   (∀ (s : State) (t : Transition), s.seq.trans = some t →
     (s.seq.mode ≠ .ember →
       (t.target = .service →
         exec .modeTransitionDone s = .next (sameQueue s
           (heldApply (finishOpt t.cmd St.OK [] (enterService t.cause s))))) ∧
       (t.target = .banked →
         exec .modeTransitionDone s = .next (sameQueue s (finishOpt t.cmd St.OK [] (enterBanked t.cause s)))) ∧
       (t.target = .calibrate → s.chainsQuiet = true →
         exec .modeTransitionDone s = .next (sameQueue s (finishOpt t.cmd St.OK [] (enterCalibrate t.cause s)))) ∧
       (t.target = .ember → s.txStopped = true → s.chainsQuiet = true →
         exec .modeTransitionDone s = .next (sameQueue s (enterEmber false s))) ∧
       (t.target = .test → s.seq.calibrated = true →
         exec .modeTransitionDone s = .next (sameQueue s (finishOpt t.cmd St.OK [] (enterTest t.cause s))))) ∧
     (s.seq.mode = .ember → s.slowing = false →
       exec .modeTransitionDone s = .next (sameQueue s (emberLeft t s))))) ∧
  (∀ (m : Mode) (cause : Nat) (s : State),
     (enterMode m cause s).seq = { s.seq with mode := m, prev := s.seq.mode, cause := cause, trans := none,
                                              stopTx := false, stopAt := 0 } ∧
     (s.now < 2 ^ 64 → (enterMode m cause s).pair R.STP_MODE_T_LO R.STP_MODE_T_HI = s.now) ∧
     (∀ off, off ≠ R.STP_MODE_T_LO → off ≠ R.STP_MODE_T_HI → off ≠ (F.ETH_PORT_STAT_LASER_ON 0).off →
       off ≠ (F.ETH_PORT_STAT_LASER_ON 1).off →
       (enterMode m cause s).word off = s.word off) ∧
     (∀ port, port < 2 → (enterMode m cause s).flag (F.ETH_PORT_STAT_LASER_ON port) =
       (s.flag (F.ETH_PORT_CTL_EN port) && radioModes.contains m && !s.flag (F.ETH_PORT_STAT_MOD_ABS port) &&
         !(s.ethPort port).faultSeen)) ∧
     (enterMode m cause s).journal.window = s.journal.window ++
       [(s.now, JRec.of s.now 1 sevInfo 0x1301 (arg1 s.seq.mode.code ++ arg1 m.code ++ arg1 cause))] ∧
     (enterMode m cause s).interp = s.interp ∧ (enterMode m cause s).otp = s.otp)

/-- The boot: each source's steps, the images, and the end of KINDLING (R301, R470, R488 to R494). -/
def Obligations.BootCommands : Prop :=
  (∀ (img x : BootImage) (s : State) (next : Nat), s.seq.boot.phase = .loading next →
    (if s.seq.boot.source = 0 then some img else s.heldImage next) = some x →
    exec (.bootImageLoaded img) s = .next (sameQueue s (if s.imageCheck next x = 0 then imageAccept next x s
      else setFailed s.seq.boot.askedAt (imageReject next (s.imageCheck next x) s)))) ∧
  (∀ (img x : BootImage) (s t : State), s.seq.boot.phase = .restart →
    (if s.seq.boot.source = 1 ∨ s.seq.boot.source = 0 then some img else s.heldImage 2) = some x →
    t = { s with seq.boot.phase := .idle } →
    exec (.bootImageLoaded img) s = .next (sameQueue s (if s.imageCheck 2 x = 0 then cpResume (measure 2 x.header t)
      else enterQuarantine 1 (imageReject 2 (s.imageCheck 2 x) t)))) ∧
  (∀ (v : Word) (s : State) (t : Nat), s.seq.boot.phase = .doorbell (some t) → s.reaches 0x1E0014 = true →
    exec (.stpBootDoorbell v) s = .next (sameQueue s
      (setArrived 0 { s with
        seq.boot.dirAt := s.fld F.PCI_BAR2_CTL_BASE * 2 ^ 26 + v.toNat % 2 ^ 26 / 256 * 256 }))) ∧
  (∀ (s : State) (t : Nat), s.seq.boot.phase = .doorbell (some t) → t + 3600000000 ≤ s.now →
    exec .pcieBootTimeout s = .next (sameQueue s (bootFallback s))) ∧
  (∀ (s : State) (p tries off : Nat), s.seq.boot.phase = .zoant p tries off → s.seq.boot.askedAt + 1200000 ≤ s.now →
    exec .zoantBootTimeout s = .next (sameQueue s
      (if tries < 3 then bootAsk p (tries + 1) off s else bootPort (p + 1) s))) ∧
  (∀ (p : Fin 4) (off tries : Nat) (bytes : List Byte) (s t : State), s.seq.boot.phase = .zoant p.val tries off →
    bytes ≠ [] → bytes.length ≤ 2048 →
    t = { s with seq.boot.stream := s.seq.boot.stream.setRun 0 off bytes, seq.boot.streamLen := off + bytes.length } →
    (off + bytes.length < 256 →
      exec (.bootDataRx p off bytes) s = .next (sameQueue s (bootAsk p.val 1 (off + bytes.length) t))) ∧
    (256 ≤ off + bytes.length → dirOk (t.setBytes 0 256) = true → dirEnd (t.setBytes 0 256) ≤ off + bytes.length →
      exec (.bootDataRx p off bytes) s = .next (sameQueue s (setArrived p.val t)))) ∧
  (∀ (p : Fin 4) (serial : Quad) (off len : Nat) (image : List Byte) (s : State),
    s.inMode [.calibrate, .service, .banked, .ember, .test] = true → s.coresWork = true → len ≤ 2048 →
    exec (.bootReqRx p serial off len image) s = .next (sameQueue s (portQueue p.val
      { dst := 0, bcast := false, src := s.chipNo, cls := 4, ttl := 1, seq := 0,
        len := 4 + ((image.drop off).take len).length, crcOk := true,
        msg := .bootData off ((image.drop off).take len) } s))) ∧
  (∀ (p : Packet) (s : State), loadLen p = true → s.inMode allButCold = true → s.inRecovery = true →
    1 ≤ p.u16 4 → p.u16 4 ≤ 480 → p.u8 6 ≤ 1 → p.dirty 7 1 = false →
    ∀ t u : State, t = { s with seq.boot.stream := s.seq.boot.stream.setRun 0 (p.u32 0) (p.bytes 8 (p.u16 4)),
                                seq.boot.streamLen := most2 s.seq.boot.streamLen (p.u32 0 + p.u16 4) } →
      u = (if s.seq.boot.streamLen / 65536 < t.seq.boot.streamLen / 65536 then uartText t else t) →
      (p.bit 6 0 = false → exec (.bootRecoveryLoad p) s = .next (sameQueue s (reply (asOp 0xF001 p) St.OK [] u))) ∧
      (p.bit 6 0 = true →
        exec (.bootRecoveryLoad p) s = .next (sameQueue s (setArrived 0 (reply (asOp 0xF001 p) St.OK [] u))))) ∧
  (∀ s u t : State, s.seq.mode = .kindling → s.seq.boot.phase = .idle → s.seq.boot.accepted.length = 5 →
    u = (List.range 16).foldl (fun u n => putLane n { u.lane n with imageValid := true } (u.setBit F.LNS_CTL_RUN n true))
      { loadMacs (entryZero (ringsPlace (keysKindling s))) with interp.cpRunning := true } →
    t = u.setFld F.STP_BOOT_STAT_KINDLING_MS (least2 0xFFFF ((u.now - u.seq.kindlingAt) / 120000)) →
    exec .kindlingDone s = .next (sameQueue s (t.seq.boot.commit.foldl raiseSvn (enterCalibrate 1 t))))

/-- Resets and supplies: a power-on reset leaves the chip in COLD with its one-time-programmable words kept, ends where
neither cause stands, samples its straps once, and kindles when its PLL locks (R61, R480 to R487). A warm reset, a
control plane that stops and restarts, and the loss and return of the reference (R24, R60, R477, R478, R482, R483).
-/
def Obligations.ResetsAndRestarts : Prop :=
  ((∀ s : State, s.cal.porLow = false → exec .poresetAssert s = .next (sameQueue s
     ((porState { s with cal.porLow := true }).setFlag F.STP_RESET_CAUSE_POR_PIN true))) ∧
   (∀ s : State, s.cal.aonLost = false → exec .aonPowerLoss s = .next (sameQueue s
     ((((porState { s with cal.aonLost := true }).setFlag F.STP_RESET_CAUSE_THERMTRIP false).setFlag
       F.STP_RESET_CAUSE_AON_LOSS true).setFlag F.CLK_STAT_SLOW_OK false))) ∧
   (∀ s : State, (porState s).seq.mode = .cold ∧ (porState s).otp = s.otp ∧ (porState s).hostMem = s.hostMem ∧
     (porState s).frames.rows = s.frames.rows ∧ (porState s).dram = [] ∧ (porState s).interp = Interp.reset ∧
     (porState s).journal = Journal.reset) ∧
   (∀ s : State, s.cal.porLow = true → s.cal.aonLost = false → exec .poresetDeassert s = .next
     (post 0 sevInfo 0x0006 (arg1 4)
       (({ s with cal.porLow := false } : State).setFlag F.STP_RESET_CAUSE_POR_PIN true))) ∧
   (∀ s : State, s.cal.aonLost = true → s.cal.porLow = false → exec .vddAonRestored s = .next
     (post 0 sevInfo 0x0006 (arg1 4) { s with cal.aonLost := false })) ∧
   (∀ (levels : BitVec 14) (s : State), s.cal.porLow = false → s.cal.aonLost = false → s.seq.strapsSampled = false →
     s.seq.mode = .cold →
     ∃ t : State, exec (.strapSample levels) s = .next t ∧ t.seq = { s.seq with strapsSampled := true } ∧
       t.host.owners = ownersInitial t.consortium ∧
       t.word R.STP_STRAPS = BitVec.setWidth 32 levels |||
         (if levels.toNat % 4 = 1 ∧ levels.getLsbD 12 = true then 0x80000000#32 else 0) ∧
       t.interp = s.interp ∧ t.journal = s.journal ∧ t.otp = s.otp) ∧
   (∀ s : State, s.seq.mode = .cold → s.cal.porLow = false → s.cal.aonLost = false → s.seq.strapsSampled = true →
     s.seq.thermtrip = false → s.seq.warmDue = false → s.seq.refRestart = false →
     exec .pllLock s = .next (sameQueue s (kindle 1 s)))) ∧
  ((∀ s : State, s.seq.warmDue = true → exec .warmReset s = .next (sameQueue s
     ((warmState (enterSlow 5 s)).setFlag F.STP_RESET_CAUSE_WARM true))) ∧
   (∀ s t : State, s.interp.cpRunning = true → s.interp.cpStopped = false → s.coresServe = true →
     t = post 1 sevDegraded 0x0101 (arg2 (countIf (fun (r : Running) => !byManagement r.pkt) s.interp.running) ++
         arg2 (endRunning (fun p => !byManagement p) St.INTERNAL
           { s with interp.cpStopped := true, interp.cpStoppedAt := s.now }).interp.sched.length) (endRunning (fun p => !byManagement p) St.INTERNAL
       { s with interp.cpStopped := true, interp.cpStoppedAt := s.now }) →
     exec .cpStopped s = .next (sameQueue s (if t.flag F.PAR_CTL_REL_ON_CP_STOP then releaseToBanked 7 t else t))) ∧
   (∀ s : State, s.interp.cpStopped = true → s.seq.boot.phase ≠ .restart → s.flag F.STP_CTL_AUTO_CP_RESTART = true →
     s.interp.cpStoppedAt + 120000000 ≤ s.now → exec .autoCpRestartTimeout s = .next (sameQueue s (cpRestart s))) ∧
   (∀ (counts : Option (List Nat)) (s t : State), s.flag F.CLK_STAT_REF_OK = true → s.refLost counts = true →
     t = post 0 sevDegraded 0x0004 [] (abortAll RF_ABORTED (enterSlow 3
       (((s.setFlag F.CLK_STAT_REF_OK false).setFlag F.CLK_STAT_PLL_LOCK counts.isSome).count
         F.CLK_REF_LOSS_CNT_COUNT 1))) →
     (t.inMode [.service, .banked, .calibrate, .test] = true →
       exec (.refLoss counts) s = .next (sameQueue s (enterEmber true t))) ∧
     (t.seq.mode = .kindling → exec (.refLoss counts) s = .next (sameQueue s
       (enterMode .cold 5 { warmState (mailboxAbandon (allAnswered t)) with seq.refRestart := true }))) ∧
     (t.seq.mode = .quarantine → exec (.refLoss counts) s = .next (sameQueue s
       (dataClocks false (t.setFlag F.CLK_GATE_CORE_RUN (counts.isSome && t.flag F.CLK_GATE_CORE_RUN))))) ∧
     (t.seq.mode = .cold → exec (.refLoss counts) s = .next (sameQueue s t))) ∧
   (∀ (counts : Option (List Nat)) (s : State), s.flag F.CLK_STAT_REF_OK = false ∨ s.refLost counts = false →
     exec (.refLoss counts) s = .next s) ∧
   (∀ s t : State, s.flag F.CLK_STAT_REF_OK = false → s.fld F.CLK_REF_LOSS_CNT_COUNT ≠ 0 →
     t = post 0 sevInfo 0x0005 [] ((s.setFlag F.CLK_STAT_REF_OK true).setFlag F.CLK_STAT_PLL_LOCK true) →
     (s.seq.mode = .cold → t.coldWaits = false →
       exec .refRestored s = .next (sameQueue s (kindle (if s.seq.refRestart then 6 else 1) t))) ∧
     (s.seq.mode = .quarantine →
       exec .refRestored s = .next (sameQueue s (dataClocks true (t.setFlag F.CLK_GATE_CORE_RUN true)))) ∧
     (s.seq.mode = .ember → s.seq.heldExit = none →
       exec .refRestored s = .next (sameQueue s (if s.seq.emberByRef then emberExit s.seq.emberFrom 6 none t
         else t.setFlag F.CLK_GATE_CORE_RUN true))) ∧
     (∀ m c, s.seq.mode = .ember → s.seq.heldExit = some (m, c) →
       exec .refRestored s = .next (sameQueue s (emberExit m 2 (some c) t)))))

/-- The debug gate and its ports (R305 to R309). -/
def Obligations.DebugCommands : Prop :=
  (∀ (p : Packet) (rb : Nat) (s : State), Managed 4 allButCold p s → p.u32 0 = 0x4F50454E →
    exec (.dbgOpen p rb) s = .next (sameQueue s
      (reply (asOp 0xF102 p) (debugOpen rb s).1 [] (debugOpen rb s).2))) ∧
  (∀ (magic : Quad) (rb : Nat) (s : State), s.seq.mode ≠ .cold → magic.toNat % 2 ^ 32 = 0x4F50454E →
    exec (.jtagDbgOpen magic rb) s = .next (sameQueue s (debugOpen rb s).2)) ∧
  (∀ (data : Quad) (s : State), exec (.jtagInstruction 0x01 data) s = .next { s with readData := 0x10C585A3 } ∧
    exec (.jtagInstruction 0x20 data) s = .next { s with readData := s.dbgStat } ∧
    ∀ ir, ir ≠ 0x01 → ir ≠ 0x20 → ir ≠ 0x21 → exec (.jtagInstruction ir data) s = .next s) ∧
  (∀ s : State, exec .swdRequest s = .next (if s.flag F.DBG_STAT_OPEN then s else { s with readData := 4 })) ∧
  (∀ s : State, s.flag F.DBG_STAT_OPEN = true → debugOpen 0 s = (DBG_ALREADY_OPEN, s)) ∧
  (∀ (f : Nat) (s t : State), s.flag F.DBG_STAT_OPEN = false → s.nextFuse = some f →
    (s.otp.get 0 0x47).getLsbD 15 = false →
    t = burn 0x47 (BitVec.ofNat 32 (2 ^ f)) (State.setFlag F.DBG_STAT_LATCHED true
      { enterQuarantine 7 s with keys.orkBlob := none, keys.dkBlob := none }) →
    debugOpen 0 s = (St.OK, post 38 sevDegraded 0x0C02 []
      ((t.setFld F.DBG_STAT_FAIL 0).setFlag F.DBG_STAT_OPEN true)))

/-- CALCNT reads the value that two of its three copies agree on, whatever the third holds, and a correction counts,
names the copy and is recorded at most once a millisecond (R63, R64). A calendar fault: the copies stand as the
voter found them, class-L timers are disarmed, frames on the air are aborted, a pulse on PPS_OUT ends, a slew is
abandoned, and the record tells copies B and C (R65, R456). -/
def Obligations.CalendarVoteAndFault : Prop :=
  ((∀ s : State, s.flag F.TMB_STAT_CAL_FAULT = false →
     (s.cal.copyA = s.cal.copyB → s.now = s.cal.copyA.toNat) ∧
     (s.cal.copyA = s.cal.copyC → s.now = s.cal.copyA.toNat) ∧
     (s.cal.copyB = s.cal.copyC → s.now = s.cal.copyB.toNat)) ∧
   (∀ (copy : Fin 3) (v : Quad) (s t : State), s.flag F.TMB_STAT_CAL_FAULT = false → v.toNat ≠ s.now →
     t = (s.count F.TMB_VOTE_ERRCNT_COUNT 1).setFld F.TMB_STAT_LAST_COPY copy.val →
     (t.cal.voteAt = none → exec (.voteCorrected copy v) s = .next
       (let u := post 0 sevRecovered 0x0001 (arg1 copy.val ++ arg8 v.toNat ++ arg2 t.cal.voteFolded) t
        { u with cal.voteAt := some u.now, cal.voteFolded := 0 })) ∧
     (∀ t0, t.cal.voteAt = some t0 → t.now < t0 + 120000 → exec (.voteCorrected copy v) s = .next
       { t with cal.voteFolded := t.cal.voteFolded + 1 }))) ∧
  (∀ (a b c : Quad) (s t : State), s.flag F.TMB_STAT_CAL_FAULT = false → a ≠ b → a ≠ c → b ≠ c →
     t = ((((({ s with cal.copyA := a, cal.copyB := b, cal.copyC := c, host.pps.out := false, host.pps.left := 0 } :
       State).setFlag F.TMB_STAT_CAL_FAULT true).setFld
       F.TMB_FAULT_A_COPY_LO a.toNat).setFld F.TMB_FAULT_B_COPY_LO b.toNat).setFld F.TMB_FAULT_C_COPY_LO c.toNat) →
     ∀ u : State, u = post 0 sevFatal 0x0002 (arg8 b.toNat ++ arg8 c.toNat)
       (abandonSlew ((List.range 32).foldl faultDisarm (abortAll RF_ABORTED t))) →
     exec (.calFault a b c) s = .next (sameQueue s (if u.fld F.PAR_STAT_MIRROR = 2 then releaseToBanked 6 u else u)))

/-- Time: reading it, slewing it, loading it after a fault, and the slow advance (R66, R68 to R70, R91 to R95). -/
def Obligations.TimeCommands : Prop :=
  (∀ (p : Packet) (s : State), Served 0 coreModes p s → exec (.timeRead p) s = .next (reply (asOp 0x1001 p) St.OK
    (leBytes 8 s.now ++
      leBytes 1 (s.fld F.TMB_STAT_CAL_FAULT + 2 * s.fld F.TMB_STAT_SLOW + 4 * s.fld F.TMB_STAT_SLEWING) ++
      leBytes 3 0 ++ leBytes 4 (s.fld F.TMB_VOTE_ERRCNT_COUNT) ++ leBytes 4 (s.fld F.TMB_SLOW_ERR_PPB)) s)) ∧
  (∀ (p : Packet) (s : State), Served 8 radioModes p s → 1 ≤ p.u16 4 → p.u16 4 ≤ 1000 → p.dirty 6 2 = false →
    s.flag F.TMB_STAT_CAL_FAULT = false → exec (.timeSlew p) s = .next (sameQueue s (reply (asOp 0x1003 p) St.OK []
      { startSlew (p.i32 0) (p.u16 4) s with host.pps.slewing := false }))) ∧
  (∀ (p : Packet) (s : State) (r : Nat × State), Served 16 coreModes p s → p.dirty 1 7 = false →
    s.flag F.TMB_STAT_CAL_FAULT = true → r = defer (asOp 0x1002 p) s →
    (p.u8 0 = 0 → exec (.timeResync p) s = .next (sameQueue s (finish r.1 St.OK [] (resyncLoad (p.u64 8) r.2)))) ∧
    (p.u8 0 = 1 → exec (.timeResync p) s = .next (sameQueue s
      (finish r.1 St.OK [] (resyncLoad s.cal.copyA.toNat r.2)))) ∧
    (p.u8 0 = 2 → exec (.timeResync p) s = .next (sameQueue s
      (finish r.1 St.OK [] (resyncLoad s.cal.copyB.toNat r.2)))) ∧
    (p.u8 0 = 3 → exec (.timeResync p) s = .next (sameQueue s
      (finish r.1 St.OK [] (resyncLoad s.cal.copyC.toNat r.2))))) ∧
  (∀ (s : State) (q t : Nat), s.cal.resync = some (q, t) → t + 1200000 ≤ s.now →
    exec .timeResyncTimeout s = .next (finish q TIME_SRC_UNAVAILABLE [] { s with cal.resync := none })) ∧
  (∀ (w : Writer) (s : State), exec (.tmbNowLoRead w) s = .next { s with
    cal.nowHi := s.cal.nowHi.set 0 (writerKey w) (BitVec.ofNat 32 (s.now / 2 ^ 32)),
    readData := BitVec.ofNat 32 s.now }) ∧
  (∀ s : State, s.flag F.TMB_STAT_SLEWING = true → s.fld F.TMB_SLEW_REM_REMAINING = 0 →
    exec .slewDone s = .next (post 0 sevInfo 0x0008 (arg4 0)
      { s.setFlag F.TMB_STAT_SLEWING false with host.pps.slewing := false })) ∧
  (∀ s : State, exec .slowClkStart s = .next (s.setFlag F.CLK_STAT_SLOW_OK true)) ∧
  (∀ s t : State, s.flag F.TMB_STAT_SLOW = true → s.macReady = true → 64 ≤ s.cal.stable →
    t = (if s.flag F.CLK_STAT_SLOW_OK then slowTick s else s) →
    exec .slowExit s = .next (sameQueue s (post 0 sevInfo 0x0007 []
      { (t.setFlag F.TMB_STAT_SLOW false).setFld F.TMB_STAT_SLOW_WHY 0 with cal.slowAcc := 0 })))

/-- The slow advance: each edge of SLOW_CLK adds 3,662 or 3,663 to CALCNT in all three copies, by the phase accumulator
as the rule's program says, and every 64 consecutive edges add exactly 234,375 ticks and bring PHASE back (R66). -/
def Obligations.SlowAdvance : Prop :=
  (∀ (s : State) (ph inc : Nat), ph = s.fld F.TMB_STAT_PHASE → inc = (if 64 ≤ ph + 7 then 3663 else 3662) →
    (slowEdge s).cal.copyA = s.cal.copyA + BitVec.ofNat 64 inc ∧
    (slowEdge s).cal.copyB = s.cal.copyB + BitVec.ofNat 64 inc ∧
    (slowEdge s).cal.copyC = s.cal.copyC + BitVec.ofNat 64 inc ∧
    (slowEdge s).fld F.TMB_STAT_PHASE = (if 64 ≤ ph + 7 then ph + 7 - 64 else ph + 7) ∧
    (s.flag F.TMB_STAT_CAL_FAULT = false → (s.cal.copyA = s.cal.copyB ∨ s.cal.copyA = s.cal.copyC) →
      s.now + inc < 2 ^ 64 → (slowEdge s).now = s.now + inc)) ∧
  (∀ s t : State, t = (List.range 64).foldl (fun s _ => slowEdge s) s →
    t.cal.copyA = s.cal.copyA + 234375#64 ∧ t.cal.copyB = s.cal.copyB + 234375#64 ∧
    t.cal.copyC = s.cal.copyC + 234375#64 ∧ t.fld F.TMB_STAT_PHASE = s.fld F.TMB_STAT_PHASE)

/-- Writes to class-L timers by their holder are under way to a landing tick 1 to 4 ticks on; a timer fires once its
value has been passed, timers of lower number that are due before it; the interrupt registers take a writer's bits
(R72 to R75, R87). The tick within the four is an open value of the spec. Class-I timers: writes by the holder, a
match, and the edge of MGT_CLK at which a CMP write lands: no match of it is seen there (R78 to R82). -/
def Obligations.TimerCommands : Prop :=
  ((∀ (w : Writer) (n : Fin 32) (v : Word) (s : State), s.timersRun = true → s.holds w (0x0500 + n.val) = true →
     exec (.tmrLCmpWrite w n v) s = .next (sendL n.val (some v.toNat) true s) ∧
     exec (.tmrLRearm w n) s = .next (sendL n.val none true s) ∧
     exec (.tmrLDisarm w n) s = .next (sendL n.val none false s)) ∧
   (∀ (n : Nat) (v : Option Nat) (arm : Bool) (s : State), ∃ k, 1 ≤ k ∧
     ((∀ l ∈ s.timers.landings, l.timer ≠ n) → k ≤ 4) ∧
     (∀ l ∈ s.timers.landings, l.timer = n → l.left ≤ k) ∧
     (sendL n v arm s).timers.landings = s.timers.landings ++ [{ timer := n, left := k, value := v, arm := arm }]) ∧
   (∀ (n : Fin 32) (s : State), s.dueL n.val = true → exec (.timerLFire n) s = .next (sameQueue s
     ((List.range (n.val + 1)).foldl (fun t m => if t.dueL m then fireL m t else t) s))) ∧
   (∀ (w : Writer) (v : Word) (s : State), s.timersRun = true →
     (v &&& ~~~(BitVec.ofNat 32 (s.heldL w)) = 0 → exec (.tmrLIntWrite w false v) s =
       .next (s.setWord R.TMR_L_INT (s.word R.TMR_L_INT &&& ~~~v))) ∧
     ((s.word R.TMR_L_IE ^^^ v) &&& ~~~(BitVec.ofNat 32 (s.heldL w)) = 0 →
       exec (.tmrLIntWrite w true v) s = .next (s.setWord R.TMR_L_IE v)))) ∧
  ((∀ (w : Writer) (n : Fin 8) (v : Word) (s : State), s.timersRun = true → s.holds w (0x0600 + n.val) = true →
     exec (.tmrICmpWrite w n v) s = .next (s.setTimerI n.val { s.timerI n.val with cmpW := some v }) ∧
     exec (.tmrICountWrite w n v) s = .next (s.setTimerI n.val { s.timerI n.val with cntW := some v }) ∧
     exec (.tmrIPrescWrite w n v) s = .next (sameQueue s
       (recomputeP n.val (s.setTimerI n.val { s.timerI n.val with pWritten := v.toNat }))) ∧
     (v.toNat / 16 % 16 < 5 ∨ (v.toNat / 16 % 16 < 9 ∧ s.holds w (0x0200 + (v.toNat / 16 % 16 - 5)) = true) →
       exec (.tmrICtlWrite w n v) s = .next (sameQueue s
         (recomputeP n.val (s.setWord (R.TMR_I_CTL n.val) (v &&& 0xFF#32))))) ∧
     (9 ≤ v.toNat / 16 % 16 ∨ (5 ≤ v.toNat / 16 % 16 ∧ s.holds w (0x0200 + (v.toNat / 16 % 16 - 5)) = false) →
       exec (.tmrICtlWrite w n v) s = .next s)) ∧
   (∀ (n : Fin 8) (s t u : State), (s.timerI n.val).due ≠ 0 →
     t = ((s.setTimerI n.val { s.timerI n.val with due := (s.timerI n.val).due - 1 }).setFlag
       (F.TMR_I_STAT_MATCH n.val) true).count (F.TMR_I_STAT_MATCH_CNT n.val) 1 →
     u = (if t.flag (F.TMR_I_CTL_IE n.val) then signalOwner (0x0600 + n.val) t else t) →
     exec (.timerIMatch n) s = .next (sameQueue s (ppsPulse n.val (capEvent (0x10 + n.val) none u)))) ∧
   (∀ (on clr : Bool) (p u : Nat) (cnt cmp v : Word) (x : TimerI), x.cntW = none → x.eq = false → x.stepped = false →
     x.oldCmp = none →
     (TimerI.edge on clr p u cnt cmp { x with cmpW := some v }).2.1 = v ∧
     (TimerI.edge on clr p u cnt cmp { x with cmpW := some v }).2.2.due = x.due ∧
     (TimerI.edge on clr p u cnt cmp { x with cmpW := some v }).2.2.oldCmp = some cmp))

/-- A write to a timer by a requester that does not hold it changes no timer: it is counted, with its writer where the
spec gives the writer a number (R87). -/
def Obligations.UnheldTimerWritesIgnored : Prop :=
  ∀ (w : Writer) (v : Word) (s t : State), s.timersRun = true → t = tmrIgnore w s →
    (∀ n : Fin 32, s.holds w (0x0500 + n.val) = false →
      exec (.tmrLCmpWrite w n v) s = .next t ∧ exec (.tmrLRearm w n) s = .next t ∧
      exec (.tmrLDisarm w n) s = .next t) ∧
    (∀ n : Fin 8, s.holds w (0x0600 + n.val) = false →
      exec (.tmrICmpWrite w n v) s = .next t ∧ exec (.tmrICountWrite w n v) s = .next t ∧
      exec (.tmrIPrescWrite w n v) s = .next t ∧ exec (.tmrICtlWrite w n v) s = .next t) ∧
    t.timers = s.timers ∧ t.interp = s.interp ∧ t.host = s.host ∧ t.journal = s.journal ∧
    (∀ off, off ≠ F.TMR_IGN_CNT_COUNT.off → t.word off = s.word off) ∧
    (∀ r : Req, w = .req r → t.fld F.TMR_IGN_CNT_LAST_REQ = r.toNat) ∧
    t.fld F.TMR_IGN_CNT_COUNT = satAdd (2 ^ F.TMR_IGN_CNT_COUNT.width - 1) (s.fld F.TMR_IGN_CNT_COUNT) 1

/-- Capture units: an edge or event captures CALCNT in every unit that names it; a 64-bit read is one read pair, whose
close brings a pending capture in or leaves the unit empty (R83 to R86, R457). -/
def Obligations.CaptureCommands : Prop :=
  (∀ (pin : Fin 4) (rising : Bool) (s t : State), s.timers.gptLevel.get false pin.val ≠ rising → s.timersRun = true →
    t = { s with timers.gptLevel := s.timers.gptLevel.set false pin.val rising } →
    exec (.gptInEdge pin rising) s = .next (sameQueue s (capEvent (1 + pin.val) (some (!rising))
      ((List.range 8).foldl (fun s n =>
        if s.fld (F.TMR_I_CTL_SRC n) = 5 + pin.val ∧ s.flag (F.TMR_I_CTL_EN n) = true ∧
            s.flag (F.TMR_I_CTL_EDGE n) = !rising then
          s.setTimerI n { s.timerI n with units := (s.timerI n).units + 1 }
        else s) t)))) ∧
  (∀ (rising : Bool) (s : State), s.timers.ppsLevel ≠ rising → s.timersRun = true →
    s.fld (F.TMR_CAP_CTL_SRC (s.fld F.MGT_PPS_CTL_CAP)) ≠ 5 →
    exec (.ppsInEdge rising) s = .next (sameQueue s (capEvent 5 (some (!rising)) { s with timers.ppsLevel := rising }))) ∧
  (∀ (rising : Bool) (s t : State), s.timers.ppsLevel ≠ rising → s.timersRun = true →
    s.fld (F.TMR_CAP_CTL_SRC (s.fld F.MGT_PPS_CTL_CAP)) = 5 →
    s.flag (F.TMR_CAP_CTL_EDGE (s.fld F.MGT_PPS_CTL_CAP)) = !rising →
    t = capEvent 5 (some (!rising)) { s with timers.ppsLevel := rising } →
    exec (.ppsInEdge rising) s = .next (sameQueue s
      (ppsAlign { t with host.pps.lastCap := t.now, host.pps.lost := false }))) ∧
  (∀ (w : Writer) (n : Fin 16) (s : State), exec (.capValueLoRead w n) s = .next
    { s.setCapture n.val { s.capture n.val with
        pairs := (writerKey w, s.now) :: (s.capture n.val).pairs.filter (fun x => x.1 != writerKey w),
        snap := (s.capture n.val).snap.set 0 (writerKey w)
          (BitVec.ofNat 32 ((s.capture n.val).value.toNat / 2 ^ 32)) } with
      readData := BitVec.ofNat 32 (s.capture n.val).value.toNat }) ∧
  (∀ (w : Writer) (n : Fin 16) (s : State), exec (.capValueHiRead w n) s = .next (sameQueue s
    (capClose (fun x => x.1 == writerKey w) n.val { s with readData := (s.capture n.val).snap.get 0 (writerKey w) }))) ∧
  (∀ (n : Fin 16) (s : State), exec (.capReadPairTimeout n) s = .next (sameQueue s
    (capClose (fun x => decide (x.2 + 16 ≤ s.now)) n.val s))) ∧
  (∀ (pick : Nat × Nat → Bool) (n : Fin 16) (s t : State), t = capClose pick n.val s →
    ((s.capture n.val).pairs.any pick = false → t = s) ∧
    ((s.capture n.val).pairs.any pick = true → (s.capture n.val).pending = none →
      t.flag (F.TMR_CAP_STAT_VALID n.val) = false ∧
      (t.capture n.val).pairs = (s.capture n.val).pairs.filter (fun x => !pick x)) ∧
    (∀ v b, (s.capture n.val).pairs.any pick = true → (s.capture n.val).pairs.all pick = true →
      (s.capture n.val).pending = some (v, b) →
      t.flag (F.TMR_CAP_STAT_VALID n.val) = true ∧ t.flag (F.TMR_CAP_STAT_TAINT n.val) = b ∧
      t.flag (F.TMR_CAP_STAT_PENDING n.val) = false ∧ (t.capture n.val).value = v ∧ (t.capture n.val).pairs = [])) ∧
  (∀ s t : State, s.flag F.MGT_PPS_CTL_ALIGN = true → s.host.pps.lost = false →
    s.host.pps.since + 240000000 ≤ s.now → s.host.pps.lastCap + 240000000 ≤ s.now →
    t = { s with host.pps.lost := true } →
    exec .ppsLost s = .next (mgtCause 6 (post 1 sevDegraded 0x1504 (arg8 s.host.pps.lastCap) t)))

/-- The resource table: a claim of free or own resources takes them all, a release frees the issuer's own after bringing
each to its idle state, a refused claim or release changes no entry, a query tells the owner (R463 to R467). Who
owns what after a claim that is not refused: every claimed entry is the issuer's, every other as before; and a claim
is refused only for an unknown entry or one that another holds (R465, R466). PPS_SET moves its entries to the
protocol cores, takes the request's settings, and starts or stops the output and the alignment (R456, R457, R466).
-/
def Obligations.ResourceCommands : Prop :=
  ((∀ (p : Packet) (s : State), resLen p = true → s.coresServe = true → s.inMode coreModes = true → p.dirty 2 2 = false →
     (claimRefusal p.issuer s (resIds p) = none →
       exec (.resClaim p) s = .next (reply (asOp 0xC001 p) St.OK (leBytes 4 0)
         ((resIds p).foldl (fun s id => setOwner id p.issuer s) s))) ∧
     (∀ id st, claimRefusal p.issuer s (resIds p) = some (id, st) →
       exec (.resClaim p) s = .next (reply (asOp 0xC001 p) st (resReply s id)
         (if st = St.RESOURCE_HELD then s.count F.MGT_RES_CNT_REFUSED 1 else s))) ∧
     (releaseRefusal p.issuer s (resIds p) = none →
       exec (.resRelease p) s = .next (sameQueue s (reply (asOp 0xC002 p) St.OK (leBytes 4 0)
         ((resIds p).foldl (fun s id => resFree id s) s))))) ∧
   (∀ (p : Packet) (s : State), Served 4 coreModes p s → p.dirty 2 2 = false → resKnown (p.u16 0) = true →
     exec (.resQuery p) s = .next (reply (asOp 0xC003 p) St.OK
       (leBytes 1 (if s.ownerOf (p.u16 0) == 0 then 0 else 1) ++ [s.ownerOf (p.u16 0)] ++ leBytes 2 0) s))) ∧
  ((∀ (who : Req) (ids : List Nat) (s : State),
     (∀ id, ids.contains id = true → (ids.foldl (fun s id => setOwner id who s) s).ownerOf id = who) ∧
     (∀ id, ids.contains id = false →
       (ids.foldl (fun s id => setOwner id who s) s).ownerOf id = s.ownerOf id)) ∧
   (∀ (who : Req) (ids : List Nat) (s : State), claimRefusal who s ids = none ↔
     ∀ id ∈ ids, resKnown id = true ∧ (s.ownerOf id = 0 ∨ s.ownerOf id = who))) ∧
  (∀ (p : Packet) (s t : State), Served 16 coreModes p s → p.bits 0 7 2 = 0 → p.u8 1 ≤ 7 → p.u8 2 ≤ 15 → p.u8 3 = 0 →
     p.u16 4 ≠ 0 → p.dirty 6 2 = false → p.u32 8 ≤ 119999999 → p.dirty 12 4 = false →
     claimRefusal 0x02 s (ppsWant p) = none → t = ppsSettings p s →
     (p.bit 0 0 = false → p.bit 0 1 = false → exec (.ppsSet p) s = .next (sameQueue s
       (reply (asOp 0xC020 p) St.OK (leBytes 4 0)
         { t with host.pps.out := false, host.pps.left := 0, host.pps.lost := false }))) ∧
     (p.bit 0 0 = true → p.bit 0 1 = false → exec (.ppsSet p) s = .next (sameQueue s
       (reply (asOp 0xC020 p) St.OK (leBytes 4 0)
         { ppsTimer (p.u8 1) (p.u32 8) t with host.pps.lost := false }))) ∧
     (p.bit 0 0 = false → p.bit 0 1 = true → s.flag F.MGT_PPS_CTL_ALIGN = true →
       exec (.ppsSet p) s = .next (sameQueue s (reply (asOp 0xC020 p) St.OK (leBytes 4 0)
         ((({ t with host.pps.out := false, host.pps.left := 0 } : State).setFld
           (F.TMR_CAP_CTL_SRC (p.u8 2)) 5).setFlag (F.TMR_CAP_CTL_EDGE (p.u8 2)) false)))))

/-- A claim or release that names several entries, RES_CLAIM, RES_RELEASE or PPS_SET, is all or nothing: with one entry
refused no entry changes its owner; and whatever it answers, either no entry has changed its owner or every entry
that it names has, but for a bus that is still busy, which is noted and leaves its owner when its transfer ends
(R466). -/
def Obligations.AllOrNothing : Prop :=
  (∀ (p : Packet) (s t : State), exec (.resClaim p) s = .next t →
    ((∃ id ∈ resIds p, resKnown id = false ∨ (s.ownerOf id ≠ 0 ∧ s.ownerOf id ≠ p.issuer)) →
      ∀ id, t.ownerOf id = s.ownerOf id) ∧
    ((∀ id, t.ownerOf id = s.ownerOf id) ∨
      ((∀ id ∈ resIds p, t.ownerOf id = p.issuer) ∧ ∀ id, id ∉ resIds p → t.ownerOf id = s.ownerOf id))) ∧
  (∀ (p : Packet) (s t : State), exec (.resRelease p) s = .next t →
    ((∃ id ∈ resIds p, resKnown id = false ∨ s.ownerOf id ≠ p.issuer) → ∀ id, t.ownerOf id = s.ownerOf id) ∧
    ((∀ id, t.ownerOf id = s.ownerOf id) ∧ t.host.releasing = s.host.releasing ∨
      (∀ id ∈ resIds p, (s.busBusy id = false → t.ownerOf id = 0) ∧
        (s.busBusy id = true → t.ownerOf id = s.ownerOf id ∧ id ∈ t.host.releasing)) ∧
      ∀ id, id ∉ resIds p → t.ownerOf id = s.ownerOf id)) ∧
  (∀ (p : Packet) (s t : State), exec (.ppsSet p) s = .next t →
    ((∃ id ∈ ppsWant p, resKnown id = false ∨ (s.ownerOf id ≠ 0 ∧ s.ownerOf id ≠ 0x02)) →
      ∀ id, t.ownerOf id = s.ownerOf id) ∧
    ((∀ id, t.ownerOf id = s.ownerOf id) ∨
      ((∀ id ∈ ppsWant p, t.ownerOf id = 0x02) ∧ (∀ id ∈ s.ppsHas, id ∉ ppsWant p → t.ownerOf id = 0) ∧
        ∀ id, id ∉ ppsWant p → id ∉ s.ppsHas → t.ownerOf id = s.ownerOf id)))

/-- GPIO functions, the QSPI and SFP buses: a write by the holder acts, another is counted; an operation ends with its
data in the data registers, and gives its bus up where a release waits for it (R461, R462, R464). -/
def Obligations.PinCommands : Prop :=
  (∀ (w : Writer) (k : Fin 3) (v : Word) (s : State), s.reaches (R.MGT_GPIO_FUNC k.val) = true →
    (∀ j, j < 8 → s.holds w (0x0100 + 8 * k.val + j) = true) →
    exec (.mgtGpioFuncWrite w k v) s = .next (sameQueue s ((List.range 8).foldl (fun s j =>
      gpioPin w (8 * k.val + j) (v.toNat / 2 ^ (4 * j) % 16) s) s))) ∧
  (∀ (w : Writer) (v : Word) (s : State), s.reaches R.MGT_QSPI_CMD = true → s.flag F.MGT_QSPI_CMD_BUSY = false →
    exec (.mgtQspiOp w v) s = .next (if s.holds w 0x0900 = true
      then (s.setWord R.MGT_QSPI_CMD (v &&& 0x47FF007F#32)).setFlag F.MGT_QSPI_CMD_BUSY true
      else s.count F.MGT_RES_CNT_IGNORED 1)) ∧
  (∀ (w : Writer) (b : Fin 2) (v : Word) (s : State), s.reaches (R.ETH_I2C_CMD b.val) = true →
    s.flag (F.ETH_I2C_CMD_BUSY b.val) = false →
    exec (.ethI2cTransaction w b v) s = .next (if s.holds w (0x0A00 + b.val) = true
      then (s.setWord (R.ETH_I2C_CMD b.val) (v &&& 0x27FFFF00#32)).setFlag (F.ETH_I2C_CMD_BUSY b.val) true
      else s.count F.MGT_RES_CNT_IGNORED 1)) ∧
  (∀ (data : List Byte) (s t : State), s.flag F.MGT_QSPI_CMD_BUSY = true →
    t = busDone 0x0900 (s.setFlag F.MGT_QSPI_CMD_BUSY false) →
    (t.flag F.MGT_QSPI_CMD_WRITE = true → exec (.mgtQspiDone data) s = .next (sameQueue s t)) ∧
    (t.flag F.MGT_QSPI_CMD_WRITE = false → exec (.mgtQspiDone data) s = .next (sameQueue s
      (storeWords (R.MGT_QSPI_DATA 0)
        (((if s.fld F.MGT_QSPI_CMD_LEN ≤ 64 then s.fld F.MGT_QSPI_CMD_LEN else 64) + 3) / 4)
        (sliceBytes data 0 (if s.fld F.MGT_QSPI_CMD_LEN ≤ 64 then s.fld F.MGT_QSPI_CMD_LEN else 64)) t)))) ∧
  (∀ (b : Fin 2) (nack : Bool) (data : Word) (s t : State), s.flag (F.ETH_I2C_CMD_BUSY b.val) = true →
    t = (busDone (0x0A00 + b.val) (s.setFlag (F.ETH_I2C_CMD_BUSY b.val) false)).setFlag
      (F.ETH_I2C_CMD_NACK b.val) nack →
    ((nack = true ∨ t.flag (F.ETH_I2C_CMD_WRITE b.val) = true) →
      exec (.ethI2cDone b nack data) s = .next (sameQueue s t)) ∧
    (nack = false → t.flag (F.ETH_I2C_CMD_WRITE b.val) = false →
      exec (.ethI2cDone b nack data) s = .next (sameQueue s (t.setWord (R.ETH_I2C_DATA b.val)
        (BitVec.ofNat 32 (data.toNat % 2 ^ (8 * (t.fld (F.ETH_I2C_CMD_COUNT_M1 b.val) % 4 + 1)))))))) ∧
  (∀ (id : Nat) (s : State), busDone id s = if s.host.releasing.contains id then setOwner id 0 s else s)

/-- PCI Express: link training, bus mastering, an unmasked vector, and a reset of the function or the link (R445 to
R449, R491). A vector whose cause becomes true: its message is sent at once, or stays pending while the vector is
masked or the chip may not master the bus (R449). -/
def Obligations.PcieCommands : Prop :=
  ((∀ (width speed : BitVec 4) (s t : State), s.flag F.STP_STRAPS_HOSTIF = false → s.inMode [.cold] = false →
     t = ((s.setFlag F.PCI_LINK_UP true).setFld F.PCI_LINK_WIDTH width.toNat).setFld F.PCI_LINK_SPEED speed.toNat →
     (s.seq.boot.phase = .doorbell none →
       exec (.pcieLinkUp width speed) s = .next { t with seq.boot.phase := .doorbell (some t.now) }) ∧
     (s.seq.boot.phase = .idle → exec (.pcieLinkUp width speed) s = .next t)) ∧
   (∀ s : State, s.flag F.PCI_LINK_UP = true → exec .pcieBmeSet s = .next (sameQueue s
     ((List.range 39).foldl (fun s v =>
       if s.flag (msixPend v) = true ∧ s.flag (msixMask v) = false then (msixSend v s).setFlag (msixPend v) false else s)
       ((List.range 16).foldl (fun s n => if s.ringLive n then writeBack n (ringFlush n s) else s)
         (s.setFlag F.PCI_LINK_BME true))))) ∧
   (∀ (n : Fin 64) (s t : State), s.hostUp = true → t = s.setFlag (msixMask n.val) false →
     exec (.msixUnmask n) s = .next (if t.flag (msixPend n.val) && t.flag F.PCI_LINK_BME then
       (msixSend n.val t).setFlag (msixPend n.val) false else t)) ∧
   (∀ (kind : Fin 4) (s t : State), s.hostUp = true →
     t = (if kind = 0 then (s.setFlag F.PCI_LINK_BME false).count F.PCI_RESET_CNT_FLR 1
       else ((s.setFlag F.PCI_LINK_BME false).setFlag F.PCI_LINK_UP false).count F.PCI_RESET_CNT_LINK 1) →
     exec (.pcieReset kind) s = .next (sameQueue s (post 32 sevInfo 0x1501 (arg1 kind.val)
       (resVanishAll 0 0x80 0x8F (msixClear (dmaAllOff false ((List.range 16).foldl
         (fun s n => (ringResetCore n s).setFlag (F.CMD_RING_CTL_EN n) false) t))))))) ∧
   (∀ s t u : State, s.flag F.PCI_LINK_BME = true →
     t = (List.range 16).foldl (fun s n => ringStop n 4 s) (s.setFlag F.PCI_LINK_BME false) →
     u = (List.range 16).foldl (fun s n =>
       match s.dmaState n == dmaActive, (s.dma n).desc with
       | true, some d => dmaStart n (dmaFault n cBme (d.kind == 2 || d.kind == 3) false (s.fld (F.DMA_CH_STAT_PROGRESS n))
           (bursts d.base ((s.dma n).len d))
           (d.host + doneBytes d (s.fld (F.DMA_CH_STAT_PROGRESS n)) ((s.dma n).len d)) s)
       | _, _ => s) t →
     exec .pcieBmeClear s = .next (sameQueue s (resVanishAll 2 0x80 0x8F (abandonOf 3 0x80 0x8F u)))) ∧
   (∀ s : State, s.flag F.PCI_LINK_BME = false → exec .pcieBmeClear s = .next s)) ∧
  (∀ (v : Fin 64) (s : State),
     (s.flag (msixMask v.val) = true ∨ s.flag F.PCI_LINK_BME = false →
       signal v.val s = s.setFlag (msixPend v.val) true) ∧
     (s.flag (msixMask v.val) = false → s.flag F.PCI_LINK_BME = true →
       (signal v.val s).hostMem = s.hostMem.setRun 0 (s.pair (msixEntry v.val) (msixEntry v.val + 4))
         (leBytes 4 (s.word (msixEntry v.val + 8)).toNat) ∧
       (signal v.val s).csr = s.csr))

/-- Ethernet ports and their SFP sideband: each is set, follows its pins and sends its queue (R450 to R455). -/
def Obligations.EthernetCommands : Prop :=
  (∀ (p : Packet) (s u t : State), Served 24 radioModes p s → p.u8 0 ≤ 1 → p.bits 1 7 4 = 0 → p.dirty 20 4 = false →
    p.u16 2 ≤ 4094 → (∀ i, i < 8 → p.u16 (4 + 2 * i) ≤ 4094) →
    twice ((List.range 8).map (fun i => p.u16 (4 + 2 * i))) = false →
    u = (s.setFlag (F.ETH_PORT_CTL_EN (p.u8 0)) (p.bit 1 0)).setFld (F.ETH_PORT_CTL_PCP (p.u8 0)) (p.bits 1 3 1) →
    t = (List.range 4).foldl (fun s k =>
      (s.setFld (F.ETH_PORT_VID_VIDB (p.u8 0) k) (p.u16 (4 + 4 * k))).setFld (F.ETH_PORT_VID_VIDA (p.u8 0) k)
        (p.u16 (6 + 4 * k)))
      ((if p.bit 1 0 then
          u.setEthPort (p.u8 0) { u.ethPort (p.u8 0) with faultSeen := u.flag (F.ETH_PORT_STAT_TX_FAULT (p.u8 0)) }
        else u).setFld (F.ETH_PORT_VLAN_PVID (p.u8 0)) (p.u16 2)) →
    exec (.ethPortSet p) s = .next (sameQueue s (reply (asOp 0xC010 p) St.OK [] (setLaser (p.u8 0) t)))) ∧
  (∀ (p : Fin 2) (s t : State), s.flag (F.ETH_PORT_STAT_TX_FAULT p.val) = false →
    t = s.setFlag (F.ETH_PORT_STAT_TX_FAULT p.val) true →
    exec (.sfpTxFault p) s = .next (sameQueue s (post (33 + p.val) sevDegraded 0x1503 (arg1 p.val)
      (ethRaise F.ETH_INT_SFP p.val (setLaser p.val
        (t.setEthPort p.val { t.ethPort p.val with faultSeen := true })))))) ∧
  (∀ (p : Fin 2) (modAbs rxLos txFault lock : Bool) (s u v t : State),
    u = (if txFault then runSfpTxFault p s
      else if s.flag (F.ETH_PORT_STAT_TX_FAULT p.val) then
        ethRaise F.ETH_INT_SFP p.val (s.setFlag (F.ETH_PORT_STAT_TX_FAULT p.val) false)
      else s) →
    v = (if u.flag (F.ETH_PORT_STAT_MOD_ABS p.val) == modAbs then u
      else ethRaise F.ETH_INT_SFP p.val (u.setFlag (F.ETH_PORT_STAT_MOD_ABS p.val) modAbs)) →
    t = setLaser p.val ((v.setFlag (F.ETH_PORT_STAT_RX_LOS p.val) rxLos).setFlag (F.ETH_PORT_STAT_BLOCK_LOCK p.val) lock) →
    exec (.sfpSignalChange p modAbs rxLos txFault lock) s = .next (sameQueue s
      (if t.flag (F.ETH_PORT_STAT_LINK p.val) == (lock && !rxLos) then t
       else post (33 + p.val) sevInfo 0x1502 (arg1 p.val ++ arg1 (if lock && !rxLos then 1 else 0))
        (ethRaise F.ETH_INT_LINK p.val (t.setFlag (F.ETH_PORT_STAT_LINK p.val) (lock && !rxLos)))))) ∧
  (∀ (p : Fin 2) (frame : List Byte) (rest : List (List Byte)) (s : State), (s.ethPort p.val).txq = frame :: rest →
    exec (.ethFrameTx p none) s = .next ((s.setEthPort p.val { s.ethPort p.val with txq := rest }).wrapCount
      (F.ETH_PORT_TX_OK_OK p.val) 1)) ∧
  (∀ (p : Fin 2) (frame : List Byte) (rest : List (List Byte)) (v : Quad) (o : Nat) (s t : State),
    (s.ethPort p.val).txq = frame :: rest → ptpOffset frame = some o → ptpEvent frame o = true →
    t = ((s.setEthPort p.val { s.ethPort p.val with txq := rest }).wrapCount (F.ETH_PORT_TX_OK_OK p.val) 1).wrapCount
      (F.ETH_PORT_TS_COUNT p.val) 1 →
    (16 ≤ (t.ethPort p.val).stamps.length → exec (.ethFrameTx p (some v)) s = .next (sameQueue s
      (ethRaise F.ETH_INT_TS_OVR p.val (t.count (F.ETH_PORT_TS_OVR p.val) 1)))) ∧
    ((t.ethPort p.val).stamps.length < 16 → exec (.ethFrameTx p (some v)) s = .next (sameQueue s
      (t.setEthPort p.val { t.ethPort p.val with stamps := (t.ethPort p.val).stamps ++
        [(adjusted v (t.sfld (F.ETH_PORT_TS_ADJ_TX_ADJ p.val)), t.taints, beAt frame (o + 30) 2,
          leAt frame o 1 % 16)] })))) ∧
  (∀ (p : Fin 2) (frame : List Byte) (stamp : Quad) (s : State), s.flag (F.ETH_PORT_CTL_EN p.val) = true →
    s.flag (F.ETH_PORT_STAT_LINK p.val) = true → s.inMode radioModes = true →
    exec (.ethFrameRx p frame false stamp) s = .next (s.count (F.ETH_PORT_RX_DROP0_FCS p.val) 1) ∧
    (frame.length < 64 →
      exec (.ethFrameRx p frame true stamp) s = .next (s.count (F.ETH_PORT_RX_DROP0_SIZE p.val) 1)) ∧
    (∀ t : State, 64 ≤ frame.length → frame.length ≤ s.fld F.FWD_CTL_ETH_MTU + 22 → ethVid frame = 0 →
      s.fld (F.ETH_PORT_VLAN_PVID p.val) ≠ 0 → t = ethLearn p.val (s.fld (F.ETH_PORT_VLAN_PVID p.val)) frame s →
      macControl frame = false → t.ethLookupBad (s.fld (F.ETH_PORT_VLAN_PVID p.val)) frame = false →
      ptpOffset frame = none → t.ethMine p.val frame = true → t.inMode [.service, .test] = true →
      exec (.ethFrameRx p frame true stamp) s = .next (sameQueue s
        (ethForward p.val (s.fld (F.ETH_PORT_VLAN_PVID p.val)) frame t))))

/-- The journal's commands (R90, R521 to R528). A record is 32 bytes, whatever its arguments, and the writer takes the
first record of its window in the order of the tick, then the source (R89, R519). -/
def Obligations.JournalCommands : Prop :=
  ((∀ (src sev : Byte) (code : BitVec 16) (args : List Byte) (s : State),
     exec (.journalRecordPost src sev code args) s = .next { s with journal.window := s.journal.window ++
       [(s.now, ⟨BitVec.ofNat 64 s.now, src, sev, code, sliceBytes args 0 20⟩)] }) ∧
   (∀ (e : Nat × JRec) (s : State), firstRec s.journal.window = some e →
     (isLate s.journal.last e.2 = true ∨ e.1 + 120000 ≤ s.now ∨ s.now < e.1) →
     exec .journalEmit s = .next (sameQueue s (emitRec e.2 { s with journal.window := dropRec e s.journal.window }))) ∧
   (∀ (t : Nat) (s : State), s.journal.dropAt = some t → t + 120000000 ≤ s.now →
     exec .journalDrop s = .next (post 1 sevDegraded 0x1422 (arg2 s.journal.dropped ++ arg2 s.journal.lost)
       { s with journal.dropped := 0, journal.lost := 0, journal.dropAt := none })) ∧
   (∀ (v : Word) (s : State), s.reaches R.EVJ_CTL = true →
     exec (.journalEnable v) s = .next (sameQueue s (evjCtlWrite (v ||| 0x80000000#32) s))) ∧
   (∀ (v : Word) (s : State), s.reaches R.EVJ_RD = true → exec (.evjRdWrite v) s = .next
     (if (v.toNat + 2 ^ 32 - s.fld F.EVJ_RD_RD) % 2 ^ 32 ≤ s.evjUnread then s.setWord R.EVJ_RD v else s)) ∧
   (∀ (v : Word) (s : State), s.reaches R.EVJ_CLR = true → ∃ t, exec (.evjFatalClear v) s = .next t ∧
     t.journal = { s.journal with fatal := none } ∧ t.interp = s.interp ∧ t.otp = s.otp) ∧
   (∀ (k : Fin 8) (r : JRec) (b : Bool) (s : State), s.journal.aon.get none (s.fld F.EVJ_AON_SEL_SLOT) = some (r, b) →
     exec (.evjAonWinRead k) s = .next { s with
       journal.aon := s.journal.aon.set none (s.fld F.EVJ_AON_SEL_SLOT) (some (r, true)),
       readData := BitVec.ofNat 32 (leAt r.bytes (4 * k.val) 4) }) ∧
   (∀ (p : Packet) (s : State) (wr first n : Nat) (nums : List Nat) (aon : Sparse (Option (JRec × Bool))),
     Managed 8 allButCold p s → 1 ≤ p.u8 4 → p.u8 4 ≤ 15 → p.dirty 5 3 = false →
     wr = s.fld F.EVJ_AON_WR_WR → first = (if p.u32 0 ≤ wr - 256 then wr - 256 else p.u32 0) →
     n = (if wr - first ≤ p.u8 4 then wr - first else p.u8 4) →
     nums = (List.range n).map (fun i => (first + i) % 256) →
     aon = nums.foldl (fun (m : Sparse (Option (JRec × Bool))) i => match m.get none i with
       | some (r, _) => m.set none i (some (r, true))
       | none => m) s.journal.aon →
     exec (.journalAonRead p) s = .next (sameQueue s (reply (asOp 0xF301 p) St.OK
       (leBytes 4 wr ++ leBytes 4 first ++ (nums.map (fun i => match s.journal.aon.get none i with
         | some (r, _) => r.bytes
         | none => leBytes 32 0)).flatten) { s with journal.aon := aon }))) ∧
   (∀ (v : Word) (s : State), s.reaches R.MGT_INT = true → exec (.mgtIntClear v) s = .next (sameQueue s
     (([0, 1, 2, 3, 4, 5, 6, 16, 17, 18, 19, 20] : List Nat).foldl (fun s i =>
       if v.toNat / 2 ^ i % 2 = 1 ∧ s.causeHolds i = false then s.setFlag ⟨0x180100, i, 1⟩ false else s) s)))) ∧
  ((∀ r : JRec, r.bytes.length = 32) ∧
   (∀ (l : List (Nat × JRec)) (e : Nat × JRec), firstRec l = some e →
     e ∈ l ∧ (∀ f ∈ l, e.2.cal.toNat < f.2.cal.toNat ∨ (e.2.cal = f.2.cal ∧ e.2.src.toNat ≤ f.2.src.toNat)) ∧
     (dropRec e l).length + 1 = l.length))

/-- Temperature and rails: a sample brings the registers to the measured values, THERMTRIP latches and leaves the chip
in COLD, the status commands report (R484, R504, R507, R510, R518). T_warn and T_crit: WARN sets at 100 °C and CRIT
at 115 °C; neither clears while the temperature has been at its release level within its time (R510, R511, R514,
R516). -/
def Obligations.ThermalAndRailCommands : Prop :=
  ((∀ (sensors temps : List (BitVec 16)) (hot : Nat) (tj : Int) (s t u v w : State),
     temps = (List.range 8).map (fun k => sensors.getD k 0) →
     hot = (List.range 8).foldl (fun b k => if (temps.getD b 0).toInt < (temps.getD k 0).toInt then k else b) 0 →
     tj = (temps.getD hot 0).toInt →
     t = ((((List.range 8).foldl (fun s k => s.setFld (F.THM_SENSOR_TEMP k) (nth (temps.map (·.toNat)) k)) s).setFld
       F.RFE_TEMP_TEMP (sensors.getD 8 0).toNat).setFld F.THM_TJ_TJ (temps.getD hot 0).toNat).setFld F.THM_TJ_HOT hot →
     u = (if t.sfld F.THM_PEAK_PEAK < tj then t.setFld F.THM_PEAK_PEAK (temps.getD hot 0).toNat else t) →
     v = critSample tj (warnSample tj { u with thermal := { u.thermal with
       below105 := if tj < 1680 then u.now else u.thermal.below105,
       above100 := if 1600 ≤ tj then u.now else u.thermal.above100,
       above95 := if 1520 ≤ tj then u.now else u.thermal.above95,
       above115 := if 1840 ≤ tj then u.now else u.thermal.above115 } }) →
     w = (if v.coresWork && v.inMode radioModes then (List.range 4).foldl (fun s n => driftCal n s) v else v) →
     (u.inMode [.cold] = true → exec (.thermalSample sensors) s = .next (sameQueue s u)) ∧
     (u.inMode [.cold] = false → w.inMode [.kindling] = true →
       exec (.thermalSample sensors) s = .next (sameQueue s w)) ∧
     (u.inMode [.cold] = false → w.inMode [.kindling] = false → w.inMode [.quarantine] = true →
       exec (.thermalSample sensors) s = .next (sameQueue s (governorRelease w))) ∧
     (u.inMode [.cold] = false → w.inMode [.kindling] = false → w.inMode [.quarantine] = false →
       exec (.thermalSample sensors) s = .next (sameQueue s (governorRelease (governorTake tj w))))) ∧
   (∀ (sensor : Fin 8) (s : State), s.seq.thermtrip = false →
     ∃ t : State, exec (.thermtrip sensor) s = .next t ∧ t.seq.mode = .cold ∧ t.seq.thermtrip = true ∧
       t.flag F.STP_RESET_CAUSE_THERMTRIP = true ∧ t.flag F.CLK_STAT_PLL_LOCK = false ∧
       t.flag F.CLK_GATE_CORE_RUN = false ∧ t.flag F.CLK_GATE_MGT_RUN = false ∧
       t.flag F.THM_STAT_WARN = false ∧ t.flag F.THM_STAT_CRIT = false ∧ t.fld F.THM_STAT_STEPS = 0 ∧
       t.thermal.decided = 0 ∧ t.interp.ready = [] ∧ t.interp.running = []) ∧
   (∀ (rails : List RailSample) (s t : State), s.inMode [.cold] = false →
     t = ((List.range 10).zip rails).foldl (fun s x => railSample x.1 x.2 s) s →
     exec (.railSample rails) s = .next (sameQueue s (t.setFld F.PWR_TOTAL_MW (least2 65535
       (sumOf ((List.range 10).map (fun r => t.fld (F.PWR_RAIL_MON_MW r)))))))) ∧
   (∀ (p : Packet) (s : State), Managed 0 allButCold p s →
     exec (.thmStatus p) s = .next (reply (asOp 0xD001 p) St.OK
       (leBytes 2 (s.fld F.THM_TJ_TJ) ++ leBytes 1 (s.fld F.THM_TJ_HOT) ++
         leBytes 1 (s.fld F.THM_STAT_STEPS + 4 * s.fld F.THM_STAT_WARN + 8 * s.fld F.THM_STAT_CRIT) ++
         leBytes 2 (s.fld F.THM_PEAK_PEAK) ++ leBytes 2 0 ++ leBytes 4 s.heldSeconds ++
         leBytes 4 (s.fld F.THM_CNT_TX_REFUSED)) s) ∧
     exec (.pwrStatus p) s = .next (reply (asOp 0xD002 p) St.OK
       ((List.range 10).flatMap (fun r => leBytes 4 (s.word (R.PWR_RAIL_MON r)).toNat) ++
         leBytes 2 (s.fld F.PWR_TOTAL_MW) ++ leBytes 2 (s.fld F.PWR_RAIL_FAULT_FAULT) ++ leBytes 4 0) s))) ∧
  (∀ (tj : Int) (s : State),
     (s.flag F.THM_STAT_WARN = false → 1600 ≤ tj → (warnSample tj s).flag F.THM_STAT_WARN = true) ∧
     (s.flag F.THM_STAT_WARN = false → tj < 1600 → warnSample tj s = s) ∧
     (s.flag F.THM_STAT_WARN = true → s.now < s.thermal.above95 + 7200000000 → warnSample tj s = s) ∧
     (s.flag F.THM_STAT_WARN = true → s.thermal.above95 + 7200000000 ≤ s.now →
       (warnSample tj s).flag F.THM_STAT_WARN = false) ∧
     (s.flag F.THM_STAT_CRIT = false → 1840 ≤ tj → (critSample tj s).flag F.THM_STAT_CRIT = true) ∧
     (s.flag F.THM_STAT_CRIT = false → tj < 1840 → critSample tj s = s) ∧
     (s.flag F.THM_STAT_CRIT = true → s.now < s.thermal.above115 + 1200000000 → critSample tj s = s) ∧
     (s.flag F.THM_STAT_CRIT = true → s.thermal.above115 + 1200000000 ≤ s.now →
       (critSample tj s).flag F.THM_STAT_CRIT = false))

/-- The redundant pair: the token line, the partner's presence, the claim, the watchdog, the mirror and the commands
(R433 to R444). Taking the pair's token over: the claim, the heartbeat, the mirror in step, and what the new holder
does first (R434, R437, R439, R440, R444). -/
def Obligations.PairCommands : Prop :=
  ((∀ s : State, exec (.pairTokenLineChange true) s = .next (s.setFlag F.PAR_STAT_LINE true)) ∧
   (∀ s t : State, t = { s.setFlag F.PAR_STAT_LINE false with pairU.high := 0 } → t.seq.claimWait = false ∨ t.holder = true →
     exec (.pairTokenLineChange false) s = .next t) ∧
   (∀ s t : State, t = { s.setFlag F.PAR_STAT_LINE false with pairU.high := 0, seq.claimWait := false } →
     s.seq.claimWait = true → t.holder = false →
     exec (.pairTokenLineChange false) s = .next (sameQueue s
       (if s.seq.mode = .calibrate then enterBanked 1 (disarmClaim t) else autoArm t))) ∧
   (∀ s : State, exec (.pairSenseChange true) s = .next (sameQueue s
     (autoArm (mirrorCheck (s.setFlag F.PAR_STAT_SENSE true))))) ∧
   (∀ s : State, exec (.pairSenseChange false) s = .next (sameQueue s (autoArm (mirrorCheck
     { s.setFlag F.PAR_STAT_SENSE false with pairU.met := false, pairU.partnerHeld := false })))) ∧
   (∀ (v : Word) (s : State), s.reaches R.PAR_WDT = true →
     exec (.pairWdtKick v) s = .next { s with pairU.kickAt := s.now }) ∧
   (∀ s : State, s.holder = true → s.wdtAt ≤ s.now → exec .pairWdtExpiry s = .next (sameQueue s
     (mgtCause 18 (post 31 sevDegraded 0x1203 [] (disarmClaim
       (((releaseToBanked 5 s).setFlag F.PAR_STAT_WDT_FIRED true).count F.PAR_CNT_WDT 1)))))) ∧
   (∀ s : State, s.holder = true → s.flag F.PAR_STAT_LINE = true →
     s.pair R.PAR_CLAIM_T_LO R.PAR_CLAIM_T_HI + 8 ≤ s.now → exec .tokenLineFault s = .next (sameQueue s
       (toBanked (post 31 sevDegraded 0x1205 [] (disarmClaim ((abortAll St.TX_NO_TOKEN
         (s.setFlag F.PAR_STAT_HELD false)).setFlag F.PAR_STAT_LINE_FAULT true)))))) ∧
   (∀ (p : Packet) (s t : State), Served 12 [.calibrate, .banked, .test] p s → p.u8 8 ≤ 3 → p.dirty 9 3 = false →
     s.strapRole ≠ 0 →
     t = ((s.setPair R.PAR_PARTNER_LO R.PAR_PARTNER_HI (p.u64 0)).setFlag F.PAR_CTL_AUTO_CLAIM (p.bit 8 0)).setFlag
       F.PAR_CTL_REL_ON_CP_STOP (p.bit 8 1) →
     exec (.pairCfg p) s = .next (sameQueue s (reply (asOp 0xB004 p) St.OK []
       (autoArm (mirrorCheck ((List.range 4).foldl (fun s q => roleCheck q s) t)))))) ∧
   (∀ (p : Packet) (s : State), Served 0 coreModes p s → s.strapRole ≠ 0 →
     exec (.pairStatus p) s = .next (reply (asOp 0xB006 p) St.OK
       (leBytes 4 (s.word R.PAR_STAT).toNat ++ leBytes 4 s.mirrorLag ++ leBytes 8 (s.partner.getD 0) ++
         leBytes 8 (s.pair R.PAR_CLAIM_T_LO R.PAR_CLAIM_T_HI)) s)) ∧
   (∀ (p : Packet) (s : State) (r : Nat × State), Served 4 [.service] p s → p.u8 0 ≤ 1 → p.dirty 1 3 = false →
     s.strapRole ≠ 0 → s.holder = true → (s.fld F.PAR_STAT_MIRROR = 2 ∨ p.bit 0 0 = true) →
     s.pairU.switch = none → s.seq.trans = none → r = defer (asOp 0xB005 p) s →
     exec (.pairSwitch p) s = .next (sameQueue s
       (switchAdvance { r.2 with pairU.switch := some (r.1, 1), seq.stopAt := most2 1 r.2.nextBoundary })))) ∧
  ((∀ s u t : State, s.paired = true → s.holder = false → s.flag F.PAR_STAT_ARMED = true → s.flag F.PAR_STAT_LINE = true →
     s.claimAfter ≤ s.pairU.high → u = disarmClaim (s.setFlag F.PAR_STAT_HELD true) →
     t = post 31 sevInfo 0x1201 []
       { (u.setPair R.PAR_CLAIM_T_LO R.PAR_CLAIM_T_HI s.now).count F.PAR_CNT_CLAIMS 1 with seq.claimWait := false } →
     (s.seq.mode = .calibrate → exec .tokenClaimed s = .next (sameQueue s
       { cutShort St.NOT_IN_MODE t with seq.trans := some ⟨.service, 3, none⟩ })) ∧
     (s.seq.mode = .banked → exec .tokenClaimed s = .next (sameQueue s
       { cutShort St.NOT_IN_MODE (State.setFld F.PAR_STAT_MIRROR 0
           { t with pairU.takeover := some (s.fld F.PAR_STAT_MIRROR != 2), pairU.swept := false }) with
         seq.trans := some ⟨.service, 3, none⟩ })) ∧
     (s.seq.mode ≠ .calibrate → s.seq.mode ≠ .banked → exec .tokenClaimed s = .next (sameQueue s t))) ∧
   (∀ (s : State) (c : Nat), s.partnerId = some c → s.paired = true → s.flag F.PAR_STAT_SENSE = true →
     s.pairU.beatAt ≤ s.now → s.holder = false → exec .mirrorHeartbeat s = .next (sameQueue s
       (mirrorSend c (.heartbeat false false s.seq.mode.code
           (((s.word R.FRM_RX_OK).toNat + 2 ^ 32 - s.pairU.rxOkAt) % 2 ^ 32))
         { s with pairU.beatAt := s.now + 120000, pairU.rxOkAt := (s.word R.FRM_RX_OK).toNat }))) ∧
   (∀ s : State, s.holder = true → s.fld F.PAR_STAT_MIRROR = 1 → s.pairU.swept = true →
     s.zoant.unacked.all (fun u => u.frame.msg != .mirror .sweepEnd) = true →
     exec .mirrorSynced s = .next (sameQueue s
       (post 31 sevInfo 0x1206 [] (resvSettle (s.setFld F.PAR_STAT_MIRROR 2))))) ∧
   (∀ (s t u v w : State) (unsynced : Bool), s.pairU.takeover = some unsynced → s.seq.mode = .service →
     t = takeoverCounters { s with pairU.takeover := none } →
     u = (if t.pairU.flushed then t
       else takeoverLedgers ((4 * (s.pair R.PAR_CLAIM_T_LO R.PAR_CLAIM_T_HI - t.pairU.ledgerAt) + 119) / 120) t) →
     v = takeoverOwners u →
     w = (if v.almanacRuns then v.wheel.foldl (fun x id => skipEvents id (v.now + 2 * v.slotTicks) x) v else v) →
     ∀ x y : State, x = { w with pairU.heraldFrom := w.pair R.STP_MODE_T_LO R.STP_MODE_T_HI + 2400000,
                                 pairU.mirrored := [] } →
     y = planHerald { x with mac.heraldAt := 0, frames.builds := x.frames.builds.filter (fun b => b.kind != .herald) } →
     exec .takeover s = .next (sameQueue s (if unsynced then post 31 sevDegraded 0x1207 [] y else y))))

/-- DMA channels: control, the producer index, completions, and the queue's drop (R55, R383, R385, R386, R392). -/
def Obligations.DmaCommands : Prop :=
  (∀ (n : Fin 16) (v : Word) (s : State), s.reaches (R.DMA_CH_CTL n.val) = true →
    exec (.dmaEnable n v) s = .next (sameQueue s (dmaCtlWrite n.val (v ||| 1#32) s)) ∧
    exec (.dmaDisable n v) s = .next (sameQueue s (dmaCtlWrite n.val (v &&& ~~~1#32) s)) ∧
    exec (.dmaResume n v) s = .next (sameQueue s (dmaCtlWrite n.val (v ||| 2#32) s)) ∧
    exec (.dmaSkip n v) s = .next (sameQueue s (dmaCtlWrite n.val (v ||| 4#32) s))) ∧
  (∀ (n : Fin 16) (v : Word) (s : State), s.reaches (R.DMA_CH_PI n.val) = true →
    (s.dmaSlots n.val < (v.toNat % 65536 + 65536 - s.dmaCi n.val) % 65536 →
      exec (.dmaPiWrite n v) s = .next (s.setFlag (F.DMA_CH_STAT_PI_ERR n.val) true)) ∧
    ((v.toNat % 65536 + 65536 - s.dmaCi n.val) % 65536 ≤ s.dmaSlots n.val →
      exec (.dmaPiWrite n v) s = .next (sameQueue s
        (dmaStart n.val (s.setFld (F.DMA_CH_PI_PI n.val) (v.toNat % 65536)))))) ∧
  (∀ (n : Fin 16) (d : DmaDesc) (data : List Byte) (s : State), s.dmaState n.val = dmaActive →
    (s.dma n.val).desc = some d → (s.dma n.val).waiting = false → s.flag F.PCI_LINK_BME = true →
    (d.bad = true → exec (.dmaDescriptorDone n data) s = .next (sameQueue s
      (dmaStart n.val (dmaComplete n.val 4 0 s)))) ∧
    (d.bad = false → d.kind = 0 → exec (.dmaDescriptorDone n data) s = .next (sameQueue s
      (dmaStart n.val (dmaComplete n.val 0 0 s)))) ∧
    (∀ it : QItem, d.bad = false → d.kind = 1 → (s.dma n.val).item = some it → d.len < it.data.length →
      exec (.dmaDescriptorDone n data) s = .next (sameQueue s
        (dmaStart n.val (dmaComplete n.val 1 0 (freePages it.pages s))))) ∧
    (∀ t : State, d.bad = false → d.kind ≠ 0 → (d.kind = 1 → (s.dma n.val).len d ≤ d.len) →
      burstFault (s.dma n.val) d (s.fld (F.DMA_CH_STAT_PROGRESS n.val)) s = none →
      t = dmaMove n.val d data (s.fld (F.DMA_CH_STAT_PROGRESS n.val)) (bursts d.base ((s.dma n.val).len d)) s →
      exec (.dmaDescriptorDone n data) s = .next (sameQueue s (dmaStart n.val
        (dmaComplete n.val 0 ((s.dma n.val).len d) (freePages (match (s.dma n.val).item with
          | some it => it.pages
          | none => []) (if d.kind = 2 then hostPacket n.val d data t else t)))))) ∧
    (∀ k a cause, d.bad = false → d.kind ≠ 0 → (d.kind = 1 → (s.dma n.val).len d ≤ d.len) →
      burstFault (s.dma n.val) d (s.fld (F.DMA_CH_STAT_PROGRESS n.val)) s = some (k, a, cause) →
      exec (.dmaDescriptorDone n data) s = .next (sameQueue s (dmaStart n.val
        (dmaFault n.val cause (d.kind == 2 || d.kind == 3) false k (bursts d.base ((s.dma n.val).len d)) a
          (dmaMove n.val d data (s.fld (F.DMA_CH_STAT_PROGRESS n.val)) k s)))))) ∧
  (∀ (v : Word) (it : QItem) (s t : State), s.reaches R.QUE_DROP = true → v.toNat % 64 ≤ 15 →
    (s.queue (v.toNat % 64)).agrees = true → (s.dma (v.toNat % 64)).item = some it →
    t = (dmaRelease (v.toNat % 64) s).setFld (F.DMA_CH_STAT_PROGRESS (v.toNat % 64)) 0 →
    exec (.queDrop v) s = .next (sameQueue s
      (if t.dmaState (v.toNat % 64) = dmaActive then dmaAgain (v.toNat % 64) t else t)))

/-- The MMU and the buffer region: configuration, status, faults, the fault ring, ECC errors and BAR2 (R374 to R380,
R387 to R394, R447). Pages of the pool: a page freed twice changes nothing but the count of such errors; the frame
of a bad page is retired for a spare (R377, R380). -/
def Obligations.MemoryCommands : Prop :=
  ((∀ (p : Packet) (s : State) (tbl : Nat), Served 24 [.calibrate, .test] p s → tbl = tableFrames (p.u32 12) →
     p.u64 0 % 2 ^ 20 = 0 → 1024 ≤ p.u32 8 → p.u32 8 ≤ 524288 → 1023 ≤ p.u32 12 → p.u32 12 ≤ 262143 →
     p.u32 12 + tbl ≤ p.u32 8 → s.inDram (p.u64 0) (2048 * p.u32 8) = true → p.u32 16 ≤ p.u32 12 / 2 →
     p.u32 20 < p.u32 12 → s.dmaAllOff = true → s.bufs.pages.any (fun e => e.2.alloc && !e.2.spill) = false →
     exec (.bufPoolSet p) s = .next (sameQueue s (reply (asOp 0xA001 p) St.OK
       (leBytes 4 tbl ++ leBytes 4 (p.u32 8 - tbl - p.u32 12))
       (layRegion (p.u64 0) (p.u32 8) (p.u32 12) (p.u32 16) (p.u32 20) s)))) ∧
   (∀ (p : Packet) (s : State), Served 0 coreModes p s → exec (.bufStatus p) s = .next (reply (asOp 0xA002 p) St.OK
     (leBytes 4 s.freePages ++ leBytes 4 (s.fld F.MMU_LOW_WATER_LOW_WATER) ++
       leBytes 4 (s.fld F.MMU_RETIRE_SPARES) ++ leBytes 4 (s.fld F.MMU_POOL_ERR_RETIRED) ++
       leBytes 4 s.spilledFrames.length ++
       leBytes 1 (if s.flag F.MMU_FLT_STAT_REC_FAIL then 2 else if s.fltFull then 1 else 0) ++ leBytes 3 0) s)) ∧
   (∀ (r : Req) (f : FaultReport) (s : State), s.inMode [.cold] = false →
     (0x10 ≤ r.toNat ∧ r.toNat ≤ 0x1F → exec (.memFault r f) s = .next (sameQueue s
       (dmaFaultReport (r.toNat - 0x10) f s))) ∧
     (r.toNat = 0x0E → s.ringReady = true → exec (.memFault r f) s = .next (sameQueue s
       (journalFault (f.cause.val + 1) f.addr.toNat s))) ∧
     (r.toNat ≠ 0x0E → ¬ (0x10 ≤ r.toNat ∧ r.toNat ≤ 0x1F) → exec (.memFault r f) s = .next (sameQueue s
       (faultEffect r.toNat f.write f.ref (looseFault r.toNat (f.cause.val + 1) f.write f.preempted
         (faultRef r.toNat f.ref) f.addr.toNat f.progress f.bursts s))))) ∧
   (∀ (v : Word) (s : State), s.reaches R.MMU_FLT_CTL = true →
     exec (.fltRingRetry v) s = .next (sameQueue s (fltCtlWrite (v ||| 0x100#32) s)) ∧
     exec (.fltRingResize v) s = .next (sameQueue s (fltCtlWrite v s))) ∧
   (∀ (v : Word) (s : State), s.reaches R.MMU_FLT_CI = true →
     ∀ t : State, t = fltFullFlag (s.setFld F.MMU_FLT_CI_CI v.toNat) →
       exec (.mmuFltCiWrite v) s = .next (sameQueue s (writePending
         (if s.flag F.MMU_FLT_STAT_FULL = false ∧ t.flag F.MMU_FLT_STAT_FULL = true then signal 33 t else t)))) ∧
   (∀ (a : BitVec 40) (s : State), exec (.dramEccError a true) s = .next (s.count F.MMU_ECC_CNT_CORRECTED 1)) ∧
   (∀ (a : BitVec 40) (p : Nat) (s u t : State), u = s.count F.MMU_ECC_CNT_UNCORRECTABLE 1 →
     t = (if u.inDram a.toNat 1 && !u.bufs.badBursts.contains ((a.toNat - dramBase) / 64) then
       { u with bufs.badBursts := u.bufs.badBursts ++ [(a.toNat - dramBase) / 64] } else u) → t.inRegion a.toNat = true →
     t.inTable a.toNat = false → t.pageOfFrame ((a.toNat - t.bufBase) / 2048) = some p →
     exec (.dramEccError a false) s = .next (sameQueue s (postRetired (t.setPage p { t.page p with bad := true })))) ∧
   (∀ (off : BitVec 26) (data : List Byte) (a : Nat) (s : State), s.hostUp = true → s.flag F.PCI_BAR2_CTL_EN = true →
     s.fld F.PCI_BAR2_CTL_BASE * 2 ^ 26 < s.dramBytes →
     a = dramBase + s.fld F.PCI_BAR2_CTL_BASE * 2 ^ 26 + off.toNat →
     ((∀ i, i < data.length → s.bar2Denied true (a + i) = none) → s.rmwBad (a - dramBase) data.length = false →
       exec (.bar2Access off true data) s = .next (s.dramWrite (a - dramBase) data)) ∧
     ((∀ i, i < 4 → s.bar2Denied false (a + i) = none) → s.burstBad (a - dramBase) 4 = false →
       exec (.bar2Access off false data) s = .next { s with
         readData := BitVec.ofNat 32 (leNat (s.dramRead (a - dramBase) 4)) }))) ∧
  (∀ (p : Nat) (s : State), p ≠ 0 → p ≤ s.bufPages →
     ((s.page p).alloc = false → freePage p s = s.count F.MMU_POOL_ERR_DOUBLE_FREE 1) ∧
     ((s.page p).alloc = true → (s.page p).bad = false →
       freePage p s = poolCount (s.freePages + 1)
         { s.setPage p { s.page p with alloc := false } with bufs.pool := runsPush p s.bufs.pool }) ∧
     ((s.page p).alloc = true → (s.page p).bad = true → s.fld F.MMU_RETIRE_SPARES = 0 →
       (freePage p s).fld F.MMU_POOL_ERR_RETIRED =
         satAdd (2 ^ F.MMU_POOL_ERR_RETIRED.width - 1) (s.fld F.MMU_POOL_ERR_RETIRED) 1 ∧
       (freePage p s).bufs.pool = s.bufs.pool ∧ ((freePage p s).page p).alloc = false))

/-- The arbiter: a write of priorities or quotas takes effect after the cycles before it, a window ends (R397). The
arbiter's winner: it asks, it has power, its quota is not spent, and nobody who could win has a higher priority
(R395 to R397). -/
def Obligations.ArbiterCommands : Prop :=
  ((∀ (cs : List ArbCycle) (k : Fin 7) (v : Word) (s t : State), t = arbRun cs s → t.reaches (R.ARB_PRIO k.val) = true →
     exec (.arbPrioWrite cs k v) s = .next (sameQueue s (t.setWord (R.ARB_PRIO k.val) (v &&&
       (if k.val = 0 then 0x77777770#32 else if k.val = 6 then 0x00777777#32 else 0x77777777#32))))) ∧
   (∀ (cs : List ArbCycle) (v : Word) (s t : State), t = arbRun cs s → t.reaches R.ARB_QUOTA = true →
     exec (.arbQuotaWrite cs v) s = .next (sameQueue s (arbWindow (t.setWord R.ARB_QUOTA v)))) ∧
   (∀ (cs : List ArbCycle) (s t : State), t = arbRun cs s → (t.fld F.ARB_STAT_WPOS ≠ 0 ∨ cs = []) →
     exec (.arbWindowEnd cs) s = .next (sameQueue s (arbWindow t)))) ∧
  (∀ (s : State) (c : ArbCycle) (r : Nat), s.arbWinner c = some r →
     c.asks.contains r = true ∧ 1 ≤ r ∧ r ≤ 53 ∧ c.low.contains r = false ∧
     (6 ≤ s.prio r → s.arbGrants r < s.arbQ) ∧
     (∀ q, 1 ≤ q → q ≤ 53 → c.asks.contains q = true → s.arbMasked c q = false → s.prio q ≤ s.prio r))

/-- The radio's packets: a pair's span, a chain's configuration, calibrations, and the regulatory profile (R100 to
R124). -/
def Obligations.RadioCommands : Prop :=
  (∀ (p : Packet) (s : State), Served 8 radioModes p s → p.u8 0 ≤ 3 → p.dirty 2 2 = false →
    (fromCores p = true ∨ s.frozen (s.pairEnv 0 (p.u8 0)) = true) →
    (p.u8 1 = 0 → exec (.radioSpanSet p) s = .next (sameQueue s
      (reply (asOp 0x2001 p) St.OK [] (pairOff (p.u8 0) s)))) ∧
    (p.u8 1 = 1 → centreOk (p.u32 4) = true → s.pairState (p.u8 0) = 1 →
      s.fld (F.RFE_PAIR_STAT_CENTRE_KHZ (p.u8 0)) = p.u32 4 → s.flag (F.RFE_PAIR_STAT_LOCK (p.u8 0)) = true →
      exec (.radioSpanSet p) s = .next (reply (asOp 0x2001 p) St.OK [] s)) ∧
    (∀ (same : Bool) (u t v : State), p.u8 1 = 1 → centreOk (p.u32 4) = true → s.pairState (p.u8 0) ≠ 2 →
      same = (s.pairState (p.u8 0) == 1 && s.fld (F.RFE_PAIR_STAT_CENTRE_KHZ (p.u8 0)) == p.u32 4) →
      (same = true → s.flag (F.RFE_PAIR_STAT_LOCK (p.u8 0)) = false) →
      u = (if s.pairState (p.u8 0) == 1 && !same then s.count (F.RFE_PAIR_CNT_RETUNES (p.u8 0)) 1 else s) →
      t = setPairLock (p.u8 0) false (setPairState (p.u8 0) 1
        { u.setFld (F.RFE_PAIR_STAT_CENTRE_KHZ (p.u8 0)) (p.u32 4) with sched.planDue := u.sched.planDue || !same }) →
      v = (defer (asOp 0x2001 p) t).2.setPairU (p.u8 0) { (defer (asOp 0x2001 p) t).2.pairOf (p.u8 0) with
          spanCmds := ((defer (asOp 0x2001 p) t).2.pairOf (p.u8 0)).spanCmds ++ [(defer (asOp 0x2001 p) t).1] } →
      exec (.radioSpanSet p) s = .next (sameQueue s
        (if same then v else spanChanged (s.pairState (p.u8 0) == 0) (p.u8 0) v)))) ∧
  (∀ (p : Packet) (s : State), Served 4 radioModes p s → p.u8 0 ≤ 3 → p.u8 1 ≤ 3 →
    exec (.radioTxConfig p) s = .next (sameQueue s (reply (asOp 0x2002 p) St.OK []
      (chainCtl (p.u8 0) (p.bit 1 0) (p.bits 1 1 1) (if p.u16 2 = 0 then 12000 else p.u16 2) s)))) ∧
  (∀ (p : Packet) (s : State), Served 12 radioModes p s → p.bits 0 6 2 = 0 → p.bits 2 7 1 = 0 → p.dirty 3 1 = false →
    p.dirty 8 4 = false → (p.bit 2 0 = true → s.flag F.THM_STAT_CRIT = false) →
    (∀ c : Cal, c = ⟨p.u8 1, p.bit 2 0, some s.interp.nextSeq, s.now, if p.u32 4 = 0 then 0 else s.now + p.u32 4,
        0, 0, false, false⟩ →
      (p.bit 0 7 = true → p.u8 1 &&& 0x31 = p.u8 1 → s.txState (p.bits 0 1 0) ≠ txOff →
        (s.chain (p.bits 0 1 0)).cal = none →
        exec (.radioCal p) s = .next (sameQueue s (chainCalTry (p.bits 0 1 0)
          (((defer (asOp 0x2003 p) s).2.setFlag (chainPend (p.bits 0 1 0)) (!p.bit 2 0)).setChain (p.bits 0 1 0)
            { s.chain (p.bits 0 1 0) with cal := some c })))) ∧
      (p.bit 0 7 = false → p.u8 1 &&& 0x0F = p.u8 1 → (s.pairOf (p.bits 0 1 0)).cal = none →
        exec (.radioCal p) s = .next (sameQueue s (pairCalTry (p.bits 0 1 0)
          (((defer (asOp 0x2003 p) s).2.setFlag (pairPend (p.bits 0 1 0)) (!p.bit 2 0)).setPairU (p.bits 0 1 0)
            { s.pairOf (p.bits 0 1 0) with cal := some c })))))) ∧
  (∀ (p : Packet) (s : State), Served 272 [.calibrate, .test] p s → s.regLock = false → profileOk (imageWords p) = true →
    exec (.radioRegLoad p) s = .next (sameQueue s (reply (asOp 0x2004 p) St.OK [] (dwellRefresh
      (((regStat (imageWords p) { s with radio.profile := imageWords p, radio.tighten := [] }).setFlag
        F.RFE_REG_STAT_RAM_PROFILE true).setFlag F.RFE_REG_STAT_TIGHTENED false))))) ∧
  (∀ (p : Packet) (s : State), Served 4 coreModes p s → p.u8 0 ≤ 15 → p.dirty 1 3 = false → s.radio.profile ≠ [] →
    exec (.radioRegRead p) s = .next (reply (asOp 0x2005 p) St.OK
      ((profileEntry s.radio.profile (p.u8 0)).flatMap (leBytes 4) ++ (s.bandWords (p.u8 0)).flatMap (leBytes 4) ++
        leBytes 4 (s.word R.RFE_REG_STAT).toNat) s)) ∧
  (∀ (p : Packet) (s t : State), Managed 276 [.calibrate, .test] p s → p.u8 272 ≤ 1 → p.dirty 273 3 = false →
    s.regLock = false → profileOk (imageWords p) = true →
    t = (List.range 68).foldl (fun s i => burn (0x100 + i) ((imageWords p).getD i 0) s) s →
    t.otpProfile = imageWords p →
    (p.bit 272 0 = false → exec (.regBurn p) s = .next (sameQueue s (reply (asOp 0xF201 p) St.OK [] t))) ∧
    (p.bit 272 0 = true → exec (.regBurn p) s = .next (sameQueue s
      (reply (asOp 0xF201 p) St.OK [] (dwellRefresh (adoptOtpProfile (burn 0x144 1 t))))))) ∧
  (∀ (v : Word) (s : State) (e : Nat) (t u : Tighten), s.reaches R.RFE_REG_TIGHTEN_A = true → e = bitsOf v.toNat 31 28 →
    t = s.tighten e → u = { t with drive := some (bitsOf v.toNat 27 21) } →
    (bitsOf v.toNat 27 21 = 0x7F → bitsOf v.toNat 20 11 = 0x3FF → exec (.rfeRegTightenA v) s = .next s) ∧
    (bitsOf v.toNat 27 21 ≠ 0x7F → bitsOf v.toNat 27 21 < (s.band e).maxDrive → bitsOf v.toNat 20 11 = 0x3FF →
      exec (.rfeRegTightenA v) s = .next (sameQueue s (post 6 sevInfo 0x0207 [] (dwellRefresh
        (({ s with radio.tighten := s.radio.tighten.set Tighten.none e u } : State).setFlag
          F.RFE_REG_STAT_TIGHTENED true)))))) ∧
  (∀ (v : Word) (s : State) (e : Nat) (t u : Tighten), s.reaches R.RFE_REG_TIGHTEN_B = true → e = bitsOf v.toNat 31 28 →
    t = s.tighten e → u = { t with dutyPpm := some (bitsOf v.toNat 27 8) } →
    (bitsOf v.toNat 27 8 = 0xFFFFF → bitsOf v.toNat 7 0 = 0xFF → exec (.rfeRegTightenB v) s = .next s) ∧
    (bitsOf v.toNat 27 8 ≠ 0xFFFFF → bitsOf v.toNat 27 8 < (s.band e).dutyPpm → bitsOf v.toNat 7 0 = 0xFF →
      exec (.rfeRegTightenB v) s = .next (sameQueue s (post 6 sevInfo 0x0207 [] (dwellRefresh
        (({ s with radio.tighten := s.radio.tighten.set Tighten.none e u } : State).setFlag
          F.RFE_REG_STAT_TIGHTENED true))))))

/-- A tightening write lowers limits and never raises one: the drive and the duty of every entry stay at or below what
they were, a dwell limit stays a dwell limit at or below, and the written drive is a bound (R124). -/
def Obligations.TighteningNeverRelaxes : Prop :=
  ∀ (v : Word) (s t : State),
    (exec (.rfeRegTightenA v) s = .next t ∨ exec (.rfeRegTightenB v) s = .next t) →
    t.radio.profile = s.radio.profile ∧ t.otp = s.otp ∧ t.ledger = s.ledger ∧
    ∀ e : Nat, (t.band e).maxDrive ≤ (s.band e).maxDrive ∧ (t.band e).dutyPpm ≤ (s.band e).dutyPpm ∧
      (t.band e).thresh ≤ (s.band e).thresh ∧ (t.band e).lo = (s.band e).lo ∧ (t.band e).hi = (s.band e).hi ∧
      (∀ d, s.bandDwell e = some d → ∃ d', t.bandDwell e = some d' ∧ d'.1 ≤ d.1 ∧ d'.2 = d.2)

/-- Synthesisers, chains and calibrations as time brings them: lock, loss of lock, bias settled, and the start, the end
and the giving up of a calibration (R101 to R103, R113 to R119). A transmission: a descriptor joins its chain's
queue, starts at its tick where every check passes, and runs its ramps; one whose time has gone is returned (R104 to
R112). -/
def Obligations.RadioEventsAndTransmissions : Prop :=
  ((∀ (n : Fin 4) (s : State) (c : Chain), s.chain n.val = c →
     (c.tuning = true → exec (.synthLock (.chain n)) s = .next (sameQueue s (setTxLock n.val true
       (s.setChain n.val { c with tuning := false, lastKhz := s.fld (F.RFE_TX_FREQ_KHZ n.val) })))) ∧
     (s.txLock n.val = true → exec (.synUnlock (.chain n)) s = .next (sameQueue s (post (6 + n.val) sevDegraded 0x0201 []
       (abortTx n.val RF_ABORTED (setTxLock n.val false (s.setChain n.val { c with tuning := true })))))) ∧
     (∀ t, s.txState n.val = txOff → c.enabledAt = some t → t + 2400 ≤ s.now →
       exec (.chainBiasSettled n) s = .next (sameQueue s (tuneForQueue n.val
         (setTxState n.val txIdle (s.setChain n.val { c with enabledAt := none }))))) ∧
     exec (.calStart (.chain n)) s = .next (sameQueue s (chainCalTry n.val s)) ∧
     (∀ (k : Cal) (r : Byte), c.cal = some k → k.running = true → k.bits ≠ startupBits → k.start + calTicks k.bits ≤ s.now →
       exec (.calDone (.chain n) r) s = .next (sameQueue s (tuneForQueue n.val
         (calAnswer (6 + n.val) (chainFail n.val) r.toNat k (setTxState n.val txIdle (blankCut (4 + n.val) s.now
           (s.setChain n.val { c with
             cal := none, calTemp := if k.bits / 16 = 0 then c.calTemp else some (s.sfld F.RFE_TEMP_TEMP) }))))))) ∧
     (∀ k : Cal, c.cal = some k → k.running = false → k.force = false → k.limit ≠ 0 → k.limit < s.now →
       exec (.calDeferExpired (.chain n)) s = .next (sameQueue s (finishOpt k.cmd RF_CAL_NO_GAP []
         ((s.setFlag (chainPend n.val) false).setChain n.val { c with cal := none }))))) ∧
   (∀ (p : Fin 4) (s : State) (x : Pair), s.pairOf p.val = x →
     (s.pairState p.val = 1 → s.flag (F.RFE_PAIR_STAT_LOCK p.val) = false →
       exec (.synthLock (.pair p)) s = .next (sameQueue s (x.spanCmds.foldl (fun s q => finish q St.OK [] s)
         (setPairLock p.val true (s.setPairU p.val { x with spanCmds := [] }))))) ∧
     (s.flag (F.RFE_PAIR_STAT_LOCK p.val) = true → exec (.synUnlock (.pair p)) s = .next (sameQueue s
       (post (10 + p.val) sevDegraded 0x0201 [] (setPairLock p.val false s)))) ∧
     exec (.calStart (.pair p)) s = .next (sameQueue s (pairCalTry p.val s)) ∧
     (∀ (k : Cal) (r : Byte), x.cal = some k → k.running = true → k.bits ≠ startupBits → k.start + calTicks k.bits ≤ s.now →
       ∀ t u : State, t = s.setPairU p.val { x with cal := none } →
       u = calAnswer (10 + p.val) (pairFail p.val) r.toNat k (setPairState p.val (if k.fromArmed then 1 else 0)
         (setPairLock p.val false (if k.bits / 8 % 2 = 1 ∧ r = 0 then rssiCalibrate p.val t else t))) →
       exec (.calDone (.pair p) r) s = .next (sameQueue s (if k.fromArmed then spanChanged false p.val u else u))) ∧
     (∀ k : Cal, x.cal = some k → k.running = false → k.force = false → k.limit ≠ 0 → k.limit < s.now →
       exec (.calDeferExpired (.pair p)) s = .next (sameQueue s (finishOpt k.cmd RF_CAL_NO_GAP []
         ((s.setFlag (pairPend p.val) false).setPairU p.val { x with cal := none })))))) ∧
  ((∀ (n : Fin 4) (d : TxDesc) (s : State), d.kind = .ack → d.deadline < s.now + 240 →
     exec (.txDescriptorIssue n d) s = .next (sameQueue s (exchangeEnds d.node (s.count F.MAC_TX_CNT_ACK_LATE 1)))) ∧
   (∀ (n : Fin 4) (d : TxDesc) (s : State), (d.kind ≠ .ack ∨ s.now + 240 ≤ d.deadline) →
     (inSynthBand (s.carrier d) = true → exec (.txDescriptorIssue n d) s = .next (sameQueue s (tuneForQueue n.val
       (s.setChain n.val { s.chain n.val with queue := insertBy descKey d (s.chain n.val).queue })))) ∧
     (inSynthBand (s.carrier d) = false → exec (.txDescriptorIssue n d) s = .next (sameQueue s
       (returnDesc n.val RF_OUT_OF_BAND d s)))) ∧
   (∀ (n : Fin 4) (lbt : Option Byte) (d : TxDesc) (rest : List TxDesc) (s : State), (s.chain n.val).queue = d :: rest →
     s.startDue n.val d = false → exec (.txStartTick n lbt) s = .next (sameQueue s (tuneForQueue n.val s))) ∧
   (∀ (n : Fin 4) (lbt : Option Byte) (d : TxDesc) (rest : List TxDesc) (s t u v w : State) (eff : Effective) (mode : Nat),
     (s.chain n.val).queue = d :: rest → s.startDue n.val d = true →
     t = s.setChain n.val { s.chain n.val with queue := rest } →
     (startChecks n.val d lbt t = (.inr eff, u) → mode = u.paModeOf n.val (driveOf d eff) →
       w = (if driveOf d eff < least2 d.drive 64 then u.count (F.RFE_TX_CNT_CLAMP n.val) 1 else u) →
       v = blankFor n.val (driveOf d eff) mode (w.now + w.txLead n.val + d.airTicks + w.txTail n.val + 240) w →
       exec (.txStartTick n lbt) s = .next (sameQueue s (setTxState n.val txRampUp
         { v.setChain n.val { v.chain n.val with run := some ⟨d, v.now, none, false, driveOf d eff, mode, v.ppduOf d,
             eff.dwell.isSome, eff.charged⟩ } with
           sched.txLog := v.sched.txLog ++ [⟨v.now, n.val, d.lane.val, driveOf d eff, usUp (d.airTicks + 1920)⟩] }))) ∧
     (∀ st, startChecks n.val d lbt t = (.inl st, u) →
       exec (.txStartTick n lbt) s = .next (sameQueue s (tuneForQueue n.val (returnDesc n.val st d u))))) ∧
   (∀ (n : Fin 4) (d : TxDesc) (rest : List TxDesc) (s : State), (s.chain n.val).queue = d :: rest →
     s.txState n.val ≠ txCal → d.deadline + s.fld (F.RFE_TX_CTL_TOL n.val) < s.now →
     exec (.txLate n) s = .next (sameQueue s (tuneForQueue n.val (returnDesc n.val St.TX_LATE d
       (s.setChain n.val { s.chain n.val with queue := rest }))))) ∧
   (∀ (n : Fin 4) (r : TxRun) (s : State), (s.chain n.val).run = some r →
     (s.txState n.val = txRampUp → r.start + s.txLead n.val ≤ s.now →
       exec (.txFirstSymbol n) s = .next (sameQueue s (capEvent (0x08 + n.val) none (setTxState n.val txTx s)))) ∧
     (∀ t : State, s.txState n.val = txTx → r.start + s.txLead n.val + r.desc.airTicks ≤ s.now →
       t = s.setChain n.val { s.chain n.val with run := some { r with stop := some s.now } } →
       exec (.txFrameEnd n) s = .next (sameQueue s (setTxState n.val txRampDown
         (if r.desc.kind = .rollout then t.wrapCount (F.ROL_CAMP_SENT_SENT r.desc.ref) 1 else t)))) ∧
     (∀ e, r.stop = some e → s.txState n.val = txRampDown → e + s.txTail n.val ≤ s.now →
       ((s.chain n.val).offAfter = true → exec (.rampDownEnd n) s = .next (sameQueue s (chainPowerDown n.val s))) ∧
       (∀ t u : State, (s.chain n.val).offAfter = false → t = s.setChain n.val { s.chain n.val with run := none } →
         u = (if (t.chain n.val).queue ≠ [] ∨ t.flag (F.RFE_TX_CTL_RETURN n.val) = true then setTxState n.val txReady t
           else setTxState n.val txIdle (setTxLock n.val false (t.setChain n.val { t.chain n.val with tuning := false }))) →
         exec (.rampDownEnd n) s = .next (sameQueue s (tuneForQueue n.val (match (u.chain n.val).cal with
           | some c => if c.force then chainCalTry n.val u else u
           | none => u)))))))

/-- No frame starts but under a valid entry of the profile, a working calendar and a held token, with a drive at or
below the entry's (R110, R111). -/
def Obligations.StartsAreLawful : Prop :=
  ∀ (n : Nat) (d : TxDesc) (lbt : Option Byte) (s u : State) (eff : Effective), startChecks n d lbt s = (.inr eff, u) →
    s.flag F.TMB_STAT_CAL_FAULT = false ∧ s.held = true ∧ d.unbuilt = false ∧
    (∃ e, e < 16 ∧ (s.band e).valid = true ∧
      1000 * ((s.band e).lo : Int) ≤ s.carrier d - widthHz (s.streamWidth d.slot.val) / 2 ∧
      s.carrier d + widthHz (s.streamWidth d.slot.val) / 2 ≤ 1000 * ((s.band e).hi : Int) ∧
      driveOf d eff ≤ (s.band e).maxDrive) ∧
    driveOf d eff ≤ 64 ∧ driveOf d eff ≤ d.drive

/-- The channelizer's packets and events: streams, store captures, profiles, and what a block boundary does (R130 to
R151). -/
def Obligations.ChannelizerCommands : Prop :=
  (∀ (p : Packet) (s : State), Served 16 radioModes p s → p.u8 1 = 0 → p.u8 3 ≤ 15 → p.bits 3 1 0 ≠ 3 →
    p.dirty 6 2 = false → p.dirty 12 4 = false → chanOwned p s = false → (s.stream (p.u8 0)).cmd = none →
    (s.isHead (p.u8 0) = true → exec (.phyChanSet p) s = .next (sameQueue s
      (chanPend (asOp 0x3001 p) (p.u8 0) .disable s))) ∧
    (s.slotEn (p.u8 0) = false → exec (.phyChanSet p) s = .next (reply (asOp 0x3001 p) St.OK (chanReply (p.u8 0) s) s))) ∧
  (∀ (p : Packet) (s : State), Served 16 radioModes p s → p.u8 1 = 1 → p.u8 2 ≤ 7 → p.u8 3 ≤ 15 → p.bits 3 1 0 ≠ 3 →
    p.u8 4 ≤ 3 → p.u8 5 ≤ 63 → p.dirty 6 2 = false → p.dirty 12 4 = false → s.profLoaded (p.u8 5) = true →
    (p.u8 5 = 63 ∨ p.u8 2 ≠ 7 ∧ profWidth (s.profile (p.u8 5)) = p.u8 2) → chanOwned p s = false →
    slotConflict (p.u8 0) (p.u8 2) s = false → s.pairSlots (p.u8 4) (p.u8 0) + widthSlots (p.u8 2) ≤ 64 →
    (s.pairArmed (p.u8 4) = true →
      (fitBin (s.centreHz (p.u8 4)) (p.u32 8) (widthHz (p.u8 2))).isNone = false) →
    (s.stream (p.u8 0)).cmd = none →
    (s.isHead (p.u8 0) = false → s.slotEn (p.u8 0) = false → s.fld F.THM_STAT_STEPS < 2 →
      exec (.phyChanSet p) s = .next (sameQueue s (chanWait (asOp 0x3001 p) (p.u8 0)
        (streamEnable (p.u8 0) (chanCfg p) (BitVec.ofNat 32 (p.u32 8)) s)))) ∧
    (∀ t : State, s.isHead (p.u8 0) = true → t = (List.range (widthSlots (p.u8 2))).foldl (fun s i =>
        if s.slotEn (p.u8 0 + i) then s
        else s.setWord (R.CHZ_CH_CFG (p.u8 0 + i)) ((F.CHZ_CH_CFG_HEAD (p.u8 0)).write 0 (chanCfg p))) s →
      exec (.phyChanSet p) s = .next (sameQueue s (chanPend (asOp 0x3001 p) (p.u8 0)
        (.change (chanCfg p) (BitVec.ofNat 32 (p.u32 8)) (p.bit 3 3)) t)))) ∧
  (∀ (p : Packet) (s : State), Served 4 coreModes p s → p.dirty 1 3 = false →
    exec (.phyChanRead p) s = .next (reply (asOp 0x3002 p) St.OK
      ((List.range 4).flatMap (fun k => leBytes 4 (s.word (R.CHZ_CH_CFG (p.u8 0) + 4 * k)).toNat)) s)) ∧
  (∀ (p : Packet) (s : State), Served 48 radioModes p s →
    (p.u8 0 = 0 → exec (.phyCapture p) s = .next (sameQueue s (reply (asOp 0x3003 p) St.OK [] (capStop 1 s)))) ∧
    (p.u8 0 = 1 → captureBad p = false → s.chz.cap = none → ∀ (c : StoreCapture) (t : State),
      c = { trig := p.u8 3, trigSlot := p.u8 4, source := p.u8 2,
            slots := (List.range (p.u8 6)).map (fun i => p.u8 (16 + i)), length := p.u32 8, timeout := p.u32 12,
            avg := p.u8 5, startAt := s.now, trigAt := 0, remaining := p.u32 8, stored := 0, waiting := [],
            cmd := some s.interp.nextSeq } →
      t = ((((defer (asOp 0x3003 p) s).2.setFld F.CHZ_CAP_STAT_STATE (if p.u8 3 = 0 then 2 else 1)).setFld
        F.CHZ_CAP_STAT_MODE (p.u8 1)).setFlag F.CHZ_CAP_STAT_WRAPPED false).setFld F.CHZ_CAP_STAT_COUNT 0 →
      exec (.phyCapture p) s = .next (sameQueue s { t with chz.cap := some c, chz.fill := (0, 0) }))) ∧
  (∀ (p : Packet) (s : State), Served 8 coreModes p s → p.u16 4 ≠ 0 → p.u16 4 ≤ 480 → p.dirty 6 2 = false →
    p.u32 0 + p.u16 4 ≤ 4194304 →
    exec (.phyCaptureRead p) s = .next (reply (asOp 0x3004 p) St.OK
      ((List.range (p.u16 4)).map (fun i => s.storeByte (p.u32 0 + i))) s)) ∧
  (∀ (is qs : List Int) (c : StoreCapture) (s : State), s.chz.cap = some c →
    (s.fld F.CHZ_CAP_STAT_STATE = 1 → c.timeout ≠ 0 → c.startAt + c.timeout ≤ s.now →
      exec (.captureTimeout is qs) s = .next (sameQueue s
        (if s.fld F.CHZ_CAP_STAT_MODE = 1 then streamCapEnd 2 s else rawFinish 2 is qs s))) ∧
    (s.fld F.CHZ_CAP_STAT_MODE ≠ 1 → s.fld F.CHZ_CAP_STAT_STATE = 2 → c.endsAt (s.fld F.CHZ_CAP_STAT_MODE) ≤ s.now →
      exec (.captureEnd is qs) s = .next (sameQueue s
        (if s.fld F.CHZ_CAP_STAT_MODE = 2 then spectrumFinish is s else rawFinish 0 is qs s)))) ∧
  (∀ (slot : Fin 256) (a b : List Int) (ca cb : Bool) (s : State) (per k : Nat), s.isHead slot.val = true →
    per = blockPeriod (s.streamWidth slot.val) → k = s.now / per →
    ((s.stream slot.val).block < k → exec (.streamBlockBoundary slot a b ca cb) s = .next (sameQueue s
      (capFlush (streamTurn slot.val (blocksEnd slot.val ((k - 1) * per) a b ca cb
        (s.setStream slot.val { s.stream slot.val with block := k })))))) ∧
    (k ≤ (s.stream slot.val).block → exec (.streamBlockBoundary slot a b ca cb) s = .next s)) ∧
  (∀ (p : Packet) (s : State), Served 40 radioModes p s → p.u8 0 ≤ 62 → p.u8 1 ≤ 1 → p.dirty 2 2 = false →
    (crc32 (p.bytes 8 32)).toNat = p.u32 4 → profileBad (p.bytes 8 32) = false →
    s.heads.filter (fun n => s.fld (F.CHZ_CH_CFG_PHY_PROFILE n) == p.u8 0) = [] →
    exec (.phyProfileLoad p) s = .next (sameQueue s (reply (asOp 0x3010 p) St.OK []
      (loadProfile (p.u8 0) (p.bytes 8 32) s)))) ∧
  (∀ (p : Packet) (s : State) (users : List Nat), Served 40 radioModes p s → p.u8 0 ≤ 62 → p.u8 1 = 1 →
    p.dirty 2 2 = false → (crc32 (p.bytes 8 32)).toNat = p.u32 4 → profileBad (p.bytes 8 32) = false →
    users = s.heads.filter (fun n => s.fld (F.CHZ_CH_CFG_PHY_PROFILE n) == p.u8 0) → users ≠ [] →
    profType (p.bytes 8 32) ≠ 0 → profWidth (p.bytes 8 32) = profWidth (s.profile (p.u8 0)) → s.demod.replace = none →
    ∀ t : State, t = users.foldl (fun s n => s.setStream n { s.stream n with tookNew := false })
        (defer (asOp 0x3010 p) s).2 →
      exec (.phyProfileLoad p) s = .next (sameQueue s
        { t with demod.replace := some (p.u8 0, p.bytes 8 32, (defer (asOp 0x3010 p) s).1) })) ∧
  (∀ (p : Packet) (s : State), Served 4 coreModes p s → p.u8 0 ≤ 63 → p.dirty 1 3 = false →
    exec (.phyProfileRead p) s = .next (reply (asOp 0x3011 p) St.OK
      (if p.u8 0 = 63 then [0xFF, 7] ++ leBytes 30 0 else sliceBytes (s.profile (p.u8 0)) 0 32) s))

/-- The demodulator: from a detected preamble to a delivered frame or an outcome (R152 to R181). -/
def Obligations.DemodulatorCommands : Prop :=
  (∀ (slot : Fin 256) (branchB : Bool) (d : Detection) (s : State),
    (s.detects slot.val branchB d = false → exec (.preambleDetect slot branchB d) s = .next s) ∧
    (s.detects slot.val branchB d = true →
      ∃ (t : State) (x : RxFrame), exec (.preambleDetect slot branchB d) s = .next (sameQueue s (capTrigger 1 slot.val t)) ∧
        t.frame s.demod.nextFrame = some x ∧ x.slot = slot.val ∧ x.profile = s.streamProfIdx slot.val ∧
        x.entry = s.streamProf slot.val ∧ x.detectAt = s.now ∧ x.hyp = d.hyp ∧ x.window = s.openWindow slot.val ∧
        x.branchB = branchB ∧ (t.dctx slot.val).frame = some s.demod.nextFrame ∧ (t.dctx slot.val).dfe = Dfe.reset ∧
        t.demod.nextFrame = s.demod.nextFrame + 1 ∧
        t.dstate slot.val = (if s.chState slot.val = stDual then dDiversity else dSync))) ∧
  (∀ (slot : Fin 256) (ea eb : List Nat) (hyp pa pb : Int) (f : Nat) (x : RxFrame) (s : State),
    s.slotFrame slot.val = some (f, x) → s.dstate slot.val = dDiversity →
    (s.bothBlank x = true → exec (.diversityDecision slot ea eb hyp pa pb) s = .next (sameQueue s
      (dropFrame slot.val f oBlanked s))) ∧
    (s.bothBlank x = false → (s.now < x.detectAt + divSyms x.entry * symTicks x.entry ∨ hyp ≠ x.hyp) →
      exec (.diversityDecision slot ea eb hyp pa pb) s = .next s) ∧
    (s.bothBlank x = false → x.detectAt + divSyms x.entry * symTicks x.entry ≤ s.now → hyp = x.hyp →
      ∀ (toB : Bool) (other : Nat) (u : State) (c : ChanStats) (m : Sparse ChanStats),
      toB = (if s.energySum x false ea = s.energySum x true eb then s.primaryB slot.val
        else decide (s.energySum x false ea < s.energySum x true eb)) →
      other = s.rssiCode (branchNo (s.streamPair slot.val) (!toB)) (if toB then pa else pb) →
      u = (s.setFrame f (some { x with branchB := toB, compared := true, rssiOther := other, syncSince := s.now })).count
        (if toB then F.DMD_DIV_CNT_DIV_B else F.DMD_DIV_CNT_DIV_A) 1 →
      c = u.sched.chans.get ChanStats.empty slot.val →
      m = u.sched.chans.set ChanStats.empty slot.val
        (if toB then { c with divB := c.divB + 1 } else { c with divA := c.divA + 1 }) →
      exec (.diversityDecision slot ea eb hyp pa pb) s = .next (sameQueue s
        (setDstate slot.val dSync { u with sched.chans := m })))) ∧
  (∀ (slot : Fin 256) (lead : Nat) (power snr : Int) (sm : SyncMeasure) (residual : Int) (steps : List LmsStep) (f : Nat)
    (x : RxFrame) (s : State), s.slotFrame slot.val = some (f, x) → s.dstate slot.val = dSync →
    (s.syncBlank x = true → exec (.syncEnd slot lead power snr sm residual steps) s = .next (sameQueue s
      (dropFrame slot.val f oBlanked s))) ∧
    (s.syncBlank x = false → x.syncLimit < s.now → exec (.syncEnd slot lead power snr sm residual steps) s =
      .next (sameQueue s (dropFrame slot.val f oSyncTimeout s))) ∧
    (s.syncBlank x = false → s.now ≤ x.syncLimit → syncTier x.entry sm.sync = none →
      exec (.syncEnd slot lead power snr sm residual steps) s = .next s) ∧
    (∀ (tier rssi : Nat) (pre : Bool) (y : RxFrame) (t u : State), s.syncBlank x = false → s.now ≤ x.syncLimit →
      syncTier x.entry sm.sync = some tier → pre = s.preMode x residual →
      rssi = s.rssiCode (branchNo (s.streamPair slot.val) x.branchB) power →
      y = { x with syncEnd := s.now, lead := lead, rssi := rssi, lqi := lqiCode snr, pilot := !pre,
                   derot := if pre then (sm.phase, residual) else (0, 0), rateCorr := if pre then x.rateCorr else 0,
                   cfo := BitVec.ofInt 16 (rnd ((s.stream slot.val).trimHz + residual) 10),
                   taint := s.flag F.TMB_STAT_CAL_FAULT, tier := tier } →
      t = ((s.setFrame f (some y)).setFld (F.DMD_CH_STAT_RSSI slot.val) rssi).setFld
        (F.DMD_CH_STAT_LQI slot.val) (lqiCode snr) →
      u = dfeAdapt slot.val x.entry steps
        (if profType x.entry = 1 ∧ pre = false then t.count F.DMD_CNT2_PILOT 1 else t) →
      exec (.syncEnd slot lead power snr sm residual steps) s = .next (sameQueue s (setDstate slot.val dHeader
        (u.setDctx slot.val { u.dctx slot.val with dfe := { (u.dctx slot.val).dfe with directed := true } }))))) ∧
  (∀ (slot : Fin 256) (f : Nat) (x : RxFrame) (s : State), s.slotFrame slot.val = some (f, x) →
    (s.dstate slot.val = dSync → s.syncBlank x = true →
      exec (.syncTimeout slot) s = .next (sameQueue s (dropFrame slot.val f oBlanked s))) ∧
    (s.dstate slot.val = dSync → s.syncBlank x = false → x.syncLimit ≤ s.now →
      exec (.syncTimeout slot) s = .next (sameQueue s (dropFrame slot.val f oSyncTimeout s))) ∧
    (∀ (offset : Int) (soft : List Int) (y : RxFrame) (t : State), s.dstate slot.val = dPayload →
      y = { x with endAt := some s.now, erased := s.spanBlank slot.val x.branchB x.syncEnd s.now,
                   cfo := if x.pilot then BitVec.ofInt 16 (rnd ((s.stream slot.val).trimHz + offset) 10) else x.cfo } →
      t = ctxSearch slot.val (s.setFrame f (some y)) →
      (profType x.entry = 1 → exec (.rxFrameEnd slot offset soft) s = .next (sameQueue s t)) ∧
      (profType x.entry ≠ 1 → exec (.rxFrameEnd slot offset soft) s = .next (sameQueue s
        (deliverFrame f y false (sliceBytes (Config.sunPsdu x.entry y.mcs y.len soft) 0 y.len) t)))) ∧
    (∀ (phr : SunPhr) (y : RxFrame), s.dstate slot.val = dHeader → (profType x.entry = 2 ∨ profType x.entry = 3) →
      phr.valid = true → (profType x.entry = 2 → phr.modeSwitch = none) →
      (profType x.entry = 3 → profByte x.entry 17 / 2 ^ phr.mcs % 2 = 1) → phr.len ≠ 0 → phr.len ≤ 2047 →
      y = { x with phrDone := true, len := phr.len, mcs := if profType x.entry = 3 then phr.mcs else 0 } →
      exec (.phrEnd slot phr) s = .next (sameQueue s (setDstate slot.val dPayload (s.setFrame f (some y))))) ∧
    (∀ (phr : SunPhr) (m : Fin 4) (t : State), s.dstate slot.val = dHeader → profType x.entry = 2 → phr.valid = true →
      phr.modeSwitch = some m → profByte x.entry (21 + m.val) < 63 → s.profLoaded (profByte x.entry (21 + m.val)) = true →
      profWidth (s.profile (profByte x.entry (21 + m.val))) = profWidth x.entry →
      t = ctxSearch slot.val (s.setFrame f none) →
      exec (.phrEnd slot phr) s = .next (sameQueue s (t.setDctx slot.val
        { t.dctx slot.val with msProfile := some (profByte x.entry (21 + m.val)) })))) ∧
  (∀ (slot : Fin 256) (s : State), (s.dctx slot.val).frame = none → ∀ c : DemodCtx,
    c = { s.dctx slot.val with msProfile := none } →
    exec (.modeSwitchTimeout slot) s = .next (sameQueue s (s.setDctx slot.val c)))

/-- The decoder pool: jobs, decoders and retained code words (R163 to R176). The decoder's order: of the jobs waiting,
the one taken is a waiting one before which no other comes, with PHR jobs first, then the oldest (R169). -/
def Obligations.DecoderCommands : Prop :=
  ((∀ (slot : Fin 256) (b : SoftBlock) (f : Nat) (x : RxFrame) (s t : State), s.awaiting slot.val = some (f, x) →
     profType x.entry = 1 → t = dfeAdapt x.slot x.entry b.steps s →
     (x.phrJob = true → x.phrDone = true → s.softAt x (x.codewordAt x.jobs).1 (x.codewordAt x.jobs).2 ≤ s.now →
       exec (.ldpcJobReady slot b) s = .next (sameQueue s (payloadReady f (softValues b.llr) t))) ∧
     (∀ y : RxFrame, x.phrJob = true → x.phrDone = false → y = { x with holding := x.holding ++ [softValues b.llr] } →
       exec (.ldpcJobReady slot b) s = .next (sameQueue s
         (if 8192 < holdingSize y then dropFrame slot.val f oLost t else t.setFrame f (some y)))) ∧
     (∀ (u : State) (j : Job), x.phrJob = false → s.softAt x 0 360 ≤ s.now →
       u = dfeAdapt x.slot x.entry b.steps (s.setFrame f (some { x with phrJob := true })) →
       j = ⟨f, true, u.now, x.slot, 0, insertFill 288 216 (combine 360 [] (u.erase x 0 360 (softValues b.llr))), false, 0,
         x.entry⟩ →
       exec (.ldpcJobReady slot b) s = .next (sameQueue s (match queueJob j u with
         | some v => v
         | none => dropFrame slot.val f oOverload (u.count F.LDP_CNT_FAIL_OVERLOAD 1))))) ∧
   (∀ (j : Job) (d : Nat) (s : State), nextJob s.demod.queue = some j →
     (List.range 8).find? (fun d => (s.decoder d).isNone) = some d →
     exec .ldpcJobStart s = .next { s with
       demod.queue := s.demod.queue.erase j,
       demod.decoders := s.demod.decoders.set none d (some ⟨j, s.iterCap j.entry, s.now⟩) }) ∧
   (∀ (decoder : Fin 8) (d : Decoder) (s t u : State), s.decoder decoder.val = some d →
     d.start + jobTicks d.job (decodeJob d.job d.cap).1 ≤ s.now →
     t = ({ s with demod.decoders := s.demod.decoders.set none decoder.val none }).wrapCount F.LDP_CNT_ITER_ITERATIONS
       (decodeJob d.job d.cap).1 →
     u = (if (decodeJob d.job d.cap).2.1 = true then t.wrapCount F.LDP_CNT_CW_COUNT 1
           else t.count F.LDP_CNT_FAIL_FAIL 1) →
     (d.job.phr = true → exec (.ldpcJobDone decoder) s = .next (sameQueue s
       (phrResult d.job.frame (decodeJob d.job d.cap).2.1 (decodeJob d.job d.cap).1 (decodeJob d.job d.cap).2.2 u))) ∧
     (∀ fill : Nat, d.job.phr = false → (decodeJob d.job d.cap).2.1 = false →
       fill = (match u.frame d.job.frame with
         | some x => fillOf x.len x.rate x.long d.job.idx
         | none => 0) →
       exec (.ldpcJobDone decoder) s = .next (sameQueue s (addResult d.job.frame
         ⟨d.job.idx, false, (decodeJob d.job d.cap).1,
           (decodeJob d.job d.cap).2.2.take (infoBits d.job.long d.job.rate - fill)⟩ oDecFail u)))) ∧
   (∀ (id : Nat) (s : State), exec (.combRetentionExpired id) s = .next { s with
     demod.comb := s.demod.comb.filter (fun e => !(e.shortId == id && e.frame.isNone &&
       e.syncEnd + s.fld F.LDP_COMB_CTL_HOLD * 1200000 ≤ s.now)) }) ∧
   (∀ (id : Nat) (e : CombEntry) (s t : State),
     s.demod.comb.find? (fun e => e.shortId == id && e.spilled && e.frame.isSome) = some e →
     t = makeRoom (sumOf ((s.demod.comb.filter (fun o => e.mate o)).map CombEntry.units)) s.demod.comb.length s →
     ∀ back : List CombEntry,
     back = t.demod.comb.map (fun (o : CombEntry) => if e.mate o then { o with spilled := false } else o) →
     exec (.spillRestore id) s = .next (sameQueue s
       (if t.combUnits + sumOf ((s.demod.comb.filter (fun o => e.mate o)).map CombEntry.units) ≤ 32768 then
         { t with demod.comb := back }
       else dropComb e t)))) ∧
  (∀ (l : List Job) (j : Job), nextJob l = some j →
     j ∈ l ∧ ∀ k ∈ l, (k.phr = true → j.phr = true) ∧ (k.phr = j.phr → j.ready ≤ k.ready))

/-- Medium access packets (R185 to R210). Medium access as time brings it: the Almanac, epochs, rounds, lanes and the
events of the nodes (R185 to R214). -/
def Obligations.MacCommands : Prop :=
  ((∀ (p : Packet) (s : State), Served 32 radioModes p s → p.u8 0 ≤ 1 → 1 ≤ p.u8 1 → p.u8 1 ≤ 200 → p.dirty 5 3 = false →
     p.dirty 24 8 = false → p.u16 12 * 1200 < p.u8 1 * 150000 → 50 ≤ p.u16 14 → p.u16 14 ≤ 2000 →
     (s.almanacRuns = true → p.bit 0 0 = true) → s.now + 2 * (p.u8 1 * 150000) ≤ p.u64 16 → s.mac.nextAlmanac = none →
     ∀ a : Almanac,
     a = { slotLen := p.u8 1, roundsM1 := p.u16 2, baseSeed := p.u8 4, epoch0 := p.u32 8, evOfs := p.u16 12,
           ackTurn := p.u16 14, start := p.u64 16, cmd := some s.interp.nextSeq } →
     exec (.macAlmanacSet p) s = .next (sameQueue s
       (planHerald { (defer (asOp 0x4001 p) s).2 with mac.nextAlmanac := some a }))) ∧
   (∀ (p : Packet) (s : State) (a : Almanac) (e : Nat) (cfg : Word) (h : HeraldSet), Served 28 radioModes p s →
     1 ≤ p.u8 0 → p.u8 0 ≤ 16 → p.u8 1 ≤ 3 → p.u8 2 ≤ 62 → s.profLoaded (p.u8 2) = true → p.u8 3 ≤ 3 →
     (p.u8 3 = 0 ∨ profType (s.profile (p.u8 2)) = 1) → p.u8 4 ≤ 64 → p.u8 5 ≤ 1 → p.dirty 6 2 = false →
     s.almanac = some a →
     (p.u32 8 ≠ 0 → e = p.u32 8) → (p.u32 8 = 0 → s.almanacRuns = true → e = (a.epochOf (s.roundOf s.now) + 1) % 2 ^ 32) →
     (p.u32 8 = 0 → s.almanacRuns = false → e = a.epoch0) → s.epochLate a e = false →
     cfg = BitVec.ofNat 32 (p.u8 1 * 2 ^ 30 + p.u8 2 * 2 ^ 24 + p.u8 3 * 2 ^ 22 + p.u8 5 * 2 ^ 21 + (p.u8 0 - 1) * 2 ^ 17 +
       p.u8 4 * 2 ^ 10) →
     h = ⟨e, cfg, (List.range 4).map (fun k => BitVec.ofNat 32 (p.u32 (12 + 4 * k)))⟩ →
     exec (.macHeraldSet p) s = .next (sameQueue s (reply (asOp 0x4002 p) St.OK []
       (planHerald { s with mac.heraldPend := some h })))) ∧
   (∀ (p : Packet) (s : State) (a : Almanac), Served 40 radioModes p s → p.u8 0 ≤ 63 → p.dirty 1 3 = false →
     (fromCores p = true ∨ s.frozen (s.mapEnv (p.u8 0)) = true) → BitVec.ofNat 256 (leNat (p.bytes 8 32)) ≠ 0 →
     s.almanac = some a → s.epochLate a (s.epochNamed a (p.u32 4)) = false →
     exec (.macChmapSet p) s = .next (sameQueue s (reply (asOp 0x4003 p) St.OK []
       (scheduleMap (p.u8 0) (s.epochNamed a (p.u32 4)) (BitVec.ofNat 256 (leNat (p.bytes 8 32)))
         { s with sched.removed := s.sched.removed.set 0 (p.u8 0) 0 })))) ∧
   (∀ (p : Packet) (s : State) (a : Assoc), Served 32 radioModes p s → a = Assoc.ofBytes p.params → p.u32 0 ≠ 0 →
     p.u32 0 < broadcastId → a.chmap ≤ 63 → a.tier ≤ 3 → a.profile ≤ 62 → p.dirty 11 1 = false → p.dirty 14 2 = false →
     p.dirty 28 4 = false → s.almanacRuns = true → s.schedOwned (asOp 0x4004 p) (p.u32 0) a = false →
     s.assocBad a = false → s.tooLate a.anchor = false →
     (s.nodeState (p.u32 0) = nsLearned ∨ s.nodeState (p.u32 0) = nsLapsed →
       exec (.macAssocSet p) s = .next (sameQueue s (reply (asOp 0x4004 p) St.OK [] (nodeJoin (p.u32 0) a s)))) ∧
     (s.nodeState (p.u32 0) = nsAssociated → s.eventOf (p.u32 0) = none →
       exec (.macAssocSet p) s = .next (sameQueue s (reply (asOp 0x4004 p) St.OK [] (writeAssoc (p.u32 0) a s)))) ∧
     (∀ e : RxEvent, s.nodeState (p.u32 0) = nsAssociated → s.eventOf (p.u32 0) = some e →
       exec (.macAssocSet p) s = .next (sameQueue s (reply (asOp 0x4004 p) St.OK []
         { s with mac.assocPend := s.mac.assocPend.set none (p.u32 0) (some p.params) }))) ∧
     (s.nodeState (p.u32 0) = nsHandedOff → fromCores p = true →
       exec (.macAssocSet p) s = .next (sameQueue s (reply (asOp 0x4004 p) St.OK [] (nodeBack (p.u32 0) a s))))) ∧
   (∀ (p : Packet) (s : State), Served 4 radioModes p s → p.u32 0 ≠ 0 → p.u32 0 < broadcastId →
     onWheel (s.nodeState (p.u32 0)) = true →
     (s.eventOf (p.u32 0) = none → exec (.macAssocDrop p) s = .next (sameQueue s (reply (asOp 0x4005 p) St.OK []
       (nodeLapse (p.u32 0) 1 (s.nodeLane (p.u32 0)) s)))) ∧
     (∀ (e : RxEvent) (l : List (Nat × Nat)), s.eventOf (p.u32 0) = some e →
       l = s.mac.dropPend ++ [(p.u32 0, s.interp.nextSeq)] →
       exec (.macAssocDrop p) s = .next { (defer (asOp 0x4005 p) s).2 with mac.dropPend := l })) ∧
   (∀ (p : Packet) (s : State) (w : Window) (ch kind lo hi : Nat), Served 4 coreModes p s → p.u32 0 ≠ 0 →
     p.u32 0 < broadcastId → s.almanacRuns = true → onWheel (s.nodeState (p.u32 0)) = true → w = s.window (p.u32 0) →
     (s.delivered.find? (fun e => e.node == p.u32 0 && !e.shadow) = none →
       ch = s.hopOf (p.u32 0) ∧ kind = w.kind ∧ lo = w.lo ∧ hi = w.hi) →
     (∀ e, s.delivered.find? (fun e => e.node == p.u32 0 && !e.shadow) = some e →
       ch = e.ch ∧ kind = e.kind ∧ lo = e.lo ∧ hi = e.hi) →
     exec (.macNodeTiming p) s = .next (reply (asOp 0x4006 p) St.OK
       (leBytes 1 (s.nodeState (p.u32 0)) ++ leBytes 1 (s.nf (p.u32 0) N.MISS_CNT) ++
         leBytes 2 (s.nf (p.u32 0) N.EVENT_CTR) ++ leBytes 1 ch ++ leBytes 1 kind ++ leBytes 2 0 ++
         leBytes 8 (s.nf (p.u32 0) N.ANCHOR) ++ leBytes 8 lo ++ leBytes 8 hi ++ leBytes 4 w.g ++ leBytes 4 w.u) s)) ∧
   (∀ (p : Packet) (s : State), Served 12 radioModes p s → 1200 ≤ p.u16 0 → 1 ≤ p.u8 2 → p.u8 2 ≤ 6 → 1 ≤ p.u16 4 →
     p.u16 6 ≤ p.u16 4 → p.dirty 8 4 = false →
     exec (.macTimingSet p) s = .next (sameQueue s (reply (asOp 0x4007 p) St.OK []
       (reWindow (((((s.setFld F.MAC_DRIFT_CFG_G_MIN (p.u16 0)).setFld F.MAC_DRIFT_CFG_ALPHA_SH (p.u8 2)).setFld
         F.MAC_DRIFT_CFG_CORR_MIN (p.u8 3)).setFld F.MAC_DRIFT_U_U_MAX (p.u16 4)).setFld F.MAC_DRIFT_U_U_MIN (p.u16 6)))))) ∧
   (∀ (p : Packet) (s : State), Served 4 coreModes p s → p.dirty 2 2 = false →
     (∀ (i cur : Nat) (b : Band) (t : State), p.u8 0 = 0 → i = p.u8 1 → i ≤ 15 → cur = s.now / 120000000 + feastBase →
       b = s.band i → t = feastVoteRange i (cur + 1 - b.dutyWin) cur s →
       exec (.macLedgerRead p) s = .next (sameQueue s (reply (asOp 0x4008 p) St.OK
         (ledgerReply (s.now / 120000000) (if b.valid && b.feast then b.dutyPpm * b.dutyWin else 0xFFFFFFFF)
           (if b.valid && b.feast then b.dutyWin else 0)
           (if b.valid && b.feast then t.feastSum i (cur + 1 - b.dutyWin) cur else 0) (t.feastVoted (feastKey i cur))) t))) ∧
     (∀ (i wd ms cur : Nat) (eff : Effective) (d : DwellLedger), p.u8 0 = 1 → i = p.u8 1 → s.channelEff i = some eff →
       eff.dwell = some (ms, wd) → d = (s.dwellOf i).rebuild ms wd s.now → cur = s.now / dwellWidth wd + dwellBase →
       exec (.macLedgerRead p) s = .next (sameQueue s (reply (asOp 0x4008 p) St.OK
         (ledgerReply (s.now / dwellWidth wd) (ms * 1000) wd (d.run (ms * 1000) (cur - 32)) (d.read (ms * 1000) cur))
         (s.setDwell i d)))) ∧
     (∀ (i : Nat) (d : DwellLedger), p.u8 0 = 1 → i = p.u8 1 →
       (s.channelEff i = none ∨ ∃ eff, s.channelEff i = some eff ∧ eff.dwell = none) → d = s.dwellOf i →
       exec (.macLedgerRead p) s = .next (sameQueue s (reply (asOp 0x4008 p) St.OK
         (ledgerReply (s.now / dwellWidth d.wd) 0xFFFFFFFF 0 (d.held s.now) (d.read (d.ms * 1000) (dwellSec d.wd s.now)))
         s))))) ∧
  ((∀ s : State, (s.mac.nextAlmanac = none → exec .almanacStart s = .next s) ∧
     (∀ a : Almanac, s.mac.nextAlmanac = some a → s.now < a.start → exec .almanacStart s = .next s) ∧
     (∀ (a : Almanac) (x y z : State), s.mac.nextAlmanac = some a → a.start ≤ s.now →
       x = (if s.almanacRuns then s.wheel.foldl (fun s id => nodeLapse id 2 (s.nodeLane id) s) s else s) →
       (loadAlmanac a x).mac.feastSampled = true →
       y = post 39 sevInfo 0x0801 (arg4 a.epoch0 ++ arg8 a.start) (loadAlmanac a x) →
       (a.cmd = none → z = y) → (∀ q, a.cmd = some q → z = finishAt a.start q St.OK [] y) →
       exec .almanacStart s = .next (sameQueue s (roundBegin (z.roundOf z.now) []
         (epochBegin (z.epochOf (z.roundOf z.now)) z))))) ∧
   (∀ s : State, s.epochDue = true → exec .epochRoll s = .next (sameQueue s (epochBegin (s.epochOf (s.roundOf s.now)) s))) ∧
   (∀ (idle : List (Fin 256 × Int)) (s t : State), s.almanacRuns = true → s.almStart ≤ s.now →
     s.mac.round ≤ s.roundOf s.now → t = roundBegin (s.roundOf s.now) idle s →
     exec (.roundStart idle) s = .next (sameQueue s (if t.mac.round = s.mac.round then t else retuneTurn t))) ∧
   (∀ (n : Fin 16) (valid : Bool) (s t : State), s.inMode [.cold, .quarantine, .ember] = false →
     t = s.setBit F.LNS_CTL_RUN n.val true →
     exec (.laneRun n valid) s = .next (t.setLane n.val { t.lane n.val with starting := true, imageValid := valid })) ∧
   (∀ (n : Fin 16) (code : Byte) (s : State), s.laneRuns n.val = true →
     exec (.laneFault n code) s = .next (sameQueue s (laneFlush n.val .unserved (laneFaultRecord n.val code.toNat s)))) ∧
   (∀ (node : BitVec 17) (s : State) (e : RxEvent), onWheel (s.nodeState node.toNat) = true →
     s.sched.updates.find? (fun u => u.node == node.toNat && u.applied) = none →
     e = s.newEvent node.toNat (s.nf node.toNat N.EVENT_CTR) (s.hopAt node.toNat (s.nf node.toNat N.CHMAP_IDX)
       (s.nf node.toNat N.EVENT_CTR) (s.nf node.toNat N.ANCHOR)) (s.nf node.toNat N.ANCHOR)
       (s.nf node.toNat N.WAKE_INTERVAL) false →
     s.deliveryDue node.toNat (s.nf node.toNat N.ANCHOR) false = true → s.now < e.lo →
     s.mac.ended.get 0 node.toNat ≤ s.nf node.toNat N.ANCHOR → s.canDeliver node.toNat e.ch (s.nf node.toNat N.CHMAP_IDX) (s.nf node.toNat N.ANCHOR) = true →
     exec (.eventDelivery node) s = .next (sameQueue s (deliverEvent e s))) ∧
   (∀ (node : BitVec 17) (s t : State) (e : RxEvent) (l : Lane),
     ((List.range 16).flatMap (fun n => (s.lane n).due)).find? (fun e =>
       e.node == node.toNat && s.prepareAt e ≤ s.now && s.laneRuns (laneOf e.ch)) = some e →
     l = { s.lane (laneOf e.ch) with
           due := (s.lane (laneOf e.ch)).due.filter (fun y => !y.same e),
           active := (s.lane (laneOf e.ch)).active ++ [{ e with prepared := true }] } →
     t = e.chans.foldl (fun s c => prepareStream e c s) (putLane (laneOf e.ch) l s) →
     exec (.windowPrepare node) s = .next (sameQueue s (laneSettle (laneOf e.ch)
       (if e.shadow then t else dlqExpire e.node t)))) ∧
   (∀ (node : BitVec 17) (s : State) (e : RxEvent),
     s.delivered.find? (fun e => e.node == node.toNat && e.prepared && !e.closed && decide (s.windowEnd e ≤ s.now) &&
       e.chans.all (fun c => (s.dctx c).frame.isNone)) = some e →
     exec (.windowClose node) s = .next (sameQueue s (e.chans.foldl (fun s c => settleWindow c s)
       (editEvent e (fun x => { x with closed := true }) s)))) ∧
   (∀ (node : BitVec 17) (s : State) (e : RxEvent),
     s.delivered.find? (fun e => e.node == node.toNat && s.eventOver e) = some e →
     exec (.eventEnd node) s = .next (sameQueue s (eventFinish e (s.outcome e) s))) ∧
   (∀ (node : BitVec 17) (s : State) (h : Handover), s.handoverOf node.toNat = some h → s.hoLost h = true →
     s.eventOf h.node = none → exec (.handoverReverted node) s = .next (sameQueue s (hoRevertTarget h s))))

/-- The seed of an epoch; the channel of an event is one of its map, the first choice where that choice is in the map,
else the counted one; a correction is nothing below its least and never more than 2,047 µs (R188, R194, R205). -/
def Obligations.ScheduleArithmetic : Prop :=
  (∀ (s : State) (e k : Nat), s.seedOf e = (s.mac.running.baseSeed + 167 * e) % 256 ∧
    s.seedOf (e + k) = (s.seedOf e + 167 * k) % 256) ∧
  (∀ (m : BitVec 256) (e n seed : Nat), m ≠ 0 → m.getLsbD (hop m e n seed) = true) ∧
  (∀ (m : BitVec 256) (e n seed : Nat), m.getLsbD ((e * 40503 + n * 45 + seed) % 256) = true →
    hop m e n seed = (e * 40503 + n * 45 + seed) % 256) ∧
  (∀ (m : BitVec 256) (e n seed : Nat), m ≠ 0 → m.getLsbD ((e * 40503 + n * 45 + seed) % 256) = false →
    ((List.range (hop m e n seed)).filter (fun c => m.getLsbD c)).length =
      (e * 40503 + n * 45 + seed) % 256 % ((List.range 256).filter (fun c => m.getLsbD c)).length) ∧
  (∀ (s : State) (x : Int), (s.corr x).natAbs ≤ 2047 ∧
    (x.natAbs < 120 * s.fld F.MAC_DRIFT_CFG_CORR_MIN → s.corr x = 0))

/-- A vote over a bucket of the airtime ledger: its three copies agree afterwards, on the value that two or three of
them held, or on the largest, at most 4,000,000 µs (R218); scrubbing votes the buckets of one second and moves on.
-/
def Obligations.AirtimeVotes : Prop :=
  (∀ (k : Nat) (s : State) (a b c : Nat), s.mac.feast.length = 3 → a = (s.feastCopy 0).get 0 k →
    b = (s.feastCopy 1).get 0 k → c = (s.feastCopy 2).get 0 k →
    (∀ i, i < 3 → ((feastVote k s).feastCopy i).get 0 k = s.feastVoted k) ∧
    (∀ i j, j ≠ k → ((feastVote k s).feastCopy i).get 0 j = (s.feastCopy i).get 0 j) ∧
    (a = b ∨ a = c → s.feastVoted k = a) ∧ (b = c → s.feastVoted k = b) ∧
    (a ≠ b → a ≠ c → b ≠ c → s.feastVoted k ≤ 4000000 ∧
      (∀ x, x = a ∨ x = b ∨ x = c → x ≤ 4000000 → x ≤ s.feastVoted k))) ∧
  (∀ (ups : List Upset) (s t : State), t = ups.foldl (fun s u => upset u s) s →
    ∀ u : State, u = (List.range 16).foldl (fun s e => feastVote (feastKey e
      (t.now / 120000000 + feastBase - (t.now / 120000000 + feastBase + 3600 - t.mac.scrub) % 3600)) s) t →
    exec (.ledgerScrub ups) s = .next (sameQueue s { u with mac.scrub := (t.mac.scrub + 1) % 3600 }))

/-- The scheduler: its reviews at their times and its packets (R220 to R249). The envelope: setting a decision's record
for the chip leaves that record, and every other decision's as it was (R226, R227). -/
def Obligations.SchedulerCommands : Prop :=
  ((∀ s : State, s.schedActive = true →
     (s.sched.plans < s.reviewsDue 72000000000 → s.sched.thermal ≠ tsCritical → exec .planReview s = .next (sameQueue s
       (planReview { s with sched.plans := s.reviewsDue 72000000000 }))) ∧
     (s.sched.plans < s.reviewsDue 72000000000 → s.sched.thermal = tsCritical → exec .planReview s = .next
       { s with sched.plans := s.reviewsDue 72000000000 }) ∧
     (∀ (short busy : Bool) (t u v : State), s.sched.loads < s.reviewsDue 120000000 →
       short = decide (s.sched.lastDivShort < s.fld F.CHZ_CNT_DIV_SHORT) →
       (busy = true ↔ 96 ≤ s.sched.queuePeak ∨ short = true ∨
         ∃ x, s.demod.overloadLim.last = some x ∧ s.sched.serviceAt + s.sched.loads * 120000000 ≤ x) →
       t = reviewThermal { s with sched.loads := s.reviewsDue 120000000 } →
       (t.sched.thermal = tsCritical → v = t) →
       (t.sched.thermal ≠ tsCritical → u = reviewMaps false ((if busy then spreadLoad else id)
           ((if short then relaxDiv else id) (reviewDownlinks (applyOverdue t)))) ∧
         v = if u.sched.planDue then planReview { u with sched.planDue := false } else u) →
       exec .loadReview s = .next (sameQueue s { v with
         sched.lastDivShort := v.fld F.CHZ_CNT_DIV_SHORT, sched.queuePeak := 0, sched.laneDwell := [], sched.heardIn := [] })) ∧
     (∀ (t r u : State) (m : Sparse ChanStats) (l : List Nat), s.sched.channels < s.reviewsDue 7200000000 →
       t = (List.range 256).foldl (fun s c => reviewChannel c s)
         { s with sched.channels := s.reviewsDue 7200000000, sched.lastChannelReview := s.now } →
       r = (if t.sched.thermal = tsCritical then t
         else (List.range 4).foldl (fun s p => reviewStreams p s) (reviewMaps true t)) →
       l = (r.sched.summary ++ List.replicate 6 0).take 6 →
       u = post 2 sevInfo 0x0A04 (arg2 (nth l 0) ++ arg2 (nth l 1) ++ arg2 (nth l 2) ++ arg2 (nth l 3) ++
         arg2 (r.sched.committed - nth l 4) ++ arg2 (r.sched.reverted - nth l 5)) r →
       m = u.sched.chans.foldl (fun (m : Sparse ChanStats) e => m.set ChanStats.empty e.1
         { e.2 with idle := [], heard := 0, miss := 0, divA := 0, divB := 0 }) u.sched.chans →
       exec .channelReview s = .next (sameQueue s
         { u with sched.summary := [0, 0, 0, 0, u.sched.committed, u.sched.reverted], sched.chans := m }))) ∧
   (∀ (node : BitVec 17) (cs : List Candidate) (s : State) (x y : NodeStats) (m : Sparse NodeStats), s.schedActive = true →
     onWheel (s.nodeState node.toNat) = true → x = s.nodeStat node.toNat →
     (16 ≤ x.heardSince ∨ x.reseeded = true) →
     y = { x with heardSince := 0, reseeded := false, reverted := false, candidates := cs.take 4 } →
     m = s.sched.nodes.set NodeStats.empty node.toNat y →
     (s.sched.thermal = tsCritical → exec (.nodeReview node cs) s = .next { s with sched.nodes := m }) ∧
     (s.sched.thermal ≠ tsCritical →
       exec (.nodeReview node cs) s = .next (sameQueue s (reviewSchedule node.toNat (reviewParent node.toNat
         (reviewPower node.toNat { s with sched.nodes := m })))))) ∧
   (∀ (p : Packet) (s t u : State) (d mode kind scope : Nat) (mask : BitVec 256) (r : EnvRec), Served 52 radioModes p s →
     d = p.u8 0 → mode = p.u8 1 → kind = p.u8 2 → scope = p.u32 4 → mask = BitVec.ofNat 256 (leAt p.params 20 32) →
     d ≤ 7 → mode ≤ 3 → kind ≤ 3 → p.dirty 3 1 = false → scopeOk d kind = true → scopeRange kind scope = true →
     (mode = 3 → kind = 3) → (d ≠ 2 → p.dirty 20 32 = false) →
     (mode = 1 → boundsBad d (p.u32 8) (p.u32 12) (p.u32 16) = false ∧
       s.infeasible d kind scope (p.u32 8) (p.u32 12) (p.u32 16) mask = false) →
     (kind = 3 → s.schedNode scope = true) →
     (kind = 3 → mode ≠ 3 → s.sched.override.any (fun o => o.1 == scope && o.2.1 == d) = true ∨
       s.sched.override.length < 1024) →
     (mode = 1 → r = ⟨1, p.u32 8, p.u32 12, p.u32 16, if d = 2 then mask else 0, true⟩) →
     (mode ≠ 1 → r = { defaultEnv d with mode := mode, own := true }) →
     t = (if mode = 3 then
       { s with sched.override := s.sched.override.filter (fun o => !(o.1 == scope && o.2.1 == d)) } else putEnv d kind scope r s) →
     u = post 2 sevInfo 0x0A07 (arg1 d ++ arg1 kind ++ arg4 scope ++ arg1 mode ++ arg1 p.issuer.toNat)
       { t with sched.updates := t.sched.updates.filter (fun x => x.carried || x.applied || !t.updateIn d kind scope x) } →
     exec (.schedEnvelopeSet p) s = .next (sameQueue s
       (reply (asOp 0x5001 p) St.OK (leBytes 4 (u.envPending d kind scope)) u))) ∧
   (∀ (p : Packet) (s : State) (d kind scope own : Nat) (r : EnvRec), Served 8 coreModes p s → d = p.u8 0 → kind = p.u8 1 →
     scope = p.u32 4 → d ≤ 7 → kind ≤ 3 → p.dirty 2 2 = false → scopeOk d kind = true → scopeRange kind scope = true →
     (kind = 3 → s.schedNode scope = true) → (kind = 0 → r = s.chipEnv d ∧ own = 0) →
     (kind = 1 → r = s.pairEnv d scope ∧ own = 1) → (kind = 2 → r = s.mapEnv scope ∧ own = 1) →
     (kind = 3 → r = s.nodeEnv d scope ∧
       own = if s.sched.override.any (fun o => o.1 == scope && o.2.1 == d) then 1 else 0) →
     exec (.schedEnvelopeRead p) s = .next (reply (asOp 0x5002 p) St.OK
       (leBytes 1 d ++ leBytes 1 r.mode ++ leBytes 1 kind ++ leBytes 1 own ++ leBytes 4 scope ++ leBytes 4 r.lo ++
         leBytes 4 r.hi ++ leBytes 4 r.aux ++ leBytes 32 r.mask.toNat) s)) ∧
   (∀ (p : Packet) (s : State), Served 0 coreModes p s →
     exec (.schedStatus p) s = .next (reply (asOp 0x5003 p) St.OK
       (leBytes 1 (if s.schedActive then s.sched.thermal + 1 else 0) ++
         leBytes 1 (sumOf ((List.range 8).map (fun d => if (s.chipEnv d).mode = 2 then 2 ^ d else 0))) ++
         leBytes 2 s.sched.override.length ++ (List.range 4).flatMap (fun t => leBytes 4 (s.tierCount t)) ++
         leBytes 4 s.sched.updates.length ++ leBytes 4 s.sched.committed ++ leBytes 4 s.sched.reverted ++
         leBytes 4 s.sched.heldBound ++ leBytes 4 s.sched.heldThermal ++ leBytes 4 (countIf s.aboveDrift s.wheel) ++
         leBytes 4 s.sched.mapChanges ++ leBytes 8 s.sched.lastChannelReview ++ leBytes 8 0) s)) ∧
   (∀ (p : Packet) (s : State), Served 4 coreModes p s → p.u32 0 ≠ 0 → p.u32 0 < broadcastId → s.schedNode (p.u32 0) = true →
     ∃ data : List Byte, exec (.schedNodeView p) s = .next (reply (asOp 0x5004 p) St.OK data s) ∧
       sliceBytes data 2 2 = leBytes 2 (s.requested (p.u32 0)))) ∧
  (∀ (d : Nat) (r : EnvRec) (s : State), d < 8 →
     (putEnv d 0 0 r s).chipEnv d = r ∧
     (∀ e, e < 8 → e ≠ d → (putEnv d 0 0 r s).chipEnv e = s.chipEnv e) ∧
     (∀ e p, s.sched.pairRec.get none (4 * e + p) = none → e ≠ d → e < 8 →
       (putEnv d 0 0 r s).pairEnv e p = s.pairEnv e p) ∧
     (∀ (k scope : Nat), k = 1 ∧ scope < 4 → (putEnv d k scope r s).pairEnv d scope = r) ∧
     (putEnv d 0 0 r s).csr = s.csr ∧ (putEnv d 0 0 r s).ledger = s.ledger)

/-- Frames on both sides of the radio (R250 to R285). The outgoing counters and their store (R270 to R281). -/
def Obligations.FrameAndCounterCommands : Prop :=
  ((∀ (req : JoinAnswer) (it : QItem) (s t : State), s.coresWork = true → queuePop joinQid s = (some it, t) →
     exec (.joinRequest req) s = .next (sameQueue s (joinTake it req.admitted t))) ∧
   (∀ (b : Build) (s t : State) (l : List Build) (ack : Build → Bool), ack = (fun x => x.kind == .ack) →
     s.frames.builds.filter ack ++ s.frames.builds.filter (fun x => !ack x) = b :: l → buildOne b s = (false, t) →
     exec .txBuild s = .next (sameQueue s { t with frames.builds := t.frames.builds.erase b })) ∧
   (∀ (node : BitVec 17) (s : State) (e : RxEvent),
     s.delivered.find? (fun e => e.node == node.toNat && e.heard) = some e →
     s.frames.builds.any (fun b => b.node == e.node && (b.kind == .ack || b.kind == .downlink)) = false →
     (e.waiting = true → e.lastEnd + s.ackTurn + s.fld F.MAC_DRIFT_CFG_G_MIN < s.now →
       s.framePending e.ch = false → exec (.downlinkExchange node) s = .next (sameQueue s (downlinkLost e s))) ∧
     (e.waiting = false → e.pendingBit = true → e.sent < (s.lane (laneOf e.ch)).dlPerEvent → s.dlqOf e.node = [] →
       exec (.downlinkExchange node) s = .next (sameQueue s (editEvent e (fun x => { x with pendingBit := false }) s))) ∧
     (∀ (f : DlFrame) (l : List DlFrame) (bs : List Build), e.waiting = false → e.pendingBit = true →
       e.sent < (s.lane (laneOf e.ch)).dlPerEvent → s.dlqOf e.node = f :: l →
       (s.exchangeReaches e f = true →
         exec (.downlinkExchange node) s = .next (sameQueue s (editEvent e (fun x => { x with pendingBit := false }) s))) ∧
       (s.exchangeReaches e f = false →
         bs = s.frames.builds ++ [⟨.downlink, e.node, e.ch, laneOf e.ch, e.lastEnd + s.ackTurn, 0, 0, 0, 0, []⟩] →
         exec (.downlinkExchange node) s = .next { s with frames.builds := bs }))) ∧
   (∀ (p : Packet) (s t : State), Served 20 radioModes p s → p.bits 2 1 0 ≠ 3 → p.bits 2 3 2 ≠ 3 → p.bits 2 7 4 = 0 →
     p.dirty 3 1 = false → 32 ≤ p.u16 4 → p.u16 4 ≤ 2047 → 1 ≤ p.u16 6 → p.u16 6 ≤ 60 → p.dirty 16 4 = false →
     (s.inMode [.calibrate, .test] = true ∨ p.u64 8 = s.cellEui) →
     t = ((((s.setFld F.FRM_CTL_PAN_ID (p.u16 0)).setFld F.FRM_CTL_TX_LEVEL (p.bits 2 1 0)).setFld
       F.FRM_CTL_RX_MIN_LEVEL (p.bits 2 3 2)).setFld F.FRM_CTL_FRAG_PSDU (p.u16 4)).setFld F.FRM_FRAG_STAT_REASM_S (p.u16 6) →
     exec (.frmCfgSet p) s = .next (sameQueue s (reply (asOp 0x8101 p) St.OK []
       ((t.setPair R.FRM_CELL_EUI_LO R.FRM_CELL_EUI_HI (p.u64 8)).setNf 0 N.EUI64 (p.u64 8))))) ∧
   (∀ (p : Packet) (s : State), Served 20 radioModes p s → p.u8 0 ≤ 15 → p.u8 1 ≤ 128 → p.dirty 2 2 = false →
     beAt p.params 4 16 % 2 ^ (128 - p.u8 1) = 0 →
     exec (.frmCtxSet p) s = .next (reply (asOp 0x8102 p) St.OK [] { s with
       frames.ctx := s.frames.ctx.set (0, 0#128) (p.u8 0)
         (if p.u8 1 = 0 then (0, 0#128) else (p.u8 1, BitVec.ofNat 128 (beAt p.params 4 16))) })) ∧
   (∀ (sender : BitVec 17) (size dtag : Nat) (s : State) (same : Reasm → Bool),
     same = (fun x => x.sender == sender.toNat && x.size == size && x.dtag == dtag &&
       decide (x.start + s.fld F.FRM_FRAG_STAT_REASM_S * 120000000 ≤ s.now)) → s.frames.reasm.any same = true →
     exec (.reassemblyTimeout sender size dtag) s = .next (sameQueue s
       ((setReasm (s.frames.reasm.filter (fun x => !same x)) s).count F.FRM_FRAG_CNT_TIMEOUT 1))) ∧
   (∀ (r : RxRecord) (l : List RxRecord) (s t : State),
     sortBy (fun r => 256 * r.syncEnd + r.slot) s.frames.rxq = r :: l → rxFrame r s = (false, t) →
     exec .rxFrameCheck s = .next (sameQueue s { t with frames.rxq := t.frames.rxq.erase r }))) ∧
  ((∀ (s t : State) (g : Programming) (r : CtrRow), s.frames.programming = some g → r = s.ctrRow g.phys →
     t = { (({ s with frames.programming := none } : State).wrapCount F.NVS_CTR_PROG_PROGRAMS 1) with
           frames.rowSeq := s.frames.rowSeq + 1 } →
     (s.ctrCopy g.lrow = some g.phys → exec (.ctrRowWriteDone false) s = .next (sameQueue s
       (ctrExhaust (ctrStat (t.setCtrRow g.phys { r with pcnt := r.pcnt + 1, valid := false }))))) ∧
     (∀ u v : State, s.ctrCopy g.lrow ≠ some g.phys →
       u = post 37 sevDegraded 0x0921 [] (ctrStat
         (t.setCtrRow g.phys { r with pcnt := r.pcnt + 1, valid := false, retired := true })) →
       v = (if u.ctrSpares == 4 && t.ctrSpares == 5 then post 37 sevDegraded 0x0922 [] u else u) →
       exec (.ctrRowWriteDone false) s = .next (sameQueue s (ctrQueue g.lrow true v))) ∧
     (∀ u : State, u = t.setCtrRow g.phys ⟨g.lrow, t.frames.rowSeq, r.pcnt + 1, g.vals, true, false⟩ →
       ∀ l : List Resv, l = u.frames.resv.map (fun x =>
         if x.scope / 256 = g.lrow ∧ x.p ≤ g.vals.get 0 (x.scope % 256) then { x with persisted := true } else x) →
       exec (.ctrRowWriteDone true) s = .next (sameQueue s
         (ctrBackground (ctrKick (resvSettle (ctrStat { u with frames.resv := l }))))))) ∧
   (∀ (p : Packet) (s : State) (id h pv f : Nat), Served 4 coreModes p s → id = p.u32 0 → id ≤ broadcastId →
     s.scopeBad id = false → h = s.nextCtr id / 65536 →
     (s.usableHalves id ≠ 0 → pv = s.usableHalves id - 1) → (s.usableHalves id = 0 → pv = (s.ctrStored id).getD 0) →
     f = (if s.halfUsable id h then 1 else 0) + (if s.halfUsable id (h + 1) then 2 else 0) +
       (if s.frames.lostRows.contains (id / 256) then 4 else 0) +
       (if s.frames.resv.any (fun r => r.scope == id && r.rseq != 0 && !r.acked) then 8 else 0) →
     exec (.ctrQuery p) s = .next (reply (asOp 0x6101 p) St.OK (leBytes 4 (s.outCtr id) ++ leBytes 2 pv ++ leBytes 1 f ++
       leBytes 1 (s.fld F.NVS_CTR_STAT_STATE) ++ leBytes 1 (s.fld F.NVS_CTR_STAT_SPARES) ++ leBytes 3 0) s)) ∧
   (∀ (p : Packet) (s : State), Served 12 coreModes p s → 1 ≤ p.u16 4 → p.u16 4 ≤ 40 → p.dirty 6 2 = false →
     s.extPersist = true →
     (s.fetchReady (p.u32 0) = true ∨ p.u32 8 = 0 → exec (.ctrResvFetch p) s = .next
       (reply (asOp 0x6102 p) St.OK (fetchBody s (p.u32 0) (p.u16 4)) s)) ∧
     (s.fetchReady (p.u32 0) = false → p.u32 8 ≠ 0 → exec (.ctrResvFetch p) s = .next
       { (defer (asOp 0x6102 p) s).2 with
         frames.fetchWait := s.frames.fetchWait ++ [(s.interp.nextSeq, p.u32 0, p.u16 4, s.now + p.u32 8)] })) ∧
   (∀ (s : State) (late : List (Nat × Nat × Nat × Nat)),
     late = s.frames.fetchWait.filter (fun w => decide (w.2.2.2 ≤ s.now)) →
     exec .ctrResvFetchTimeout s = .next (sameQueue s (late.foldl (fun s w => finish w.1 St.OK (fetchBody s w.2.1 w.2.2.1) s)
       { s with frames.fetchWait := s.frames.fetchWait.filter (fun w => !decide (w.2.2.2 ≤ s.now)) }))) ∧
   (∀ (p : Packet) (s t : State) (new : Resv → Bool) (l : List Resv), Served 4 coreModes p s →
     p.u32 0 ≤ s.fld F.NVS_CTR_RSEQ_RSEQ → s.extPersist = true →
     new = (fun r => r.rseq != 0 && !r.acked && decide (r.rseq ≤ p.u32 0)) →
     l = s.frames.resv.map (fun r => if new r then { r with acked := true } else r) →
     t = { s with frames.resv := l } →
     exec (.ctrResvAck p) s = .next (sameQueue s (reply (asOp 0x6103 p) St.OK (leBytes 4 (countIf new s.frames.resv))
       (ctrBackground (resvSettle
         (if s.fld F.NVS_CTR_ACKSEQ_RSEQ < p.u32 0 then t.setFld F.NVS_CTR_ACKSEQ_RSEQ (p.u32 0) else t)))))) ∧
   (∀ (p : Packet) (s t u : State), restoreLen p = true → s.coresServe = true → s.inMode coreModes = true → p.u16 0 ≤ 61 →
     p.u8 2 ≤ 1 → p.dirty 3 5 = false → (∀ e ∈ restoreEntries p, e.1 ≤ broadcastId ∧ s.scopeBad e.1 = false) →
     (∀ i, i < p.u16 0 → p.dirty (14 + 8 * i) 2 = false) → s.extPersist = true →
     t = (restoreEntries p).foldl (fun s e => { s with
       frames.restart := if most2 (s.restartHalf e.1) (s.usableHalves e.1) ≤ e.2 then s.frames.restart.set 0 e.1 (e.2 + 2)
         else s.frames.restart,
       frames.restored := s.frames.restored.set 0 e.1 (e.2 + 1) }) s →
     u = (if p.bit 2 0 then ctrBackground { t with frames.restoreDone := true } else t) →
     exec (.ctrRestore p) s = .next (sameQueue s
       (reply (asOp 0x6104 p) St.OK [] (post 37 sevInfo 0x0926 (arg2 (p.u16 0)) u)))) ∧
   (∀ s : State, (s.outCtr 0 / 65536 < 0xF000 → exec .ctrGroupLow s = .next s) ∧
     (0xF000 ≤ s.outCtr 0 / 65536 → (∀ x, s.frames.groupLowAt = some x → x + 86400 * 120000000 ≤ s.now) →
       exec .ctrGroupLow s = .next (sameQueue s (post 37 sevDegraded 0x0927 (arg2 (s.outCtr 0 / 65536))
         { s with frames.groupLowAt := some s.now })))))

/-- The replay window (R263): an accepted counter above the newest shifts the window by their distance, with the
newest's bit set, becomes the newest and leaves its digest; one below sets its own bit and leaves newest and digest;
an equal one sets bit 0 and its digest. So a refused counter stays refused, and an accepted one below the newest is
refused from then on. Nothing else of the entry, of another entry or of the registers changes. -/
def Obligations.ReplayWindow : Prop :=
  ∀ (id c a w : Nat) (digest : Word) (s t : State), id < 2 ^ 17 → c < 2 ^ 32 → a = s.nf id N.IN_CTR → w = s.nf id N.IN_WIN →
    inWindow a w c = true → t = acceptCtr id c digest s →
    (a < c → t.nf id N.IN_CTR = c ∧ t.digest id = digest ∧
      t.nf id N.IN_WIN = if 32 ≤ c - a then 1 else w * 2 ^ (c - a) % 2 ^ 32 ||| 1) ∧
    (c < a → t.nf id N.IN_CTR = a ∧ t.digest id = s.digest id ∧ t.nf id N.IN_WIN = w ||| 2 ^ (a - c)) ∧
    (c = a → t.nf id N.IN_CTR = a ∧ t.digest id = digest ∧ t.nf id N.IN_WIN = w ||| 1) ∧
    (∀ x, x < a → inWindow a w x = false → inWindow (t.nf id N.IN_CTR) (t.nf id N.IN_WIN) x = false) ∧
    (c < a → inWindow (t.nf id N.IN_CTR) (t.nf id N.IN_WIN) c = false) ∧
    (a < c → w % 2 = 1 → inWindow (t.nf id N.IN_CTR) (t.nf id N.IN_WIN) a = false) ∧
    t.nf id N.OUT_CTR = s.nf id N.OUT_CTR ∧ t.nf id N.KEY_EPOCH = s.nf id N.KEY_EPOCH ∧
    (∀ other, other ≠ id → t.node other = s.node other ∧ t.digest other = s.digest other) ∧ t.csr = s.csr

/-- A frame counter is assigned once: what is assigned lies in a reserved half and below every later one of its scope
(R270 to R276). -/
def Obligations.CountersNeverRepeat : Prop :=
  ∀ (scope c : Nat) (s t : State), scope < broadcastId → ctrAssign scope s = (.got c, t) →
    c = s.nextCtr scope ∧ c < ctrLast ∧ s.halfUsable scope (c / 65536) = true ∧
    s.outCtr scope < c ∧ t.outCtr scope = c ∧ c < t.nextCtr scope

/-- Keys: provisioning, epochs, zeroisation, slots, attestation and the lockout (R286 to R312). A key that a slot loses
or replaces is out of reach: handles to it give nothing afterwards (R287, R288). -/
def Obligations.KeyCommands : Prop :=
  ((∀ (p : Packet) (s : State), Served 84 radioModes p s →
     (blobParamsBad p 1 = false → (s.keyLoaded 1 = false ∨ p.bit 0 0 = true) →
       exec (.keyOrkProvision p) s = .next (sameQueue s (match s.unwrap 0x01 0 (blobOf p) with
         | .inl e => reply (asOp 0x6001 p) e [] (s.count F.KEY_CNT_UNWRAP_FAIL 1)
         | .inr k => reply (asOp 0x6001 p) St.OK [] (post 19 sevInfo 0x0B01 (arg1 1) (fillSlot 1 2 k 0
             { (makeBlob 0x81 0 0 k s).2 with keys.orkBlob := some (makeBlob 0x81 0 0 k s).1 }))))) ∧
     (∀ e ebind : Nat, blobParamsBad p 1 = false → (s.keyLoaded 2 = false ∨ p.bit 0 0 = true) →
       e = leAt (blobOf p) 3 1 → ebind = leAt (blobOf p) 4 4 →
       exec (.keyDkLoad p) s = .next (sameQueue s (match s.unwrap 0x02 0 (blobOf p) with
         | .inl st => reply (asOp 0x6002 p) st [] (s.count F.KEY_CNT_UNWRAP_FAIL 1)
         | .inr k => reply (asOp 0x6002 p) St.OK [] (post 19 sevInfo 0x0B01 (arg1 2) (placeDk k e
             { (makeBlob 0x82 e ebind k s).2 with keys.dkBlob := some (makeBlob 0x82 e ebind k s).1 }))))) ∧
     (blobParamsBad p 2 = false → 16 ≤ p.u8 1 → p.u8 1 ≤ 63 → leAt (blobOf p) 4 4 = p.u8 1 →
       (s.keyLoaded (p.u8 1) = false ∨ p.bit 0 0 = true) →
       exec (.keyLoad p) s = .next (sameQueue s (match s.unwrap 0x03 (p.u8 1) (blobOf p) with
         | .inl e => reply (asOp 0x6003 p) e [] (s.count F.KEY_CNT_UNWRAP_FAIL 1)
         | .inr k => reply (asOp 0x6003 p) St.OK (leBytes 2 ((fillSlot (p.u8 1) 6 k 0 s).handle (p.u8 1)) ++ leBytes 2 0)
             (post 19 sevInfo 0x0B01 (arg1 (p.u8 1)) (fillSlot (p.u8 1) 6 k 0 s)))))) ∧
   (∀ (p : Packet) (s t : State), Served 8 radioModes p s → p.u8 0 / 4 = 0 → p.dirty 1 3 = false →
     (p.bit 0 0 = true → s.keyState = kePrepared →
       exec (.keyEpochPrepare p) s = .next (sameQueue s (reply (asOp 0x6004 p) St.OK (prepareReply s.stragglers 0)
         ((((emptySlot 5 true s).setFld F.KEY_STAT_NEXT 0).setFld F.KEY_ACT_EPOCH_ACT_EPOCH 0).setFld
           F.KEY_STAT_STATE keCurrent)))) ∧
     (p.bit 0 0 = false → s.keyLoaded 2 = true → s.keyState = keCurrent → s.actTooNear (p.u32 4) = false →
       s.stragglers = 0 ∨ p.bit 0 1 = true →
       t = loadEpoch 5 ((s.keyCur + 1) % 256) (s.setFld F.KEY_STAT_NEXT ((s.keyCur + 1) % 256)) →
       exec (.keyEpochPrepare p) s = .next (sameQueue s (reply (asOp 0x6004 p) St.OK
         (prepareReply s.stragglers ((s.keyCur + 1) % 256))
         (keyUpdates s.keyCur ((s.keyCur + 1) % 256) (p.u32 4)
           ((t.setFld F.KEY_ACT_EPOCH_ACT_EPOCH (p.u32 4)).setFld F.KEY_STAT_STATE kePrepared)))))) ∧
   (∀ (p : Packet) (s : State), Served 0 coreModes p s → ∃ data : List Byte,
     exec (.keyEpochStatus p) s = .next (reply (asOp 0x6005 p) St.OK data s) ∧
     data.take 3 = leBytes 1 s.keyState ++ leBytes 1 s.keyCur ++ leBytes 1 (if s.keyLoaded 4 then s.keyPrev else 0xFF)) ∧
   (∀ (p : Packet) (s : State), Served 12 coreModes p s → p.u8 8 ≤ 1 → p.dirty 9 3 = false → p.bit 0 0 = false →
     exec (.keyZap p) s = .next (sameQueue s (reply (asOp 0x6006 p) St.OK (leBytes 4 (zap (p.u64 0) (p.bit 8 0) s).1)
       (post 19 sevInfo 0x0B02 (arg8 (p.u64 0)) ((zap (p.u64 0) (p.bit 8 0) s).2.count F.KEY_CNT_ZAPS 1))))) ∧
   (∀ (p : Packet) (s : State), Served 4 coreModes p s → p.u8 0 ≤ 63 → p.dirty 1 3 = false →
     exec (.keySlotInfo p) s = .next (reply (asOp 0x6007 p) St.OK (leBytes 2 (s.handle (p.u8 0)) ++
       leBytes 1 (s.keySlot (p.u8 0)).content ++ leBytes 1 (s.keySlot (p.u8 0)).epoch ++ leBytes 4 0) s)) ∧
   (∀ (p : Packet) (s : State), Managed 32 allButCold p s → s.latched = false →
     exec (.attest p) s = .next (reply (asOp 0xF101 p) St.OK
       (digestBytes (hmacSha256 s.att (p.bytes 0 32 ++ s.meas ++ (leBytes 1 s.seq.mode.code ++ leBytes 1 s.dbgCount))) ++
         s.meas ++ (leBytes 1 s.seq.mode.code ++ leBytes 1 s.dbgCount) ++ leBytes 2 (s.fld F.DBG_MEAS_CNT_MEAS_CNT) ++
         leBytes 8 s.serial ++ leBytes 4 0) s)) ∧
   (∀ (p : Packet) (s : State), Managed 4 [.calibrate, .test] p s → p.u32 0 = 0x4C4F434B →
     exec (.dbgLockout p) s = .next (reply (asOp 0xF103 p) St.OK []
       ((burn 0x47 0x8000#32 s).setFlag F.DBG_STAT_LOCKED_OUT true))) ∧
   (∀ (s : State) (l : List KeyMiss), serveMiss s s.keys.misses = some (l, none) →
     exec .derivedKeyMiss s = .next { s with keys.misses := l }) ∧
   (∀ (s : State) (l : List KeyMiss) (t : KeyTag) (k : List Byte), serveMiss s s.keys.misses = some (l, some (t, k)) →
     exec .derivedKeyMiss s = .next (sameQueue s (cacheInsert t k { s with keys.misses := l })))) ∧
  (∀ (i h content epoch : Nat) (key k : List Byte) (s : State), s.handleKey h = some k → h % 64 = i →
     (fillSlot i content key epoch s).handleKey h = none ∧ (emptySlot i true s).handleKey h = none ∧
     (∀ j, j % 64 ≠ i → (emptySlot i true s).handleKey j = s.handleKey j) ∧
     (emptySlot i true s).handle i = 0 ∧ ((emptySlot i true s).keySlot i).key = [])

/-- The ledger's windows: each operation runs on the operands of its window and leaves its result and its row in the
window's registers; a window but the first takes the firmware's writes only (R316 to R325). The ledger's packets:
one operation, the transaction's end, learning, and the mismatches (R316 to R345). -/
def Obligations.LedgerCommands : Prop :=
  (∀ (op : Nat) (row : Writer → Fin 4 → Word → Instr),
     (op, row) ∈ ([(0, .ldgOpRead), (1, .ldgOpWrite), (2, .ldgOpWriteMasked), (3, .ldgOpCas), (4, .ldgOpInvalidate),
       (5, .ldgOpAlloc), (6, .ldgOpFree)] : List (Nat × (Writer → Fin 4 → Word → Instr))) →
     ∀ (w : Writer) (win : Fin 4) (v x : Word) (o : LOp) (r : LRes × State) (s : State),
       s.reaches (R.LDG_CMD win.val) = true →
       (win.val ≠ 0 → writerIsFirmware w = false → exec (row w win v) s = .next s) ∧
       (win.val = 0 ∨ writerIsFirmware w = true →
         x = ((v &&& 0x8FFFFFFF#32) ||| BitVec.ofNat 32 (op * 2 ^ 28)) &&&
           (if win.val = 0 then 0x7FF3FFFF#32 else 0xFFF3FFFF#32) →
         o = { op := x.toNat / 2 ^ 28 % 8, table := x.toNat / 2 ^ 24 % 16, keyed := x.toNat / 2 ^ 23 % 2 == 1,
               txn := x.toNat / 2 ^ 31 == 1, word := x.toNat / 2 ^ 20 % 8, index := x.toNat % 2 ^ 18,
               mask := s.pair (R.LDG_MASK_LO win.val) (R.LDG_MASK_HI win.val),
               cas := BitVec.ofNat 64 (s.pair (R.LDG_CAS_LO win.val) (R.LDG_CAS_HI win.val)),
               data := BitVec.ofNat 512 (leNat ((List.range 16).flatMap (fun k =>
                 leBytes 4 (s.word (R.LDG_DATA win.val k)).toNat))) } →
         r = ledgerOp (windowWho w win.val) (win.val == 0) o (s.setWord (R.LDG_CMD win.val) x) →
         exec (row w win v) s = .next (sameQueue s
           ((((storeWords (R.LDG_DATA win.val 0) 16 (leBytes 64 r.1.data.toNat) r.2).setFlag
             (F.LDG_WSTAT_PROTECTED win.val) r.1.prot).setFld (F.LDG_WSTAT_RESULT win.val)
             (resultCode r.1.status)).setFld (F.LDG_WSTAT_INDEX win.val) r.1.index)))) ∧
  ((∀ (p : Packet) (s : State) (o : LOp) (r : LRes × State), Served 96 coreModes p s → p.u8 2 ≤ 3 → p.u8 3 ≤ 7 →
     p.dirty 24 8 = false →
     o = { op := p.u8 0, table := p.u8 1, keyed := p.bit 2 0, txn := p.bit 2 1, word := p.u8 3, index := p.u32 4,
           mask := p.u64 8, cas := BitVec.ofNat 64 (p.u64 16), data := BitVec.ofNat 512 (leNat (p.bytes 32 64)) } →
     r = ledgerOp p.issuer.toNat (restrictedIssuer p) o s →
     exec (.ldgAccess p) s = .next (sameQueue s (reply (asOp 0x7001 p) r.1.status
       (leBytes 4 r.1.index ++ leBytes 1 (if r.1.prot then 1 else 0) ++ leBytes 3 0 ++ leBytes 64 r.1.data.toNat) r.2))) ∧
   (∀ (p : Packet) (s t : State) (c : Nat), Served 4 coreModes p s → p.u8 0 ≤ 1 → p.dirty 1 3 = false →
     s.ctxOf p.issuer.toNat = some c → t = s.setCtx c LdgCtx.free →
     (p.bit 0 0 = false → exec (.ldgUnlock p) s = .next (reply (asOp 0x7003 p) St.OK (leBytes 8 0) t)) ∧
     (∀ e, p.bit 0 0 = true → (s.ctx c).staged.find? t.casFails = some e →
       exec (.ldgUnlock p) s = .next (reply (asOp 0x7003 p) St.TBL_CAS_FAIL
         (leBytes 2 0 ++ leBytes 2 e.table ++ leBytes 4 e.index) t)) ∧
     (p.bit 0 0 = true → (s.ctx c).staged.find? t.casFails = none →
       exec (.ldgUnlock p) s = .next (sameQueue s (reply (asOp 0x7003 p) St.OK
         (leBytes 2 (s.ctx c).staged.length ++ leBytes 6 0)
         ((s.ctx c).staged.foldl (fun s (e : Staged) => putBits e.table e.index e.mask e.data s) t))))) ∧
   (∀ (p : Packet) (s t : State), Served 12 coreModes p s → p.u8 0 ≤ 3 → 1 ≤ p.u8 1 → 1 ≤ p.u16 2 → p.u16 2 ≤ 2000 →
     p.dirty 8 4 = false →
     t = (((((s.setFlag F.LDG_LEARN_CTL_NODE_EN (p.bit 0 0)).setFlag F.LDG_LEARN_CTL_BNT_EN (p.bit 0 1)).setFld
       F.LDG_LEARN_CTL_BURST (p.u8 1)).setFld F.LDG_LEARN_CTL_RATE (p.u16 2)).setFld F.LDG_AGE_CFG_LEARN_AGE_S
       (p.u16 4)).setFld F.LDG_AGE_CFG_BNT_AGE_S (p.u16 6) →
     exec (.ldgLearnSet p) s = .next (sameQueue s (reply (asOp 0x7004 p) St.OK []
       { t with ledger.tokens := least2 s.ledger.tokens (p.u8 1) }))) ∧
   (∀ (p : Packet) (s : State), Served 4 coreModes p s → 1 ≤ p.u8 0 → p.u8 0 ≤ 29 → p.dirty 1 3 = false →
     exec (.ldgMismatchRead p) s = .next (reply (asOp 0x7005 p) St.OK
       (leBytes 1 (s.ledger.mmf.take (p.u8 0)).length ++ leBytes 1 0 ++ leBytes 2 (s.fld F.LDG_MMF_STAT_OVERFLOW) ++
         (s.ledger.mmf.take (p.u8 0)).flatMap Mismatch.bytes)
       { s with ledger.mmf := s.ledger.mmf.drop (p.u8 0) })) ∧
   (∀ (v : Word) (s : State), s.reaches R.LDG_MMF_POP = true → exec (.ldgMmfPop v) s = .next
     (if v.getLsbD 0 then { s with ledger.mmf := s.ledger.mmf.drop 1 } else s)))

/-- LDG_LOCK: a requester takes one of the four contexts and holds at most one; from the holder it answers its own
context and staged count; with all four held it answers TBL_LOCKED (R337). -/
def Obligations.LedgerLock : Prop :=
  ∀ (p : Packet) (s : State), Served 0 coreModes p s →
    (∀ c, s.ctxOf p.issuer.toNat = some c → exec (.ldgLock p) s = .next (reply (asOp 0x7002 p) St.OK
      (leBytes 1 c ++ leBytes 1 (s.ctx c).staged.length ++ leBytes 2 0) s)) ∧
    (∀ c, s.ctxOf p.issuer.toNat = none → (List.range 4).find? (fun c => (s.ctx c).owner.isNone) = some c →
      exec (.ldgLock p) s = .next (reply (asOp 0x7002 p) St.OK (leBytes 1 c ++ leBytes 1 0 ++ leBytes 2 0)
        (s.setCtx c ⟨some p.issuer.toNat, [], s.now⟩))) ∧
    (s.ctxOf p.issuer.toNat = none → (∀ c, c < 4 → (s.ctx c).owner ≠ none) →
      exec (.ldgLock p) s = .next (reply (asOp 0x7002 p) St.TBL_LOCKED [] s)) ∧
    (∀ t : State, exec (.ldgLock p) s = .next t →
      (∀ w c d : Nat, c < 4 → d < 4 → (s.ctx c).owner = some w → (s.ctx d).owner = some w → c = d) →
      ∀ w c d : Nat, c < 4 → d < 4 → (t.ctx c).owner = some w → (t.ctx d).owner = some w → c = d)

/-- An entry that one requester has staged is held against every other: an operation of another that would change it
answers TBL_LOCKED or an earlier refusal and changes no entry of any table; a read changes none either (R320, R321).
-/
def Obligations.LockedRowsHold : Prop :=
  ∀ (who : Nat) (restricted : Bool) (o : LOp) (s : State),
    (o.op = 0 ∨ (s.lockedFor who o.table o.index = true ∧ o.op ≠ 5)) →
    (∀ table i, (ledgerOp who restricted o s).2.row table i = s.row table i) ∧
    (o.op ≠ 0 → (ledgerOp who restricted o s).1.status ≠ St.OK) ∧
    (ledgerOp who restricted o s).2.csr = s.csr ∧
    (∀ c, ((ledgerOp who restricted o s).2.ctx c).staged = (s.ctx c).staged ∧
      ((ledgerOp who restricted o s).2.ctx c).owner = (s.ctx c).owner)

/-- The ledger's own work: a lock that times out, ageing, tokens, the background compare and its error checks (R322,
R330 to R345). -/
def Obligations.LedgerUpkeep : Prop :=
  (∀ (c : Fin 4) (who : Nat) (s : State), (s.ctx c.val).owner = some who → ¬ (0x40 ≤ who ∧ who ≤ 0x7F) →
    (s.ctx c.val).last + most2 12000 (s.word R.LDG_LOCK_TMO).toNat ≤ s.now →
    exec (.ldgLockTimeout c) s = .next (sameQueue s (abandon c.val 2 s))) ∧
  (∀ (node : BitVec 17) (s t : State), s.fld F.LDG_AGE_CFG_LEARN_AGE_S ≠ 0 → s.nodeState node.toNat = nsLearned →
    s.nf node.toNat N.FROZEN ≠ 1 → s.stagedAny 0 node.toNat = false →
    s.nf node.toNat N.ANCHOR + s.fld F.LDG_AGE_CFG_LEARN_AGE_S * 120000000 < s.now →
    t = (freeNode node.toNat s).count F.LDG_LEARN_CNT1_AGED 1 →
    (∀ (n : Nat) (l : Limiter), limited 120000000 t.now t.ledger.agedLim = (some n, l) →
      exec (.learnAged node) s = .next (sameQueue s
        (post 20 sevInfo 0x0D02 (arg2 n ++ arg4 node.toNat) { t with ledger.agedLim := l }))) ∧
    (∀ l : Limiter, limited 120000000 t.now t.ledger.agedLim = (none, l) →
      exec (.learnAged node) s = .next (sameQueue s { t with ledger.agedLim := l }))) ∧
  (∀ (i : Fin 4096) (s : State), s.fld F.LDG_AGE_CFG_BNT_AGE_S ≠ 0 → bntValid (s.bntEntry i.val) = true →
    bntStatic (s.bntEntry i.val) = false →
    s.fld F.LDG_AGE_CFG_BNT_AGE_S * 120000000 < (at24 s.now + 2 ^ 32 - bntSeen (s.bntEntry i.val)) % 2 ^ 32 * 2 ^ 24 →
    exec (.bntAge i) s = .next (sameQueue s ((s.setBnt i.val 0).count F.LDG_BNT_CNT1_AGED 1))) ∧
  (∀ (s : State) (per k : Nat), per = 120000000 / s.fld F.LDG_LEARN_CTL_RATE → k = (s.now - s.ledger.tokenAt) / per →
    exec .learnTokenRefill s = .next { s with
      ledger.tokens := least2 (s.fld F.LDG_LEARN_CTL_BURST) (s.ledger.tokens + k),
      ledger.tokenAt := s.ledger.tokenAt + k * per }) ∧
  (∀ (s : State) (k : Nat), k = (s.now - s.ledger.bntTokenAt) / 120000 →
    exec .bntTokenRefill s = .next { s with ledger.bntTokens := least2 64 (s.ledger.bntTokens + k),
                                            ledger.bntTokenAt := s.ledger.bntTokenAt + k * 120000 }) ∧
  (∀ (v : Word) (s t : State) (en : Bool), s.reaches R.LDG_BGC_CTL = true → en = (v.getLsbD 31 && s.shadowOk) →
    t = ((s.setWord R.LDG_BGC_CTL (v &&& 0xFFFF0000#32)).setFlag F.LDG_BGC_CTL_EN en).setFlag F.LDG_BGC_STAT_RUNNING en →
    (en = true → s.flag F.LDG_BGC_CTL_EN = false → exec (.bgcCtlWrite v) s = .next (sameQueue s
      { t.setFld F.LDG_BGC_STAT_POSITION (t.fld F.LDG_BGC_FIRST_SHORT_ID) with ledger.visitAt := s.now })) ∧
    (en = false ∨ s.flag F.LDG_BGC_CTL_EN = true → exec (.bgcCtlWrite v) s = .next t)) ∧
  (∀ (s t u : State) (per id diff : Nat) (ecc xref : Bool), per = 120000 / most2 1 (s.fld F.LDG_BGC_CTL_RATE) →
    s.flag F.LDG_BGC_STAT_RUNNING = true → s.ledger.visitAt + per ≤ s.now → id = s.fld F.LDG_BGC_STAT_POSITION →
    diff = diffBytes (s.pair R.LDG_BGC_MASK_LO R.LDG_BGC_MASK_HI) (leBytes 64 (s.node id).toNat)
      (s.dramRead (s.shadowBase + 64 * id - dramBase) 64) → ecc = s.rowBad 0 id →
    xref = (s.flag F.LDG_BGC_CTL_XREF && s.nodeState id != nsFree && s.idOf (s.nf id N.EUI64) != some id) →
    t = { s with ledger.visitAt := s.ledger.visitAt + per } →
    u = (if diff ≠ 0 ∨ ecc = true ∨ xref = true then mismatch ⟨id, xref, ecc, diff, at24 t.now⟩ t else t) →
    exec .bgcVisit s = .next (sameQueue s
      (if u.fld F.LDG_BGC_LAST_SHORT_ID ≤ id then sweepEnd u else u.setFld F.LDG_BGC_STAT_POSITION (id + 1)))) ∧
  (∀ (table : Fin 9) (idx : BitVec 18) (word : Fin 8) (s : State) (l : List (Nat × Nat × Nat)),
    idx.toNat < (tableShape table.val).2 → 8 * word.val < (tableShape table.val).1 →
    (s.ledger.bad.contains (table.val, idx.toNat, word.val) = true → l = s.ledger.bad) →
    (s.ledger.bad.contains (table.val, idx.toNat, word.val) = false → l = (table.val, idx.toNat, word.val) :: s.ledger.bad) →
    exec (.ldgEccUncorr table idx word) s = .next (sameQueue s (post 20 sevDegraded 0x0D06
      (arg1 table.val ++ arg4 idx.toNat)
      (ldgRaise 4 (({ s with ledger.bad := l } : State).count F.LDG_ECC_CNT_UNCORRECTABLE 1)))))

/-- Forwarding: the host's routes, the configuration, the flush of a node's queue, a packet's way, and the report of
drops (R346 to R366). Firmware rollout: a campaign is configured, gets its targets, starts, sends in its windows,
stops and reports (R367 to R380). The seed of a campaign is the model's free value. -/
def Obligations.ForwardAndRolloutCommands : Prop :=
  ((∀ (p : Packet) (s : State), Served 32 radioModes p s → p.u8 0 ≤ 31 → p.u8 1 ≤ 4 → (p.u8 1 ≠ 1 → p.dirty 4 8 = false) →
     p.dirty 12 4 = false → p.bits 11 7 4 = 0 → p.u8 2 ≤ 128 → beAt p.params 16 16 % 2 ^ (128 - p.u8 2) = 0 →
     (p.u8 1 = 1 → p.u8 3 ≤ 1) → (p.u8 1 = 3 → p.u8 3 ≤ 63) → (p.u8 1 ≠ 1 → p.u8 1 ≠ 3 → p.u8 3 = 0) →
     exec (.fwdRouteSet p) s = .next (reply (asOp 0x8001 p) St.OK []
       { s with fwd.routes := s.fwd.routes.set [] (p.u8 0) (if p.u8 1 = 0 then [] else p.bytes 0 32) })) ∧
   (∀ (p : Packet) (s : State), Served 4 radioModes p s → p.u8 0 ≤ 31 → p.dirty 1 3 = false →
     exec (.fwdRouteRead p) s = .next (reply (asOp 0x8002 p) St.OK
       (if s.fwdRoute (p.u8 0) = [] then leBytes 1 (p.u8 0) ++ leBytes 31 0 else s.fwdRoute (p.u8 0)) s)) ∧
   (∀ (p : Packet) (s t : State), Served 16 radioModes p s → p.bits 8 7 4 = 0 → p.bits 8 2 1 ≠ 3 → p.dirty 9 1 = false →
     p.dirty 12 4 = false → 1280 ≤ p.u16 10 → p.u16 10 ≤ 9000 →
     (s.inMode [.calibrate, .test] = true ∨ p.bytes 0 8 = s.fwdPrefix) →
     t = ((s.setPair R.FWD_PREFIX_LO R.FWD_PREFIX_HI (p.u64 0)).setFlag F.FWD_CTL_EN (p.bit 8 0)).setFld
       F.FWD_CTL_SRC_CHECK (p.bits 8 2 1) →
     exec (.fwdCfgSet p) s = .next (sameQueue s (reply (asOp 0x8003 p) St.OK []
       ((t.setFlag F.FWD_CTL_EXC_TO_HOST (p.bit 8 3)).setFld F.FWD_CTL_ETH_MTU (p.u16 10))))) ∧
   (∀ (p : Packet) (s : State), Served 4 radioModes p s → p.u32 0 < broadcastId → onWheel (s.nodeState (p.u32 0)) = true →
     exec (.fwdDlqFlush p) s = .next (sameQueue s (reply (asOp 0x8004 p) St.OK (leBytes 4 (dlqFlush (p.u32 0) s).1)
       (dlqFlush (p.u32 0) s).2))) ∧
   (∀ (it : QItem) (rest : List QItem) (s t : State), s.fwd.ingress = it :: rest → t = { s with fwd.ingress := rest } →
     (t.held = true → t.inMode [.service, .test] = true → t.flag F.FWD_CTL_EN = true →
       exec .packetForward s = .next (sameQueue s (fwdDecide it t))) ∧
     (t.held = true → t.inMode [.service, .test] = true → t.flag F.FWD_CTL_EN = false →
       exec .packetForward s = .next (sameQueue s (freePages it.pages t))) ∧
     (t.held = false ∨ t.inMode [.service, .test] = false →
       (t.nodeBound it = true → t.held = false ∨ t.inMode [.banked] = true →
         exec .packetForward s = .next (sameQueue s (fwdDrop F.FWD_DROP3_BANKED it t))) ∧
       (t.nodeBound it = false ∨ t.held = true ∧ t.inMode [.banked] = false →
         exec .packetForward s = .next (sameQueue s (freePages it.pages t))))) ∧
   (∀ (s : State) (rise : List Nat),
     rise = (List.range 9).map (fun i => if nth (dropFields.map s.fld) i < nth s.fwd.drops i then nth (dropFields.map s.fld) i
       else nth (dropFields.map s.fld) i - nth s.fwd.drops i) →
     (∀ x, s.fwd.dropsAt = some x → x + 120000000 ≤ s.now) → rise.any (· != 0) = true →
     exec .fwdDropsReport s = .next (sameQueue s (post 21 sevDegraded 0x0E01 (rise.flatMap arg2)
       { s with fwd.drops := dropFields.map s.fld, fwd.dropsAt := some s.now })))) ∧
  ((∀ (p : Packet) (s t u : State) (x y : Campaign) (c : Nat), Served 48 rolModes p s → p.u8 0 = c → c ≤ 15 → 1 ≤ p.u8 3 →
     p.u8 3 ≤ 16 → p.u8 21 ≤ 62 → p.u8 22 ≤ 3 → p.u8 23 ≤ 64 → p.dirty 17 3 = false → p.dirty 26 2 = false →
     p.dirty 32 16 = false → s.profLoaded (p.u8 21) = true → (profType (s.profile (p.u8 21)) = 1 ∨ p.u8 22 = 0) →
     s.campLive c = false → 1 ≤ p.u32 8 → p.u32 8 ≤ 16777216 → p.u8 1 ≤ 5 → 1 ≤ p.u8 2 → s.inDram (p.u64 12) (p.u32 8) = true →
     s.isHead (p.u8 20) = true → 44 + p.u8 3 * (32 * 2 ^ p.u8 1) ≤ 2047 → s.keyLoaded 2 = true → t = s.draw.2 →
     x = { Campaign.reset with
           tCode := p.u8 1, kMax := p.u8 2, perFrame := p.u8 3, imageId := p.u32 4, length := p.u32 8, addr := p.u64 12,
           channel := p.u8 20, profile := p.u8 21, tier := p.u8 22, drive := p.u8 23, fwTag := p.u16 24,
           frameLimit := p.u32 28, seed := s.draw.1 % 2 ^ 32 } → y = { x with crc := (crc32 (t.image x)).toNat } →
     u = (((pendClear c (t.setCamp c y)).setWord (R.ROL_CAMP_SENT c) 0).setWord (R.ROL_CAMP_SKIP c) 0).setWord
       (R.ROL_CAMP_DONE c) 0 →
     exec (.rolCampaignSet p) s = .next (sameQueue s (reply (asOp 0x9001 p) St.OK
       (leBytes 4 y.nSym ++ leBytes 2 y.z ++ leBytes 2 0 ++ leBytes 4 y.seed ++ leBytes 4 y.crc)
       (setCampState c rsConfigured u)))) ∧
   (∀ (p : Packet) (s : State) (r : Nat × Nat × State), p.n = 8 + 4 * p.u16 4 → s.coresServe = true →
     s.inMode rolModes = true → p.u8 0 ≤ 15 → p.u8 1 ≤ 3 → p.u16 4 ≤ 120 → p.dirty 6 2 = false → s.campLive (p.u8 0) = true →
     (p.u8 1 = 0 → r = ((List.range (p.u16 4)).map (fun i => p.u32 (8 + 4 * i))).foldl (rolAdd (p.u8 0)) (0, 0, s)) →
     (p.u8 1 = 1 → r = (0, 0,
       ((List.range (p.u16 4)).map (fun i => p.u32 (8 + 4 * i))).foldl (fun s id => pendDrop (p.u8 0) id s) s)) →
     (p.u8 1 = 2 → r = ((s.ledger.ntab.filter
       (fun e => N.STATE.read e.2 != nsFree && N.FW_TAG.read e.2 == p.u16 2)).map (·.1)).foldl (rolAdd (p.u8 0)) (0, 0, s)) →
     (p.u8 1 = 3 → r = (0, 0, if (pendClear (p.u8 0) s).campState (p.u8 0) = rsSending
       then campDone (p.u8 0) (pendClear (p.u8 0) s) else pendClear (p.u8 0) s)) →
     exec (.rolTarget p) s = .next (sameQueue s (reply (asOp 0x9002 p) St.OK
       (leBytes 4 r.1 ++ leBytes 4 r.2.1 ++ leBytes 4 (r.2.2.fld (F.ROL_CAMP_STAT_PENDING (p.u8 0)))) r.2.2))) ∧
   (∀ (p : Packet) (s : State) (x : Campaign), Served 12 rolModes p s → p.u8 0 ≤ 15 → 1 ≤ p.u8 1 → p.u8 1 ≤ p.u16 2 →
     p.dirty 10 2 = false → s.campState (p.u8 0) = rsConfigured → s.almanacRuns = true →
     s.rolTooLate (p.u32 4) (p.u16 8) = false →
     x = { s.camp (p.u8 0) with winRounds := p.u8 1, period := p.u16 2, startEpoch := p.u32 4, startRound := p.u16 8 } →
     exec (.rolStart p) s = .next (sameQueue s (reply (asOp 0x9003 p) St.OK []
       ((s.camp (p.u8 0)).announce.foldl (fun s a => queueAnnounce (p.u8 0) a.1 s)
         (setCampState (p.u8 0) rsAnnouncing (s.setCamp (p.u8 0) x)))))) ∧
   (∀ (p : Packet) (s : State), Served 4 rolModes p s → p.u8 0 ≤ 15 → p.bits 1 7 1 = 0 → p.dirty 2 2 = false →
     s.campState (p.u8 0) ≠ rsIdle →
     (s.campLive (p.u8 0) = true → exec (.rolStop p) s = .next (sameQueue s (reply (asOp 0x9004 p) St.OK []
       (campAbort (p.u8 0) 1 s)))) ∧
     (s.campLive (p.u8 0) = false → p.bit 1 0 = true → exec (.rolStop p) s = .next (sameQueue s
       (reply (asOp 0x9004 p) St.OK [] (setCampState (p.u8 0) rsIdle (pendClear (p.u8 0) s))))) ∧
     (s.campLive (p.u8 0) = false → p.bit 1 0 = false → exec (.rolStop p) s = .next
       (reply (asOp 0x9004 p) St.OK [] s))) ∧
   (∀ (p : Packet) (s : State), Served 4 coreModes p s → p.u8 0 ≤ 15 → p.dirty 1 3 = false →
     ∀ (c : Nat) (x : Campaign), c = p.u8 0 → x = s.camp c →
     exec (.rolStatus p) s = .next (reply (asOp 0x9005 p) St.OK (leBytes 1 (s.campState c) ++ leBytes 1 x.cause ++
       leBytes 2 x.z ++ leBytes 4 (s.fld (F.ROL_CAMP_STAT_PENDING c)) ++ leBytes 4 (s.fld (F.ROL_CAMP_DONE_DONE c)) ++
       leBytes 4 (s.fld (F.ROL_CAMP_DONE_FAILED c)) ++ leBytes 4 (s.fld (F.ROL_CAMP_SENT_SENT c)) ++
       leBytes 4 (s.fld (F.ROL_CAMP_SKIP_SKIPPED_TX c) + s.fld (F.ROL_CAMP_SKIP_SKIPPED_CTR c) + x.encSkips) ++
       leBytes 4 x.next ++ leBytes 4 x.seed ++ leBytes 4 x.crc ++ leBytes 4 0) s)) ∧
   (∀ (n : Fin 16) (s : State), s.laneRuns n.val = true → s.almanacRuns = true →
     exec (.rolloutWindow n) s = .next (sameQueue s ((List.range 16).foldl (fun s c =>
       if !s.rolOpen c || laneOf (s.camp c).channel != n.val then s
       else if (rolEnd c (rolBegin c s)).rolOpen c then rolPlan n.val c (rolEnd c (rolBegin c s)) else rolEnd c (rolBegin c s))
       s))))

/-- The Zoant fabric: a link comes up and goes down, the district's map of links, its clock, its leases, and the
commands (R399 to R432). -/
def Obligations.FabricCommands : Prop :=
  (∀ (p : Fin 4) (s : State),
    (s.portState p.val = portDown → s.bit F.ZFB_CTL_PORT_EN p.val = true → s.inMode [.cold, .quarantine] = false →
      exec (.zoantSignalDetect p) s = .next (sameQueue s (setPortState p.val portTraining s))) ∧
    (s.portState p.val = portTraining →
      exec (.zoantBlockLock p) s = .next (sameQueue s (setPortState p.val portHello s))) ∧
    (s.portState p.val ≠ portDown → exec (.linkDown p) s = .next (sameQueue s
      (linkLost p.val (if s.linkSilent p.val then portTraining else portDown) s)))) ∧
  (∀ (p : Fin 4) (s : State) (f : ZFrame) (z : ZPort), portHello ≤ s.portState p.val → (s.zport p.val).helloAt ≤ s.now →
    f = ⟨0, false, 0, 0, 8, 0, 32, true, .hello (BitVec.ofNat 64 s.serial) (BitVec.ofNat 32 s.district) s.idByte p.val
      (s.fld F.STP_STRAPS_PAIRROLE) (s.flag F.ZFB_ID_REGISTRAR) (s.inMode [.ember]) (s.flag F.TMB_STAT_CAL_FAULT)
      (s.zport p.val).nbrSerial⟩ →
    z = { s.zport p.val with txq := (s.zport p.val).txq ++ [⟨f, none⟩], helloAt := s.now + s.helloGap p.val } →
    exec (.helloTx p) s = .next (s.setZport p.val z)) ∧
  (∀ (p : Fin 4) (f : ZFrame) (stamp : Quad) (s : State), portHello ≤ s.portState p.val →
    (f.crcOk = false → exec (.helloRx p f) s = .next (s.count (F.ZFB_PORT_CNT_CRC_ERR p.val) 1)) ∧
    (f.crcOk = false → exec (.zoantFrameRx p f stamp) s = .next (s.count (F.ZFB_PORT_CNT_CRC_ERR p.val) 1)) ∧
    (∀ z : ZPort, f.crcOk = true → z = { s.zport p.val with lastRx := s.now } →
      exec (.zoantFrameRx p f stamp) s = .next (sameQueue s (soundRx p f stamp (s.setZport p.val z))))) ∧
  (∀ (p : Fin 4) (f : ZFrame) (serial echo : Quad) (district : Word) (idb nport role : Nat) (reg ember fault : Bool)
    (s t : State) (z : ZPort), portHello ≤ s.portState p.val → f.crcOk = true →
    f.msg = .hello serial district idb nport role reg ember fault echo →
    z = { s.zport p.val with nbrSerial := serial, nbrId := idb, nbrEmber := ember, nbrCalFault := fault,
                             nbrRole := role, lastRx := s.now } →
    t = ((s.setZport p.val z).setFld (F.ZFB_PORT_STAT_NBR_ID p.val) (idOfByte idb)).setFld
      (F.ZFB_PORT_STAT_NBR_PORT p.val) nport →
    exec (.helloRx p f) s = .next (sameQueue s (mirrorCheck (roleCheck p.val
      (helloState p.val (t.district != 0 && district.toNat == t.district) (echo.toNat == t.serial) t))))) ∧
  (∀ (s : State) (changed : Bool), s.district ≠ 0 → s.inMode [.cold, .quarantine] = false →
    (changed = false ↔ ∃ l, s.zoant.lsaSent = some l ∧ lsaSame l s.ownLsa = true) →
    (changed = false → s.now < s.zoant.lsaAt + 120000000 → exec .lsaTx s = .next s) ∧
    (changed = true ∨ s.zoant.lsaAt + 120000000 ≤ s.now →
      ∀ t u : State, t = (if changed then dbChanged (settleId s) else settleId s) →
        u = { t with zoant.ownSeq := (t.zoant.ownSeq + 1) % 2 ^ 32 } →
        exec .lsaTx s = .next (sameQueue s (zoantFlood none 24 (.lsa u.ownLsa)
          { u with zoant.lsaSent := some u.ownLsa, zoant.lsaAt := u.now })))) ∧
  (∀ (chip : Fin 64) (s : State) (old : Lsa × Nat → Bool),
    old = (fun e => (!idValid e.1.idByte || idOfByte e.1.idByte == chip.val) && decide (e.2 + 480000000 ≤ s.now)) →
    s.zoant.lsdb.any old = true → ∀ l, l = s.zoant.lsdb.filter (fun e => !old e) →
    exec (.lsaExpiry chip) s = .next (sameQueue s (alignCheck (dbChanged { s with zoant.lsdb := l })))) ∧
  (∀ s : State, ∃ t : State, exec .routeRecompute s = .next t ∧
    t.zoant.froute = (List.range 64).foldl
      (fun (m : Sparse (BitVec 128)) c => m.set 0 c (s.routeTo s.database (s.portTrees s.database) c)) []) ∧
  (∀ (s t : State) (own : Bool), s.electedRegistrar ≠ s.zoant.registrar → s.zoant.changedAt + 1200000 ≤ s.now →
    own = (s.electedRegistrar != 0 && s.electedRegistrar.toNat == s.serial) →
    t = ({ s with zoant.registrar := s.electedRegistrar, zoant.thetas := [] } : State).setFlag F.ZFB_ID_REGISTRAR own →
    exec .registrarChange s = .next (sameQueue s (alignCheck (settleId (post (27 + s.zoant.changedBy.getD 0) sevInfo 0x1103
      (arg8 s.zoant.registrar.toNat ++ arg8 s.electedRegistrar.toNat)
      (zfbRaise 0x10 (if own then t.setFld F.ZFB_TIME_OFS_THETA 0 else t))))))) ∧
  (∀ (p : Packet) (s t : State), Served 16 coreModes p s → 1 ≤ p.u16 4 → p.u16 4 ≤ 1000 → 3 ≤ p.u16 6 → p.u16 6 ≤ 12000 →
    1200000 ≤ p.u32 8 → p.u32 8 ≤ 120000000 → p.dirty 12 4 = false →
    (p.u32 0 = s.district ∨ s.inMode [.calibrate, .test] = true) →
    t = ((setDistrict (p.u32 0) s).setFld F.ZFB_TIME_CFG_RATE (p.u16 4)).setFld F.ZFB_TIME_CFG_ALIGN_THR (p.u16 6) →
    exec (.fabCfgSet p) s = .next (sameQueue s (reply (asOp 0xB001 p) St.OK []
      (alignCheck (t.setFld F.ZFB_LEASE_TMO_TICKS (p.u32 8)))))) ∧
  (∀ (p : Packet) (s : State), Served 0 coreModes p s →
    exec (.fabStatus p) s = .next (reply (asOp 0xB002 p) St.OK
      (leBytes 1 (s.fld F.ZFB_ID_ID + 64 * s.fld F.ZFB_ID_VALID) ++ leBytes 1 (s.fld F.ZFB_ID_REG_ID) ++
        leBytes 1 (s.fld F.ZFB_ID_HOPS) ++
        leBytes 1 (s.fld F.ZFB_ID_REGISTRAR + 2 * s.fld F.ZFB_ID_ALIGNED +
          (if (List.range 4).any (fun q => s.portState q == portForeign) then 4 else 0)) ++
        leBytes 4 (countIf (fun c => s.reachable c) (List.range 64)) ++ leBytes 4 (s.fld F.ZFB_TIME_OFS_THETA) ++
        leBytes 1 (s.portState 0) ++ leBytes 1 (s.portState 1) ++ leBytes 1 (s.portState 2) ++ leBytes 1 (s.portState 3) ++
        leBytes 8 s.zoant.registrar.toNat ++ leBytes 4 s.zoant.handovers.length ++ leBytes 4 0) s)) ∧
  (∀ (p : Packet) (s : State) (le : Nat) (o : HandoverNode) (l : List Handover), Served 8 [.service] p s → p.u32 0 < broadcastId →
    p.u8 4 < 64 → s.chipId ≠ some (p.u8 4) → p.u8 5 ≤ 16 →
    (p.u8 5 = 0 → le = 4) → (p.u8 5 ≠ 0 → le = p.u8 5) → p.dirty 6 2 = false → s.district ≠ 0 →
    s.chipId ≠ none → s.hoBarred (p.u32 0) = false → s.reachable (p.u8 4) = true → s.flag F.ZFB_ID_ALIGNED = true →
    entryBits (s.froute (p.u8 4)) 2 2 1 ≠ 0 → o = s.offerOf (p.u32 0) le →
    l = s.zoant.handovers ++ [
      { source := true, eui := o.eui, node := p.u32 0, other := p.u8 4, newId := 0, cell := 0, eh := 0, ehAnchor := 0,
        leaseEvents := le, cmd := some s.interp.nextSeq, ready := false, switched := false, committed := false,
        acked := false, plain := false, offer := none, reused := false, heardAt := s.now }] →
    exec (.fabHandover p) s = .next (sameQueue s
      (zoantSend (p.u8 4) 1 200 (.hoOffer o) { (defer (asOp 0xB003 p) s).2 with zoant.handovers := l }))) ∧
  (∀ (p : Fin 4) (s : State), exec (.zfbRetransmitTimeout p) s = .next (sameQueue s
    ((s.zoant.unacked.filter (fun u => s.retransPort u.frame == p.val && decide (u.sentAt + 24000 ≤ s.now) &&
      !s.waitsOut u.frame)).foldl
      (fun s u => retransmit u s) s))) ∧
  (∀ s : State, s.zoant.syncAt ≤ s.now → s.inMode [.ember] = false →
    exec .syncTx s = .next (sameQueue s ((List.range 4).foldl syncPort { s with zoant.syncAt := s.now + 120000 }))) ∧
  (∀ s : State, s.zoant.renewAt ≤ s.now → s.coresWork = true →
    exec .leaseRenew s = .next (sameQueue s (s.leasePeers.foldl (fun s c => zoantSend c 1 0 .leaseRenew s)
      { s with zoant.renewAt := s.now + s.leaseTmo / 4 }))) ∧
  (∀ (chip : Fin 64) (s t : State) (owner : Nat) (ctx : Bool) (hos : List Handover), owner = 0x40 + chip.val →
    ctx = (decide (s.zoant.ctxHeard.get 0 chip.val + s.leaseTmo ≤ s.now) && (s.ctxOf owner).isSome) →
    hos = s.zoant.handovers.filter (fun h => h.other == chip.val && decide (h.heardAt + s.leaseTmo ≤ s.now)) →
    t = (if ctx then resVanishAll 4 owner owner (abandonOf 4 owner owner s) else s) →
    (ctx = false → hos = [] → exec (.leaseExpired chip) s = .next s) ∧
    (ctx = true ∨ hos ≠ [] → exec (.leaseExpired chip) s = .next (sameQueue s
      (post 27 sevRecovered 0x110A (arg1 chip.val) (hos.foldl (fun s h => handoverExpired h s) t)))))

end
end

