-- ==== Sys2Proof/Laws/Sparse.lean ====
section
/-! SUPPORT. Laws of the sparse tables: what a read gives after a write, and the canonical form. -/

namespace Sys2Proof.Sparse

variable {α : Type}

@[simp] theorem get_nil (d : α) (i : Nat) : get d [] i = d := rfl

theorem get_insert_same (d v : α) (m : Sparse α) (i : Nat) : get d (insert i v m) i = v := by
  induction m with
  | nil => simp [insert, get]
  | cons e m ih =>
    obtain ⟨k, w⟩ := e
    simp only [insert]
    split
    · simp [get]
    · split
      · simp [get]
      · rename_i h _
        simp [get, h, ih]

theorem get_insert_other (d v : α) (m : Sparse α) {i j : Nat} (h : j ≠ i) :
    get d (insert i v m) j = get d m j := by
  induction m with
  | nil => simp [insert, get, h]
  | cons e m ih =>
    obtain ⟨k, w⟩ := e
    simp only [insert]
    split
    · rename_i hk
      simp [get, h, hk ▸ h]
    · split
      · simp [get, h]
      · simp [get, ih]

theorem get_filter_same (d : α) (m : Sparse α) (i : Nat) : get d (m.filter (fun e => e.1 != i)) i = d := by
  induction m with
  | nil => rfl
  | cons e m ih =>
    obtain ⟨k, w⟩ := e
    by_cases hk : k = i
    · subst hk; simpa using ih
    · simp [hk, get, Ne.symm hk, ih]

theorem get_filter_other (d : α) (m : Sparse α) {i j : Nat} (h : j ≠ i) :
    get d (m.filter (fun e => e.1 != i)) j = get d m j := by
  induction m with
  | nil => rfl
  | cons e m ih =>
    obtain ⟨k, w⟩ := e
    by_cases hk : k = i
    · subst hk; simp [get, h, ih]
    · simp [hk, get, ih]

variable [DecidableEq α]

/-- A read of the entry written gives the value written. -/
@[simp] theorem get_set_same (d v : α) (m : Sparse α) (i : Nat) : get d (set d m i v) i = v := by
  unfold set
  split
  · rename_i h; rw [get_filter_same, h]
  · exact get_insert_same d v m i

/-- A write leaves every other entry as it was. -/
theorem get_set_other (d v : α) (m : Sparse α) {i j : Nat} (h : j ≠ i) : get d (set d m i v) j = get d m j := by
  unfold set
  split
  · exact get_filter_other d m h
  · exact get_insert_other d v m h

theorem wf_cons (d : α) (k : Nat) (v : α) (m : Sparse α) :
    wf d ((k, v) :: m) = true ↔ v ≠ d ∧ (∀ e ∈ m, k < e.1) ∧ wf d m = true := by
  simp [wf, List.all_eq_true, and_assoc]

omit [DecidableEq α] in
theorem mem_insert {i : Nat} {v : α} {m : Sparse α} {e : Nat × α} (h : e ∈ insert i v m) : e = (i, v) ∨ e ∈ m := by
  induction m with
  | nil => simpa [insert] using h
  | cons f m ih =>
    obtain ⟨k, w⟩ := f
    simp only [insert] at h
    split at h
    · rcases List.mem_cons.mp h with h | h
      · exact .inl h
      · exact .inr (List.mem_cons_of_mem _ h)
    · split at h
      · rcases List.mem_cons.mp h with h | h
        · exact .inl h
        · exact .inr h
      · rcases List.mem_cons.mp h with h | h
        · exact .inr (h ▸ List.mem_cons_self)
        · rcases ih h with h | h
          · exact .inl h
          · exact .inr (List.mem_cons_of_mem _ h)

theorem wf_insert {d v : α} {m : Sparse α} {i : Nat} (hv : v ≠ d) (h : wf d m = true) :
    wf d (insert i v m) = true := by
  induction m with
  | nil => simp [insert, wf, hv]
  | cons e m ih =>
    obtain ⟨k, w⟩ := e
    obtain ⟨hw, hk, hm⟩ := (wf_cons d k w m).mp h
    simp only [insert]
    split
    · rename_i e; exact (wf_cons d i v m).mpr ⟨hv, fun x hx => e ▸ hk x hx, hm⟩
    · split
      · rename_i hi
        refine (wf_cons ..).mpr ⟨hv, fun x hx => ?_, h⟩
        rcases List.mem_cons.mp hx with rfl | hx
        · exact hi
        · exact Nat.lt_trans hi (hk x hx)
      · rename_i hn hl
        refine (wf_cons ..).mpr ⟨hw, fun x hx => ?_, ih hm⟩
        rcases mem_insert hx with rfl | hx
        · show k < i
          omega
        · exact hk x hx

theorem wf_filter {d : α} {m : Sparse α} (f : Nat × α → Bool) (h : wf d m = true) : wf d (m.filter f) = true := by
  induction m with
  | nil => rfl
  | cons e m ih =>
    obtain ⟨k, w⟩ := e
    obtain ⟨hw, hk, hm⟩ := (wf_cons d k w m).mp h
    rw [List.filter_cons]
    split
    · exact (wf_cons ..).mpr ⟨hw, fun x hx => hk x (List.mem_filter.mp hx).1, ih hm⟩
    · exact ih hm

/-- A write keeps the canonical form. -/
theorem wf_set {d v : α} {m : Sparse α} {i : Nat} (h : wf d m = true) : wf d (set d m i v) = true := by
  unfold set
  split
  · exact wf_filter _ h
  · rename_i hv; exact wf_insert hv h

/-- So does a write of a run. -/
theorem wf_setRun {d : α} {m : Sparse α} (vs : List α) (i : Nat) (h : wf d m = true) :
    wf d (setRun d m i vs) = true := by
  induction vs generalizing m i with
  | nil => exact h
  | cons v vs ih => exact ih (i + 1) (wf_set h)

/-- A write of a run leaves the entries outside it as they were. -/
theorem get_setRun_outside (d : α) (m : Sparse α) (vs : List α) (i j : Nat) (h : j < i ∨ i + vs.length ≤ j) :
    get d (setRun d m i vs) j = get d m j := by
  induction vs generalizing m i with
  | nil => rfl
  | cons v vs ih =>
    simp only [List.length_cons] at h
    show get d (setRun d (set d m i v) (i + 1) vs) j = get d m j
    rw [ih (set d m i v) (i + 1) (by omega), get_set_other d v m (by omega)]

end Sys2Proof.Sparse
end

