-- ==== Sys2Proof/Laws/State.lean ====
section
/-! SUPPORT. What each named operation leaves of the state: one lemma per field per update, and the values of
registers and fields after a write. -/

namespace Sys2Proof.Machine

/-! ### Fields of a word -/

theorem Field.write_toNat (f : Field) (v : Nat) (w : Word) (h : f.lo + f.width ≤ 32) :
    (f.write v w).toNat = w.toNat % 2 ^ f.lo + v % 2 ^ f.width * 2 ^ f.lo +
      w.toNat / 2 ^ (f.lo + f.width) * 2 ^ (f.lo + f.width) := by
  have hw := w.isLt
  have e1 : w.toNat = w.toNat % 2 ^ f.lo + 2 ^ f.lo * (w.toNat / 2 ^ f.lo) := (Nat.mod_add_div _ _).symm
  have e2 : w.toNat / 2 ^ f.lo = w.toNat / 2 ^ f.lo % 2 ^ f.width +
      2 ^ f.width * (w.toNat / 2 ^ f.lo / 2 ^ f.width) := (Nat.mod_add_div _ _).symm
  have e3 : w.toNat / 2 ^ f.lo / 2 ^ f.width = w.toNat / 2 ^ (f.lo + f.width) := by
    rw [Nat.div_div_eq_div_mul, Nat.pow_add]
  have hv : v % 2 ^ f.width < 2 ^ f.width := Nat.mod_lt _ (Nat.two_pow_pos _)
  have hl : w.toNat % 2 ^ f.lo < 2 ^ f.lo := Nat.mod_lt _ (Nat.two_pow_pos _)
  rw [e3] at e2
  have hp : 2 ^ (f.lo + f.width) = 2 ^ f.lo * 2 ^ f.width := Nat.pow_add ..
  have hs : w.toNat - f.read w * 2 ^ f.lo + v % 2 ^ f.width * 2 ^ f.lo =
      w.toNat % 2 ^ f.lo + v % 2 ^ f.width * 2 ^ f.lo +
        w.toNat / 2 ^ (f.lo + f.width) * 2 ^ (f.lo + f.width) := by
    have : w.toNat = w.toNat % 2 ^ f.lo + (w.toNat / 2 ^ f.lo % 2 ^ f.width) * 2 ^ f.lo +
        w.toNat / 2 ^ (f.lo + f.width) * 2 ^ (f.lo + f.width) := by
      conv => lhs; rw [e1, e2]
      rw [hp, Nat.mul_add, ← Nat.mul_assoc, Nat.mul_comm (2 ^ f.lo) (w.toNat / 2 ^ f.lo % 2 ^ f.width),
        Nat.mul_comm (2 ^ f.lo * 2 ^ f.width), Nat.add_assoc]
    unfold Field.read
    omega
  show (BitVec.ofNat 32 (2 ^ f.lo * (v % 2 ^ f.width) + (w.toNat - 2 ^ f.lo * f.read w))).toNat = _
  rw [Nat.add_comm, Nat.mul_comm (2 ^ f.lo) (f.read w), Nat.mul_comm (2 ^ f.lo) (v % 2 ^ f.width), hs, BitVec.toNat_ofNat, Nat.mod_eq_of_lt]
  -- the new word is below 2^32
  have hd : w.toNat / 2 ^ (f.lo + f.width) < 2 ^ (32 - (f.lo + f.width)) := by
    rw [Nat.div_lt_iff_lt_mul (Nat.two_pow_pos _), ← Nat.pow_add]
    exact Nat.lt_of_lt_of_le hw (Nat.pow_le_pow_right (by omega) (by omega))
  have hm : w.toNat % 2 ^ f.lo + v % 2 ^ f.width * 2 ^ f.lo < 2 ^ (f.lo + f.width) := by
    have := Nat.mul_le_mul_right (2 ^ f.lo) (Nat.succ_le_of_lt hv)
    rw [Nat.succ_mul] at this
    rw [hp, Nat.mul_comm (2 ^ f.lo)]
    omega
  have := Nat.mul_le_mul_right (2 ^ (f.lo + f.width)) (Nat.succ_le_of_lt hd)
  rw [Nat.succ_mul, ← Nat.pow_add] at this
  have h32 : 32 - (f.lo + f.width) + (f.lo + f.width) = 32 := by omega
  rw [h32] at this
  omega

/-- A field read after it was written. -/
theorem Field.read_write_same (f : Field) (v : Nat) (w : Word) (h : f.lo + f.width ≤ 32) :
    f.read (f.write v w) = v % 2 ^ f.width := by
  have hl : w.toNat % 2 ^ f.lo < 2 ^ f.lo := Nat.mod_lt _ (Nat.two_pow_pos _)
  have hp : 2 ^ (f.lo + f.width) = 2 ^ f.width * 2 ^ f.lo := by rw [Nat.pow_add, Nat.mul_comm]
  unfold Field.read
  rw [Field.write_toNat f v w h, hp]
  have : w.toNat % 2 ^ f.lo + v % 2 ^ f.width * 2 ^ f.lo + w.toNat / (2 ^ f.width * 2 ^ f.lo) * (2 ^ f.width * 2 ^ f.lo) =
      w.toNat % 2 ^ f.lo + (v % 2 ^ f.width + 2 ^ f.width * (w.toNat / (2 ^ f.width * 2 ^ f.lo))) * 2 ^ f.lo := by
    rw [Nat.add_mul, ← Nat.add_assoc, Nat.mul_comm (w.toNat / _) _, Nat.mul_right_comm]
  rw [this, Nat.add_mul_div_right _ _ (Nat.two_pow_pos _), Nat.div_eq_of_lt hl, Nat.zero_add,
    Nat.add_mul_mod_self_left, Nat.mod_mod]

theorem Field.write_bit (f : Field) (v : Nat) (w : Word) (h : f.lo + f.width ≤ 32) (i : Nat) :
    (f.write v w).toNat.testBit i =
      if f.lo ≤ i ∧ i < f.lo + f.width then v.testBit (i - f.lo) else w.toNat.testBit i := by
  have hl : w.toNat % 2 ^ f.lo < 2 ^ f.lo := Nat.mod_lt _ (Nat.two_pow_pos _)
  have hv : v % 2 ^ f.width < 2 ^ f.width := Nat.mod_lt _ (Nat.two_pow_pos _)
  have hm : w.toNat % 2 ^ f.lo + v % 2 ^ f.width * 2 ^ f.lo < 2 ^ (f.lo + f.width) := by
    have := Nat.mul_le_mul_right (2 ^ f.lo) (Nat.succ_le_of_lt hv)
    rw [Nat.succ_mul] at this
    rw [Nat.pow_add, Nat.mul_comm (2 ^ f.lo)]
    omega
  rw [Field.write_toNat f v w h]
  rw [Nat.add_comm (_ + _) (_ * _), Nat.mul_comm (w.toNat / _), Nat.testBit_two_pow_mul_add _ hm]
  by_cases h1 : i < f.lo + f.width
  · rw [if_pos h1, Nat.add_comm, Nat.mul_comm, Nat.testBit_two_pow_mul_add _ hl]
    by_cases h2 : i < f.lo
    · rw [if_pos h2, if_neg (by omega), Nat.testBit_mod_two_pow]; simp [h2]
    · rw [if_neg h2, if_pos (by omega), Nat.testBit_mod_two_pow]
      simp [show i - f.lo < f.width by omega]
  · rw [if_neg h1, if_neg (by omega), Nat.testBit_div_two_pow]
    congr 1
    omega

/-- A field read after another field of the word was written. -/
theorem Field.read_write_other (f g : Field) (v : Nat) (w : Word) (h : f.lo + f.width ≤ 32)
    (hd : g.lo + g.width ≤ f.lo ∨ f.lo + f.width ≤ g.lo) : g.read (f.write v w) = g.read w := by
  apply Nat.eq_of_testBit_eq
  intro i
  unfold Field.read
  rw [Nat.testBit_mod_two_pow, Nat.testBit_mod_two_pow, Nat.testBit_div_two_pow, Nat.testBit_div_two_pow,
    Field.write_bit f v w h]
  by_cases hi : i < g.width
  · rw [if_neg (by omega)]
  · simp [hi]

/-! ### Registers -/

@[simp] theorem State.word_setWord_same (s : State) (off : Nat) (v : Word) : (s.setWord off v).word off = v := by
  simp [State.word, State.setWord]

theorem State.word_setWord_other (s : State) {off o : Nat} (v : Word) (h : o ≠ off) :
    (s.setWord off v).word o = s.word o := by
  simp [State.word, State.setWord, Sparse.get_set_other _ _ _ h]

@[simp] theorem State.word_setFld_same (s : State) (f : Field) (v : Nat) :
    (s.setFld f v).word f.off = f.write v (s.word f.off) := by
  simp [State.setFld]

/-- A write of a field leaves every other register as it was. -/
theorem State.word_setFld_other (s : State) (f : Field) (v : Nat) {o : Nat} (h : o ≠ f.off) :
    (s.setFld f v).word o = s.word o := State.word_setWord_other s _ h

/-- A field holds what was written, cut to its width. -/
theorem State.fld_setFld_same (s : State) (f : Field) (v : Nat) (h : f.lo + f.width ≤ 32) :
    (s.setFld f v).fld f = v % 2 ^ f.width := by
  unfold State.fld
  rw [State.word_setFld_same, Field.read_write_same f v _ h]

/-- A write of a field leaves the fields of other registers as they were. -/
theorem State.fld_setFld_off (s : State) (f g : Field) (v : Nat) (h : g.off ≠ f.off) :
    (s.setFld f v).fld g = s.fld g := by
  unfold State.fld
  rw [State.word_setFld_other s f v h]

/-- A write of a field leaves the other fields of its register as they were. -/
theorem State.fld_setFld_bits (s : State) (f g : Field) (v : Nat) (h : f.lo + f.width ≤ 32) (ho : g.off = f.off)
    (hd : g.lo + g.width ≤ f.lo ∨ f.lo + f.width ≤ g.lo) : (s.setFld f v).fld g = s.fld g := by
  unfold State.fld
  rw [ho, State.word_setFld_same, Field.read_write_other f g v _ h hd]

/-- Two fields that share no bit. -/
def Field.apart (f g : Field) : Bool :=
  g.off != f.off || (f.lo + f.width ≤ 32 && (g.lo + g.width ≤ f.lo || f.lo + f.width ≤ g.lo))

/-- A write of a field leaves every field that shares no bit with it as it was. -/
theorem State.fld_setFld_apart (s : State) (f g : Field) (v : Nat) (h : f.apart g = true) :
    (s.setFld f v).fld g = s.fld g := by
  by_cases ho : g.off = f.off
  · simp only [Field.apart, ho, bne_self_eq_false, Bool.false_or, Bool.and_eq_true, Bool.or_eq_true,
      decide_eq_true_eq] at h
    exact State.fld_setFld_bits s f g v h.1 ho h.2
  · exact State.fld_setFld_off s f g v ho

/-- A register write keeps the canonical form of the register table. -/
theorem State.setWord_wf (s : State) (off : Nat) (v : Word) (h : Sparse.wf 0 s.csr = true) :
    Sparse.wf 0 (s.setWord off v).csr = true := Sparse.wf_set h

/-! ### What the operations leave -/

@[simp] theorem State.setWord_interp (s : State) (off : Nat) (v : Word) : (s.setWord off v).interp = s.interp := rfl
@[simp] theorem State.setWord_cal (s : State) (off : Nat) (v : Word) : (s.setWord off v).cal = s.cal := rfl
@[simp] theorem State.setWord_timers (s : State) (off : Nat) (v : Word) : (s.setWord off v).timers = s.timers := rfl
@[simp] theorem State.setWord_radio (s : State) (off : Nat) (v : Word) : (s.setWord off v).radio = s.radio := rfl
@[simp] theorem State.setWord_chz (s : State) (off : Nat) (v : Word) : (s.setWord off v).chz = s.chz := rfl
@[simp] theorem State.setWord_demod (s : State) (off : Nat) (v : Word) : (s.setWord off v).demod = s.demod := rfl
@[simp] theorem State.setWord_mac (s : State) (off : Nat) (v : Word) : (s.setWord off v).mac = s.mac := rfl
@[simp] theorem State.setWord_sched (s : State) (off : Nat) (v : Word) : (s.setWord off v).sched = s.sched := rfl
@[simp] theorem State.setWord_frames (s : State) (off : Nat) (v : Word) : (s.setWord off v).frames = s.frames := rfl
@[simp] theorem State.setWord_keys (s : State) (off : Nat) (v : Word) : (s.setWord off v).keys = s.keys := rfl
@[simp] theorem State.setWord_ledger (s : State) (off : Nat) (v : Word) : (s.setWord off v).ledger = s.ledger := rfl
@[simp] theorem State.setWord_bufs (s : State) (off : Nat) (v : Word) : (s.setWord off v).bufs = s.bufs := rfl
@[simp] theorem State.setWord_fwd (s : State) (off : Nat) (v : Word) : (s.setWord off v).fwd = s.fwd := rfl
@[simp] theorem State.setWord_camps (s : State) (off : Nat) (v : Word) : (s.setWord off v).camps = s.camps := rfl
@[simp] theorem State.setWord_zoant (s : State) (off : Nat) (v : Word) : (s.setWord off v).zoant = s.zoant := rfl
@[simp] theorem State.setWord_pairU (s : State) (off : Nat) (v : Word) : (s.setWord off v).pairU = s.pairU := rfl
@[simp] theorem State.setWord_host (s : State) (off : Nat) (v : Word) : (s.setWord off v).host = s.host := rfl
@[simp] theorem State.setWord_seq (s : State) (off : Nat) (v : Word) : (s.setWord off v).seq = s.seq := rfl
@[simp] theorem State.setWord_journal (s : State) (off : Nat) (v : Word) : (s.setWord off v).journal = s.journal := rfl
@[simp] theorem State.setWord_thermal (s : State) (off : Nat) (v : Word) : (s.setWord off v).thermal = s.thermal := rfl
@[simp] theorem State.setWord_rails (s : State) (off : Nat) (v : Word) : (s.setWord off v).rails = s.rails := rfl
@[simp] theorem State.setWord_otp (s : State) (off : Nat) (v : Word) : (s.setWord off v).otp = s.otp := rfl
@[simp] theorem State.setWord_dram (s : State) (off : Nat) (v : Word) : (s.setWord off v).dram = s.dram := rfl
@[simp] theorem State.setWord_dramBytes (s : State) (off : Nat) (v : Word) : (s.setWord off v).dramBytes = s.dramBytes := rfl
@[simp] theorem State.setWord_hostMem (s : State) (off : Nat) (v : Word) : (s.setWord off v).hostMem = s.hostMem := rfl
@[simp] theorem State.setWord_readData (s : State) (off : Nat) (v : Word) : (s.setWord off v).readData = s.readData := rfl
@[simp] theorem State.setWord_free (s : State) (off : Nat) (v : Word) : (s.setWord off v).free = s.free := rfl
@[simp] theorem State.setWord_pending (s : State) (off : Nat) (v : Word) : (s.setWord off v).pending = s.pending := rfl

@[simp] theorem State.setFld_interp (s : State) (f : Field) (v : Nat) : (s.setFld f v).interp = s.interp := rfl
@[simp] theorem State.setFld_cal (s : State) (f : Field) (v : Nat) : (s.setFld f v).cal = s.cal := rfl
@[simp] theorem State.setFld_timers (s : State) (f : Field) (v : Nat) : (s.setFld f v).timers = s.timers := rfl
@[simp] theorem State.setFld_radio (s : State) (f : Field) (v : Nat) : (s.setFld f v).radio = s.radio := rfl
@[simp] theorem State.setFld_chz (s : State) (f : Field) (v : Nat) : (s.setFld f v).chz = s.chz := rfl
@[simp] theorem State.setFld_demod (s : State) (f : Field) (v : Nat) : (s.setFld f v).demod = s.demod := rfl
@[simp] theorem State.setFld_mac (s : State) (f : Field) (v : Nat) : (s.setFld f v).mac = s.mac := rfl
@[simp] theorem State.setFld_sched (s : State) (f : Field) (v : Nat) : (s.setFld f v).sched = s.sched := rfl
@[simp] theorem State.setFld_frames (s : State) (f : Field) (v : Nat) : (s.setFld f v).frames = s.frames := rfl
@[simp] theorem State.setFld_keys (s : State) (f : Field) (v : Nat) : (s.setFld f v).keys = s.keys := rfl
@[simp] theorem State.setFld_ledger (s : State) (f : Field) (v : Nat) : (s.setFld f v).ledger = s.ledger := rfl
@[simp] theorem State.setFld_bufs (s : State) (f : Field) (v : Nat) : (s.setFld f v).bufs = s.bufs := rfl
@[simp] theorem State.setFld_fwd (s : State) (f : Field) (v : Nat) : (s.setFld f v).fwd = s.fwd := rfl
@[simp] theorem State.setFld_camps (s : State) (f : Field) (v : Nat) : (s.setFld f v).camps = s.camps := rfl
@[simp] theorem State.setFld_zoant (s : State) (f : Field) (v : Nat) : (s.setFld f v).zoant = s.zoant := rfl
@[simp] theorem State.setFld_pairU (s : State) (f : Field) (v : Nat) : (s.setFld f v).pairU = s.pairU := rfl
@[simp] theorem State.setFld_host (s : State) (f : Field) (v : Nat) : (s.setFld f v).host = s.host := rfl
@[simp] theorem State.setFld_seq (s : State) (f : Field) (v : Nat) : (s.setFld f v).seq = s.seq := rfl
@[simp] theorem State.setFld_journal (s : State) (f : Field) (v : Nat) : (s.setFld f v).journal = s.journal := rfl
@[simp] theorem State.setFld_thermal (s : State) (f : Field) (v : Nat) : (s.setFld f v).thermal = s.thermal := rfl
@[simp] theorem State.setFld_rails (s : State) (f : Field) (v : Nat) : (s.setFld f v).rails = s.rails := rfl
@[simp] theorem State.setFld_otp (s : State) (f : Field) (v : Nat) : (s.setFld f v).otp = s.otp := rfl
@[simp] theorem State.setFld_dram (s : State) (f : Field) (v : Nat) : (s.setFld f v).dram = s.dram := rfl
@[simp] theorem State.setFld_dramBytes (s : State) (f : Field) (v : Nat) : (s.setFld f v).dramBytes = s.dramBytes := rfl
@[simp] theorem State.setFld_hostMem (s : State) (f : Field) (v : Nat) : (s.setFld f v).hostMem = s.hostMem := rfl
@[simp] theorem State.setFld_readData (s : State) (f : Field) (v : Nat) : (s.setFld f v).readData = s.readData := rfl
@[simp] theorem State.setFld_free (s : State) (f : Field) (v : Nat) : (s.setFld f v).free = s.free := rfl
@[simp] theorem State.setFld_pending (s : State) (f : Field) (v : Nat) : (s.setFld f v).pending = s.pending := rfl

@[simp] theorem State.setFlag_interp (s : State) (f : Field) (b : Bool) : (s.setFlag f b).interp = s.interp := rfl
@[simp] theorem State.setFlag_cal (s : State) (f : Field) (b : Bool) : (s.setFlag f b).cal = s.cal := rfl
@[simp] theorem State.setFlag_timers (s : State) (f : Field) (b : Bool) : (s.setFlag f b).timers = s.timers := rfl
@[simp] theorem State.setFlag_radio (s : State) (f : Field) (b : Bool) : (s.setFlag f b).radio = s.radio := rfl
@[simp] theorem State.setFlag_chz (s : State) (f : Field) (b : Bool) : (s.setFlag f b).chz = s.chz := rfl
@[simp] theorem State.setFlag_demod (s : State) (f : Field) (b : Bool) : (s.setFlag f b).demod = s.demod := rfl
@[simp] theorem State.setFlag_mac (s : State) (f : Field) (b : Bool) : (s.setFlag f b).mac = s.mac := rfl
@[simp] theorem State.setFlag_sched (s : State) (f : Field) (b : Bool) : (s.setFlag f b).sched = s.sched := rfl
@[simp] theorem State.setFlag_frames (s : State) (f : Field) (b : Bool) : (s.setFlag f b).frames = s.frames := rfl
@[simp] theorem State.setFlag_keys (s : State) (f : Field) (b : Bool) : (s.setFlag f b).keys = s.keys := rfl
@[simp] theorem State.setFlag_ledger (s : State) (f : Field) (b : Bool) : (s.setFlag f b).ledger = s.ledger := rfl
@[simp] theorem State.setFlag_bufs (s : State) (f : Field) (b : Bool) : (s.setFlag f b).bufs = s.bufs := rfl
@[simp] theorem State.setFlag_fwd (s : State) (f : Field) (b : Bool) : (s.setFlag f b).fwd = s.fwd := rfl
@[simp] theorem State.setFlag_camps (s : State) (f : Field) (b : Bool) : (s.setFlag f b).camps = s.camps := rfl
@[simp] theorem State.setFlag_zoant (s : State) (f : Field) (b : Bool) : (s.setFlag f b).zoant = s.zoant := rfl
@[simp] theorem State.setFlag_pairU (s : State) (f : Field) (b : Bool) : (s.setFlag f b).pairU = s.pairU := rfl
@[simp] theorem State.setFlag_host (s : State) (f : Field) (b : Bool) : (s.setFlag f b).host = s.host := rfl
@[simp] theorem State.setFlag_seq (s : State) (f : Field) (b : Bool) : (s.setFlag f b).seq = s.seq := rfl
@[simp] theorem State.setFlag_journal (s : State) (f : Field) (b : Bool) : (s.setFlag f b).journal = s.journal := rfl
@[simp] theorem State.setFlag_thermal (s : State) (f : Field) (b : Bool) : (s.setFlag f b).thermal = s.thermal := rfl
@[simp] theorem State.setFlag_rails (s : State) (f : Field) (b : Bool) : (s.setFlag f b).rails = s.rails := rfl
@[simp] theorem State.setFlag_otp (s : State) (f : Field) (b : Bool) : (s.setFlag f b).otp = s.otp := rfl
@[simp] theorem State.setFlag_dram (s : State) (f : Field) (b : Bool) : (s.setFlag f b).dram = s.dram := rfl
@[simp] theorem State.setFlag_dramBytes (s : State) (f : Field) (b : Bool) : (s.setFlag f b).dramBytes = s.dramBytes := rfl
@[simp] theorem State.setFlag_hostMem (s : State) (f : Field) (b : Bool) : (s.setFlag f b).hostMem = s.hostMem := rfl
@[simp] theorem State.setFlag_readData (s : State) (f : Field) (b : Bool) : (s.setFlag f b).readData = s.readData := rfl
@[simp] theorem State.setFlag_free (s : State) (f : Field) (b : Bool) : (s.setFlag f b).free = s.free := rfl
@[simp] theorem State.setFlag_pending (s : State) (f : Field) (b : Bool) : (s.setFlag f b).pending = s.pending := rfl

@[simp] theorem State.count_interp (s : State) (f : Field) (n : Nat) : (s.count f n).interp = s.interp := rfl
@[simp] theorem State.count_cal (s : State) (f : Field) (n : Nat) : (s.count f n).cal = s.cal := rfl
@[simp] theorem State.count_timers (s : State) (f : Field) (n : Nat) : (s.count f n).timers = s.timers := rfl
@[simp] theorem State.count_radio (s : State) (f : Field) (n : Nat) : (s.count f n).radio = s.radio := rfl
@[simp] theorem State.count_chz (s : State) (f : Field) (n : Nat) : (s.count f n).chz = s.chz := rfl
@[simp] theorem State.count_demod (s : State) (f : Field) (n : Nat) : (s.count f n).demod = s.demod := rfl
@[simp] theorem State.count_mac (s : State) (f : Field) (n : Nat) : (s.count f n).mac = s.mac := rfl
@[simp] theorem State.count_sched (s : State) (f : Field) (n : Nat) : (s.count f n).sched = s.sched := rfl
@[simp] theorem State.count_frames (s : State) (f : Field) (n : Nat) : (s.count f n).frames = s.frames := rfl
@[simp] theorem State.count_keys (s : State) (f : Field) (n : Nat) : (s.count f n).keys = s.keys := rfl
@[simp] theorem State.count_ledger (s : State) (f : Field) (n : Nat) : (s.count f n).ledger = s.ledger := rfl
@[simp] theorem State.count_bufs (s : State) (f : Field) (n : Nat) : (s.count f n).bufs = s.bufs := rfl
@[simp] theorem State.count_fwd (s : State) (f : Field) (n : Nat) : (s.count f n).fwd = s.fwd := rfl
@[simp] theorem State.count_camps (s : State) (f : Field) (n : Nat) : (s.count f n).camps = s.camps := rfl
@[simp] theorem State.count_zoant (s : State) (f : Field) (n : Nat) : (s.count f n).zoant = s.zoant := rfl
@[simp] theorem State.count_pairU (s : State) (f : Field) (n : Nat) : (s.count f n).pairU = s.pairU := rfl
@[simp] theorem State.count_host (s : State) (f : Field) (n : Nat) : (s.count f n).host = s.host := rfl
@[simp] theorem State.count_seq (s : State) (f : Field) (n : Nat) : (s.count f n).seq = s.seq := rfl
@[simp] theorem State.count_journal (s : State) (f : Field) (n : Nat) : (s.count f n).journal = s.journal := rfl
@[simp] theorem State.count_thermal (s : State) (f : Field) (n : Nat) : (s.count f n).thermal = s.thermal := rfl
@[simp] theorem State.count_rails (s : State) (f : Field) (n : Nat) : (s.count f n).rails = s.rails := rfl
@[simp] theorem State.count_otp (s : State) (f : Field) (n : Nat) : (s.count f n).otp = s.otp := rfl
@[simp] theorem State.count_dram (s : State) (f : Field) (n : Nat) : (s.count f n).dram = s.dram := rfl
@[simp] theorem State.count_dramBytes (s : State) (f : Field) (n : Nat) : (s.count f n).dramBytes = s.dramBytes := rfl
@[simp] theorem State.count_hostMem (s : State) (f : Field) (n : Nat) : (s.count f n).hostMem = s.hostMem := rfl
@[simp] theorem State.count_readData (s : State) (f : Field) (n : Nat) : (s.count f n).readData = s.readData := rfl
@[simp] theorem State.count_free (s : State) (f : Field) (n : Nat) : (s.count f n).free = s.free := rfl
@[simp] theorem State.count_pending (s : State) (f : Field) (n : Nat) : (s.count f n).pending = s.pending := rfl

@[simp] theorem State.wrapCount_interp (s : State) (f : Field) (n : Nat) : (s.wrapCount f n).interp = s.interp := rfl
@[simp] theorem State.wrapCount_cal (s : State) (f : Field) (n : Nat) : (s.wrapCount f n).cal = s.cal := rfl
@[simp] theorem State.wrapCount_timers (s : State) (f : Field) (n : Nat) : (s.wrapCount f n).timers = s.timers := rfl
@[simp] theorem State.wrapCount_radio (s : State) (f : Field) (n : Nat) : (s.wrapCount f n).radio = s.radio := rfl
@[simp] theorem State.wrapCount_chz (s : State) (f : Field) (n : Nat) : (s.wrapCount f n).chz = s.chz := rfl
@[simp] theorem State.wrapCount_demod (s : State) (f : Field) (n : Nat) : (s.wrapCount f n).demod = s.demod := rfl
@[simp] theorem State.wrapCount_mac (s : State) (f : Field) (n : Nat) : (s.wrapCount f n).mac = s.mac := rfl
@[simp] theorem State.wrapCount_sched (s : State) (f : Field) (n : Nat) : (s.wrapCount f n).sched = s.sched := rfl
@[simp] theorem State.wrapCount_frames (s : State) (f : Field) (n : Nat) : (s.wrapCount f n).frames = s.frames := rfl
@[simp] theorem State.wrapCount_keys (s : State) (f : Field) (n : Nat) : (s.wrapCount f n).keys = s.keys := rfl
@[simp] theorem State.wrapCount_ledger (s : State) (f : Field) (n : Nat) : (s.wrapCount f n).ledger = s.ledger := rfl
@[simp] theorem State.wrapCount_bufs (s : State) (f : Field) (n : Nat) : (s.wrapCount f n).bufs = s.bufs := rfl
@[simp] theorem State.wrapCount_fwd (s : State) (f : Field) (n : Nat) : (s.wrapCount f n).fwd = s.fwd := rfl
@[simp] theorem State.wrapCount_camps (s : State) (f : Field) (n : Nat) : (s.wrapCount f n).camps = s.camps := rfl
@[simp] theorem State.wrapCount_zoant (s : State) (f : Field) (n : Nat) : (s.wrapCount f n).zoant = s.zoant := rfl
@[simp] theorem State.wrapCount_pairU (s : State) (f : Field) (n : Nat) : (s.wrapCount f n).pairU = s.pairU := rfl
@[simp] theorem State.wrapCount_host (s : State) (f : Field) (n : Nat) : (s.wrapCount f n).host = s.host := rfl
@[simp] theorem State.wrapCount_seq (s : State) (f : Field) (n : Nat) : (s.wrapCount f n).seq = s.seq := rfl
@[simp] theorem State.wrapCount_journal (s : State) (f : Field) (n : Nat) : (s.wrapCount f n).journal = s.journal := rfl
@[simp] theorem State.wrapCount_thermal (s : State) (f : Field) (n : Nat) : (s.wrapCount f n).thermal = s.thermal := rfl
@[simp] theorem State.wrapCount_rails (s : State) (f : Field) (n : Nat) : (s.wrapCount f n).rails = s.rails := rfl
@[simp] theorem State.wrapCount_otp (s : State) (f : Field) (n : Nat) : (s.wrapCount f n).otp = s.otp := rfl
@[simp] theorem State.wrapCount_dram (s : State) (f : Field) (n : Nat) : (s.wrapCount f n).dram = s.dram := rfl
@[simp] theorem State.wrapCount_dramBytes (s : State) (f : Field) (n : Nat) : (s.wrapCount f n).dramBytes = s.dramBytes := rfl
@[simp] theorem State.wrapCount_hostMem (s : State) (f : Field) (n : Nat) : (s.wrapCount f n).hostMem = s.hostMem := rfl
@[simp] theorem State.wrapCount_readData (s : State) (f : Field) (n : Nat) : (s.wrapCount f n).readData = s.readData := rfl
@[simp] theorem State.wrapCount_free (s : State) (f : Field) (n : Nat) : (s.wrapCount f n).free = s.free := rfl
@[simp] theorem State.wrapCount_pending (s : State) (f : Field) (n : Nat) : (s.wrapCount f n).pending = s.pending := rfl

@[simp] theorem State.uncount_interp (s : State) (f : Field) (n : Nat) : (s.uncount f n).interp = s.interp := rfl
@[simp] theorem State.uncount_cal (s : State) (f : Field) (n : Nat) : (s.uncount f n).cal = s.cal := rfl
@[simp] theorem State.uncount_timers (s : State) (f : Field) (n : Nat) : (s.uncount f n).timers = s.timers := rfl
@[simp] theorem State.uncount_radio (s : State) (f : Field) (n : Nat) : (s.uncount f n).radio = s.radio := rfl
@[simp] theorem State.uncount_chz (s : State) (f : Field) (n : Nat) : (s.uncount f n).chz = s.chz := rfl
@[simp] theorem State.uncount_demod (s : State) (f : Field) (n : Nat) : (s.uncount f n).demod = s.demod := rfl
@[simp] theorem State.uncount_mac (s : State) (f : Field) (n : Nat) : (s.uncount f n).mac = s.mac := rfl
@[simp] theorem State.uncount_sched (s : State) (f : Field) (n : Nat) : (s.uncount f n).sched = s.sched := rfl
@[simp] theorem State.uncount_frames (s : State) (f : Field) (n : Nat) : (s.uncount f n).frames = s.frames := rfl
@[simp] theorem State.uncount_keys (s : State) (f : Field) (n : Nat) : (s.uncount f n).keys = s.keys := rfl
@[simp] theorem State.uncount_ledger (s : State) (f : Field) (n : Nat) : (s.uncount f n).ledger = s.ledger := rfl
@[simp] theorem State.uncount_bufs (s : State) (f : Field) (n : Nat) : (s.uncount f n).bufs = s.bufs := rfl
@[simp] theorem State.uncount_fwd (s : State) (f : Field) (n : Nat) : (s.uncount f n).fwd = s.fwd := rfl
@[simp] theorem State.uncount_camps (s : State) (f : Field) (n : Nat) : (s.uncount f n).camps = s.camps := rfl
@[simp] theorem State.uncount_zoant (s : State) (f : Field) (n : Nat) : (s.uncount f n).zoant = s.zoant := rfl
@[simp] theorem State.uncount_pairU (s : State) (f : Field) (n : Nat) : (s.uncount f n).pairU = s.pairU := rfl
@[simp] theorem State.uncount_host (s : State) (f : Field) (n : Nat) : (s.uncount f n).host = s.host := rfl
@[simp] theorem State.uncount_seq (s : State) (f : Field) (n : Nat) : (s.uncount f n).seq = s.seq := rfl
@[simp] theorem State.uncount_journal (s : State) (f : Field) (n : Nat) : (s.uncount f n).journal = s.journal := rfl
@[simp] theorem State.uncount_thermal (s : State) (f : Field) (n : Nat) : (s.uncount f n).thermal = s.thermal := rfl
@[simp] theorem State.uncount_rails (s : State) (f : Field) (n : Nat) : (s.uncount f n).rails = s.rails := rfl
@[simp] theorem State.uncount_otp (s : State) (f : Field) (n : Nat) : (s.uncount f n).otp = s.otp := rfl
@[simp] theorem State.uncount_dram (s : State) (f : Field) (n : Nat) : (s.uncount f n).dram = s.dram := rfl
@[simp] theorem State.uncount_dramBytes (s : State) (f : Field) (n : Nat) : (s.uncount f n).dramBytes = s.dramBytes := rfl
@[simp] theorem State.uncount_hostMem (s : State) (f : Field) (n : Nat) : (s.uncount f n).hostMem = s.hostMem := rfl
@[simp] theorem State.uncount_readData (s : State) (f : Field) (n : Nat) : (s.uncount f n).readData = s.readData := rfl
@[simp] theorem State.uncount_free (s : State) (f : Field) (n : Nat) : (s.uncount f n).free = s.free := rfl
@[simp] theorem State.uncount_pending (s : State) (f : Field) (n : Nat) : (s.uncount f n).pending = s.pending := rfl

@[simp] theorem State.setBit_interp (s : State) (f : Field) (i : Nat) (b : Bool) : (s.setBit f i b).interp = s.interp := rfl
@[simp] theorem State.setBit_cal (s : State) (f : Field) (i : Nat) (b : Bool) : (s.setBit f i b).cal = s.cal := rfl
@[simp] theorem State.setBit_timers (s : State) (f : Field) (i : Nat) (b : Bool) : (s.setBit f i b).timers = s.timers := rfl
@[simp] theorem State.setBit_radio (s : State) (f : Field) (i : Nat) (b : Bool) : (s.setBit f i b).radio = s.radio := rfl
@[simp] theorem State.setBit_chz (s : State) (f : Field) (i : Nat) (b : Bool) : (s.setBit f i b).chz = s.chz := rfl
@[simp] theorem State.setBit_demod (s : State) (f : Field) (i : Nat) (b : Bool) : (s.setBit f i b).demod = s.demod := rfl
@[simp] theorem State.setBit_mac (s : State) (f : Field) (i : Nat) (b : Bool) : (s.setBit f i b).mac = s.mac := rfl
@[simp] theorem State.setBit_sched (s : State) (f : Field) (i : Nat) (b : Bool) : (s.setBit f i b).sched = s.sched := rfl
@[simp] theorem State.setBit_frames (s : State) (f : Field) (i : Nat) (b : Bool) : (s.setBit f i b).frames = s.frames := rfl
@[simp] theorem State.setBit_keys (s : State) (f : Field) (i : Nat) (b : Bool) : (s.setBit f i b).keys = s.keys := rfl
@[simp] theorem State.setBit_ledger (s : State) (f : Field) (i : Nat) (b : Bool) : (s.setBit f i b).ledger = s.ledger := rfl
@[simp] theorem State.setBit_bufs (s : State) (f : Field) (i : Nat) (b : Bool) : (s.setBit f i b).bufs = s.bufs := rfl
@[simp] theorem State.setBit_fwd (s : State) (f : Field) (i : Nat) (b : Bool) : (s.setBit f i b).fwd = s.fwd := rfl
@[simp] theorem State.setBit_camps (s : State) (f : Field) (i : Nat) (b : Bool) : (s.setBit f i b).camps = s.camps := rfl
@[simp] theorem State.setBit_zoant (s : State) (f : Field) (i : Nat) (b : Bool) : (s.setBit f i b).zoant = s.zoant := rfl
@[simp] theorem State.setBit_pairU (s : State) (f : Field) (i : Nat) (b : Bool) : (s.setBit f i b).pairU = s.pairU := rfl
@[simp] theorem State.setBit_host (s : State) (f : Field) (i : Nat) (b : Bool) : (s.setBit f i b).host = s.host := rfl
@[simp] theorem State.setBit_seq (s : State) (f : Field) (i : Nat) (b : Bool) : (s.setBit f i b).seq = s.seq := rfl
@[simp] theorem State.setBit_journal (s : State) (f : Field) (i : Nat) (b : Bool) : (s.setBit f i b).journal = s.journal := rfl
@[simp] theorem State.setBit_thermal (s : State) (f : Field) (i : Nat) (b : Bool) : (s.setBit f i b).thermal = s.thermal := rfl
@[simp] theorem State.setBit_rails (s : State) (f : Field) (i : Nat) (b : Bool) : (s.setBit f i b).rails = s.rails := rfl
@[simp] theorem State.setBit_otp (s : State) (f : Field) (i : Nat) (b : Bool) : (s.setBit f i b).otp = s.otp := rfl
@[simp] theorem State.setBit_dram (s : State) (f : Field) (i : Nat) (b : Bool) : (s.setBit f i b).dram = s.dram := rfl
@[simp] theorem State.setBit_dramBytes (s : State) (f : Field) (i : Nat) (b : Bool) : (s.setBit f i b).dramBytes = s.dramBytes := rfl
@[simp] theorem State.setBit_hostMem (s : State) (f : Field) (i : Nat) (b : Bool) : (s.setBit f i b).hostMem = s.hostMem := rfl
@[simp] theorem State.setBit_readData (s : State) (f : Field) (i : Nat) (b : Bool) : (s.setBit f i b).readData = s.readData := rfl
@[simp] theorem State.setBit_free (s : State) (f : Field) (i : Nat) (b : Bool) : (s.setBit f i b).free = s.free := rfl
@[simp] theorem State.setBit_pending (s : State) (f : Field) (i : Nat) (b : Bool) : (s.setBit f i b).pending = s.pending := rfl

@[simp] theorem State.setPair_interp (s : State) (lo hi v : Nat) : (s.setPair lo hi v).interp = s.interp := rfl
@[simp] theorem State.setPair_cal (s : State) (lo hi v : Nat) : (s.setPair lo hi v).cal = s.cal := rfl
@[simp] theorem State.setPair_timers (s : State) (lo hi v : Nat) : (s.setPair lo hi v).timers = s.timers := rfl
@[simp] theorem State.setPair_radio (s : State) (lo hi v : Nat) : (s.setPair lo hi v).radio = s.radio := rfl
@[simp] theorem State.setPair_chz (s : State) (lo hi v : Nat) : (s.setPair lo hi v).chz = s.chz := rfl
@[simp] theorem State.setPair_demod (s : State) (lo hi v : Nat) : (s.setPair lo hi v).demod = s.demod := rfl
@[simp] theorem State.setPair_mac (s : State) (lo hi v : Nat) : (s.setPair lo hi v).mac = s.mac := rfl
@[simp] theorem State.setPair_sched (s : State) (lo hi v : Nat) : (s.setPair lo hi v).sched = s.sched := rfl
@[simp] theorem State.setPair_frames (s : State) (lo hi v : Nat) : (s.setPair lo hi v).frames = s.frames := rfl
@[simp] theorem State.setPair_keys (s : State) (lo hi v : Nat) : (s.setPair lo hi v).keys = s.keys := rfl
@[simp] theorem State.setPair_ledger (s : State) (lo hi v : Nat) : (s.setPair lo hi v).ledger = s.ledger := rfl
@[simp] theorem State.setPair_bufs (s : State) (lo hi v : Nat) : (s.setPair lo hi v).bufs = s.bufs := rfl
@[simp] theorem State.setPair_fwd (s : State) (lo hi v : Nat) : (s.setPair lo hi v).fwd = s.fwd := rfl
@[simp] theorem State.setPair_camps (s : State) (lo hi v : Nat) : (s.setPair lo hi v).camps = s.camps := rfl
@[simp] theorem State.setPair_zoant (s : State) (lo hi v : Nat) : (s.setPair lo hi v).zoant = s.zoant := rfl
@[simp] theorem State.setPair_pairU (s : State) (lo hi v : Nat) : (s.setPair lo hi v).pairU = s.pairU := rfl
@[simp] theorem State.setPair_host (s : State) (lo hi v : Nat) : (s.setPair lo hi v).host = s.host := rfl
@[simp] theorem State.setPair_seq (s : State) (lo hi v : Nat) : (s.setPair lo hi v).seq = s.seq := rfl
@[simp] theorem State.setPair_journal (s : State) (lo hi v : Nat) : (s.setPair lo hi v).journal = s.journal := rfl
@[simp] theorem State.setPair_thermal (s : State) (lo hi v : Nat) : (s.setPair lo hi v).thermal = s.thermal := rfl
@[simp] theorem State.setPair_rails (s : State) (lo hi v : Nat) : (s.setPair lo hi v).rails = s.rails := rfl
@[simp] theorem State.setPair_otp (s : State) (lo hi v : Nat) : (s.setPair lo hi v).otp = s.otp := rfl
@[simp] theorem State.setPair_dram (s : State) (lo hi v : Nat) : (s.setPair lo hi v).dram = s.dram := rfl
@[simp] theorem State.setPair_dramBytes (s : State) (lo hi v : Nat) : (s.setPair lo hi v).dramBytes = s.dramBytes := rfl
@[simp] theorem State.setPair_hostMem (s : State) (lo hi v : Nat) : (s.setPair lo hi v).hostMem = s.hostMem := rfl
@[simp] theorem State.setPair_readData (s : State) (lo hi v : Nat) : (s.setPair lo hi v).readData = s.readData := rfl
@[simp] theorem State.setPair_free (s : State) (lo hi v : Nat) : (s.setPair lo hi v).free = s.free := rfl
@[simp] theorem State.setPair_pending (s : State) (lo hi v : Nat) : (s.setPair lo hi v).pending = s.pending := rfl

@[simp] theorem State.setNow_csr (s : State) (v : Nat) : (s.setNow v).csr = s.csr := rfl
@[simp] theorem State.setNow_interp (s : State) (v : Nat) : (s.setNow v).interp = s.interp := rfl
@[simp] theorem State.setNow_timers (s : State) (v : Nat) : (s.setNow v).timers = s.timers := rfl
@[simp] theorem State.setNow_radio (s : State) (v : Nat) : (s.setNow v).radio = s.radio := rfl
@[simp] theorem State.setNow_chz (s : State) (v : Nat) : (s.setNow v).chz = s.chz := rfl
@[simp] theorem State.setNow_demod (s : State) (v : Nat) : (s.setNow v).demod = s.demod := rfl
@[simp] theorem State.setNow_mac (s : State) (v : Nat) : (s.setNow v).mac = s.mac := rfl
@[simp] theorem State.setNow_sched (s : State) (v : Nat) : (s.setNow v).sched = s.sched := rfl
@[simp] theorem State.setNow_frames (s : State) (v : Nat) : (s.setNow v).frames = s.frames := rfl
@[simp] theorem State.setNow_keys (s : State) (v : Nat) : (s.setNow v).keys = s.keys := rfl
@[simp] theorem State.setNow_ledger (s : State) (v : Nat) : (s.setNow v).ledger = s.ledger := rfl
@[simp] theorem State.setNow_bufs (s : State) (v : Nat) : (s.setNow v).bufs = s.bufs := rfl
@[simp] theorem State.setNow_fwd (s : State) (v : Nat) : (s.setNow v).fwd = s.fwd := rfl
@[simp] theorem State.setNow_camps (s : State) (v : Nat) : (s.setNow v).camps = s.camps := rfl
@[simp] theorem State.setNow_zoant (s : State) (v : Nat) : (s.setNow v).zoant = s.zoant := rfl
@[simp] theorem State.setNow_pairU (s : State) (v : Nat) : (s.setNow v).pairU = s.pairU := rfl
@[simp] theorem State.setNow_host (s : State) (v : Nat) : (s.setNow v).host = s.host := rfl
@[simp] theorem State.setNow_seq (s : State) (v : Nat) : (s.setNow v).seq = s.seq := rfl
@[simp] theorem State.setNow_journal (s : State) (v : Nat) : (s.setNow v).journal = s.journal := rfl
@[simp] theorem State.setNow_thermal (s : State) (v : Nat) : (s.setNow v).thermal = s.thermal := rfl
@[simp] theorem State.setNow_rails (s : State) (v : Nat) : (s.setNow v).rails = s.rails := rfl
@[simp] theorem State.setNow_otp (s : State) (v : Nat) : (s.setNow v).otp = s.otp := rfl
@[simp] theorem State.setNow_dram (s : State) (v : Nat) : (s.setNow v).dram = s.dram := rfl
@[simp] theorem State.setNow_dramBytes (s : State) (v : Nat) : (s.setNow v).dramBytes = s.dramBytes := rfl
@[simp] theorem State.setNow_hostMem (s : State) (v : Nat) : (s.setNow v).hostMem = s.hostMem := rfl
@[simp] theorem State.setNow_readData (s : State) (v : Nat) : (s.setNow v).readData = s.readData := rfl
@[simp] theorem State.setNow_free (s : State) (v : Nat) : (s.setNow v).free = s.free := rfl
@[simp] theorem State.setNow_pending (s : State) (v : Nat) : (s.setNow v).pending = s.pending := rfl

@[simp] theorem State.hostWrite_csr (s : State) (a : Nat) (bs : List Byte) : (s.hostWrite a bs).csr = s.csr := rfl
@[simp] theorem State.hostWrite_interp (s : State) (a : Nat) (bs : List Byte) : (s.hostWrite a bs).interp = s.interp := rfl
@[simp] theorem State.hostWrite_cal (s : State) (a : Nat) (bs : List Byte) : (s.hostWrite a bs).cal = s.cal := rfl
@[simp] theorem State.hostWrite_timers (s : State) (a : Nat) (bs : List Byte) : (s.hostWrite a bs).timers = s.timers := rfl
@[simp] theorem State.hostWrite_radio (s : State) (a : Nat) (bs : List Byte) : (s.hostWrite a bs).radio = s.radio := rfl
@[simp] theorem State.hostWrite_chz (s : State) (a : Nat) (bs : List Byte) : (s.hostWrite a bs).chz = s.chz := rfl
@[simp] theorem State.hostWrite_demod (s : State) (a : Nat) (bs : List Byte) : (s.hostWrite a bs).demod = s.demod := rfl
@[simp] theorem State.hostWrite_mac (s : State) (a : Nat) (bs : List Byte) : (s.hostWrite a bs).mac = s.mac := rfl
@[simp] theorem State.hostWrite_sched (s : State) (a : Nat) (bs : List Byte) : (s.hostWrite a bs).sched = s.sched := rfl
@[simp] theorem State.hostWrite_frames (s : State) (a : Nat) (bs : List Byte) : (s.hostWrite a bs).frames = s.frames := rfl
@[simp] theorem State.hostWrite_keys (s : State) (a : Nat) (bs : List Byte) : (s.hostWrite a bs).keys = s.keys := rfl
@[simp] theorem State.hostWrite_ledger (s : State) (a : Nat) (bs : List Byte) : (s.hostWrite a bs).ledger = s.ledger := rfl
@[simp] theorem State.hostWrite_bufs (s : State) (a : Nat) (bs : List Byte) : (s.hostWrite a bs).bufs = s.bufs := rfl
@[simp] theorem State.hostWrite_fwd (s : State) (a : Nat) (bs : List Byte) : (s.hostWrite a bs).fwd = s.fwd := rfl
@[simp] theorem State.hostWrite_camps (s : State) (a : Nat) (bs : List Byte) : (s.hostWrite a bs).camps = s.camps := rfl
@[simp] theorem State.hostWrite_zoant (s : State) (a : Nat) (bs : List Byte) : (s.hostWrite a bs).zoant = s.zoant := rfl
@[simp] theorem State.hostWrite_pairU (s : State) (a : Nat) (bs : List Byte) : (s.hostWrite a bs).pairU = s.pairU := rfl
@[simp] theorem State.hostWrite_host (s : State) (a : Nat) (bs : List Byte) : (s.hostWrite a bs).host = s.host := rfl
@[simp] theorem State.hostWrite_seq (s : State) (a : Nat) (bs : List Byte) : (s.hostWrite a bs).seq = s.seq := rfl
@[simp] theorem State.hostWrite_journal (s : State) (a : Nat) (bs : List Byte) : (s.hostWrite a bs).journal = s.journal := rfl
@[simp] theorem State.hostWrite_thermal (s : State) (a : Nat) (bs : List Byte) : (s.hostWrite a bs).thermal = s.thermal := rfl
@[simp] theorem State.hostWrite_rails (s : State) (a : Nat) (bs : List Byte) : (s.hostWrite a bs).rails = s.rails := rfl
@[simp] theorem State.hostWrite_otp (s : State) (a : Nat) (bs : List Byte) : (s.hostWrite a bs).otp = s.otp := rfl
@[simp] theorem State.hostWrite_dram (s : State) (a : Nat) (bs : List Byte) : (s.hostWrite a bs).dram = s.dram := rfl
@[simp] theorem State.hostWrite_dramBytes (s : State) (a : Nat) (bs : List Byte) : (s.hostWrite a bs).dramBytes = s.dramBytes := rfl
@[simp] theorem State.hostWrite_readData (s : State) (a : Nat) (bs : List Byte) : (s.hostWrite a bs).readData = s.readData := rfl
@[simp] theorem State.hostWrite_free (s : State) (a : Nat) (bs : List Byte) : (s.hostWrite a bs).free = s.free := rfl
@[simp] theorem State.hostWrite_pending (s : State) (a : Nat) (bs : List Byte) : (s.hostWrite a bs).pending = s.pending := rfl

@[simp] theorem State.dramWrite_csr (s : State) (a : Nat) (bs : List Byte) : (s.dramWrite a bs).csr = s.csr := rfl
@[simp] theorem State.dramWrite_interp (s : State) (a : Nat) (bs : List Byte) : (s.dramWrite a bs).interp = s.interp := rfl
@[simp] theorem State.dramWrite_cal (s : State) (a : Nat) (bs : List Byte) : (s.dramWrite a bs).cal = s.cal := rfl
@[simp] theorem State.dramWrite_timers (s : State) (a : Nat) (bs : List Byte) : (s.dramWrite a bs).timers = s.timers := rfl
@[simp] theorem State.dramWrite_radio (s : State) (a : Nat) (bs : List Byte) : (s.dramWrite a bs).radio = s.radio := rfl
@[simp] theorem State.dramWrite_chz (s : State) (a : Nat) (bs : List Byte) : (s.dramWrite a bs).chz = s.chz := rfl
@[simp] theorem State.dramWrite_demod (s : State) (a : Nat) (bs : List Byte) : (s.dramWrite a bs).demod = s.demod := rfl
@[simp] theorem State.dramWrite_mac (s : State) (a : Nat) (bs : List Byte) : (s.dramWrite a bs).mac = s.mac := rfl
@[simp] theorem State.dramWrite_sched (s : State) (a : Nat) (bs : List Byte) : (s.dramWrite a bs).sched = s.sched := rfl
@[simp] theorem State.dramWrite_frames (s : State) (a : Nat) (bs : List Byte) : (s.dramWrite a bs).frames = s.frames := rfl
@[simp] theorem State.dramWrite_keys (s : State) (a : Nat) (bs : List Byte) : (s.dramWrite a bs).keys = s.keys := rfl
@[simp] theorem State.dramWrite_ledger (s : State) (a : Nat) (bs : List Byte) : (s.dramWrite a bs).ledger = s.ledger := rfl
@[simp] theorem State.dramWrite_fwd (s : State) (a : Nat) (bs : List Byte) : (s.dramWrite a bs).fwd = s.fwd := rfl
@[simp] theorem State.dramWrite_camps (s : State) (a : Nat) (bs : List Byte) : (s.dramWrite a bs).camps = s.camps := rfl
@[simp] theorem State.dramWrite_zoant (s : State) (a : Nat) (bs : List Byte) : (s.dramWrite a bs).zoant = s.zoant := rfl
@[simp] theorem State.dramWrite_pairU (s : State) (a : Nat) (bs : List Byte) : (s.dramWrite a bs).pairU = s.pairU := rfl
@[simp] theorem State.dramWrite_host (s : State) (a : Nat) (bs : List Byte) : (s.dramWrite a bs).host = s.host := rfl
@[simp] theorem State.dramWrite_seq (s : State) (a : Nat) (bs : List Byte) : (s.dramWrite a bs).seq = s.seq := rfl
@[simp] theorem State.dramWrite_journal (s : State) (a : Nat) (bs : List Byte) : (s.dramWrite a bs).journal = s.journal := rfl
@[simp] theorem State.dramWrite_thermal (s : State) (a : Nat) (bs : List Byte) : (s.dramWrite a bs).thermal = s.thermal := rfl
@[simp] theorem State.dramWrite_rails (s : State) (a : Nat) (bs : List Byte) : (s.dramWrite a bs).rails = s.rails := rfl
@[simp] theorem State.dramWrite_otp (s : State) (a : Nat) (bs : List Byte) : (s.dramWrite a bs).otp = s.otp := rfl
@[simp] theorem State.dramWrite_dramBytes (s : State) (a : Nat) (bs : List Byte) : (s.dramWrite a bs).dramBytes = s.dramBytes := rfl
@[simp] theorem State.dramWrite_hostMem (s : State) (a : Nat) (bs : List Byte) : (s.dramWrite a bs).hostMem = s.hostMem := rfl
@[simp] theorem State.dramWrite_readData (s : State) (a : Nat) (bs : List Byte) : (s.dramWrite a bs).readData = s.readData := rfl
@[simp] theorem State.dramWrite_free (s : State) (a : Nat) (bs : List Byte) : (s.dramWrite a bs).free = s.free := rfl
@[simp] theorem State.dramWrite_pending (s : State) (a : Nat) (bs : List Byte) : (s.dramWrite a bs).pending = s.pending := rfl
@[simp] theorem State.dramWrite_bufs_pool (s : State) (a : Nat) (bs : List Byte) : (s.dramWrite a bs).bufs.pool = s.bufs.pool := rfl
@[simp] theorem State.dramWrite_bufs_pages (s : State) (a : Nat) (bs : List Byte) : (s.dramWrite a bs).bufs.pages = s.bufs.pages := rfl
@[simp] theorem State.dramWrite_bufs_lowPosted (s : State) (a : Nat) (bs : List Byte) : (s.dramWrite a bs).bufs.lowPosted = s.bufs.lowPosted := rfl
@[simp] theorem State.dramWrite_bufs_retireLim (s : State) (a : Nat) (bs : List Byte) : (s.dramWrite a bs).bufs.retireLim = s.bufs.retireLim := rfl
@[simp] theorem State.dramWrite_bufs_dma (s : State) (a : Nat) (bs : List Byte) : (s.dramWrite a bs).bufs.dma = s.bufs.dma := rfl
@[simp] theorem State.dramWrite_bufs_fltSeq (s : State) (a : Nat) (bs : List Byte) : (s.dramWrite a bs).bufs.fltSeq = s.bufs.fltSeq := rfl
@[simp] theorem State.dramWrite_bufs_fltLimDma (s : State) (a : Nat) (bs : List Byte) : (s.dramWrite a bs).bufs.fltLimDma = s.bufs.fltLimDma := rfl
@[simp] theorem State.dramWrite_bufs_fltLimOther (s : State) (a : Nat) (bs : List Byte) : (s.dramWrite a bs).bufs.fltLimOther = s.bufs.fltLimOther := rfl
@[simp] theorem State.dramWrite_bufs_arbCount (s : State) (a : Nat) (bs : List Byte) : (s.dramWrite a bs).bufs.arbCount = s.bufs.arbCount := rfl
@[simp] theorem State.dramWrite_bufs_arbLast (s : State) (a : Nat) (bs : List Byte) : (s.dramWrite a bs).bufs.arbLast = s.bufs.arbLast := rfl
@[simp] theorem State.dramWrite_bufs_arbDead (s : State) (a : Nat) (bs : List Byte) : (s.dramWrite a bs).bufs.arbDead = s.bufs.arbDead := rfl

@[simp] theorem postAt_csr (s : State) (cal src sev code : Nat) (args : List Byte) : (postAt cal src sev code args s).csr = s.csr := rfl
@[simp] theorem postAt_interp (s : State) (cal src sev code : Nat) (args : List Byte) : (postAt cal src sev code args s).interp = s.interp := rfl
@[simp] theorem postAt_cal (s : State) (cal src sev code : Nat) (args : List Byte) : (postAt cal src sev code args s).cal = s.cal := rfl
@[simp] theorem postAt_timers (s : State) (cal src sev code : Nat) (args : List Byte) : (postAt cal src sev code args s).timers = s.timers := rfl
@[simp] theorem postAt_radio (s : State) (cal src sev code : Nat) (args : List Byte) : (postAt cal src sev code args s).radio = s.radio := rfl
@[simp] theorem postAt_chz (s : State) (cal src sev code : Nat) (args : List Byte) : (postAt cal src sev code args s).chz = s.chz := rfl
@[simp] theorem postAt_demod (s : State) (cal src sev code : Nat) (args : List Byte) : (postAt cal src sev code args s).demod = s.demod := rfl
@[simp] theorem postAt_mac (s : State) (cal src sev code : Nat) (args : List Byte) : (postAt cal src sev code args s).mac = s.mac := rfl
@[simp] theorem postAt_sched (s : State) (cal src sev code : Nat) (args : List Byte) : (postAt cal src sev code args s).sched = s.sched := rfl
@[simp] theorem postAt_frames (s : State) (cal src sev code : Nat) (args : List Byte) : (postAt cal src sev code args s).frames = s.frames := rfl
@[simp] theorem postAt_keys (s : State) (cal src sev code : Nat) (args : List Byte) : (postAt cal src sev code args s).keys = s.keys := rfl
@[simp] theorem postAt_ledger (s : State) (cal src sev code : Nat) (args : List Byte) : (postAt cal src sev code args s).ledger = s.ledger := rfl
@[simp] theorem postAt_bufs (s : State) (cal src sev code : Nat) (args : List Byte) : (postAt cal src sev code args s).bufs = s.bufs := rfl
@[simp] theorem postAt_fwd (s : State) (cal src sev code : Nat) (args : List Byte) : (postAt cal src sev code args s).fwd = s.fwd := rfl
@[simp] theorem postAt_camps (s : State) (cal src sev code : Nat) (args : List Byte) : (postAt cal src sev code args s).camps = s.camps := rfl
@[simp] theorem postAt_zoant (s : State) (cal src sev code : Nat) (args : List Byte) : (postAt cal src sev code args s).zoant = s.zoant := rfl
@[simp] theorem postAt_pairU (s : State) (cal src sev code : Nat) (args : List Byte) : (postAt cal src sev code args s).pairU = s.pairU := rfl
@[simp] theorem postAt_host (s : State) (cal src sev code : Nat) (args : List Byte) : (postAt cal src sev code args s).host = s.host := rfl
@[simp] theorem postAt_seq (s : State) (cal src sev code : Nat) (args : List Byte) : (postAt cal src sev code args s).seq = s.seq := rfl
@[simp] theorem postAt_thermal (s : State) (cal src sev code : Nat) (args : List Byte) : (postAt cal src sev code args s).thermal = s.thermal := rfl
@[simp] theorem postAt_rails (s : State) (cal src sev code : Nat) (args : List Byte) : (postAt cal src sev code args s).rails = s.rails := rfl
@[simp] theorem postAt_otp (s : State) (cal src sev code : Nat) (args : List Byte) : (postAt cal src sev code args s).otp = s.otp := rfl
@[simp] theorem postAt_dram (s : State) (cal src sev code : Nat) (args : List Byte) : (postAt cal src sev code args s).dram = s.dram := rfl
@[simp] theorem postAt_dramBytes (s : State) (cal src sev code : Nat) (args : List Byte) : (postAt cal src sev code args s).dramBytes = s.dramBytes := rfl
@[simp] theorem postAt_hostMem (s : State) (cal src sev code : Nat) (args : List Byte) : (postAt cal src sev code args s).hostMem = s.hostMem := rfl
@[simp] theorem postAt_readData (s : State) (cal src sev code : Nat) (args : List Byte) : (postAt cal src sev code args s).readData = s.readData := rfl
@[simp] theorem postAt_free (s : State) (cal src sev code : Nat) (args : List Byte) : (postAt cal src sev code args s).free = s.free := rfl
@[simp] theorem postAt_pending (s : State) (cal src sev code : Nat) (args : List Byte) : (postAt cal src sev code args s).pending = s.pending := rfl

@[simp] theorem post_csr (s : State) (src sev code : Nat) (args : List Byte) : (post src sev code args s).csr = s.csr := rfl
@[simp] theorem post_interp (s : State) (src sev code : Nat) (args : List Byte) : (post src sev code args s).interp = s.interp := rfl
@[simp] theorem post_cal (s : State) (src sev code : Nat) (args : List Byte) : (post src sev code args s).cal = s.cal := rfl
@[simp] theorem post_timers (s : State) (src sev code : Nat) (args : List Byte) : (post src sev code args s).timers = s.timers := rfl
@[simp] theorem post_radio (s : State) (src sev code : Nat) (args : List Byte) : (post src sev code args s).radio = s.radio := rfl
@[simp] theorem post_chz (s : State) (src sev code : Nat) (args : List Byte) : (post src sev code args s).chz = s.chz := rfl
@[simp] theorem post_demod (s : State) (src sev code : Nat) (args : List Byte) : (post src sev code args s).demod = s.demod := rfl
@[simp] theorem post_mac (s : State) (src sev code : Nat) (args : List Byte) : (post src sev code args s).mac = s.mac := rfl
@[simp] theorem post_sched (s : State) (src sev code : Nat) (args : List Byte) : (post src sev code args s).sched = s.sched := rfl
@[simp] theorem post_frames (s : State) (src sev code : Nat) (args : List Byte) : (post src sev code args s).frames = s.frames := rfl
@[simp] theorem post_keys (s : State) (src sev code : Nat) (args : List Byte) : (post src sev code args s).keys = s.keys := rfl
@[simp] theorem post_ledger (s : State) (src sev code : Nat) (args : List Byte) : (post src sev code args s).ledger = s.ledger := rfl
@[simp] theorem post_bufs (s : State) (src sev code : Nat) (args : List Byte) : (post src sev code args s).bufs = s.bufs := rfl
@[simp] theorem post_fwd (s : State) (src sev code : Nat) (args : List Byte) : (post src sev code args s).fwd = s.fwd := rfl
@[simp] theorem post_camps (s : State) (src sev code : Nat) (args : List Byte) : (post src sev code args s).camps = s.camps := rfl
@[simp] theorem post_zoant (s : State) (src sev code : Nat) (args : List Byte) : (post src sev code args s).zoant = s.zoant := rfl
@[simp] theorem post_pairU (s : State) (src sev code : Nat) (args : List Byte) : (post src sev code args s).pairU = s.pairU := rfl
@[simp] theorem post_host (s : State) (src sev code : Nat) (args : List Byte) : (post src sev code args s).host = s.host := rfl
@[simp] theorem post_seq (s : State) (src sev code : Nat) (args : List Byte) : (post src sev code args s).seq = s.seq := rfl
@[simp] theorem post_thermal (s : State) (src sev code : Nat) (args : List Byte) : (post src sev code args s).thermal = s.thermal := rfl
@[simp] theorem post_rails (s : State) (src sev code : Nat) (args : List Byte) : (post src sev code args s).rails = s.rails := rfl
@[simp] theorem post_otp (s : State) (src sev code : Nat) (args : List Byte) : (post src sev code args s).otp = s.otp := rfl
@[simp] theorem post_dram (s : State) (src sev code : Nat) (args : List Byte) : (post src sev code args s).dram = s.dram := rfl
@[simp] theorem post_dramBytes (s : State) (src sev code : Nat) (args : List Byte) : (post src sev code args s).dramBytes = s.dramBytes := rfl
@[simp] theorem post_hostMem (s : State) (src sev code : Nat) (args : List Byte) : (post src sev code args s).hostMem = s.hostMem := rfl
@[simp] theorem post_readData (s : State) (src sev code : Nat) (args : List Byte) : (post src sev code args s).readData = s.readData := rfl
@[simp] theorem post_free (s : State) (src sev code : Nat) (args : List Byte) : (post src sev code args s).free = s.free := rfl
@[simp] theorem post_pending (s : State) (src sev code : Nat) (args : List Byte) : (post src sev code args s).pending = s.pending := rfl

end Sys2Proof.Machine
end

