-- ==== Sys2Proof/Laws/Signals.lean ====
section
/-! SUPPORT. What signals and replies leave of the state: they act on registers of the host interface, the
interpreter's rings and mailbox, Zoant's queues, host memory, the boot list's progress and the journal, and on
nothing else. -/

namespace Sys2Proof.Machine

/-- `t` is `s` in everything but what signals and replies act on. -/
def Quiet (s t : State) : Prop :=
  t = { s with csr := t.csr, interp := t.interp, zoant := t.zoant, host := t.host, seq := t.seq,
               journal := t.journal, hostMem := t.hostMem }

theorem Quiet.refl (s : State) : Quiet s s := rfl

theorem Quiet.trans {s t u : State} (h : Quiet s t) (k : Quiet t u) : Quiet s u := by
  unfold Quiet at *
  rw [k, h]

theorem Quiet.pending {s t : State} (h : Quiet s t) : t.pending = s.pending := by rw [h]
theorem Quiet.cal {s t : State} (h : Quiet s t) : t.cal = s.cal := by rw [h]
theorem Quiet.timers {s t : State} (h : Quiet s t) : t.timers = s.timers := by rw [h]
theorem Quiet.radio {s t : State} (h : Quiet s t) : t.radio = s.radio := by rw [h]
theorem Quiet.chz {s t : State} (h : Quiet s t) : t.chz = s.chz := by rw [h]
theorem Quiet.demod {s t : State} (h : Quiet s t) : t.demod = s.demod := by rw [h]
theorem Quiet.mac {s t : State} (h : Quiet s t) : t.mac = s.mac := by rw [h]
theorem Quiet.sched {s t : State} (h : Quiet s t) : t.sched = s.sched := by rw [h]
theorem Quiet.frames {s t : State} (h : Quiet s t) : t.frames = s.frames := by rw [h]
theorem Quiet.keys {s t : State} (h : Quiet s t) : t.keys = s.keys := by rw [h]
theorem Quiet.ledger {s t : State} (h : Quiet s t) : t.ledger = s.ledger := by rw [h]
theorem Quiet.bufs {s t : State} (h : Quiet s t) : t.bufs = s.bufs := by rw [h]
theorem Quiet.fwd {s t : State} (h : Quiet s t) : t.fwd = s.fwd := by rw [h]
theorem Quiet.camps {s t : State} (h : Quiet s t) : t.camps = s.camps := by rw [h]
theorem Quiet.pairU {s t : State} (h : Quiet s t) : t.pairU = s.pairU := by rw [h]
theorem Quiet.otp {s t : State} (h : Quiet s t) : t.otp = s.otp := by rw [h]
theorem Quiet.dram {s t : State} (h : Quiet s t) : t.dram = s.dram := by rw [h]
theorem Quiet.free {s t : State} (h : Quiet s t) : t.free = s.free := by rw [h]
theorem Quiet.readData {s t : State} (h : Quiet s t) : t.readData = s.readData := by rw [h]

theorem quiet_setFld (s : State) (f : Field) (v : Nat) : Quiet s (s.setFld f v) := rfl
theorem quiet_setFlag (s : State) (f : Field) (b : Bool) : Quiet s (s.setFlag f b) := rfl
theorem quiet_post (s : State) (src sev code : Nat) (args : List Byte) : Quiet s (post src sev code args s) := rfl
theorem quiet_setBit (s : State) (f : Field) (i : Nat) (b : Bool) : Quiet s (s.setBit f i b) := rfl
theorem quiet_count (s : State) (f : Field) (n : Nat) : Quiet s (s.count f n) := rfl
theorem quiet_zoantField (s : State) (z : Zoant) : Quiet s { s with zoant := z } := rfl
theorem quiet_replyLog (s : State) (i : Interp) (q : Seq) : Quiet s { s with interp := i, seq := q } := rfl
theorem quiet_setRing (s : State) (n : Nat) (r : Ring) : Quiet s (s.setRing n r) := rfl
theorem quiet_writeBack (s : State) (n : Nat) : Quiet s (writeBack n s) := rfl
theorem quiet_msixSend (s : State) (v : Nat) : Quiet s (msixSend v s) := rfl

theorem quiet_signal (s : State) (v : Nat) : Quiet s (signal v s) := by
  unfold signal
  split
  · exact quiet_setFlag ..
  · exact quiet_msixSend ..

theorem quiet_raise (s : State) (int ie : Field) (mask v : Nat) : Quiet s (raise int ie mask v s) := by
  unfold raise
  dsimp only
  split
  · exact (quiet_setFld s int _).trans (quiet_signal ..)
  · exact quiet_setFld ..

theorem quiet_mgtCause (s : State) (i : Nat) : Quiet s (mgtCause i s) := by
  unfold mgtCause
  dsimp only
  split
  · exact Quiet.refl s
  · split
    · exact (quiet_setFlag s _ _).trans (quiet_signal ..)
    · exact quiet_setFlag ..

theorem quiet_ringStop (s : State) (n cause : Nat) : Quiet s (ringStop n cause s) := by
  unfold ringStop
  dsimp only
  split
  · exact Quiet.refl s
  · have h (t : State) (k : Quiet s t) :
        Quiet s (post 32 sevDegraded 0x0102 (arg1 n ++ arg1 cause) (signal n t)) :=
      (k.trans (quiet_signal ..)).trans (quiet_post ..)
    apply h
    split
    · exact (((quiet_setFlag s _ _).trans (quiet_setFld ..)).trans (quiet_setBit ..)).trans (quiet_writeBack ..)
    · exact ((quiet_setFlag s _ _).trans (quiet_setFld ..)).trans (quiet_setBit ..)

theorem quiet_ringWrite (s : State) (n : Nat) (r : Reply) : Quiet s (ringWrite n r s) := by
  have h (a : Nat) (bs : List Byte) (g : Ring) : Quiet s (writeBack n ((s.hostWrite a bs).setRing n g)) := rfl
  unfold ringWrite
  dsimp only
  split
  · exact (h ..).trans (quiet_signal ..)
  · generalize 2 ^ _ = limit
    split
    · exact (h ..).trans (quiet_signal ..)
    · exact h ..

theorem quiet_ringReply (s : State) (n : Nat) (r : Reply) : Quiet s (ringReply n r s) := by
  unfold ringReply
  split
  · exact quiet_setRing ..
  · split
    · exact (quiet_setRing s n _).trans (quiet_ringStop ..)
    · exact quiet_ringWrite ..

theorem quiet_smbReply (s : State) (r : Reply) : Quiet s (smbReply r s) := by
  unfold smbReply
  dsimp only
  split
  · exact Quiet.trans (by exact rfl) (quiet_mgtCause ..)
  · rfl

theorem quiet_noRoute (s : State) (f : ZFrame) : Quiet s (noRoute f s) := by
  unfold noRoute
  split
  · exact Quiet.refl s
  · exact quiet_count ..

theorem quiet_zoantRoute (s : State) (f : ZFrame) : Quiet s (zoantRoute f s) := by
  unfold zoantRoute
  split
  · exact quiet_zoantField ..
  · exact quiet_noRoute ..

theorem quiet_zoantSend (s : State) (dst cls len : Nat) (msg : ZMsg) : Quiet s (zoantSend dst cls len msg s) := by
  unfold zoantSend
  dsimp only
  split
  · exact Quiet.refl s
  · refine Quiet.trans ?_ (quiet_zoantRoute ..)
    split
    · rfl
    · exact Quiet.refl s

theorem quiet_zoantReply (s : State) (chip : Nat) (r : Reply) : Quiet s (zoantReply chip r s) := by
  unfold zoantReply
  dsimp only
  split
  · exact (quiet_zoantField s _).trans (quiet_zoantSend ..)
  · exact ((quiet_zoantField s _).trans (quiet_setFlag ..)).trans (quiet_post ..)

theorem quiet_firmwareReply (s : State) (r : Reply) : Quiet s (firmwareReply r s) := by
  unfold firmwareReply
  dsimp only
  split
  · split
    · exact quiet_replyLog ..
    · exact (quiet_replyLog ..).trans (quiet_post ..)
  · exact quiet_replyLog ..

/-- Whatever the transport, a reply acts on nothing else. -/
theorem quiet_deliver (s : State) (issuer : Nat) (r : Reply) : Quiet s (deliver issuer r s) := by
  unfold deliver
  split
  · exact quiet_ringReply ..
  · split
    · exact quiet_smbReply ..
    · split
      · exact quiet_zoantReply ..
      · exact quiet_firmwareReply ..

theorem quiet_reply (s : State) (p : Packet) (status : Nat) (data : List Byte) : Quiet s (reply p status data s) :=
  quiet_deliver ..

theorem quiet_finishAt (s : State) (t seq status : Nat) (data : List Byte) : Quiet s (finishAt t seq status data s) := by
  unfold finishAt
  dsimp only
  split
  · exact Quiet.refl s
  · split
    · rfl
    · exact Quiet.trans (by exact rfl) (quiet_deliver ..)

theorem quiet_finish (s : State) (seq status : Nat) (data : List Byte) : Quiet s (finish seq status data s) :=
  quiet_finishAt ..

theorem quiet_finishOpt (s : State) (seq : Option Nat) (status : Nat) (data : List Byte) :
    Quiet s (finishOpt seq status data s) := by
  unfold finishOpt
  split
  · exact Quiet.refl s
  · exact quiet_finish ..

theorem quiet_defer (s : State) (p : Packet) : Quiet s (defer p s).2 := rfl

@[simp] theorem signal_pending (s : State) (v : Nat) : (signal v s).pending = s.pending := (quiet_signal s v).pending
@[simp] theorem raise_pending (s : State) (int ie : Field) (mask v : Nat) :
    (raise int ie mask v s).pending = s.pending := (quiet_raise ..).pending
@[simp] theorem mgtCause_pending (s : State) (i : Nat) : (mgtCause i s).pending = s.pending := (quiet_mgtCause ..).pending
@[simp] theorem ringStop_pending (s : State) (n cause : Nat) : (ringStop n cause s).pending = s.pending :=
  (quiet_ringStop ..).pending
@[simp] theorem zoantSend_pending (s : State) (dst cls len : Nat) (msg : ZMsg) :
    (zoantSend dst cls len msg s).pending = s.pending := (quiet_zoantSend ..).pending
@[simp] theorem reply_pending (s : State) (p : Packet) (status : Nat) (data : List Byte) :
    (reply p status data s).pending = s.pending := (quiet_reply ..).pending
@[simp] theorem finishAt_pending (s : State) (t seq status : Nat) (data : List Byte) :
    (finishAt t seq status data s).pending = s.pending := (quiet_finishAt ..).pending
@[simp] theorem finish_pending (s : State) (seq status : Nat) (data : List Byte) :
    (finish seq status data s).pending = s.pending := (quiet_finish ..).pending
@[simp] theorem finishOpt_pending (s : State) (seq : Option Nat) (status : Nat) (data : List Byte) :
    (finishOpt seq status data s).pending = s.pending := (quiet_finishOpt ..).pending

end Sys2Proof.Machine
end

