-- ==== Sys2Proof/Laws/Commands.lean ====
section
/-! SUPPORT. One law for each operation that every command goes through: the meaning of a row, the checks of a packet
command, the order of failing checks. -/

namespace Sys2Proof.Machine

/-- A row whose effect leaves the queue alone answers exactly its effect. -/
theorem answer_eq {run : State → State} {s t : State} (h : run s = t) (hp : t.pending = s.pending) :
    answer run s = .next t := by
  unfold answer
  rw [h, ← hp]

/-- A row answers a next state of which whatever holds of its effect with the queue unchanged holds. -/
theorem answer_next (run : State → State) (s : State) (P : State → Prop)
    (h : P { run s with pending := s.pending }) : ∃ t, answer run s = .next t ∧ P t := ⟨_, rfl, h⟩

/-- A packet command with the right LEN, in a mode that serves it, runs its operation. -/
theorem command_runs {op : Nat} {lenOk : Packet → Bool} {modes : List Mode} {body : Packet → State → State}
    {p : Packet} {s : State} (hl : lenOk { p with opcode := BitVec.ofNat 16 op } = true)
    (hc : s.coresServe = true) (hm : s.inMode modes = true) :
    command op lenOk modes body p s = body { p with opcode := BitVec.ofNat 16 op } s := by
  simp [command, hl, hc, hm]

theorem mgtCommand_runs {op : Nat} {lenOk : Packet → Bool} {modes : List Mode} {body : Packet → State → State}
    {p : Packet} {s : State} (hl : lenOk { p with opcode := BitVec.ofNat 16 op } = true)
    (hm : s.inMode modes = true) :
    mgtCommand op lenOk modes body p s = body { p with opcode := BitVec.ofNat 16 op } s := by
  simp [mgtCommand, hl, hm]

/-- A packet command with another LEN is answered BAD_LENGTH, and nothing else happens. -/
theorem command_badLength {op : Nat} {lenOk : Packet → Bool} {modes : List Mode} {body : Packet → State → State}
    {p : Packet} {s : State} (hl : lenOk { p with opcode := BitVec.ofNat 16 op } = false) :
    command op lenOk modes body p s = reply { p with opcode := BitVec.ofNat 16 op } St.BAD_LENGTH [] s := by
  simp [command, hl]

theorem mgtCommand_badLength {op : Nat} {lenOk : Packet → Bool} {modes : List Mode} {body : Packet → State → State}
    {p : Packet} {s : State} (hl : lenOk { p with opcode := BitVec.ofNat 16 op } = false) :
    mgtCommand op lenOk modes body p s = reply { p with opcode := BitVec.ofNat 16 op } St.BAD_LENGTH [] s := by
  simp [mgtCommand, hl]

@[simp] theorem firstFail_nil : firstFail [] = none := rfl
@[simp] theorem firstFail_false (st : Nat) (cs : List (Bool × Nat)) : firstFail ((false, st) :: cs) = firstFail cs := rfl
@[simp] theorem firstFail_true (st : Nat) (cs : List (Bool × Nat)) : firstFail ((true, st) :: cs) = some st := rfl

/-- With no failing check the operation acts; else the first failing check answers. -/
theorem checked_acts {p : Packet} {cs : List (Bool × Nat)} {act : State → State} {s : State}
    (h : firstFail cs = none) : checked p cs act s = act s := by
  simp [checked, h]

theorem checked_fails {p : Packet} {cs : List (Bool × Nat)} {act : State → State} {s : State} {st : Nat}
    (h : firstFail cs = some st) : checked p cs act s = reply p st [] s := by
  simp [checked, h]

/-- A write that reaches its block acts; another changes nothing. -/
theorem atReg_acts {off : Nat} {act : State → State} {s : State} (h : s.reaches off = true) :
    atReg off act s = act s := by
  simp [atReg, h]

theorem atReg_lost {off : Nat} {act : State → State} {s : State} (h : s.reaches off = false) :
    atReg off act s = s := by
  simp [atReg, h]

/-- A write of a timer or unit by its holder acts. -/
theorem tmrOwned_acts {w : Writer} {res off : Nat} {act : State → State} {s : State} (hr : s.reaches off = true)
    (hh : s.holds w res = true) : tmrOwned w res off act s = act s := by
  simp [tmrOwned, atReg, hr, hh]

/-- A write by another only counts as ignored (R87). -/
theorem tmrOwned_ignored {w : Writer} {res off : Nat} {act : State → State} {s : State} (hr : s.reaches off = true)
    (hh : s.holds w res = false) : tmrOwned w res off act s = tmrIgnore w s := by
  simp [tmrOwned, atReg, hr, hh]

end Sys2Proof.Machine
end

