-- ==== Sys2Proof/Tests/Slice0.lean ====
section
/-! SUPPORT. The model's own tests: for each statement a state and operands that meet its hypotheses together, one
witness to each clause, at boundary values where the clause has a range; ill-formed operands; and the specification's
worked examples. -/

namespace Sys2Proof.Tests

set_option Elab.async false

open Sys2Proof.Machine Sys2Proof.Claims

/-- A small state: registers zero, the clocks running, the cores up, in a mode at a tick. -/
def st (m : Mode) (now : Nat := 0) : State :=
  { State.reset with csr := [], cal := { Calendar.reset with copyA := BitVec.ofNat 64 now, copyB := BitVec.ofNat 64 now,
                                                             copyC := BitVec.ofNat 64 now, porLow := false },
                     seq := { Seq.reset with mode := m }, interp := { Interp.reset with cpRunning := true } }

/-- The same in EMBER, the cores still clocked. -/
def emb : State := (st .ember).setFlag F.CLK_GATE_CORE_RUN true

/-- A packet of `n` parameter bytes that begin with `bs`. -/
def pk (n : Nat) (bs : List Nat) (op : Nat := 0x0001) (issuer : Nat := 2) : Packet :=
  { opcode := BitVec.ofNat 16 op, tag := 0, len := BitVec.ofNat 16 n, flags := 0, issuer := BitVec.ofNat 8 issuer,
    notBefore := 0, params := sliceBytes (bs.map (BitVec.ofNat 8)) 0 n }

/-- A command that waits. -/
def wt (p : Packet) (seq : Nat) : Waiting := ⟨p, seq, 0, none⟩

/-- An image directory with five empty entries. -/
def dirBytes : List Byte :=
  [0x46, 0x5A, 0x42, 0x44, 1, 0, 0, 0, 0, 0, 0, 0, 5] ++ List.replicate 239 0 ++ [0x5F, 0xD3, 0x9D, 0x39]

/-- A quarter of the directory. -/
def dirPart (i : Nat) : List Byte := (dirBytes.drop i).take 64

theorem getRun_add {α : Type} (d : α) (m : Sparse α) (i a b : Nat) :
    Sparse.getRun d m i (a + b) = Sparse.getRun d m i a ++ Sparse.getRun d m (i + a) b := by
  induction a generalizing i with
  | zero => simp [Sparse.getRun]
  | succ n ih =>
    rw [Nat.add_right_comm]
    simp [Sparse.getRun, ih, Nat.add_assoc, Nat.add_comm 1 n]

/-- The directory, once stored, reads back. -/
theorem dir_stored : Sparse.getRun 0 (Sparse.setRun 0 [] 0 dirBytes) 0 256 = dirBytes := by
  have h (i n : Nat) (e : Sparse.getRun 0 (Sparse.setRun 0 [] 0 dirBytes) i 64 = dirPart i) :
      Sparse.getRun 0 (Sparse.setRun 0 [] 0 dirBytes) i (64 + n) =
        dirPart i ++ Sparse.getRun 0 (Sparse.setRun 0 [] 0 dirBytes) (i + 64) n := by rw [getRun_add, e]
  have g (i n : Nat) : (dirBytes.drop i).take (64 + n) = dirPart i ++ (dirBytes.drop (i + 64)).take n := by
    rw [List.take_add, List.drop_drop]; rfl
  calc _ = Sparse.getRun 0 (Sparse.setRun 0 [] 0 dirBytes) 0 (64 + (64 + (64 + 64))) := rfl
    _ = (dirBytes.drop 0).take (64 + (64 + (64 + 64))) := by
      rw [h 0 _ (by decide +kernel), h 64 _ (by decide +kernel), h 128 _ (by decide +kernel), g, g, g,
        show Sparse.getRun 0 (Sparse.setRun 0 [] 0 dirBytes) 192 64 = (dirBytes.drop 192).take 64 from
          by decide +kernel]
    _ = dirBytes := List.take_of_length_le (by decide +kernel)

/-- Its CRC, in four parts. -/
theorem dir_crc : crc32 (sliceBytes dirBytes 0 252) = 0x399DD35F#32 := by
  have h (i n : Nat) (c d : Word) (e : ((dirBytes.drop i).take 63).foldl crc32Byte c = d) :
      ((dirBytes.drop i).take (63 + n)).foldl crc32Byte c = ((dirBytes.drop (i + 63)).take n).foldl crc32Byte d := by
    rw [List.take_add, List.foldl_append, e, List.drop_drop]
  calc crc32 (sliceBytes dirBytes 0 252)
      = ((dirBytes.drop 0).take (63 + (63 + (63 + 63)))).foldl crc32Byte 0xFFFFFFFF#32 ^^^ 0xFFFFFFFF#32 := by
        rw [show sliceBytes dirBytes 0 252 = (dirBytes.drop 0).take (63 + (63 + (63 + 63))) from by decide +kernel]; rfl
    _ = 0x399DD35F#32 := by
      rw [h 0 _ _ 0xA5B33DCB#32 (by decide +kernel), h 63 _ _ 0x770BAEA3#32 (by decide +kernel),
        h 126 _ _ 0xF4592123#32 (by decide +kernel),
        show ((dirBytes.drop 189).take 63).foldl crc32Byte 0xF4592123#32 = 0xC6622CA0#32 from by decide +kernel]
      rfl

/-- It is a valid directory that ends at byte 256. -/
theorem dir_valid : dirOk dirBytes = true := by
  unfold dirOk
  rw [dir_crc]
  decide +kernel

theorem dir_length : dirEnd dirBytes = 256 := by decide +kernel

theorem dir_get (m : Sparse Byte) (h : m = Sparse.setRun 0 [] 0 dirBytes) : dirOk (Sparse.getRun 0 m 0 256) = true := by
  rw [h, dir_stored, dir_valid]

/-- A regulatory profile with one band, 902 to 928 MHz at drive 30. -/
def oneBand : List Word := [1, 0, 0, 0, BitVec.ofNat 32 (2 ^ 31 + 30 * 2 ^ 22 + 902000), 928000, 0, 0]

/-- The command queue with as many entries as it holds. -/
def fullQ : State :=
  { st .service with interp.queues := [(cmdQid, { Queue.empty with items := List.replicate (queueDepth cmdQid) ⟨[], [], 0, 0, 0, 0⟩ })] }

theorem fullQ_agrees : (fullQ.queue cmdQid).agrees = true := by decide +kernel

theorem fullQ_full : fullQ.queueFull cmdQid = true := by
  simp [fullQ, State.queueFull, State.queue, Sparse.get, Queue.fill, cmdQid]

/-- A chain that is ready on 915 MHz, with a stream there. -/
def onAir (n : Nat) (now : Nat) (c : Chain) : State :=
  setTxState n 2 (setTxLock n true { (((st .service now).setFld (F.CHZ_CH_FREQ_F_HZ 1) 915000000).setFld
    (F.RFE_TX_FREQ_KHZ n) 915000) with radio := { Radio.reset with profile := oneBand, chains := [(n, c)] } })

/-- A broadcast descriptor. -/
def dsc (kind : TxKind := .herald) (deadline : Nat := 5) : TxDesc :=
  ⟨kind, 0, 1, 0x1FFFF, 30, deadline, 1000, 0, [1], [], 0, 0, none, false⟩

/-- A profile image: an empty profile with its CRC, and what follows it in the packet. -/
def regPk (n : Nat) (tail : List Nat) : Packet :=
  pk n ([1, 0, 0, 0, 0xFC, 0x91, 0x61, 0xED] ++ List.replicate 264 0 ++ tail)

def regWords : List Word := [1, 0xED6191FC, 0, 0] ++ List.replicate 64 0

theorem reg_words (n : Nat) (l : List Nat) (h : (List.range 68).map (fun i => BitVec.ofNat 32 ((regPk n l).u32 (4 * i))) =
    regWords) : imageWords (regPk n l) = regWords := h

theorem reg_crc : crc32 (wordBytes (regWords.take 1 ++ regWords.drop 4)) = 0xED6191FC#32 := by
  have h (i n : Nat) (c d : Word) (l : List Byte) (e : ((l.drop i).take 65).foldl crc32Byte c = d) :
      ((l.drop i).take (65 + n)).foldl crc32Byte c = ((l.drop (i + 65)).take n).foldl crc32Byte d := by
    rw [List.take_add, List.foldl_append, e, List.drop_drop]
  calc crc32 (wordBytes (regWords.take 1 ++ regWords.drop 4))
      = (((1 :: List.replicate 259 0).drop 0).take (65 + (65 + (65 + 65)))).foldl crc32Byte 0xFFFFFFFF#32 ^^^
          0xFFFFFFFF#32 := by
        rw [show wordBytes (regWords.take 1 ++ regWords.drop 4) = 1 :: List.replicate 259 0 from by decide +kernel,
          crc32, List.drop_zero, List.take_of_length_le (by decide +kernel)]
    _ = 0xED6191FC#32 := by
      rw [h 0 _ _ 0x62D85A6E#32 _ (by decide +kernel), h 65 _ _ 0x1E1D90A1#32 _ (by decide +kernel),
        h 130 _ _ 0x79FB5EC6#32 _ (by decide +kernel),
        show (((1 :: List.replicate 259 0 : List Byte).drop 195).take 65).foldl crc32Byte 0x79FB5EC6#32 = 0x129E6E03#32
          from by
          decide +kernel]
      rfl

theorem reg_ok : profileOk regWords = true := by
  unfold profileOk
  rw [reg_crc]
  decide +kernel

theorem reg_image (n : Nat) (l : List Nat) (h : (List.range 68).map (fun i => BitVec.ofNat 32 ((regPk n l).u32 (4 * i))) =
    regWords) : profileOk (imageWords (regPk n l)) = true := (congrArg profileOk (reg_words n l h)).trans reg_ok

theorem regA : profileOk (imageWords (regPk 272 [])) = true := reg_image 272 [] (by decide +kernel)

theorem regB : profileOk (imageWords (regPk 276 [0])) = true := reg_image 276 [0] (by decide +kernel)

theorem regC : profileOk (imageWords (regPk 276 [1])) = true := reg_image 276 [1] (by decide +kernel)

/-- A frame under reception on a slot, with its profile. -/
def rxf (slot : Nat) (entry : List Byte := []) : RxFrame :=
  { slot := slot, profile := 0, entry := entry, detectAt := 0, hyp := 0, narrow := false, branchB := false, syncSince := 0,
    rateCorr := 0, derot := (0, 0), compared := false, rssiOther := 0, window := none, syncEnd := 0, lead := 0,
    rssi := 0, lqi := 0, cfo := 0, pilot := false, erased := false, taint := false, tier := 0,
    phrDone := false, shortId := 0, fctr16 := 0, rate := 0, long := false, len := 0, mcs := 0, combined := false,
      jobs := 0,
    results := [], holding := [], phrJob := false, phrIters := 0, endAt := none, outcome := none, psdu := [] }

/-- A demodulator context on frame 7 of slot 255, whose profile has the given first bytes. -/
def onFrame (d now : Nat) (prof : List Byte) (x : RxFrame) : State :=
  setDstate 255 d { st .service now with demod := { Demod.reset with
    ctx := [(255, { DemodCtx.reset with frame := some 7 })], frames := [(7, some x)], profiles := [(0, prof)] } }

/-- The Almanac runs from tick 0 with rounds of 150,000 ticks, one to an epoch. -/
def alm (m : Mode) (now : Nat) : State :=
  { (st m now).setFlag F.MAC_ALM_STAT_RUNNING true with
    mac.running :=
      { slotLen := 1, roundsM1 := 0, baseSeed := 0, epoch0 := 0, evOfs := 0, ackTurn := 0, start := 0, cmd := none } }

/-- An event of a node on channel 255. -/
def rxe (node : Nat) : RxEvent :=
  { node := node, ctr := 0, ch := 255, anchor := 0, lo := 0, hi := 0, kind := 0, oldCh := none, shadow := false,
    prepared := false, heard := false, obstructed := false, closed := false, clash := false, skip := false,
    unserved := false, modelled := false, cover := (0, 0), sent := 0, lastEnd := 0,
    pendingBit := false, waiting := false }

/-- A handover at its target. -/
def hov (node : Nat) : Handover :=
  { source := false, eui := 0, node := node, other := 0, newId := 0, cell := 0, eh := 0, ehAnchor := 0, leaseEvents := 0,
    cmd := none, ready := false, switched := true, committed := false, acked := false, plain := true, offer := none,
    reused := false, heardAt := 0 }

/-- A received frame with no bytes. -/
def rxr : RxRecord :=
  { syncEnd := 0, lead := 0, slot := 255, profile := 0, branchB := false, compared := false, pilot := false, erased := false,
    tier := 0, combined := false, taint := false, rssi := 0, rssiOther := 0, lqi := 0, iterMax := 0, cfo := 0,
      shortId := 0,
    mcs := 0, fctr16 := 0, rate := 0, frameEnd := 0, window := none, flr := false, psdu := [] }

/-- A ledger operation on entry 5 of the node table. -/
def lop (op : Nat) : LOp :=
  { op := op, table := 0, keyed := false, txn := false, word := 0, index := 5, mask := 0, cas := 0, data := 0 }

/-- The transaction contexts, with owners; the last one stages entry 5 of the node table. -/
def ctxs (l : List (Nat × Nat)) (staged : List Staged := []) (now : Nat := 0) : State :=
  { st .service now with ledger.ctxs := l.map (fun x => (x.1, ⟨some x.2, if x.1 = 3 then staged else [], 0⟩)) }

theorem pair_eta {α β : Type} (x : α × β) (a : α) (h : x.1 = a) : x = (a, x.2) := by
  cases x
  cases h
  rfl

theorem not_some {α : Type} {o : Option α} {e : α} {P : Prop} (n : o.isNone = true) (h : o = some e) : P := by
  rw [h] at n
  cases n

/-- Witnesses for StepRunsFront: each clause's hypotheses hold together somewhere. -/
theorem test_witness_StepRunsFront :
    (∃ (c : Instr) (rest : List Instr) (s : State), (s.pending = c :: rest)) ∧
    (∃ (s : State), (s.pending = [])) :=
  ⟨⟨.cpStopped, [], { st .service with pending := [.cpStopped] }, by decide +kernel⟩,
   ⟨st .service, by decide +kernel⟩⟩

/-- Witness for QueueStaysWellFormed. -/
theorem test_witness_QueueStaysWellFormed :
    (∃ (s : State) (t : State) (c : _), step s = .next t ∧ ((∀ c ∈ s.pending, c.wf = true) ∧ c ∈ t.pending)) :=
  ⟨{ st .service with pending := [.cpStopped, .warmReset] }, _, .warmReset, rfl, by decide +kernel⟩

/-- Witness for ResetLeaves. -/
theorem test_witness_ResetLeaves :
    (∃ (r : _), (r ∈ ([ (F.CMD_CTL_ZOANT_EN, 1), (F.CMD_CTL_SMB_EN, 1), (F.CMD_CLASS_MASK_SMB_CLASSES, 0xF9BF),
      (F.CMD_CLASS_MASK_ZOANT_CLASSES, 0x0AF2), (F.TMB_STAT_SLOW, 1), (F.RFE_BLANK_THR_THR, 226),
      (F.DMD_CTL_CFO_VALID_S, 3600), (F.LDP_CTL_ITER_CAP, 32), (F.LDP_COMB_CTL_HOLD, 6000), (F.MAC_ALM_CFG_SLOT_LEN, 8),
      (F.MAC_ALM_CFG_ROUNDS_M1, 65535), (F.MAC_SLOT_CFG_ACK_TURN, 200), (F.MAC_SLOT_CFG_EV_OFS, 100),
      (F.MAC_DRIFT_CFG_ALPHA_SH, 3), (F.MAC_DRIFT_CFG_CORR_MIN, 32), (F.MAC_DRIFT_CFG_G_MIN, 7680),
      (F.MAC_DRIFT_U_U_MAX, 40000), (F.MAC_DRIFT_U_U_MIN, 200), (F.FRM_CTL_PAN_ID, 65535), (F.FRM_CTL_TX_LEVEL,
      1)] ++ [ (F.FRM_CTL_FRAG_PSDU, 255), (F.FRM_FRAG_STAT_REASM_S, 60), (F.NVS_CTR_STAT_SPARES, 32),
      (F.LDG_LEARN_CTL_RATE, 200), (F.LDG_LEARN_CTL_BURST, 16), (F.LDG_AGE_CFG_LEARN_AGE_S, 600),
      (F.LDG_AGE_CFG_BNT_AGE_S, 300), (F.LDG_BGC_CTL_RATE, 1000), (F.FWD_CTL_SRC_CHECK, 1), (F.FWD_CTL_ETH_MTU, 1500),
      (F.FWD_DLQ_CFG_TTL_S, 900), (F.FWD_DLQ_CFG_MAX, 8), (F.FWD_DLQ_PAGES_LIMIT, 32768), (F.MMU_FLT_CTL_LOG2, 9),
      (F.ARB_QUOTA_W_M1, 255), (F.ARB_QUOTA_Q_M1, 63), (F.ZFB_CTL_PORT_EN, 15), (F.ZFB_TIME_CFG_ALIGN_THR, 24),
      (F.ZFB_TIME_CFG_RATE, 20), (F.ZFB_LEASE_TMO_TICKS, 12000000), (F.PAR_CTL_REL_ON_CP_STOP, 1),
      (F.PAR_CTL_AUTO_CLAIM, 1), (F.MGT_SMB_CFG_ADDR, 92), (F.STP_CTL_BOOT_LIST_EN, 1), (F.STP_CTL_AUTO_CP_RESTART, 1),
      (F.EVJ_CTL_AON_MIN, 2), (F.MGT_ALERT_EN_EN, 127), (F.CMD_RING_CTL_LOG2_SLOTS 15, 4)] : List (Field × Nat)))) :=
  ⟨(F.CMD_CTL_ZOANT_EN, 1), by decide +kernel⟩

/-- Witnesses for PacketRoundTrip: each clause's hypotheses hold together somewhere. -/
theorem test_witness_PacketRoundTrip :
    (∃ (p : Packet), (p.wf = true)) ∧
    (∃ (bs : List Byte), (bs.length = 16 + leAt bs 4 2)) :=
  ⟨⟨pk 496 [], by decide +kernel⟩,
   ⟨(pk 496 []).wire, by decide +kernel⟩⟩

/-- Witnesses for PacketRefusals: each clause's hypotheses hold together somewhere. -/
theorem test_witness_PacketRefusals :
    (∃ (op : Nat) (n : Nat) (row : Packet →
      Instr) (p : Packet), (op, n, row) ∈ ([(0x0002, 8, .cmdCancel), (0x0003, 0, .cmdSchedQuery), (0x0010, 4, .modeReq), (0x0011, 0, .modeStatus), (0x0012, 8, .sysReset), (0x1001, 0, .timeRead), (0x1002, 16, .timeResync), (0x1003, 8, .timeSlew), (0x2001, 8, .radioSpanSet), (0x2002, 4, .radioTxConfig), (0x2003, 12, .radioCal), (0x2004, 272, .radioRegLoad), (0x2005, 4, .radioRegRead), (0x3001, 16, .phyChanSet), (0x3002, 4, .phyChanRead), (0x3003, 48, .phyCapture), (0x3004, 8, .phyCaptureRead), (0x3010, 40, .phyProfileLoad), (0x3011, 4, .phyProfileRead), (0x4001, 32, .macAlmanacSet), (0x4002, 28, .macHeraldSet), (0x4003, 40, .macChmapSet), (0x4004, 32, .macAssocSet), (0x4005, 4, .macAssocDrop), (0x4006, 4, .macNodeTiming), (0x4007, 12, .macTimingSet), (0x4008, 4, .macLedgerRead), (0x5001, 52, .schedEnvelopeSet), (0x5002, 8, .schedEnvelopeRead), (0x5003, 0, .schedStatus), (0x5004, 4, .schedNodeView), (0x6001, 84, .keyOrkProvision), (0x6002, 84, .keyDkLoad), (0x6003, 84, .keyLoad), (0x6004, 8, .keyEpochPrepare), (0x6005, 0, .keyEpochStatus), (0x6006, 12, .keyZap), (0x6007, 4, .keySlotInfo), (0x6101, 4, .ctrQuery), (0x6102, 12, .ctrResvFetch), (0x6103, 4, .ctrResvAck), (0x7001, 96, .ldgAccess), (0x7002, 0, .ldgLock), (0x7003, 4, .ldgUnlock), (0x7004, 12, .ldgLearnSet), (0x7005, 4, .ldgMismatchRead), (0x8001, 32, .fwdRouteSet), (0x8002, 4, .fwdRouteRead), (0x8003, 16, .fwdCfgSet), (0x8004, 4, .fwdDlqFlush), (0x8101, 20, .frmCfgSet), (0x8102, 20, .frmCtxSet), (0x9001, 48, .rolCampaignSet), (0x9003, 12, .rolStart), (0x9004, 4, .rolStop), (0x9005, 4, .rolStatus), (0xA001, 24, .bufPoolSet), (0xA002, 0, .bufStatus), (0xB001, 16, .fabCfgSet), (0xB002, 0, .fabStatus), (0xB003, 8, .fabHandover), (0xB004, 12, .pairCfg), (0xB005, 4, .pairSwitch), (0xB006, 0, .pairStatus), (0xC003, 4, .resQuery), (0xC010, 24, .ethPortSet), (0xC020, 16, .ppsSet), (0xD001, 0, .thmStatus), (0xD002, 0, .pwrStatus), (0xF101, 32, .attest), (0xF103, 4, .dbgLockout), (0xF201, 276, .regBurn), (0xF301, 8, .journalAonRead)] : List (Nat × Nat × (Packet →
      Instr))) ∧ (p.n ≠ n)) ∧
    (∃ (op : Nat) (n : Nat) (modes : List Mode) (row : Packet →
      Instr) (p : Packet) (s : State), (op, n, modes, row) ∈ ([(0x0002, 8, coreModes, .cmdCancel), (0x0003, 0, coreModes, .cmdSchedQuery), (0x1001, 0, coreModes, .timeRead), (0x1002, 16, coreModes, .timeResync), (0x1003, 8, radioModes, .timeSlew), (0x2001, 8, radioModes, .radioSpanSet), (0x2002, 4, radioModes, .radioTxConfig), (0x2003, 12, radioModes, .radioCal), (0x2004, 272, [.calibrate, .test], .radioRegLoad), (0x2005, 4, coreModes, .radioRegRead), (0x3001, 16, radioModes, .phyChanSet), (0x3002, 4, coreModes, .phyChanRead), (0x3003, 48, radioModes, .phyCapture), (0x3004, 8, coreModes, .phyCaptureRead), (0x3010, 40, radioModes, .phyProfileLoad), (0x3011, 4, coreModes, .phyProfileRead), (0x4001, 32, radioModes, .macAlmanacSet), (0x4002, 28, radioModes, .macHeraldSet), (0x4003, 40, radioModes, .macChmapSet), (0x4004, 32, radioModes, .macAssocSet), (0x4005, 4, radioModes, .macAssocDrop), (0x4006, 4, coreModes, .macNodeTiming), (0x4007, 12, radioModes, .macTimingSet), (0x4008, 4, coreModes, .macLedgerRead), (0x5001, 52, radioModes, .schedEnvelopeSet), (0x5002, 8, coreModes, .schedEnvelopeRead), (0x5003, 0, coreModes, .schedStatus), (0x5004, 4, coreModes, .schedNodeView), (0x6001, 84, radioModes, .keyOrkProvision), (0x6002, 84, radioModes, .keyDkLoad), (0x6003, 84, radioModes, .keyLoad), (0x6004, 8, radioModes, .keyEpochPrepare), (0x6005, 0, coreModes, .keyEpochStatus), (0x6006, 12, coreModes, .keyZap), (0x6007, 4, coreModes, .keySlotInfo), (0x6101, 4, coreModes, .ctrQuery), (0x6102, 12, coreModes, .ctrResvFetch), (0x6103, 4, coreModes, .ctrResvAck), (0x7001, 96, coreModes, .ldgAccess), (0x7002, 0, coreModes, .ldgLock), (0x7003, 4, coreModes, .ldgUnlock), (0x7004, 12, coreModes, .ldgLearnSet), (0x7005, 4, coreModes, .ldgMismatchRead), (0x8001, 32, radioModes, .fwdRouteSet), (0x8002, 4, radioModes, .fwdRouteRead), (0x8003, 16, radioModes, .fwdCfgSet), (0x8004, 4, radioModes, .fwdDlqFlush), (0x8101, 20, radioModes, .frmCfgSet), (0x8102, 20, radioModes, .frmCtxSet), (0x9001, 48, [.service, .test], .rolCampaignSet), (0x9003, 12, [.service, .test], .rolStart), (0x9004, 4, [.service, .test], .rolStop), (0x9005, 4, coreModes, .rolStatus), (0xA001, 24, [.calibrate, .test], .bufPoolSet), (0xA002, 0, coreModes, .bufStatus), (0xB001, 16, coreModes, .fabCfgSet), (0xB002, 0, coreModes, .fabStatus), (0xB003, 8, [.service], .fabHandover), (0xB004, 12, [.calibrate, .banked, .test], .pairCfg), (0xB005, 4, [.service], .pairSwitch), (0xB006, 0, coreModes, .pairStatus), (0xC003, 4, coreModes, .resQuery), (0xC010, 24, radioModes, .ethPortSet), (0xC020, 16, coreModes, .ppsSet)] : List (Nat × Nat × List Mode × (Packet →
      Instr))) ∧ (p.n = n ∧ (s.coresServe = false ∨ s.inMode modes = false))) :=
  ⟨⟨2, 8, .cmdCancel, pk 7 [], .head _, by decide +kernel⟩,
   ⟨2, 8, coreModes, .cmdCancel, pk 8 [], st .quarantine, .head _, by decide +kernel⟩⟩

/-- Witnesses for QueriesOnlyAnswer: each clause's hypotheses hold together somewhere. -/
theorem test_witness_QueriesOnlyAnswer :
    (∃ (row : _) (p : Packet) (s : State) (t : State) (off : _), row ∈ ([.cmdNop, .cmdSchedQuery, .modeStatus,
      .timeRead, .radioRegRead, .phyChanRead, .phyCaptureRead, .phyProfileRead, .macNodeTiming, .schedEnvelopeRead,
      .schedStatus, .schedNodeView, .keyEpochStatus, .keySlotInfo, .ctrQuery, .fwdRouteRead, .rolStatus, .bufStatus,
      .fabStatus, .pairStatus, .resQuery, .thmStatus, .pwrStatus, .attest] : List (Packet → Instr)) ∧
      exec (row p) s = .next t ∧ (off / 0x10000 ∉ [0x13, 0x14, 0x17, 0x18])) ∧
    (∃ (row : _) (p : Packet) (s : State) (t : State), row ∈ ([.cmdNop, .cmdSchedQuery, .modeStatus, .timeRead,
      .radioRegRead, .phyChanRead, .phyCaptureRead, .phyProfileRead, .macNodeTiming, .schedEnvelopeRead, .schedStatus,
      .schedNodeView, .keyEpochStatus, .keySlotInfo, .ctrQuery, .fwdRouteRead, .rolStatus, .bufStatus, .fabStatus,
      .pairStatus, .resQuery, .thmStatus, .pwrStatus, .attest] : List (Packet → Instr)) ∧ exec (row p) s = .next t ∧
      (p.issuer.toNat < 0x40)) :=
  ⟨⟨.cmdNop, pk 0 [], st .service, _, 0x80018, .head _, rfl, by decide +kernel⟩,
   ⟨.cmdNop, pk 0 [], st .service, _, .head _, rfl, by decide +kernel⟩⟩

/-- Witnesses for CommandsArrive: each clause's hypotheses hold together somewhere. -/
theorem test_witness_CommandsArrive :
    (∃ (p : Packet) (s : State) (t : State), t = queueEnter cmdQid ⟨[], p.wire, 0, 0, s.now, s.interp.nextSeq⟩ s ∧
      (s.interp.cpRunning = true ∧ 2 ≤ p.issuer.toNat ∧ p.issuer.toNat ≤ 5 ∧ (s.queue cmdQid).agrees = true ∧
      s.queueFull cmdQid = false ∧ (s.queue cmdQid).waiting = [] ∧ t.arrivalFail p = none ∧
      t.now < p.notBefore.toNat)) ∧
    (∃ (p : Packet) (s : State) (t : State), t = queueEnter cmdQid ⟨[], p.wire, 0, 0, s.now, s.interp.nextSeq⟩ s ∧
      (s.interp.cpRunning = true ∧ 2 ≤ p.issuer.toNat ∧ p.issuer.toNat ≤ 5 ∧ (s.queue cmdQid).agrees = true ∧
      s.queueFull cmdQid = false ∧ (s.queue cmdQid).waiting = [] ∧ t.arrivalFail p = none ∧
      p.notBefore.toNat ≤ t.now)) ∧
    (∃ (p : Packet) (s : State), (s.queue cmdQid).agrees = true ∧ s.queueFull cmdQid = true ∧
      (s.interp.cpRunning = true ∧ 2 ≤ p.issuer.toNat ∧ p.issuer.toNat ≤ 5)) ∧
    (∃ (p : Packet) (s : State) (t : State), t = queueEnter cmdQid ⟨[], p.wire, 0, 0, s.now, s.interp.nextSeq⟩ s ∧
      (s.inMode [.cold] = false ∧ p.issuer = 0x01 ∧ (s.queue cmdQid).agrees = true ∧ s.queueFull cmdQid = false ∧
      (s.queue cmdQid).waiting = [] ∧ t.arrivalFail p = none ∧ p.notBefore.toNat ≤ t.now)) ∧
    (∃ (chip : Fin 64) (p : Packet) (q : Packet) (s : State) (t : State),
      q = { p with issuer := BitVec.ofNat 8 (0x40 + chip.val) } ∧
      t = { s with zoant.outstanding := s.zoant.outstanding + 1 } ∧ (s.zoant.outstanding < 16 ∧ s.inMode [.cold,
      .quarantine] = false ∧ t.arrivalFail q = none)) ∧
    (∃ (s : State), (16 ≤ s.zoant.outstanding ∧ s.inMode [.cold, .quarantine] = false)) ∧
    (∃ (q : Packet) (s : State) (t : State),
      q = { Packet.ofBytes (s.interp.mbox.mem.getRun 0 0 512) with issuer := 0x90 } ∧
      t = { s with interp.mbox.submitted := false } ∧ (s.interp.mbox.submitted = true ∧
      (s.interp.cpStopped = false ∨ q.cls = 0xF) ∧ s.inMode [.cold] = false ∧ t.arrivalFail q = none)) ∧
    (∃ (n : Fin 16) (p : Packet) (q : Packet) (s : State) (u : State) (t : State),
      q = { p with issuer := BitVec.ofNat 8 (0x80 + n.val) } ∧
      u = s.setRing n.val
        { s.ring n.val with fetch := ((s.ring n.val).fetch + 1) % 65536, errs := 0, inFlight := false } ∧
      t = queueEnter (16 + n.val) ⟨[], q.wire, 0, 0, s.now, s.interp.nextSeq⟩ u ∧ (s.mayFetch n.val = true ∧
      (s.queue (16 + n.val)).agrees = true ∧ (s.ring n.val).ahead.contains (s.ring n.val).fetch = false ∧
      t.arrivalFail q = none ∧ q.notBefore.toNat ≤ t.now)) ∧
    (∃ (p : Packet) (st : Nat) (s : State) (t : State), t = queueEnter cmdQid ⟨[], p.wire, 0, 0, s.now,
      s.interp.nextSeq⟩ s ∧ (s.interp.cpRunning = true ∧ 2 ≤ p.issuer.toNat ∧ p.issuer.toNat ≤ 5 ∧
      (s.queue cmdQid).agrees = true ∧ s.queueFull cmdQid = false ∧ (s.queue cmdQid).waiting = [] ∧
      t.arrivalFail p = some st)) ∧
    (∃ (q : Packet) (st : Nat) (s : State) (t : State),
      q = { Packet.ofBytes (s.interp.mbox.mem.getRun 0 0 512) with issuer := 0x90 } ∧
      t = { s with interp.mbox.submitted := false } ∧ (s.interp.mbox.submitted = true ∧
      (s.interp.cpStopped = false ∨ q.cls = 0xF) ∧ s.inMode [.cold] = false ∧ t.arrivalFail q = some st)) ∧
    (∃ (chip : Fin 64) (p : Packet) (q : Packet) (st : Nat) (s : State) (t : State),
      q = { p with issuer := BitVec.ofNat 8 (0x40 + chip.val) } ∧
      t = { s with zoant.outstanding := s.zoant.outstanding + 1 } ∧ (s.zoant.outstanding < 16 ∧ s.inMode [.cold,
      .quarantine] = false ∧ t.arrivalFail q = some st)) ∧
    (∃ (n : Fin 16) (p : Packet) (q : Packet) (st : Nat) (s : State) (u : State) (t : State) (v : State),
      q = { p with issuer := BitVec.ofNat 8 (0x80 + n.val) } ∧
      u = s.setRing n.val
        { s.ring n.val with fetch := ((s.ring n.val).fetch + 1) % 65536, errs := 0, inFlight := false } ∧
      t = queueEnter (16 + n.val) ⟨[], q.wire, 0, 0, s.now, s.interp.nextSeq⟩ u ∧
      v = reply q st [] { t with interp.nextSeq := t.interp.nextSeq + 1 } ∧ (s.mayFetch n.val = true ∧
      (s.queue (16 + n.val)).agrees = true ∧ (s.ring n.val).ahead.contains (s.ring n.val).fetch = false ∧
      t.arrivalFail q = some st)) :=
  ⟨⟨{ pk 0 [] with notBefore := 1 }, st .service, _, rfl, by decide +kernel⟩,
   ⟨pk 496 [], st .service, _, rfl, by decide +kernel⟩,
   ⟨pk 496 [], fullQ, fullQ_agrees, fullQ_full, by decide +kernel⟩,
   ⟨pk 4 [3] 0x0010 1, st .service, _, rfl, by decide +kernel⟩,
   ⟨63, pk 0 [], _,
     { (((st .service).setFlag F.CMD_CTL_ZOANT_EN true).setFld F.CMD_CLASS_MASK_ZOANT_CLASSES 1).setFld F.ZFB_ID_REG_ID 63 with zoant.registrar := 1, zoant.outstanding := 15 },
     _, rfl, rfl, by decide +kernel⟩,
   ⟨{ (((st .service).setFlag F.CMD_CTL_ZOANT_EN true).setFld F.CMD_CLASS_MASK_ZOANT_CLASSES 1).setFld F.ZFB_ID_REG_ID 63 with zoant.registrar := 1, zoant.outstanding := 16 },
     by decide +kernel⟩,
   ⟨_,
     { (st .service).setFld F.CMD_CLASS_MASK_SMB_CLASSES 1 with interp.mbox := { Mailbox.reset with submitted := true, busy := true, mem := Sparse.setRun 0 [] 0 (pk 0 []).wire } },
     _, rfl, rfl, by decide +kernel⟩,
   ⟨15, pk 0 [], _,
     { ((((st .service).setFlag (F.CMD_RING_CTL_EN 15) true).setFlag F.PCI_LINK_BME true).setFlag F.CMD_CTL_HOST_EN true) with interp.rings := [(15, { Ring.empty with piCmd := 1 })] },
     _, _, rfl, rfl, rfl, by decide +kernel⟩,
   ⟨pk 497 [], St.BAD_LENGTH, st .service, _, rfl, by decide +kernel⟩,
   ⟨_, St.BAD_LENGTH,
     { (st .service).setFld F.CMD_CLASS_MASK_SMB_CLASSES 1 with interp.mbox := { Mailbox.reset with submitted := true, busy := true, mem := Sparse.setRun 0 [] 0 (pk 497 []).wire } },
     _, rfl, rfl, by decide +kernel⟩,
   ⟨63, pk 497 [], _, St.BAD_LENGTH,
     { (((st .service).setFlag F.CMD_CTL_ZOANT_EN true).setFld F.CMD_CLASS_MASK_ZOANT_CLASSES 1).setFld F.ZFB_ID_REG_ID 63 with zoant.registrar := 1, zoant.outstanding := 15 },
     _, rfl, rfl, by decide +kernel⟩,
   ⟨15, pk 497 [], _, St.BAD_LENGTH,
     { ((((st .service).setFlag (F.CMD_RING_CTL_EN 15) true).setFlag F.PCI_LINK_BME true).setFlag F.CMD_CTL_HOST_EN true) with interp.rings := [(15, { Ring.empty with piCmd := 1 })] },
     _, _, _, rfl, rfl, rfl, rfl, by decide +kernel⟩⟩

/-- Witnesses for ArrivalChecksInOrder: each clause's hypotheses hold together somewhere. -/
theorem test_witness_ArrivalChecksInOrder :
    (∃ (p : Packet), (496 < p.n)) ∧
    (∃ (p : Packet), (p.n ≤ 496 ∧ 8 ≤ p.flags.toNat)) ∧
    (∃ (p : Packet) (s : State), (p.n ≤ 496 ∧ p.flags.toNat < 8 ∧ s.permitted p = false)) ∧
    (∃ (p : Packet) (s : State), (p.n ≤ 496 ∧ p.flags.toNat < 8 ∧ s.permitted p = true ∧ opLen p = none)) ∧
    (∃ (p : Packet) (s : State), (p.n ≤ 496 ∧ p.flags.toNat < 8 ∧ s.permitted p = true ∧ opLen p = some false)) ∧
    (∃ (p : Packet) (s : State), (p.n ≤ 496 ∧ p.flags.toNat < 8 ∧ s.permitted p = true ∧ opLen p = some true ∧
      s.now + 2 ^ 40 < p.notBefore.toNat)) ∧
    (∃ (p : Packet) (s : State), (p.n ≤ 496 ∧ p.flags.toNat < 8 ∧ s.permitted p = true ∧ opLen p = some true ∧
      p.notBefore.toNat ≤ s.now + 2 ^ 40 ∧ s.flag F.TMB_STAT_CAL_FAULT = true ∧ p.notBefore ≠ 0)) ∧
    (∃ (p : Packet) (s : State), (p.n ≤ 496 ∧ p.flags.toNat < 8 ∧ s.permitted p = true ∧ opLen p = some true ∧
      p.notBefore.toNat ≤ s.now + 2 ^ 40 ∧ s.flag F.TMB_STAT_CAL_FAULT = false ∧ s.now < p.notBefore.toNat ∧
      256 ≤ s.interp.sched.length)) ∧
    (∃ (p : Packet) (s : State), (p.n ≤ 496 ∧ p.flags.toNat < 8 ∧ s.permitted p = true ∧ opLen p = some true ∧
      p.notBefore.toNat ≤ s.now + 2 ^ 40 ∧ s.flag F.TMB_STAT_CAL_FAULT = false ∧ s.now < p.notBefore.toNat ∧
      s.interp.sched.length < 256 ∧ (byManagement p = true ∨ s.coresServe = true))) :=
  ⟨⟨pk 497 [], by decide +kernel⟩,
   ⟨{ pk 496 [] with flags := 8 }, by decide +kernel⟩,
   ⟨{ pk 496 [] with issuer := 0, flags := 7 }, st .service, by decide +kernel⟩,
   ⟨pk 0 [] 0x0004, st .service, by decide +kernel⟩,
   ⟨pk 7 [] 0x0002, st .service, by decide +kernel⟩,
   ⟨{ pk 0 [] with notBefore := 2 ^ 40 + 1 }, st .service, by decide +kernel⟩,
   ⟨{ pk 0 [] with notBefore := 2 ^ 40 }, (st .service).setFlag F.TMB_STAT_CAL_FAULT true, by decide +kernel⟩,
   ⟨{ pk 0 [] with notBefore := 1 }, { st .service with interp.sched := List.replicate 256 (wt (pk 0 []) 0) },
     by decide +kernel⟩,
   ⟨{ pk 0 [] with notBefore := 1 }, { st .service with interp.sched := List.replicate 255 (wt (pk 0 []) 0) },
     by decide +kernel⟩⟩

/-- Witnesses for HostRingCommands: each clause's hypotheses hold together somewhere. -/
theorem test_witness_HostRingCommands :
    (∃ (n : Fin 16) (pi : BitVec 16) (s : State) (t : State),
      t = s.setRing n.val { s.ring n.val with piCmd := pi.toNat } ∧ (s.hostUp = true ∧
      s.inMode [.quarantine] = false)) ∧
    (∃ (n : Fin 16) (ci : BitVec 16) (s : State), (s.hostUp = true ∧ s.inMode [.quarantine] = false ∧
      s.ringSlots n.val < ((s.ring n.val).piRep + 65536 - ci.toNat) % 65536)) ∧
    (∃ (n : Fin 16) (ci : BitVec 16) (s : State) (t : State),
      t = regrant n.val (s.setRing n.val
        { s.ring n.val with ciRep := ci.toNat, returned := ((s.ring n.val).returned + (ci.toNat + 65536 - (s.ring n.val).ciRep) % 65536) % 2 ^ 32 })
        ∧
      (s.hostUp = true ∧ s.inMode [.quarantine] = false ∧
      ((s.ring n.val).piRep + 65536 - ci.toNat) % 65536 ≤ s.ringSlots n.val)) ∧
    (∃ (n : Fin 16) (v : Word) (s : State), (s.reaches (R.CMD_RING_CTL n.val) = true ∧ v.getLsbD 2 = false)) ∧
    (∃ (n : Fin 16) (s : State), ((s.ring n.val).unsig ≠ 0 ∧ (s.ring n.val).unsigAt + 12000 ≤ s.now)) ∧
    (∃ (s : State), (s.flag F.TMB_STAT_CAL_FAULT = false)) ∧
    (∃ (cls : Fin 16) (w : Waiting) (q : Nat) (s : State), (s.nextStart cls.val = some w ∧ s.queueBroken w = some q)) ∧
    (∃ (cls : Fin 16) (w : Waiting) (s : State) (t : State),
      t = startOp w.pkt { takeReady w s with interp.starting := some w.seq } ∧ (s.nextStart cls.val = some w ∧
      s.queueBroken w = none)) ∧
    (∃ (cls : Fin 16) (s : State), (s.nextStart cls.val = none)) ∧
    (∃ (n : Fin 16) (s : State) (w : _), (w ∈ (ringClear n.val s).2.interp.sched)) ∧
    (∃ (n : Fin 16) (s : State) (w : _), (w ∈ (ringClear n.val s).2.interp.ready)) ∧
    (∃ (n : Fin 16) (s : State) (r : _), (r ∈ (ringClear n.val s).2.interp.running ∧
      r.pkt.issuer.toNat = 0x80 + n.val)) ∧
    (∃ (n : Fin 16) (k : _), (k ≠ n.val)) :=
  ⟨⟨15, 16, st .service, _, rfl, by decide +kernel⟩,
   ⟨15, 1, st .service, by decide +kernel⟩,
   ⟨15, 0xFFFF, (st .service).setFld (F.CMD_RING_CTL_LOG2_SLOTS 15) 4, _, rfl, by decide +kernel⟩,
   ⟨15, 0, st .service, by decide +kernel⟩,
   ⟨15, { st .service 12000 with interp.rings := [(15, { Ring.empty with unsig := 1 })] }, by decide +kernel⟩,
   ⟨st .service, by decide +kernel⟩,
   ⟨0, { pkt := pk 0 [] 1 0x8F, seq := 0, arrival := 0, slot := some 0 }, 31,
     { st .service with interp.ready := [{ pkt := pk 0 [] 1 0x8F, seq := 0, arrival := 0, slot := some 0 }], interp.queues := [(31, { Queue.empty with headA := 1 })] },
     by decide +kernel⟩,
   ⟨15, wt (pk 0 [] 0xF101) 7, { st .service with interp.ready := [wt (pk 0 [] 0xF101) 7] }, _, rfl, by decide +kernel⟩,
   ⟨15, st .service, by decide +kernel⟩,
   ⟨15, { st .service with interp.sched := [wt (pk 0 []) 0] }, wt (pk 0 []) 0, by decide +kernel⟩,
   ⟨15, { st .service with interp.ready := [wt (pk 0 []) 0] }, wt (pk 0 []) 0, by decide +kernel⟩,
   ⟨15, { st .service with interp.running := [⟨pk 0 [] 1 0x8F, 0, 0, 0, false⟩] }, ⟨pk 0 [] 1 0x8F, 0, 0, 0, true⟩,
     by decide +kernel⟩,
   ⟨15, 14, by decide +kernel⟩⟩

/-- Witnesses for StartOrder: each clause's hypotheses hold together somewhere. -/
theorem test_witness_StartOrder :
    (∃ (cls : Nat) (w : Waiting) (s : State) (x : _), (s.nextStart cls = some w ∧ x ∈ s.interp.ready ∧ x.pkt.cls = cls ∧
      s.mayStart x = true ∧ x.seq ≠ w.seq)) ∧
    (∃ (cls : Nat) (w : Waiting) (s : State) (x : _), (s.nextStart cls = some w ∧ w.pkt.ordered = true ∧
      x ∈ s.interp.sched ++ s.interp.ready ∧ x.pkt.issuer = w.pkt.issuer)) ∧
    (∃ (cls : Nat) (w : Waiting) (s : State) (x : _), (s.nextStart cls = some w ∧ x ∈ s.interp.sched ++ s.interp.ready ∧
      x.pkt.issuer = w.pkt.issuer ∧ x.pkt.ordered = true)) ∧
    (∃ (cls : Nat) (w : Waiting) (s : State) (r : _), (s.nextStart cls = some w ∧ r ∈ s.interp.running ∧
      r.pkt.issuer = w.pkt.issuer ∧ r.pkt.ordered = true)) :=
  ⟨⟨0, wt (pk 0 []) 0, { st .service with interp.ready := [wt (pk 0 []) 0, wt (pk 0 [] 1 3) 1] }, wt (pk 0 [] 1 3) 1,
    by decide +kernel⟩,
   ⟨0, wt { pk 0 [] with flags := 2 } 0,
     { st .service with interp.ready := [wt { pk 0 [] with flags := 2 } 0, wt (pk 0 []) 1] }, wt (pk 0 []) 1,
     by decide +kernel⟩,
   ⟨0, wt (pk 0 []) 0, { st .service with interp.ready := [wt (pk 0 []) 0, wt { pk 0 [] with flags := 2 } 1] },
     wt { pk 0 [] with flags := 2 } 1, by decide +kernel⟩,
   ⟨0, wt (pk 0 []) 0,
     { st .service with interp.ready := [wt (pk 0 []) 0], interp.running := [⟨{ pk 0 [] with flags := 2 }, 5, 1, 0, false⟩] },
     ⟨{ pk 0 [] with flags := 2 }, 5, 1, 0, false⟩, by decide +kernel⟩⟩

/-- Witnesses for MailboxAndInterpreterCommands: each clause's hypotheses hold together somewhere. -/
theorem test_witness_MailboxAndInterpreterCommands :
    (∃ (s : State) (m : Mailbox) (off : BitVec 16) (data : List Byte),
      m = { s.interp.mbox with ack := true, out := [] } ∧ (s.inMode [.cold] = false ∧ m.busy = false ∧
      data.length ≤ 253 ∧ off.toNat + data.length ≤ 512 ∧ data ≠ [])) ∧
    (∃ (s : State) (m : Mailbox), m = { s.interp.mbox with ack := true, out := [] } ∧ (s.inMode [.cold] = false ∧
      m.busy = false ∧ m.incomplete = false ∧ s.flag F.CMD_CTL_SMB_EN = true)) ∧
    (∃ (s : State) (m : Mailbox), m = { s.interp.mbox with ack := true, out := [] } ∧ (s.inMode [.cold] = false ∧
      m.busy = false ∧ m.incomplete = true)) ∧
    (∃ (s : State) (m : Mailbox), m = { s.interp.mbox with ack := true, out := [] } ∧ (s.inMode [.cold] = false)) ∧
    (∃ (s : State) (m : Mailbox), m = { s.interp.mbox with ack := true, out := [] } ∧ (s.inMode [.cold] = false ∧
      m.busy = true ∧ m.replyReady = true)) ∧
    (∃ (s : State) (m : Mailbox), m = { s.interp.mbox with ack := true, out := [] } ∧ (s.inMode [.cold] = false ∧
      m.busy = true ∧ m.replyReady = false)) ∧
    (∃ (s : State) (m : Mailbox) (n : Nat), m = { s.interp.mbox with ack := true, out := [] } ∧
      n = (if 255 ≤ 16 + leAt (m.mem.getRun 0 0 16) 4 2 - m.readOff then 255 else 16 + leAt (m.mem.getRun 0 0 16) 4 2 - m.readOff) ∧
      (s.inMode [.cold] = false ∧ m.replyReady = true)) ∧
    (∃ (s : State) (m : Mailbox), m = { s.interp.mbox with ack := true, out := [] } ∧ (s.inMode [.cold] = false ∧
      s.alertN = true)) ∧
    (∃ (s : State) (m : Mailbox), m = { s.interp.mbox with ack := true, out := [] } ∧ (s.inMode [.cold] = false ∧
      m.busy = true)) ∧
    (∃ (p : Packet) (s : State), (s.coresServe = true ∧ s.inMode coreModes = true ∧ p.n ≤ 496)) ∧
    (∃ (p : Packet) (s : State) (hit : Waiting → Bool),
      hit = (fun w => w.pkt.issuer == p.issuer && (p.u8 2 == 1 || w.pkt.tag.toNat == p.u16 0)) ∧ (s.coresServe = true ∧
      s.inMode coreModes = true ∧ p.n = 8 ∧ p.u8 2 ≤ 1 ∧ p.dirty 3 5 = false)) ∧
    (∃ (p : Packet) (s : State) (own : List Waiting), own = s.interp.sched.filter (fun w => w.pkt.issuer == p.issuer) ∧
      (s.coresServe = true ∧ s.inMode coreModes = true ∧ p.n = 0)) :=
  ⟨⟨st .service, _, 511, [1], rfl, by decide +kernel⟩,
   ⟨({ st .service with interp.mbox := { Mailbox.reset with mem := Sparse.setRun 0 [] 0 (pk 0 []).wire, high := some 15 } }).setFlag
     F.CMD_CTL_SMB_EN true,
     _, rfl, by decide +kernel⟩,
   ⟨{ st .service with interp.mbox := { Mailbox.reset with high := some 14 } }, _, rfl, by decide +kernel⟩,
   ⟨st .service, _, rfl, by decide +kernel⟩,
   ⟨{ st .service with interp.mbox := { Mailbox.reset with busy := true, replyReady := true } }, _, rfl,
     by decide +kernel⟩,
   ⟨{ st .service with interp.mbox := { Mailbox.reset with busy := true } }, _, rfl, by decide +kernel⟩,
   ⟨{ st .service with interp.mbox := { Mailbox.reset with replyReady := true, mem := Sparse.setRun 0 [] 0 (pk 0 []).wire, high := some 15 } },
     _, _, rfl, rfl, by decide +kernel⟩,
   ⟨((st .service).setFld F.MGT_INT_ALERT_CAUSE 2).setFld F.MGT_ALERT_EN_EN 2, _, rfl, by decide +kernel⟩,
   ⟨{ st .service with interp.mbox := { Mailbox.reset with busy := true } }, _, rfl, by decide +kernel⟩,
   ⟨pk 496 [], emb, by decide +kernel⟩,
   ⟨pk 8 [0, 0, 1], st .service, _, rfl, by decide +kernel⟩,
   ⟨pk 0 [], st .service, _, rfl, by decide +kernel⟩⟩

/-- Witnesses for StateReadsBack: each clause's hypotheses hold together somewhere. -/
theorem test_witness_StateReadsBack :
    (∃ (f : Field) (g : Field), (f.lo + f.width ≤ 32 ∧ g.lo + g.width ≤ 32 ∧
      (g.off ≠ f.off ∨ g.lo + g.width ≤ f.lo ∨ f.lo + f.width ≤ g.lo))) ∧
    (∃ (f : Field) (off : _), (f.lo + f.width ≤ 32 ∧ off ≠ f.off)) ∧
    (∃ (a : Nat) (bs : List Byte) (b : _), ((b < a ∨ a + bs.length ≤ b))) ∧
    (∃ (s : State), (Sparse.wf 0 s.dram = true)) ∧
    (∃ (s : State), (Sparse.wf 0 s.hostMem = true)) ∧
    (∃ (a : Nat) (bs : List Byte) (s : State) (l : List Nat),
      l = s.bufs.badBursts.filter (fun b => !(a ≤ 64 * b && 64 * b + 64 ≤ a + bs.length))) :=
  ⟨⟨⟨0, 31, 1⟩, ⟨0, 0, 31⟩, by decide +kernel⟩,
   ⟨⟨0, 0, 32⟩, 4, by decide +kernel⟩,
   ⟨1, [1, 2], 3, by decide +kernel⟩,
   ⟨st .service, by decide +kernel⟩,
   ⟨st .service, by decide +kernel⟩,
   ⟨0, [1], st .service, _, rfl⟩⟩

/-- Witness for WritesOutOfReachLost. -/
theorem test_witness_WritesOutOfReachLost :
    (∃ (off : BitVec 24) (s : State), ((s.seq.mode = .cold ∨ (s.seq.mode = .quarantine ∧
      dataBlock (off.toNat / 0x10000) = true ∧ off.toNat / 0x10000 ≠ 0x17) ∨ (s.seq.mode = .ember ∧
      4 ≤ off.toNat / 0x10000 ∧ off.toNat / 0x10000 ≤ 7)))) :=
  ⟨0x70004, st .ember, by decide +kernel⟩

/-- Witness for AccessCodes. -/
theorem test_witness_AccessCodes :
    (∃ (off : BitVec 24) (s : State) (d : RegDesc), findReg off.toNat = some d ∧ (s.reaches off.toNat = true ∧
      plainBlock (off.toNat / 0x10000) = true ∧ clearMap off.toNat = [])) :=
  ⟨0x80018, st .service, _, rfl, by decide +kernel⟩

/-- Witnesses for LocksAndCounterClears: each clause's hypotheses hold together somewhere. -/
theorem test_witness_LocksAndCounterClears :
    (∃ (off : BitVec 24) (s : State) (d : RegDesc), findReg off.toNat = some d ∧ (s.reaches off.toNat = true ∧
      d.w1s.getLsbD 31 = true ∧ off.toNat ≠ F.NVS_CTR_CTL_EXT_PERSIST.off)) ∧
    (∃ (off : BitVec 24) (s : State) (d : RegDesc), findReg off.toNat = some d ∧ (s.reaches off.toNat = true ∧
      d.w1s.getLsbD 31 = true ∧ off.toNat = F.NVS_CTR_CTL_EXT_PERSIST.off)) ∧
    (∃ (off : BitVec 24) (s : State), (s.reaches off.toNat = true ∧ off.toNat ≠ R.EVJ_CLR)) :=
  ⟨⟨0x130000, st .service, _, rfl, by decide +kernel⟩,
   ⟨F.NVS_CTR_CTL_EXT_PERSIST.off, st .service, _, rfl, by decide +kernel⟩,
   ⟨0x8006C, st .service, by decide +kernel⟩⟩

/-- Witnesses for ModeCommands: each clause's hypotheses hold together somewhere. -/
theorem test_witness_ModeCommands :
    (∃ (p : Packet) (s : State) (m : Mode), (Managed 4 allButCold p s ∧ Mode.ofCode (p.u8 0) = some m ∧
      p.dirty 1 3 = false ∧ m ≠ .quarantine ∧ s.seq.mode = .banked ∧ s.claiming = true ∧ s.seq.heldExit = none)) ∧
    (∃ (p : Packet) (s : State) (m : Mode), (Managed 4 allButCold p s ∧ Mode.ofCode (p.u8 0) = some m ∧
      p.dirty 1 3 = false ∧ m ≠ .quarantine ∧ (s.seq.mode ≠ .banked ∨ s.claiming = false) ∧ s.seqBusy m = true)) ∧
    (∃ (p : Packet) (s : State) (m : Mode), (Managed 4 allButCold p s ∧ Mode.ofCode (p.u8 0) = some m ∧
      p.dirty 1 3 = false ∧ (m = .quarantine ∨ ((s.seq.mode ≠ .banked ∨ s.claiming = false) ∧ s.seqBusy m = false)) ∧
      m = s.seq.mode)) ∧
    (∃ (p : Packet) (s : State) (m : Mode) (st : _), (Managed 4 allButCold p s ∧ Mode.ofCode (p.u8 0) = some m ∧
      p.dirty 1 3 = false ∧ (m = .quarantine ∨ ((s.seq.mode ≠ .banked ∨ s.claiming = false) ∧ s.seqBusy m = false)) ∧
      m ≠ s.seq.mode ∧ s.modeReqFail m = some st)) ∧
    (∃ (p : Packet) (s : State) (m : Mode), (Managed 4 allButCold p s ∧ Mode.ofCode (p.u8 0) = some m ∧
      p.dirty 1 3 = false ∧ (m = .quarantine ∨ ((s.seq.mode ≠ .banked ∨ s.claiming = false) ∧ s.seqBusy m = false)) ∧
      m ≠ s.seq.mode ∧ (m = .calibrate ∨ m = .test → s.holder = false ∧ s.flag F.THM_STAT_CRIT = false) ∧
      s.reqAllowed m = true ∧ (m = .ember → s.flag F.CLK_STAT_SLOW_OK = true))) ∧
    (∃ (p : Packet) (s : State), (Managed 0 allButCold p s)) ∧
    (∃ (p : Packet) (s : State), (Managed 8 allButCold p s ∧ p.u32 0 = 0x52455345 ∧ p.dirty 5 3 = false ∧ p.u8 4 = 0 ∧
      s.flag F.DBG_STAT_OPEN = false ∧ s.latched = false)) ∧
    (∃ (p : Packet) (s : State), (Managed 8 allButCold p s ∧ p.u32 0 = 0x52455345 ∧ p.dirty 5 3 = false ∧ p.u8 4 = 1 ∧
      s.inMode [.quarantine] = false ∧ (reply (asOp 0x0012 p) St.OK [] s).seq.mode ≠ .kindling)) ∧
    (∃ (p : Packet) (s : State), (chunkLen p = true ∧ s.coresServe = true ∧ s.inMode [.calibrate, .test] = true ∧
      p.u16 4 ≤ 480 ∧ p.u8 6 = 0 ∧ p.dirty 7 1 = false ∧ p.u32 0 + p.u16 4 ≤ 16384)) :=
  ⟨⟨pk 4 [3], { st .banked with seq.trans := some ⟨.service, 3, none⟩ }, .service, by unfold Managed; decide +kernel⟩,
   ⟨pk 4 [2], { st .service with seq.trans := some ⟨.banked, 3, none⟩ }, .calibrate, by unfold Managed; decide +kernel⟩,
   ⟨pk 4 [3], st .service, .service, by unfold Managed; decide +kernel⟩,
   ⟨pk 4 [2], ((st .service).setFld F.PAR_STAT_ROLE 1).setFlag F.PAR_STAT_HELD true, .calibrate, MODE_HOLDS_TOKEN,
     by unfold Managed; decide +kernel⟩,
   ⟨pk 4 [2], st .service, .calibrate, by unfold Managed; decide +kernel⟩,
   ⟨pk 0 [], st .quarantine, by unfold Managed; decide +kernel⟩,
   ⟨pk 8 [0x45, 0x53, 0x45, 0x52, 0], st .quarantine, by unfold Managed; decide +kernel⟩,
   ⟨pk 8 [0x45, 0x53, 0x45, 0x52, 1], st .service, by unfold Managed; decide +kernel⟩,
   ⟨pk 488 [0x20, 0x3E, 0, 0, 0xE0, 1], st .test, by decide +kernel⟩⟩

/-- Witnesses for TransitionsEnd: each clause's hypotheses hold together somewhere. -/
theorem test_witness_TransitionsEnd :
    (∃ (s : State) (t : State), t = startupEnd s ∧ (s.seq.calibrated = false ∧ s.inMode [.calibrate, .test] = true ∧
      s.seq.calAt + sumOf (startupDurations.drop (s.seq.calStep - 1)) ≤ s.now ∧ t.seq.mode = .test)) ∧
    (∃ (s : State) (t : State) (x : _), t = startupEnd s ∧ (s.seq.calibrated = false ∧ s.inMode [.calibrate,
      .test] = true ∧ s.seq.calAt + sumOf (startupDurations.drop (s.seq.calStep - 1)) ≤ s.now ∧ t.seq.mode ≠ .test ∧
      t.seq.trans = some x)) ∧
    (∃ (s : State) (t : State), t = startupEnd s ∧ (s.seq.calibrated = false ∧ s.inMode [.calibrate, .test] = true ∧
      s.seq.calAt + sumOf (startupDurations.drop (s.seq.calStep - 1)) ≤ s.now ∧ t.seq.mode ≠ .test ∧
      t.seq.trans = none ∧ t.paired = false)) ∧
    (∃ (s : State) (t : State), t = startupEnd s ∧ (s.seq.calibrated = false ∧ s.inMode [.calibrate, .test] = true ∧
      s.seq.calAt + sumOf (startupDurations.drop (s.seq.calStep - 1)) ≤ s.now ∧ t.seq.mode ≠ .test ∧
      t.seq.trans = none ∧ t.paired = true ∧ t.flag F.PAR_STAT_LINE = false)) ∧
    (∃ (s : State) (t : State), t = startupEnd s ∧ (s.seq.calibrated = false ∧ s.inMode [.calibrate, .test] = true ∧
      s.seq.calAt + sumOf (startupDurations.drop (s.seq.calStep - 1)) ≤ s.now ∧ t.seq.mode ≠ .test ∧
      t.seq.trans = none ∧ t.paired = true ∧ t.flag F.PAR_STAT_LINE = true)) ∧
    (∃ (s : State) (t : Transition), (s.seq.trans = some t ∧ s.seq.mode ≠ .ember ∧ t.target = .service)) ∧
    (∃ (s : State) (t : Transition), (s.seq.trans = some t ∧ s.seq.mode ≠ .ember ∧ t.target = .banked)) ∧
    (∃ (s : State) (t : Transition), (s.seq.trans = some t ∧ s.seq.mode ≠ .ember ∧ t.target = .calibrate ∧
      s.chainsQuiet = true)) ∧
    (∃ (s : State) (t : Transition), (s.seq.trans = some t ∧ s.seq.mode ≠ .ember ∧ t.target = .ember ∧
      s.txStopped = true ∧ s.chainsQuiet = true)) ∧
    (∃ (s : State) (t : Transition), (s.seq.trans = some t ∧ s.seq.mode ≠ .ember ∧ t.target = .test ∧
      s.seq.calibrated = true)) ∧
    (∃ (s : State) (t : Transition), (s.seq.trans = some t ∧ s.seq.mode = .ember ∧ s.slowing = false)) ∧
    (∃ (s : State), (s.now < 2 ^ 64)) ∧
    (∃ (off : _), (off ≠ R.STP_MODE_T_LO ∧ off ≠ R.STP_MODE_T_HI ∧ off ≠ (F.ETH_PORT_STAT_LASER_ON 0).off ∧
      off ≠ (F.ETH_PORT_STAT_LASER_ON 1).off)) ∧
    (∃ (port : _), (port < 2)) :=
  ⟨⟨st .test 21600000, _, rfl, by decide +kernel⟩,
   ⟨{ st .calibrate 21600000 with seq.trans := some ⟨.test, 3, none⟩ }, _, ⟨.test, 3, none⟩, rfl, by decide +kernel⟩,
   ⟨st .calibrate 21600000, _, rfl, by decide +kernel⟩,
   ⟨(st .calibrate 21600000).setFld F.PAR_STAT_ROLE 1, _, rfl, by decide +kernel⟩,
   ⟨((st .calibrate 21600000).setFld F.PAR_STAT_ROLE 1).setFlag F.PAR_STAT_LINE true, _, rfl, by decide +kernel⟩,
   ⟨{ st .calibrate with seq.trans := some ⟨.service, 3, none⟩, seq.calibrated := true, seq.stopTx := true }, ⟨.service,
     3, none⟩, by decide +kernel⟩,
   ⟨{ st .calibrate with seq.trans := some ⟨.banked, 3, none⟩, seq.calibrated := true, seq.stopTx := true }, ⟨.banked,
     3, none⟩, by decide +kernel⟩,
   ⟨{ st .calibrate with seq.trans := some ⟨.calibrate, 3, none⟩, seq.calibrated := true, seq.stopTx := true },
     ⟨.calibrate, 3, none⟩, by decide +kernel⟩,
   ⟨{ st .calibrate with seq.trans := some ⟨.ember, 3, none⟩, seq.calibrated := true, seq.stopTx := true }, ⟨.ember, 3,
     none⟩, by decide +kernel⟩,
   ⟨{ st .calibrate with seq.trans := some ⟨.test, 3, none⟩, seq.calibrated := true, seq.stopTx := true }, ⟨.test, 3,
     none⟩, by decide +kernel⟩,
   ⟨{ st .ember with seq.trans := some ⟨.service, 3, none⟩ }, ⟨.service, 3, none⟩, by decide +kernel⟩,
   ⟨st .service (2 ^ 64 - 1), by decide +kernel⟩,
   ⟨0, by decide +kernel⟩,
   ⟨1, by decide +kernel⟩⟩

/-- Witnesses for BootCommands: each clause's hypotheses hold together somewhere. -/
theorem test_witness_BootCommands :
    (∃ (img : BootImage) (x : BootImage) (s : State) (next : Nat), (s.seq.boot.phase = .loading next ∧
      (if s.seq.boot.source = 0 then some img else s.heldImage next) = some x)) ∧
    (∃ (img : BootImage) (x : BootImage) (s : State) (t : State), t = { s with seq.boot.phase := .idle } ∧
      (s.seq.boot.phase = .restart ∧
      (if s.seq.boot.source = 1 ∨ s.seq.boot.source = 0 then some img else s.heldImage 2) = some x)) ∧
    (∃ (s : State) (t : Nat), (s.seq.boot.phase = .doorbell (some t) ∧ s.reaches 0x1E0014 = true)) ∧
    (∃ (s : State) (t : Nat), (s.seq.boot.phase = .doorbell (some t) ∧ t + 3600000000 ≤ s.now)) ∧
    (∃ (s : State) (p : Nat) (tries : Nat) (off : Nat), (s.seq.boot.phase = .zoant p tries off ∧
      s.seq.boot.askedAt + 1200000 ≤ s.now)) ∧
    (∃ (p : Fin 4) (off : Nat) (tries : Nat) (bytes : List Byte) (s : State) (t : State),
      t = { s with seq.boot.stream := s.seq.boot.stream.setRun 0 off bytes, seq.boot.streamLen := off + bytes.length } ∧
      (s.seq.boot.phase = .zoant p.val tries off ∧ bytes ≠ [] ∧ bytes.length ≤ 2048 ∧ off + bytes.length < 256)) ∧
    (∃ (p : Fin 4) (off : Nat) (tries : Nat) (bytes : List Byte) (s : State) (t : State),
      t = { s with seq.boot.stream := s.seq.boot.stream.setRun 0 off bytes, seq.boot.streamLen := off + bytes.length } ∧
      dirOk (t.setBytes 0 256) = true ∧ (s.seq.boot.phase = .zoant p.val tries off ∧ bytes ≠ [] ∧ bytes.length ≤ 2048 ∧
      256 ≤ off + bytes.length ∧ dirEnd (t.setBytes 0 256) ≤ off + bytes.length)) ∧
    (∃ (len : Nat) (s : State), (s.inMode [.calibrate, .service, .banked, .ember, .test] = true ∧ s.coresWork = true ∧
      len ≤ 2048)) ∧
    (∃ (p : Packet) (s : State) (t : State) (u : State),
      t =
        { s with seq.boot.stream := s.seq.boot.stream.setRun 0 (p.u32 0) (p.bytes 8 (p.u16 4)), seq.boot.streamLen := most2 s.seq.boot.streamLen (p.u32 0 + p.u16 4) }
        ∧
      u = (if s.seq.boot.streamLen / 65536 < t.seq.boot.streamLen / 65536 then uartText t else t) ∧ (loadLen p = true ∧
      s.inMode allButCold = true ∧ s.inRecovery = true ∧ 1 ≤ p.u16 4 ∧ p.u16 4 ≤ 480 ∧ p.u8 6 ≤ 1 ∧
      p.dirty 7 1 = false ∧ p.bit 6 0 = false)) ∧
    (∃ (p : Packet) (s : State) (t : State) (u : State),
      t =
        { s with seq.boot.stream := s.seq.boot.stream.setRun 0 (p.u32 0) (p.bytes 8 (p.u16 4)), seq.boot.streamLen := most2 s.seq.boot.streamLen (p.u32 0 + p.u16 4) }
        ∧
      u = (if s.seq.boot.streamLen / 65536 < t.seq.boot.streamLen / 65536 then uartText t else t) ∧ (loadLen p = true ∧
      s.inMode allButCold = true ∧ s.inRecovery = true ∧ 1 ≤ p.u16 4 ∧ p.u16 4 ≤ 480 ∧ p.u8 6 ≤ 1 ∧
      p.dirty 7 1 = false ∧ p.bit 6 0 = true)) ∧
    (∃ (s : State) (u : State) (t : State),
      u = (List.range 16).foldl (fun u n => putLane n { u.lane n with imageValid := true } (u.setBit F.LNS_CTL_RUN n
        true)) { loadMacs (entryZero (ringsPlace (keysKindling s))) with interp.cpRunning := true } ∧
      t = u.setFld F.STP_BOOT_STAT_KINDLING_MS (least2 0xFFFF ((u.now - u.seq.kindlingAt) / 120000)) ∧
      (s.seq.mode = .kindling ∧ s.seq.boot.phase = .idle ∧ s.seq.boot.accepted.length = 5)) :=
  ⟨⟨⟨List.replicate 256 0, []⟩, ⟨List.replicate 256 0, []⟩,
    { st .kindling with seq.boot := { Boot.reset with phase := .loading 1 } }, 1, by decide +kernel⟩,
   ⟨⟨List.replicate 256 0, []⟩, ⟨List.replicate 256 0, []⟩,
     { st .kindling with seq.boot := { Boot.reset with phase := .restart } }, _, rfl, by decide +kernel⟩,
   ⟨{ st .kindling with seq.boot := { Boot.reset with phase := .doorbell (some 0) } }, 0, by decide +kernel⟩,
   ⟨{ st .kindling 3600000000 with seq.boot := { Boot.reset with phase := .doorbell (some 0) } }, 0, by decide +kernel⟩,
   ⟨{ st .kindling 1200000 with seq.boot := { Boot.reset with phase := .zoant 3 3 0 } }, 3, 3, 0, by decide +kernel⟩,
   ⟨3, 0, 3, [1], { st .kindling with seq.boot := { Boot.reset with phase := .zoant 3 3 0 } }, _, rfl,
     by decide +kernel⟩,
   ⟨3, 0, 1, dirBytes, { st .kindling with seq.boot := { Boot.reset with phase := .zoant 3 1 0, source := 3 } }, _, rfl,
     by rw [State.setBytes, if_neg (by decide +kernel)]; exact dir_get _ (by decide +kernel), by decide +kernel⟩,
   ⟨2048, emb, by decide +kernel⟩,
   ⟨pk 9 [0, 0, 0, 0, 1, 0, 0, 0, 7], { st .kindling with seq.boot := { Boot.reset with phase := .recovery } }, _, _,
     rfl, rfl, by decide +kernel⟩,
   ⟨pk 9 [0, 0, 0, 0, 1, 0, 1, 0, 7], { st .kindling with seq.boot := { Boot.reset with phase := .recovery } }, _, _,
     rfl, rfl, by decide +kernel⟩,
   ⟨{ st .kindling with seq.boot := { Boot.reset with accepted := [1, 2, 3, 4, 5] } }, _, _, rfl, rfl,
     by decide +kernel⟩⟩

/-- Witnesses for ResetsAndRestarts: each clause's hypotheses hold together somewhere. -/
theorem test_witness_ResetsAndRestarts :
    (∃ (s : State), (s.cal.porLow = true ∧ s.cal.aonLost = false)) ∧
    (∃ (s : State), (s.cal.aonLost = true ∧ s.cal.porLow = false)) ∧
    (∃ (s : State), (s.cal.porLow = false ∧ s.cal.aonLost = false ∧ s.seq.strapsSampled = false ∧ s.seq.mode = .cold)) ∧
    (∃ (s : State), (s.seq.mode = .cold ∧ s.cal.porLow = false ∧ s.cal.aonLost = false ∧ s.seq.strapsSampled = true ∧
      s.seq.thermtrip = false ∧ s.seq.warmDue = false ∧ s.seq.refRestart = false)) ∧
    (∃ (s : State), (s.seq.warmDue = true)) ∧
    (∃ (s : State) (t : State),
      t = post 1 sevDegraded 0x0101 (arg2 (countIf (fun (r : Running) => !byManagement r.pkt) s.interp.running) ++ arg2
        (endRunning (fun p => !byManagement p) St.INTERNAL
        { s with interp.cpStopped := true, interp.cpStoppedAt := s.now }).interp.sched.length) (endRunning (fun p =>
        !byManagement p) St.INTERNAL { s with interp.cpStopped := true, interp.cpStoppedAt := s.now }) ∧
      (s.interp.cpRunning = true ∧ s.interp.cpStopped = false ∧ s.coresServe = true)) ∧
    (∃ (s : State), (s.interp.cpStopped = true ∧ s.seq.boot.phase ≠ .restart ∧ s.flag F.STP_CTL_AUTO_CP_RESTART = true ∧
      s.interp.cpStoppedAt + 120000000 ≤ s.now)) ∧
    (∃ (counts : Option (List Nat)) (s : State) (t : State),
      t = post 0 sevDegraded 0x0004 [] (abortAll RF_ABORTED (enterSlow 3 (((s.setFlag F.CLK_STAT_REF_OK false).setFlag
        F.CLK_STAT_PLL_LOCK counts.isSome).count F.CLK_REF_LOSS_CNT_COUNT 1))) ∧
      (s.flag F.CLK_STAT_REF_OK = true ∧ s.refLost counts = true ∧ t.inMode [.service, .banked, .calibrate,
      .test] = true)) ∧
    (∃ (counts : Option (List Nat)) (s : State) (t : State),
      t = post 0 sevDegraded 0x0004 [] (abortAll RF_ABORTED (enterSlow 3 (((s.setFlag F.CLK_STAT_REF_OK false).setFlag
        F.CLK_STAT_PLL_LOCK counts.isSome).count F.CLK_REF_LOSS_CNT_COUNT 1))) ∧
      (s.flag F.CLK_STAT_REF_OK = true ∧ s.refLost counts = true ∧ t.seq.mode = .kindling)) ∧
    (∃ (counts : Option (List Nat)) (s : State) (t : State),
      t = post 0 sevDegraded 0x0004 [] (abortAll RF_ABORTED (enterSlow 3 (((s.setFlag F.CLK_STAT_REF_OK false).setFlag
        F.CLK_STAT_PLL_LOCK counts.isSome).count F.CLK_REF_LOSS_CNT_COUNT 1))) ∧
      (s.flag F.CLK_STAT_REF_OK = true ∧ s.refLost counts = true ∧ t.seq.mode = .quarantine)) ∧
    (∃ (counts : Option (List Nat)) (s : State) (t : State),
      t = post 0 sevDegraded 0x0004 [] (abortAll RF_ABORTED (enterSlow 3 (((s.setFlag F.CLK_STAT_REF_OK false).setFlag
        F.CLK_STAT_PLL_LOCK counts.isSome).count F.CLK_REF_LOSS_CNT_COUNT 1))) ∧
      (s.flag F.CLK_STAT_REF_OK = true ∧ s.refLost counts = true ∧ t.seq.mode = .cold)) ∧
    (∃ (counts : Option (List Nat)) (s : State), ((s.flag F.CLK_STAT_REF_OK = false ∨ s.refLost counts = false))) ∧
    (∃ (s : State) (t : State),
      t = post 0 sevInfo 0x0005 [] ((s.setFlag F.CLK_STAT_REF_OK true).setFlag F.CLK_STAT_PLL_LOCK true) ∧
      (s.flag F.CLK_STAT_REF_OK = false ∧ s.fld F.CLK_REF_LOSS_CNT_COUNT ≠ 0 ∧ s.seq.mode = .cold ∧
      t.coldWaits = false)) ∧
    (∃ (s : State) (t : State),
      t = post 0 sevInfo 0x0005 [] ((s.setFlag F.CLK_STAT_REF_OK true).setFlag F.CLK_STAT_PLL_LOCK true) ∧
      (s.flag F.CLK_STAT_REF_OK = false ∧ s.fld F.CLK_REF_LOSS_CNT_COUNT ≠ 0 ∧ s.seq.mode = .quarantine)) ∧
    (∃ (s : State) (t : State),
      t = post 0 sevInfo 0x0005 [] ((s.setFlag F.CLK_STAT_REF_OK true).setFlag F.CLK_STAT_PLL_LOCK true) ∧
      (s.flag F.CLK_STAT_REF_OK = false ∧ s.fld F.CLK_REF_LOSS_CNT_COUNT ≠ 0 ∧ s.seq.mode = .ember ∧
      s.seq.heldExit = none)) ∧
    (∃ (s : State) (t : State) (m : _) (c : _),
      t = post 0 sevInfo 0x0005 [] ((s.setFlag F.CLK_STAT_REF_OK true).setFlag F.CLK_STAT_PLL_LOCK true) ∧
      (s.flag F.CLK_STAT_REF_OK = false ∧ s.fld F.CLK_REF_LOSS_CNT_COUNT ≠ 0 ∧ s.seq.mode = .ember ∧
      s.seq.heldExit = some (m, c))) :=
  ⟨⟨{ st .cold with cal.porLow := true }, by decide +kernel⟩,
   ⟨{ st .cold with cal.aonLost := true }, by decide +kernel⟩,
   ⟨st .cold, by decide +kernel⟩,
   ⟨{ st .cold with seq.strapsSampled := true }, by decide +kernel⟩,
   ⟨{ st .service with seq.warmDue := true }, by decide +kernel⟩,
   ⟨st .service, _, rfl, by decide +kernel⟩,
   ⟨{ (st .service 120000000).setFlag F.STP_CTL_AUTO_CP_RESTART true with interp.cpStopped := true },
     by decide +kernel⟩,
   ⟨none, ((st .test).setFlag F.CLK_STAT_REF_OK true).setFlag F.CLK_STAT_SLOW_OK true, _, rfl, by decide +kernel⟩,
   ⟨none, ((st .kindling).setFlag F.CLK_STAT_REF_OK true).setFlag F.CLK_STAT_SLOW_OK true, _, rfl, by decide +kernel⟩,
   ⟨none, ((st .quarantine).setFlag F.CLK_STAT_REF_OK true).setFlag F.CLK_STAT_SLOW_OK true, _, rfl, by decide +kernel⟩,
   ⟨none, ((st .cold).setFlag F.CLK_STAT_REF_OK true).setFlag F.CLK_STAT_SLOW_OK true, _, rfl, by decide +kernel⟩,
   ⟨none, st .service, by decide +kernel⟩,
   ⟨{ (st .cold).setFld F.CLK_REF_LOSS_CNT_COUNT 1 with seq.strapsSampled := true }, _, rfl, by decide +kernel⟩,
   ⟨(st .quarantine).setFld F.CLK_REF_LOSS_CNT_COUNT 1, _, rfl, by decide +kernel⟩,
   ⟨(st .ember).setFld F.CLK_REF_LOSS_CNT_COUNT 1, _, rfl, by decide +kernel⟩,
   ⟨{ (st .ember).setFld F.CLK_REF_LOSS_CNT_COUNT 1 with seq.heldExit := some (.service, 5) }, _, .service, 5, rfl,
     by decide +kernel⟩⟩

/-- Witnesses for DebugCommands: each clause's hypotheses hold together somewhere. -/
theorem test_witness_DebugCommands :
    (∃ (p : Packet) (s : State), (Managed 4 allButCold p s ∧ p.u32 0 = 0x4F50454E)) ∧
    (∃ (magic : Quad) (s : State), (s.seq.mode ≠ .cold ∧ magic.toNat % 2 ^ 32 = 0x4F50454E)) ∧
    (∃ (ir : _), (ir ≠ 0x01 ∧ ir ≠ 0x20 ∧ ir ≠ 0x21)) ∧
    (∃ (s : State), (s.flag F.DBG_STAT_OPEN = true)) ∧
    (∃ (f : Nat) (s : State) (t : State),
      t = burn 0x47 (BitVec.ofNat 32 (2 ^ f)) (State.setFlag F.DBG_STAT_LATCHED true
        { enterQuarantine 7 s with keys.orkBlob := none, keys.dkBlob := none }) ∧
      (s.flag F.DBG_STAT_OPEN = false ∧ s.nextFuse = some f ∧ (s.otp.get 0 0x47).getLsbD 15 = false)) :=
  ⟨⟨pk 4 [0x4E, 0x45, 0x50, 0x4F], st .quarantine, by unfold Managed; decide +kernel⟩,
   ⟨0xFFFFFFFF4F50454E, st .service, by decide +kernel⟩,
   ⟨0xFF, by decide +kernel⟩,
   ⟨(st .service).setFlag F.DBG_STAT_OPEN true, by decide +kernel⟩,
   ⟨14, { st .service with otp := [(0x47, 0x3FFF)] }, _, rfl, by decide +kernel⟩⟩

/-- Witnesses for CalendarVoteAndFault: each clause's hypotheses hold together somewhere. -/
theorem test_witness_CalendarVoteAndFault :
    (∃ (s : State), (s.flag F.TMB_STAT_CAL_FAULT = false ∧ s.cal.copyA = s.cal.copyB)) ∧
    (∃ (s : State), (s.flag F.TMB_STAT_CAL_FAULT = false ∧ s.cal.copyA = s.cal.copyC)) ∧
    (∃ (s : State), (s.flag F.TMB_STAT_CAL_FAULT = false ∧ s.cal.copyB = s.cal.copyC)) ∧
    (∃ (copy : Fin 3) (v : Quad) (s : State) (t : State),
      t = (s.count F.TMB_VOTE_ERRCNT_COUNT 1).setFld F.TMB_STAT_LAST_COPY copy.val ∧
      (s.flag F.TMB_STAT_CAL_FAULT = false ∧ v.toNat ≠ s.now ∧ t.cal.voteAt = none)) ∧
    (∃ (copy : Fin 3) (v : Quad) (s : State) (t : State) (t0 : _),
      t = (s.count F.TMB_VOTE_ERRCNT_COUNT 1).setFld F.TMB_STAT_LAST_COPY copy.val ∧
      (s.flag F.TMB_STAT_CAL_FAULT = false ∧ v.toNat ≠ s.now ∧ t.cal.voteAt = some t0 ∧ t.now < t0 + 120000)) ∧
    (∃ (a : Quad) (b : Quad) (c : Quad) (s : State) (t : State) (u : State),
      t = ((((({ s with cal.copyA := a, cal.copyB := b, cal.copyC := c, host.pps.out := false, host.pps.left := 0 } :
        State).setFlag F.TMB_STAT_CAL_FAULT true).setFld F.TMB_FAULT_A_COPY_LO a.toNat).setFld F.TMB_FAULT_B_COPY_LO
        b.toNat).setFld F.TMB_FAULT_C_COPY_LO c.toNat) ∧
      u = post 0 sevFatal 0x0002 (arg8 b.toNat ++ arg8 c.toNat) (abandonSlew ((List.range 32).foldl faultDisarm
        (abortAll RF_ABORTED t))) ∧
      (s.flag F.TMB_STAT_CAL_FAULT = false ∧ a ≠ b ∧ a ≠ c ∧ b ≠ c)) :=
  ⟨⟨{ st .service 5 with cal.copyC := 0 }, by decide +kernel⟩,
   ⟨{ st .service 5 with cal.copyB := 0 }, by decide +kernel⟩,
   ⟨{ st .service 5 with cal.copyA := 0 }, by decide +kernel⟩,
   ⟨2, 4, st .service 5, _, rfl, by decide +kernel⟩,
   ⟨2, 4, { st .service 119999 with cal.voteAt := some 0 }, _, 0, rfl, by decide +kernel⟩,
   ⟨0, 1, 2, st .service 5, _, _, rfl, rfl, by decide +kernel⟩⟩

/-- Witnesses for TimeCommands: each clause's hypotheses hold together somewhere. -/
theorem test_witness_TimeCommands :
    (∃ (p : Packet) (s : State), (Served 0 coreModes p s)) ∧
    (∃ (p : Packet) (s : State), (Served 8 radioModes p s ∧ 1 ≤ p.u16 4 ∧ p.u16 4 ≤ 1000 ∧ p.dirty 6 2 = false ∧
      s.flag F.TMB_STAT_CAL_FAULT = false)) ∧
    (∃ (p : Packet) (s : State) (r : Nat × State), r = defer (asOp 0x1002 p) s ∧ (Served 16 coreModes p s ∧
      p.dirty 1 7 = false ∧ s.flag F.TMB_STAT_CAL_FAULT = true ∧ p.u8 0 = 0)) ∧
    (∃ (p : Packet) (s : State) (r : Nat × State), r = defer (asOp 0x1002 p) s ∧ (Served 16 coreModes p s ∧
      p.dirty 1 7 = false ∧ s.flag F.TMB_STAT_CAL_FAULT = true ∧ p.u8 0 = 1)) ∧
    (∃ (p : Packet) (s : State) (r : Nat × State), r = defer (asOp 0x1002 p) s ∧ (Served 16 coreModes p s ∧
      p.dirty 1 7 = false ∧ s.flag F.TMB_STAT_CAL_FAULT = true ∧ p.u8 0 = 2)) ∧
    (∃ (p : Packet) (s : State) (r : Nat × State), r = defer (asOp 0x1002 p) s ∧ (Served 16 coreModes p s ∧
      p.dirty 1 7 = false ∧ s.flag F.TMB_STAT_CAL_FAULT = true ∧ p.u8 0 = 3)) ∧
    (∃ (s : State) (q : Nat) (t : Nat), (s.cal.resync = some (q, t) ∧ t + 1200000 ≤ s.now)) ∧
    (∃ (s : State), (s.flag F.TMB_STAT_SLEWING = true ∧ s.fld F.TMB_SLEW_REM_REMAINING = 0)) ∧
    (∃ (s : State) (t : State), t = (if s.flag F.CLK_STAT_SLOW_OK then slowTick s else s) ∧
      (s.flag F.TMB_STAT_SLOW = true ∧ s.macReady = true ∧ 64 ≤ s.cal.stable)) :=
  ⟨⟨pk 0 [], emb, by unfold Served; decide +kernel⟩,
   ⟨pk 8 [0, 0, 0, 0, 232, 3], st .service, by unfold Served; decide +kernel⟩,
   ⟨pk 16 [0], (st .service).setFlag F.TMB_STAT_CAL_FAULT true, _, rfl, by unfold Served; decide +kernel⟩,
   ⟨pk 16 [1], (st .service).setFlag F.TMB_STAT_CAL_FAULT true, _, rfl, by unfold Served; decide +kernel⟩,
   ⟨pk 16 [2], (st .service).setFlag F.TMB_STAT_CAL_FAULT true, _, rfl, by unfold Served; decide +kernel⟩,
   ⟨pk 16 [3], (st .service).setFlag F.TMB_STAT_CAL_FAULT true, _, rfl, by unfold Served; decide +kernel⟩,
   ⟨{ st .service 1200000 with cal.resync := some (3, 0) }, 3, 0, by decide +kernel⟩,
   ⟨(st .service).setFlag F.TMB_STAT_SLEWING true, by decide +kernel⟩,
   ⟨{ ((((st .service).setFlag F.TMB_STAT_SLOW true).setFlag F.CLK_STAT_REF_OK true).setFlag F.CLK_STAT_PLL_LOCK true).setFlag F.CLK_GATE_MAC_RUN true with cal.stable := 64 },
     _, rfl, by decide +kernel⟩⟩

/-- Witnesses for SlowAdvance: each clause's hypotheses hold together somewhere. -/
theorem test_witness_SlowAdvance :
    (∃ (s : State) (ph : Nat) (inc : Nat), ph = s.fld F.TMB_STAT_PHASE ∧ inc = (if 64 ≤ ph + 7 then 3663 else 3662) ∧
      (s.flag F.TMB_STAT_CAL_FAULT = false ∧ (s.cal.copyA = s.cal.copyB ∨ s.cal.copyA = s.cal.copyC) ∧
      s.now + inc < 2 ^ 64)) ∧
    (∃ (s : State) (t : State), t = (List.range 64).foldl (fun s _ => slowEdge s) s) :=
  ⟨⟨st .service (2 ^ 64 - 3663), _, _, rfl, rfl, by decide +kernel⟩,
   ⟨st .service, _, rfl⟩⟩

/-- Witnesses for TimerCommands: each clause's hypotheses hold together somewhere. -/
theorem test_witness_TimerCommands :
    (∃ (w : Writer) (n : Fin 32) (s : State), (s.timersRun = true ∧ s.holds w (0x0500 + n.val) = true)) ∧
    (∃ (n : Fin 32) (s : State), (s.dueL n.val = true)) ∧
    (∃ (w : Writer) (v : Word) (s : State), (s.timersRun = true ∧ v &&& ~~~(BitVec.ofNat 32 (s.heldL w)) = 0)) ∧
    (∃ (w : Writer) (v : Word) (s : State), (s.timersRun = true ∧
      (s.word R.TMR_L_IE ^^^ v) &&& ~~~(BitVec.ofNat 32 (s.heldL w)) = 0)) ∧
    (∃ (w : Writer) (n : Fin 8) (v : Word) (s : State), (s.timersRun = true ∧ s.holds w (0x0600 + n.val) = true ∧
      (v.toNat / 16 % 16 < 5 ∨ (v.toNat / 16 % 16 < 9 ∧ s.holds w (0x0200 + (v.toNat / 16 % 16 - 5)) = true)))) ∧
    (∃ (w : Writer) (n : Fin 8) (v : Word) (s : State), (s.timersRun = true ∧ s.holds w (0x0600 + n.val) = true ∧
      (9 ≤ v.toNat / 16 % 16 ∨ (5 ≤ v.toNat / 16 % 16 ∧ s.holds w (0x0200 + (v.toNat / 16 % 16 - 5)) = false)))) ∧
    (∃ (n : Fin 8) (s : State) (t : State) (u : State),
      t = ((s.setTimerI n.val { s.timerI n.val with due := (s.timerI n.val).due - 1 }).setFlag (F.TMR_I_STAT_MATCH
        n.val) true).count (F.TMR_I_STAT_MATCH_CNT n.val) 1 ∧
      u = (if t.flag (F.TMR_I_CTL_IE n.val) then signalOwner (0x0600 + n.val) t else t) ∧ ((s.timerI n.val).due ≠ 0)) ∧
    (∃ (x : TimerI), (x.cntW = none ∧ x.eq = false ∧ x.stepped = false ∧ x.oldCmp = none)) :=
  ⟨⟨.bar0, 31, { st .service with host.owners := [(0x051F, 0x8F)] }, by decide +kernel⟩,
   ⟨31, { (st .service (2 ^ 32)).setFlag (F.TMR_L_CTL_ARM 31) true with timers.since := [] }, by decide +kernel⟩,
   ⟨.req 2, 1, { st .service with host.owners := [(0x0500, 0x02)] }, by decide +kernel⟩,
   ⟨.req 2, 1, { st .service with host.owners := [(0x0500, 0x02)] }, by decide +kernel⟩,
   ⟨.req 2, 7, 0x80, { st .service with host.owners := [(0x0203, 0x02), (0x0607, 0x02)] }, by decide +kernel⟩,
   ⟨.req 2, 7, 0x90, { st .service with host.owners := [(0x0607, 0x02)] }, by decide +kernel⟩,
   ⟨7, { st .service with timers.timerI := [(7, { TimerI.reset with due := 1 })] }, _, _, rfl, rfl, by decide +kernel⟩,
   ⟨TimerI.reset, by decide +kernel⟩⟩

/-- Witnesses for UnheldTimerWritesIgnored: each clause's hypotheses hold together somewhere. -/
theorem test_witness_UnheldTimerWritesIgnored :
    (∃ (w : Writer) (s : State) (t : State) (n : Fin 32), t = tmrIgnore w s ∧ (s.timersRun = true ∧
      s.holds w (0x0500 + n.val) = false)) ∧
    (∃ (w : Writer) (s : State) (t : State) (n : Fin 8), t = tmrIgnore w s ∧ (s.timersRun = true ∧
      s.holds w (0x0600 + n.val) = false)) ∧
    (∃ (w : Writer) (s : State) (t : State) (off : _), t = tmrIgnore w s ∧ (s.timersRun = true ∧
      off ≠ F.TMR_IGN_CNT_COUNT.off)) ∧
    (∃ (w : Writer) (s : State) (t : State) (r : Req), t = tmrIgnore w s ∧ w = .req r ∧ (s.timersRun = true)) :=
  ⟨⟨.req 2, st .service, _, 31, rfl, by decide +kernel⟩,
   ⟨.bar0, { st .service with host.owners := [(0x0607, 0x02)] }, _, 7, rfl, by decide +kernel⟩,
   ⟨.req 2, st .service, _, 0, rfl, by decide +kernel⟩,
   ⟨_, st .service, _, 2, rfl, rfl, by decide +kernel⟩⟩

/-- Witnesses for CaptureCommands: each clause's hypotheses hold together somewhere. -/
theorem test_witness_CaptureCommands :
    (∃ (pin : Fin 4) (rising : Bool) (s : State) (t : State),
      t = { s with timers.gptLevel := s.timers.gptLevel.set false pin.val rising } ∧
      (s.timers.gptLevel.get false pin.val ≠ rising ∧ s.timersRun = true)) ∧
    (∃ (rising : Bool) (s : State), (s.timers.ppsLevel ≠ rising ∧ s.timersRun = true ∧
      s.fld (F.TMR_CAP_CTL_SRC (s.fld F.MGT_PPS_CTL_CAP)) ≠ 5)) ∧
    (∃ (rising : Bool) (s : State) (t : State), t = capEvent 5 (some (!rising)) { s with timers.ppsLevel := rising } ∧
      (s.timers.ppsLevel ≠ rising ∧ s.timersRun = true ∧ s.fld (F.TMR_CAP_CTL_SRC (s.fld F.MGT_PPS_CTL_CAP)) = 5 ∧
      s.flag (F.TMR_CAP_CTL_EDGE (s.fld F.MGT_PPS_CTL_CAP)) = !rising)) ∧
    (∃ (pick : Nat × Nat → Bool) (n : Fin 16) (s : State) (t : State), t = capClose pick n.val s ∧
      ((s.capture n.val).pairs.any pick = false)) ∧
    (∃ (pick : Nat × Nat → Bool) (n : Fin 16) (s : State) (t : State), t = capClose pick n.val s ∧
      ((s.capture n.val).pairs.any pick = true ∧ (s.capture n.val).pending = none)) ∧
    (∃ (pick : Nat × Nat → Bool) (n : Fin 16) (s : State) (t : State) (v : _) (b : _), t = capClose pick n.val s ∧
      ((s.capture n.val).pairs.any pick = true ∧ (s.capture n.val).pairs.all pick = true ∧
      (s.capture n.val).pending = some (v, b))) ∧
    (∃ (s : State) (t : State), t = { s with host.pps.lost := true } ∧ (s.flag F.MGT_PPS_CTL_ALIGN = true ∧
      s.host.pps.lost = false ∧ s.host.pps.since + 240000000 ≤ s.now ∧ s.host.pps.lastCap + 240000000 ≤ s.now)) :=
  ⟨⟨3, true, st .service, _, rfl, by decide +kernel⟩,
   ⟨true, (st .service).setFld (F.TMR_CAP_CTL_SRC 0) 6, by decide +kernel⟩,
   ⟨true, (st .service).setFld (F.TMR_CAP_CTL_SRC 0) 5, _, rfl, by decide +kernel⟩,
   ⟨fun _ => false, 15, st .service, _, rfl, by decide +kernel⟩,
   ⟨fun _ => true, 15, { st .service with timers.caps := [(15, { Capture.reset with pairs := [(2, 0)] })] }, _, rfl,
     by decide +kernel⟩,
   ⟨fun _ => true, 15,
     { st .service with timers.caps := [(15, { Capture.reset with pairs := [(2, 0)], pending := some (9, true) })] }, _,
     9, true, rfl, by decide +kernel⟩,
   ⟨(st .service 240000000).setFlag F.MGT_PPS_CTL_ALIGN true, _, rfl, by decide +kernel⟩⟩

/-- Witnesses for ResourceCommands: each clause's hypotheses hold together somewhere. -/
theorem test_witness_ResourceCommands :
    (∃ (p : Packet) (s : State), (resLen p = true ∧ s.coresServe = true ∧ s.inMode coreModes = true ∧
      p.dirty 2 2 = false ∧ claimRefusal p.issuer s (resIds p) = none)) ∧
    (∃ (p : Packet) (s : State) (id : _) (st : _), (resLen p = true ∧ s.coresServe = true ∧ s.inMode coreModes = true ∧
      p.dirty 2 2 = false ∧ claimRefusal p.issuer s (resIds p) = some (id, st))) ∧
    (∃ (p : Packet) (s : State), (resLen p = true ∧ s.coresServe = true ∧ s.inMode coreModes = true ∧
      p.dirty 2 2 = false ∧ releaseRefusal p.issuer s (resIds p) = none)) ∧
    (∃ (p : Packet) (s : State), (Served 4 coreModes p s ∧ p.dirty 2 2 = false ∧ resKnown (p.u16 0) = true)) ∧
    (∃ (ids : List Nat) (id : _), (ids.contains id = true)) ∧
    (∃ (ids : List Nat) (id : _), (ids.contains id = false)) ∧
    (∃ (p : Packet) (s : State) (t : State), t = ppsSettings p s ∧ (Served 16 coreModes p s ∧ p.bits 0 7 2 = 0 ∧
      p.u8 1 ≤ 7 ∧ p.u8 2 ≤ 15 ∧ p.u8 3 = 0 ∧ p.u16 4 ≠ 0 ∧ p.dirty 6 2 = false ∧ p.u32 8 ≤ 119999999 ∧
      p.dirty 12 4 = false ∧ claimRefusal 0x02 s (ppsWant p) = none ∧ p.bit 0 0 = false ∧ p.bit 0 1 = false)) ∧
    (∃ (p : Packet) (s : State) (t : State), t = ppsSettings p s ∧ (Served 16 coreModes p s ∧ p.bits 0 7 2 = 0 ∧
      p.u8 1 ≤ 7 ∧ p.u8 2 ≤ 15 ∧ p.u8 3 = 0 ∧ p.u16 4 ≠ 0 ∧ p.dirty 6 2 = false ∧ p.u32 8 ≤ 119999999 ∧
      p.dirty 12 4 = false ∧ claimRefusal 0x02 s (ppsWant p) = none ∧ p.bit 0 0 = true ∧ p.bit 0 1 = false)) ∧
    (∃ (p : Packet) (s : State) (t : State), t = ppsSettings p s ∧ (Served 16 coreModes p s ∧ p.bits 0 7 2 = 0 ∧
      p.u8 1 ≤ 7 ∧ p.u8 2 ≤ 15 ∧ p.u8 3 = 0 ∧ p.u16 4 ≠ 0 ∧ p.dirty 6 2 = false ∧ p.u32 8 ≤ 119999999 ∧
      p.dirty 12 4 = false ∧ claimRefusal 0x02 s (ppsWant p) = none ∧ p.bit 0 0 = false ∧ p.bit 0 1 = true ∧
      s.flag F.MGT_PPS_CTL_ALIGN = true)) :=
  ⟨⟨pk 6 [1, 0, 0, 0, 23, 1], st .service, by decide +kernel⟩,
   ⟨pk 8 [2, 0, 0, 0, 0, 1, 1, 1], { st .service with host.owners := [(0x0101, 0x90)] }, 0x0101, St.RESOURCE_HELD,
     by decide +kernel⟩,
   ⟨pk 6 [1, 0, 0, 0, 0, 1], { st .service with host.owners := [(0x0100, 0x02)] }, by decide +kernel⟩,
   ⟨pk 4 [0x0F, 7], st .service, by unfold Served; decide +kernel⟩,
   ⟨[0x0100], 0x0100, by decide +kernel⟩,
   ⟨[0x0100], 0x0101, by decide +kernel⟩,
   ⟨pk 16 [0, 7, 15, 0, 1, 0, 0, 0, 0xFF, 0x0D, 0x27, 0x07], st .service, _, rfl, by unfold Served; decide +kernel⟩,
   ⟨pk 16 [1, 7, 15, 0, 1], st .service, _, rfl, by unfold Served; decide +kernel⟩,
   ⟨pk 16 [2, 7, 15, 0, 1], (st .service).setFlag F.MGT_PPS_CTL_ALIGN true, _, rfl, by unfold Served; decide +kernel⟩⟩

/-- Witnesses for AllOrNothing: each clause's hypotheses hold together somewhere. -/
theorem test_witness_AllOrNothing :
    (∃ (p : Packet) (s : State) (t : State) (id : Nat), exec (.resClaim p) s = .next t ∧ (∃ id ∈ resIds p,
      resKnown id = false ∨ (s.ownerOf id ≠ 0 ∧ s.ownerOf id ≠ p.issuer))) ∧
    (∃ (p : Packet) (s : State) (t : State) (id : Nat), exec (.resRelease p) s = .next t ∧ (∃ id ∈ resIds p,
      resKnown id = false ∨ s.ownerOf id ≠ p.issuer)) ∧
    (∃ (p : Packet) (s : State) (t : State) (id : Nat), exec (.ppsSet p) s = .next t ∧ (∃ id ∈ ppsWant p,
      resKnown id = false ∨ (s.ownerOf id ≠ 0 ∧ s.ownerOf id ≠ 0x02))) :=
  ⟨⟨pk 8 [2, 0, 0, 0, 0, 1, 1, 1], { st .service with host.owners := [(0x0101, 0x90), (0x0400, 0x90)] }, _, 0x0100, rfl,
    ⟨0x0101, by decide +kernel⟩⟩,
   ⟨pk 8 [2, 0, 0, 0, 0, 1, 1, 1], { st .service with host.owners := [(0x0101, 0x90), (0x0400, 0x90)] }, _, 0x0100, rfl,
     ⟨0x0101, by decide +kernel⟩⟩,
   ⟨pk 16 [1, 0, 0, 0, 1], { st .service with host.owners := [(0x0101, 0x90), (0x0400, 0x90)] }, _, 0x0600, rfl,
     ⟨0x0400, by decide +kernel⟩⟩⟩

/-- Witnesses for PinCommands: each clause's hypotheses hold together somewhere. -/
theorem test_witness_PinCommands :
    (∃ (w : Writer) (k : Fin 3) (s : State), (s.reaches (R.MGT_GPIO_FUNC k.val) = true ∧ (∀ j, j < 8 →
      s.holds w (0x0100 + 8 * k.val + j) = true))) ∧
    (∃ (s : State), (s.reaches R.MGT_QSPI_CMD = true ∧ s.flag F.MGT_QSPI_CMD_BUSY = false)) ∧
    (∃ (b : Fin 2) (s : State), (s.reaches (R.ETH_I2C_CMD b.val) = true ∧ s.flag (F.ETH_I2C_CMD_BUSY b.val) = false)) ∧
    (∃ (s : State) (t : State), t = busDone 0x0900 (s.setFlag F.MGT_QSPI_CMD_BUSY false) ∧
      (s.flag F.MGT_QSPI_CMD_BUSY = true ∧ t.flag F.MGT_QSPI_CMD_WRITE = true)) ∧
    (∃ (s : State) (t : State), t = busDone 0x0900 (s.setFlag F.MGT_QSPI_CMD_BUSY false) ∧
      (s.flag F.MGT_QSPI_CMD_BUSY = true ∧ t.flag F.MGT_QSPI_CMD_WRITE = false)) ∧
    (∃ (b : Fin 2) (nack : Bool) (s : State) (t : State),
      t = (busDone (0x0A00 + b.val) (s.setFlag (F.ETH_I2C_CMD_BUSY b.val) false)).setFlag (F.ETH_I2C_CMD_NACK b.val)
        nack ∧
      (s.flag (F.ETH_I2C_CMD_BUSY b.val) = true ∧ (nack = true ∨ t.flag (F.ETH_I2C_CMD_WRITE b.val) = true))) ∧
    (∃ (b : Fin 2) (nack : Bool) (s : State) (t : State),
      t = (busDone (0x0A00 + b.val) (s.setFlag (F.ETH_I2C_CMD_BUSY b.val) false)).setFlag (F.ETH_I2C_CMD_NACK b.val)
        nack ∧
      nack = false ∧ (s.flag (F.ETH_I2C_CMD_BUSY b.val) = true ∧ t.flag (F.ETH_I2C_CMD_WRITE b.val) = false)) :=
  ⟨⟨.req 2, 2, { st .service with host.owners := (List.range 8).map (fun j => (0x0110 + j, 0x02)) }, by decide +kernel⟩,
   ⟨st .service, by decide +kernel⟩,
   ⟨1, st .service, by decide +kernel⟩,
   ⟨((st .service).setFlag F.MGT_QSPI_CMD_BUSY true).setFlag F.MGT_QSPI_CMD_WRITE true, _, rfl, by decide +kernel⟩,
   ⟨(st .service).setFlag F.MGT_QSPI_CMD_BUSY true, _, rfl, by decide +kernel⟩,
   ⟨1, true, (st .service).setFlag (F.ETH_I2C_CMD_BUSY 1) true, _, rfl, by decide +kernel⟩,
   ⟨1, _, (st .service).setFlag (F.ETH_I2C_CMD_BUSY 1) true, _, rfl, rfl, by decide +kernel⟩⟩

/-- Witnesses for PcieCommands: each clause's hypotheses hold together somewhere. -/
theorem test_witness_PcieCommands :
    (∃ (width : BitVec 4) (speed : BitVec 4) (s : State) (t : State),
      t = ((s.setFlag F.PCI_LINK_UP true).setFld F.PCI_LINK_WIDTH width.toNat).setFld F.PCI_LINK_SPEED speed.toNat ∧
      (s.flag F.STP_STRAPS_HOSTIF = false ∧ s.inMode [.cold] = false ∧ s.seq.boot.phase = .doorbell none)) ∧
    (∃ (width : BitVec 4) (speed : BitVec 4) (s : State) (t : State),
      t = ((s.setFlag F.PCI_LINK_UP true).setFld F.PCI_LINK_WIDTH width.toNat).setFld F.PCI_LINK_SPEED speed.toNat ∧
      (s.flag F.STP_STRAPS_HOSTIF = false ∧ s.inMode [.cold] = false ∧ s.seq.boot.phase = .idle)) ∧
    (∃ (s : State), (s.flag F.PCI_LINK_UP = true)) ∧
    (∃ (n : Fin 64) (s : State) (t : State), t = s.setFlag (msixMask n.val) false ∧ (s.hostUp = true)) ∧
    (∃ (kind : Fin 4) (s : State) (t : State),
      t = (if kind = 0 then (s.setFlag F.PCI_LINK_BME false).count F.PCI_RESET_CNT_FLR 1 else ((s.setFlag F.PCI_LINK_BME false).setFlag F.PCI_LINK_UP false).count F.PCI_RESET_CNT_LINK 1) ∧
      (s.hostUp = true)) ∧
    (∃ (s : State) (t : State) (u : State), t = (List.range 16).foldl (fun s n => ringStop n 4 s) (s.setFlag
      F.PCI_LINK_BME false) ∧
      u = (List.range 16).foldl (fun s n => match s.dmaState n == dmaActive, (s.dma n).desc with | true, some d => dmaStart n (dmaFault n cBme (d.kind == 2 || d.kind == 3) false (s.fld (F.DMA_CH_STAT_PROGRESS n)) (bursts d.base ((s.dma n).len d)) (d.host + doneBytes d (s.fld (F.DMA_CH_STAT_PROGRESS n)) ((s.dma n).len d)) s) | _, _ => s) t ∧
      (s.flag F.PCI_LINK_BME = true)) ∧
    (∃ (s : State), (s.flag F.PCI_LINK_BME = false)) ∧
    (∃ (v : Fin 64) (s : State), ((s.flag (msixMask v.val) = true ∨ s.flag F.PCI_LINK_BME = false))) ∧
    (∃ (v : Fin 64) (s : State), (s.flag (msixMask v.val) = false ∧ s.flag F.PCI_LINK_BME = true)) :=
  ⟨⟨4, 3, { st .kindling with seq.boot := { Boot.reset with phase := .doorbell none } }, _, rfl, by decide +kernel⟩,
   ⟨4, 3, st .service, _, rfl, by decide +kernel⟩,
   ⟨(st .service).setFlag F.PCI_LINK_UP true, by decide +kernel⟩,
   ⟨63, st .service, _, rfl, by decide +kernel⟩,
   ⟨3, st .service, _, rfl, by decide +kernel⟩,
   ⟨(st .service).setFlag F.PCI_LINK_BME true, _, _, rfl, rfl, by decide +kernel⟩,
   ⟨st .service, by decide +kernel⟩,
   ⟨63, st .service, by decide +kernel⟩,
   ⟨63, (st .service).setFlag F.PCI_LINK_BME true, by decide +kernel⟩⟩

/-- Witnesses for EthernetCommands: each clause's hypotheses hold together somewhere. -/
theorem test_witness_EthernetCommands :
    (∃ (p : Packet) (s : State) (u : State) (t : State),
      u = (s.setFlag (F.ETH_PORT_CTL_EN (p.u8 0)) (p.bit 1 0)).setFld (F.ETH_PORT_CTL_PCP (p.u8 0)) (p.bits 1 3 1) ∧
      t = (List.range 4).foldl (fun s k => (s.setFld (F.ETH_PORT_VID_VIDB (p.u8 0) k) (p.u16 (4 + 4 * k))).setFld (F.ETH_PORT_VID_VIDA (p.u8 0) k) (p.u16 (6 + 4 * k))) ((if p.bit 1 0 then u.setEthPort (p.u8 0) { u.ethPort (p.u8 0) with faultSeen := u.flag (F.ETH_PORT_STAT_TX_FAULT (p.u8 0)) } else u).setFld (F.ETH_PORT_VLAN_PVID (p.u8 0)) (p.u16 2)) ∧
      (Served 24 radioModes p s ∧ p.u8 0 ≤ 1 ∧ p.bits 1 7 4 = 0 ∧ p.dirty 20 4 = false ∧ p.u16 2 ≤ 4094 ∧ (∀ i, i < 8 →
      p.u16 (4 + 2 * i) ≤ 4094) ∧ twice ((List.range 8).map (fun i => p.u16 (4 + 2 * i))) = false)) ∧
    (∃ (p : Fin 2) (s : State) (t : State), t = s.setFlag (F.ETH_PORT_STAT_TX_FAULT p.val) true ∧
      (s.flag (F.ETH_PORT_STAT_TX_FAULT p.val) = false)) ∧
    (∃ (p : Fin 2) (modAbs : Bool) (rxLos : Bool) (txFault : Bool) (lock : Bool) (s : State) (u : State) (v : State) (t
      : State),
      u = (if txFault then runSfpTxFault p s else if s.flag (F.ETH_PORT_STAT_TX_FAULT p.val) then ethRaise F.ETH_INT_SFP p.val (s.setFlag (F.ETH_PORT_STAT_TX_FAULT p.val) false) else s) ∧
      v = (if u.flag (F.ETH_PORT_STAT_MOD_ABS p.val) == modAbs then u else ethRaise F.ETH_INT_SFP p.val (u.setFlag (F.ETH_PORT_STAT_MOD_ABS p.val) modAbs)) ∧
      t = setLaser p.val ((v.setFlag (F.ETH_PORT_STAT_RX_LOS p.val) rxLos).setFlag (F.ETH_PORT_STAT_BLOCK_LOCK p.val)
        lock)) ∧
    (∃ (p : Fin 2) (frame : List Byte) (rest : List (List Byte)) (s : State), ((s.ethPort p.val).txq = frame :: rest)) ∧
    (∃ (p : Fin 2) (frame : List Byte) (rest : List (List Byte)) (o : Nat) (s : State) (t : State),
      t = ((s.setEthPort p.val { s.ethPort p.val with txq := rest }).wrapCount (F.ETH_PORT_TX_OK_OK p.val) 1).wrapCount
        (F.ETH_PORT_TS_COUNT p.val) 1 ∧
      ((s.ethPort p.val).txq = frame :: rest ∧ ptpOffset frame = some o ∧ ptpEvent frame o = true ∧
      16 ≤ (t.ethPort p.val).stamps.length)) ∧
    (∃ (p : Fin 2) (frame : List Byte) (rest : List (List Byte)) (o : Nat) (s : State) (t : State),
      t = ((s.setEthPort p.val { s.ethPort p.val with txq := rest }).wrapCount (F.ETH_PORT_TX_OK_OK p.val) 1).wrapCount
        (F.ETH_PORT_TS_COUNT p.val) 1 ∧
      ((s.ethPort p.val).txq = frame :: rest ∧ ptpOffset frame = some o ∧ ptpEvent frame o = true ∧
      (t.ethPort p.val).stamps.length < 16)) ∧
    (∃ (p : Fin 2) (frame : List Byte) (s : State), (s.flag (F.ETH_PORT_CTL_EN p.val) = true ∧
      s.flag (F.ETH_PORT_STAT_LINK p.val) = true ∧ s.inMode radioModes = true ∧ frame.length < 64)) ∧
    (∃ (p : Fin 2) (frame : List Byte) (s : State) (t : State),
      t = ethLearn p.val (s.fld (F.ETH_PORT_VLAN_PVID p.val)) frame s ∧ (s.flag (F.ETH_PORT_CTL_EN p.val) = true ∧
      s.flag (F.ETH_PORT_STAT_LINK p.val) = true ∧ s.inMode radioModes = true ∧ 64 ≤ frame.length ∧
      frame.length ≤ s.fld F.FWD_CTL_ETH_MTU + 22 ∧ ethVid frame = 0 ∧ s.fld (F.ETH_PORT_VLAN_PVID p.val) ≠ 0 ∧
      macControl frame = false ∧ t.ethLookupBad (s.fld (F.ETH_PORT_VLAN_PVID p.val)) frame = false ∧
      ptpOffset frame = none ∧ t.ethMine p.val frame = true ∧ t.inMode [.service, .test] = true)) :=
  ⟨⟨pk 24 [1, 15, 0xFE, 0x0F, 0xFE, 0x0F, 1], st .service, _, _, rfl, rfl, by unfold Served; decide +kernel⟩,
   ⟨1, st .service, _, rfl, by decide +kernel⟩,
   ⟨1, false, false, true, true, st .service, _, _, _, rfl, rfl, rfl⟩,
   ⟨1, [1], [], { st .service with host.eth := [(1, { EthPort.reset with txq := [[1]] })] }, by decide +kernel⟩,
   ⟨1, (List.replicate 12 0 ++ [0x88, 0xF7] ++ List.replicate 46 0), [], 14,
     { st .service with host.eth := [(1, { EthPort.reset with txq := [(List.replicate 12 0 ++ [0x88, 0xF7] ++ List.replicate 46 0)], stamps := List.replicate 16 (0, false, 0, 0) })] },
     _, rfl, by decide +kernel⟩,
   ⟨1, (List.replicate 12 0 ++ [0x88, 0xF7] ++ List.replicate 46 0), [], 14,
     { st .service with host.eth := [(1, { EthPort.reset with txq := [(List.replicate 12 0 ++ [0x88, 0xF7] ++ List.replicate 46 0)], stamps := List.replicate 15 (0, false, 0, 0) })] },
     _, rfl, by decide +kernel⟩,
   ⟨1, List.replicate 63 0, (((st .service).setFlag (F.ETH_PORT_CTL_EN 1) true).setFlag (F.ETH_PORT_STAT_LINK 1) true),
     by decide +kernel⟩,
   ⟨1, List.replicate 6 0xFF ++ List.replicate 58 0,
     ((((st .service).setFlag (F.ETH_PORT_CTL_EN 1) true).setFlag (F.ETH_PORT_STAT_LINK 1) true).setFld
       F.FWD_CTL_ETH_MTU 1280).setFld (F.ETH_PORT_VLAN_PVID 1) 1,
     _, rfl, by decide +kernel⟩⟩

/-- Witnesses for JournalCommands: each clause's hypotheses hold together somewhere. -/
theorem test_witness_JournalCommands :
    (∃ (e : Nat × JRec) (s : State), (firstRec s.journal.window = some e ∧
      (isLate s.journal.last e.2 = true ∨ e.1 + 120000 ≤ s.now ∨ s.now < e.1))) ∧
    (∃ (t : Nat) (s : State), (s.journal.dropAt = some t ∧ t + 120000000 ≤ s.now)) ∧
    (∃ (s : State), (s.reaches R.EVJ_CTL = true)) ∧
    (∃ (s : State), (s.reaches R.EVJ_RD = true)) ∧
    (∃ (s : State), (s.reaches R.EVJ_CLR = true)) ∧
    (∃ (r : JRec) (b : Bool) (s : State), (s.journal.aon.get none (s.fld F.EVJ_AON_SEL_SLOT) = some (r, b))) ∧
    (∃ (p : Packet) (s : State) (wr : Nat) (first : Nat) (n : Nat) (nums : List Nat) (aon : Sparse (Option (JRec ×
      Bool))), wr = s.fld F.EVJ_AON_WR_WR ∧
      first = (if p.u32 0 ≤ wr - 256 then wr - 256 else p.u32 0) ∧
      n = (if wr - first ≤ p.u8 4 then wr - first else p.u8 4) ∧
      nums = (List.range n).map (fun i => (first + i) % 256) ∧
      aon = nums.foldl (fun (m : Sparse (Option (JRec × Bool))) i => match m.get none i with | some (r, _) => m.set none i (some (r, true)) | none => m) s.journal.aon ∧
      (Managed 8 allButCold p s ∧ 1 ≤ p.u8 4 ∧ p.u8 4 ≤ 15 ∧ p.dirty 5 3 = false)) ∧
    (∃ (s : State), (s.reaches R.MGT_INT = true)) ∧
    (∃ (l : List (Nat × JRec)) (e : Nat × JRec) (f : _), (firstRec l = some e ∧ f ∈ l)) :=
  ⟨⟨(0, ⟨0, 2, 0, 1, []⟩), { st .service 120000 with journal.window := [(0, ⟨0, 2, 0, 1, []⟩)] }, by decide +kernel⟩,
   ⟨0, { st .service 120000000 with journal.dropAt := some 0 }, by decide +kernel⟩,
   ⟨st .service, by decide +kernel⟩,
   ⟨st .service, by decide +kernel⟩,
   ⟨st .ember, by decide +kernel⟩,
   ⟨⟨0, 2, 0, 1, []⟩, false, { st .service with journal.aon := [(0, some (⟨0, 2, 0, 1, []⟩, false))] },
     by decide +kernel⟩,
   ⟨pk 8 [0xFF, 0xFF, 0xFF, 0xFF, 15], (st .service).setFld F.EVJ_AON_WR_WR 300, _, _, _, _, _, rfl, rfl, rfl, rfl, rfl,
     by unfold Managed; decide +kernel⟩,
   ⟨st .service, by decide +kernel⟩,
   ⟨[(0, ⟨0, 2, 0, 1, []⟩), (1, ⟨0, 1, 0, 1, []⟩)], (1, ⟨0, 1, 0, 1, []⟩), (0, ⟨0, 2, 0, 1, []⟩), by decide +kernel⟩⟩

/-- Witnesses for ThermalAndRailCommands: each clause's hypotheses hold together somewhere. -/
theorem test_witness_ThermalAndRailCommands :
    (∃ (sensors : List (BitVec 16)) (temps : List (BitVec 16)) (hot : Nat) (tj : Int) (s : State) (t : State) (u :
      State) (v : State) (w : State),
      temps = (List.range 8).map (fun k => sensors.getD k 0) ∧
      hot = (List.range 8).foldl (fun b k => if (temps.getD b 0).toInt < (temps.getD k 0).toInt then k else b) 0 ∧
      tj = (temps.getD hot 0).toInt ∧
      t = ((((List.range 8).foldl (fun s k => s.setFld (F.THM_SENSOR_TEMP k) (nth (temps.map (·.toNat)) k)) s).setFld
        F.RFE_TEMP_TEMP (sensors.getD 8 0).toNat).setFld F.THM_TJ_TJ (temps.getD hot 0).toNat).setFld F.THM_TJ_HOT hot ∧
      u = (if t.sfld F.THM_PEAK_PEAK < tj then t.setFld F.THM_PEAK_PEAK (temps.getD hot 0).toNat else t) ∧
      v = critSample tj (warnSample tj { u with thermal := { u.thermal with below105 := if tj < 1680 then u.now else u.thermal.below105, above100 := if 1600 ≤ tj then u.now else u.thermal.above100, above95 := if 1520 ≤ tj then u.now else u.thermal.above95, above115 := if 1840 ≤ tj then u.now else u.thermal.above115 } }) ∧
      w = (if v.coresWork && v.inMode radioModes then (List.range 4).foldl (fun s n => driftCal n s) v else v) ∧
      (u.inMode [.cold] = true)) ∧
    (∃ (sensors : List (BitVec 16)) (temps : List (BitVec 16)) (hot : Nat) (tj : Int) (s : State) (t : State) (u :
      State) (v : State) (w : State),
      temps = (List.range 8).map (fun k => sensors.getD k 0) ∧
      hot = (List.range 8).foldl (fun b k => if (temps.getD b 0).toInt < (temps.getD k 0).toInt then k else b) 0 ∧
      tj = (temps.getD hot 0).toInt ∧
      t = ((((List.range 8).foldl (fun s k => s.setFld (F.THM_SENSOR_TEMP k) (nth (temps.map (·.toNat)) k)) s).setFld
        F.RFE_TEMP_TEMP (sensors.getD 8 0).toNat).setFld F.THM_TJ_TJ (temps.getD hot 0).toNat).setFld F.THM_TJ_HOT hot ∧
      u = (if t.sfld F.THM_PEAK_PEAK < tj then t.setFld F.THM_PEAK_PEAK (temps.getD hot 0).toNat else t) ∧
      v = critSample tj (warnSample tj { u with thermal := { u.thermal with below105 := if tj < 1680 then u.now else u.thermal.below105, above100 := if 1600 ≤ tj then u.now else u.thermal.above100, above95 := if 1520 ≤ tj then u.now else u.thermal.above95, above115 := if 1840 ≤ tj then u.now else u.thermal.above115 } }) ∧
      w = (if v.coresWork && v.inMode radioModes then (List.range 4).foldl (fun s n => driftCal n s) v else v) ∧
      (u.inMode [.cold] = false ∧ w.inMode [.kindling] = true)) ∧
    (∃ (sensors : List (BitVec 16)) (temps : List (BitVec 16)) (hot : Nat) (tj : Int) (s : State) (t : State) (u :
      State) (v : State) (w : State),
      temps = (List.range 8).map (fun k => sensors.getD k 0) ∧
      hot = (List.range 8).foldl (fun b k => if (temps.getD b 0).toInt < (temps.getD k 0).toInt then k else b) 0 ∧
      tj = (temps.getD hot 0).toInt ∧
      t = ((((List.range 8).foldl (fun s k => s.setFld (F.THM_SENSOR_TEMP k) (nth (temps.map (·.toNat)) k)) s).setFld
        F.RFE_TEMP_TEMP (sensors.getD 8 0).toNat).setFld F.THM_TJ_TJ (temps.getD hot 0).toNat).setFld F.THM_TJ_HOT hot ∧
      u = (if t.sfld F.THM_PEAK_PEAK < tj then t.setFld F.THM_PEAK_PEAK (temps.getD hot 0).toNat else t) ∧
      v = critSample tj (warnSample tj { u with thermal := { u.thermal with below105 := if tj < 1680 then u.now else u.thermal.below105, above100 := if 1600 ≤ tj then u.now else u.thermal.above100, above95 := if 1520 ≤ tj then u.now else u.thermal.above95, above115 := if 1840 ≤ tj then u.now else u.thermal.above115 } }) ∧
      w = (if v.coresWork && v.inMode radioModes then (List.range 4).foldl (fun s n => driftCal n s) v else v) ∧
      (u.inMode [.cold] = false ∧ w.inMode [.kindling] = false ∧ w.inMode [.quarantine] = true)) ∧
    (∃ (sensors : List (BitVec 16)) (temps : List (BitVec 16)) (hot : Nat) (tj : Int) (s : State) (t : State) (u :
      State) (v : State) (w : State),
      temps = (List.range 8).map (fun k => sensors.getD k 0) ∧
      hot = (List.range 8).foldl (fun b k => if (temps.getD b 0).toInt < (temps.getD k 0).toInt then k else b) 0 ∧
      tj = (temps.getD hot 0).toInt ∧
      t = ((((List.range 8).foldl (fun s k => s.setFld (F.THM_SENSOR_TEMP k) (nth (temps.map (·.toNat)) k)) s).setFld
        F.RFE_TEMP_TEMP (sensors.getD 8 0).toNat).setFld F.THM_TJ_TJ (temps.getD hot 0).toNat).setFld F.THM_TJ_HOT hot ∧
      u = (if t.sfld F.THM_PEAK_PEAK < tj then t.setFld F.THM_PEAK_PEAK (temps.getD hot 0).toNat else t) ∧
      v = critSample tj (warnSample tj { u with thermal := { u.thermal with below105 := if tj < 1680 then u.now else u.thermal.below105, above100 := if 1600 ≤ tj then u.now else u.thermal.above100, above95 := if 1520 ≤ tj then u.now else u.thermal.above95, above115 := if 1840 ≤ tj then u.now else u.thermal.above115 } }) ∧
      w = (if v.coresWork && v.inMode radioModes then (List.range 4).foldl (fun s n => driftCal n s) v else v) ∧
      (u.inMode [.cold] = false ∧ w.inMode [.kindling] = false ∧ w.inMode [.quarantine] = false)) ∧
    (∃ (s : State), (s.seq.thermtrip = false)) ∧
    (∃ (rails : List RailSample) (s : State) (t : State),
      t = ((List.range 10).zip rails).foldl (fun s x => railSample x.1 x.2 s) s ∧ (s.inMode [.cold] = false)) ∧
    (∃ (p : Packet) (s : State), (Managed 0 allButCold p s)) ∧
    (∃ (tj : Int) (s : State), (s.flag F.THM_STAT_WARN = false ∧ 1600 ≤ tj)) ∧
    (∃ (tj : Int) (s : State), (s.flag F.THM_STAT_WARN = false ∧ tj < 1600)) ∧
    (∃ (s : State), (s.flag F.THM_STAT_WARN = true ∧ s.now < s.thermal.above95 + 7200000000)) ∧
    (∃ (s : State), (s.flag F.THM_STAT_WARN = true ∧ s.thermal.above95 + 7200000000 ≤ s.now)) ∧
    (∃ (tj : Int) (s : State), (s.flag F.THM_STAT_CRIT = false ∧ 1840 ≤ tj)) ∧
    (∃ (tj : Int) (s : State), (s.flag F.THM_STAT_CRIT = false ∧ tj < 1840)) ∧
    (∃ (s : State), (s.flag F.THM_STAT_CRIT = true ∧ s.now < s.thermal.above115 + 1200000000)) ∧
    (∃ (s : State), (s.flag F.THM_STAT_CRIT = true ∧ s.thermal.above115 + 1200000000 ≤ s.now)) :=
  ⟨⟨[], _, _, _, st .cold, _, _, _, _, rfl, rfl, rfl, rfl, rfl, rfl, rfl, by decide +kernel⟩,
   ⟨[], _, _, _, st .kindling, _, _, _, _, rfl, rfl, rfl, rfl, rfl, rfl, rfl, by decide +kernel⟩,
   ⟨[], _, _, _, st .quarantine, _, _, _, _, rfl, rfl, rfl, rfl, rfl, rfl, rfl, by decide +kernel⟩,
   ⟨[], _, _, _, st .service, _, _, _, _, rfl, rfl, rfl, rfl, rfl, rfl, rfl, by decide +kernel⟩,
   ⟨st .service, by decide +kernel⟩,
   ⟨[], st .kindling, _, rfl, by decide +kernel⟩,
   ⟨pk 0 [], st .quarantine, by unfold Managed; decide +kernel⟩,
   ⟨1600, st .service, by decide +kernel⟩,
   ⟨1599, st .service, by decide +kernel⟩,
   ⟨{ (st .service 7200000004).setFlag F.THM_STAT_WARN true with thermal.above95 := 5 }, by decide +kernel⟩,
   ⟨{ (st .service 7200000005).setFlag F.THM_STAT_WARN true with thermal.above95 := 5 }, by decide +kernel⟩,
   ⟨1840, st .service, by decide +kernel⟩,
   ⟨1839, st .service, by decide +kernel⟩,
   ⟨{ (st .service 1200000004).setFlag F.THM_STAT_CRIT true with thermal.above115 := 5 }, by decide +kernel⟩,
   ⟨{ (st .service 1200000005).setFlag F.THM_STAT_CRIT true with thermal.above115 := 5 }, by decide +kernel⟩⟩

/-- Witnesses for PairCommands: each clause's hypotheses hold together somewhere. -/
theorem test_witness_PairCommands :
    (∃ (s : State) (t : State), t = { s.setFlag F.PAR_STAT_LINE false with pairU.high := 0 } ∧
      ((t.seq.claimWait = false ∨ t.holder = true))) ∧
    (∃ (s : State) (t : State), t = { s.setFlag F.PAR_STAT_LINE false with pairU.high := 0, seq.claimWait := false } ∧
      (s.seq.claimWait = true ∧ t.holder = false)) ∧
    (∃ (s : State), (s.reaches R.PAR_WDT = true)) ∧
    (∃ (s : State), (s.holder = true ∧ s.wdtAt ≤ s.now)) ∧
    (∃ (s : State), (s.holder = true ∧ s.flag F.PAR_STAT_LINE = true ∧
      s.pair R.PAR_CLAIM_T_LO R.PAR_CLAIM_T_HI + 8 ≤ s.now)) ∧
    (∃ (p : Packet) (s : State) (t : State),
      t = ((s.setPair R.PAR_PARTNER_LO R.PAR_PARTNER_HI (p.u64 0)).setFlag F.PAR_CTL_AUTO_CLAIM (p.bit 8 0)).setFlag
        F.PAR_CTL_REL_ON_CP_STOP (p.bit 8 1) ∧
      (Served 12 [.calibrate, .banked, .test] p s ∧ p.u8 8 ≤ 3 ∧ p.dirty 9 3 = false ∧ s.strapRole ≠ 0)) ∧
    (∃ (p : Packet) (s : State), (Served 0 coreModes p s ∧ s.strapRole ≠ 0)) ∧
    (∃ (p : Packet) (s : State) (r : Nat × State), r = defer (asOp 0xB005 p) s ∧ (Served 4 [.service] p s ∧ p.u8 0 ≤ 1 ∧
      p.dirty 1 3 = false ∧ s.strapRole ≠ 0 ∧ s.holder = true ∧ (s.fld F.PAR_STAT_MIRROR = 2 ∨ p.bit 0 0 = true) ∧
      s.pairU.switch = none ∧ s.seq.trans = none)) ∧
    (∃ (s : State) (u : State) (t : State), u = disarmClaim (s.setFlag F.PAR_STAT_HELD true) ∧
      t = post 31 sevInfo 0x1201 []
        { (u.setPair R.PAR_CLAIM_T_LO R.PAR_CLAIM_T_HI s.now).count F.PAR_CNT_CLAIMS 1 with seq.claimWait := false } ∧
      (s.paired = true ∧ s.holder = false ∧ s.flag F.PAR_STAT_ARMED = true ∧ s.flag F.PAR_STAT_LINE = true ∧
      s.claimAfter ≤ s.pairU.high ∧ s.seq.mode = .calibrate)) ∧
    (∃ (s : State) (u : State) (t : State), u = disarmClaim (s.setFlag F.PAR_STAT_HELD true) ∧
      t = post 31 sevInfo 0x1201 []
        { (u.setPair R.PAR_CLAIM_T_LO R.PAR_CLAIM_T_HI s.now).count F.PAR_CNT_CLAIMS 1 with seq.claimWait := false } ∧
      (s.paired = true ∧ s.holder = false ∧ s.flag F.PAR_STAT_ARMED = true ∧ s.flag F.PAR_STAT_LINE = true ∧
      s.claimAfter ≤ s.pairU.high ∧ s.seq.mode = .banked)) ∧
    (∃ (s : State) (u : State) (t : State), u = disarmClaim (s.setFlag F.PAR_STAT_HELD true) ∧
      t = post 31 sevInfo 0x1201 []
        { (u.setPair R.PAR_CLAIM_T_LO R.PAR_CLAIM_T_HI s.now).count F.PAR_CNT_CLAIMS 1 with seq.claimWait := false } ∧
      (s.paired = true ∧ s.holder = false ∧ s.flag F.PAR_STAT_ARMED = true ∧ s.flag F.PAR_STAT_LINE = true ∧
      s.claimAfter ≤ s.pairU.high ∧ s.seq.mode ≠ .calibrate ∧ s.seq.mode ≠ .banked)) ∧
    (∃ (s : State) (c : Nat), (s.partnerId = some c ∧ s.paired = true ∧ s.flag F.PAR_STAT_SENSE = true ∧
      s.pairU.beatAt ≤ s.now ∧ s.holder = false)) ∧
    (∃ (s : State), (s.holder = true ∧ s.fld F.PAR_STAT_MIRROR = 1 ∧ s.pairU.swept = true ∧
      s.zoant.unacked.all (fun u => u.frame.msg != .mirror .sweepEnd) = true)) ∧
    (∃ (s : State) (t : State) (u : State) (v : State) (w : State) (unsynced : Bool) (x : State) (y : State),
      t = takeoverCounters { s with pairU.takeover := none } ∧
      u = (if t.pairU.flushed then t else takeoverLedgers ((4 * (s.pair R.PAR_CLAIM_T_LO R.PAR_CLAIM_T_HI - t.pairU.ledgerAt) + 119) / 120) t) ∧
      v = takeoverOwners u ∧
      w = (if v.almanacRuns then v.wheel.foldl (fun x id => skipEvents id (v.now + 2 * v.slotTicks) x) v else v) ∧
      x = { w with pairU.heraldFrom := w.pair R.STP_MODE_T_LO R.STP_MODE_T_HI + 2400000, pairU.mirrored := [] } ∧
      y = planHerald { x with mac.heraldAt := 0, frames.builds := x.frames.builds.filter (fun b => b.kind != .herald) }
        ∧
      (s.pairU.takeover = some unsynced ∧ s.seq.mode = .service)) :=
  ⟨⟨st .banked, _, rfl, by decide +kernel⟩,
   ⟨{ st .calibrate with seq.claimWait := true }, _, rfl, by decide +kernel⟩,
   ⟨st .banked, by decide +kernel⟩,
   ⟨((st .service 1200000).setFld F.PAR_STAT_ROLE 1).setFlag F.PAR_STAT_HELD true, by decide +kernel⟩,
   ⟨(((st .service 1200000).setFld F.PAR_STAT_ROLE 1).setFlag F.PAR_STAT_HELD true).setFlag F.PAR_STAT_LINE true,
     by decide +kernel⟩,
   ⟨pk 12 [0, 0, 0, 0, 0, 0, 0, 0, 3], (st .test).setFld F.STP_STRAPS_PAIRROLE 1, _, rfl,
     by unfold Served; decide +kernel⟩,
   ⟨pk 0 [], (emb).setFld F.STP_STRAPS_PAIRROLE 2, by unfold Served; decide +kernel⟩,
   ⟨pk 4 [1],
     (((st .service 1200000).setFld F.PAR_STAT_ROLE 1).setFlag F.PAR_STAT_HELD true).setFld F.STP_STRAPS_PAIRROLE 1, _,
     rfl, by unfold Served; decide +kernel⟩,
   ⟨{ (((st .calibrate).setFld F.PAR_STAT_ROLE 2).setFlag F.PAR_STAT_ARMED true).setFlag F.PAR_STAT_LINE true with pairU.high := 4160 },
     _, _, rfl, rfl, by decide +kernel⟩,
   ⟨{ (((st .banked).setFld F.PAR_STAT_ROLE 1).setFlag F.PAR_STAT_ARMED true).setFlag F.PAR_STAT_LINE true with pairU.high := 4096 },
     _, _, rfl, rfl, by decide +kernel⟩,
   ⟨{ (((st .service).setFld F.PAR_STAT_ROLE 2).setFlag F.PAR_STAT_ARMED true).setFlag F.PAR_STAT_LINE true with pairU.high := 4160 },
     _, _, rfl, rfl, by decide +kernel⟩,
   ⟨{ (((st .banked).setFld F.PAR_STAT_ROLE 2).setFlag F.PAR_STAT_SENSE true).setFld (F.ZFB_PORT_STAT_STATE 0) 3 with zoant.froute := [(63, 0x020180)] },
     63, by decide +kernel⟩,
   ⟨{ (((st .service 1200000).setFld F.PAR_STAT_ROLE 1).setFlag F.PAR_STAT_HELD true).setFld F.PAR_STAT_MIRROR 1 with pairU.swept := true },
     by decide +kernel⟩,
   ⟨{ st .service with pairU.takeover := some true }, _, _, _, _, true, _, _, rfl, rfl, rfl, rfl, rfl, rfl,
     by decide +kernel⟩⟩

/-- Witnesses for DmaCommands: each clause's hypotheses hold together somewhere. -/
theorem test_witness_DmaCommands :
    (∃ (n : Fin 16) (s : State), (s.reaches (R.DMA_CH_CTL n.val) = true)) ∧
    (∃ (n : Fin 16) (v : Word) (s : State), (s.reaches (R.DMA_CH_PI n.val) = true ∧
      s.dmaSlots n.val < (v.toNat % 65536 + 65536 - s.dmaCi n.val) % 65536)) ∧
    (∃ (n : Fin 16) (v : Word) (s : State), (s.reaches (R.DMA_CH_PI n.val) = true ∧
      (v.toNat % 65536 + 65536 - s.dmaCi n.val) % 65536 ≤ s.dmaSlots n.val)) ∧
    (∃ (n : Fin 16) (d : DmaDesc) (s : State), (s.dmaState n.val = dmaActive ∧ (s.dma n.val).desc = some d ∧
      (s.dma n.val).waiting = false ∧ s.flag F.PCI_LINK_BME = true ∧ d.bad = true)) ∧
    (∃ (n : Fin 16) (d : DmaDesc) (s : State), (s.dmaState n.val = dmaActive ∧ (s.dma n.val).desc = some d ∧
      (s.dma n.val).waiting = false ∧ s.flag F.PCI_LINK_BME = true ∧ d.bad = false ∧ d.kind = 0)) ∧
    (∃ (n : Fin 16) (d : DmaDesc) (s : State) (it : QItem), (s.dmaState n.val = dmaActive ∧
      (s.dma n.val).desc = some d ∧ (s.dma n.val).waiting = false ∧ s.flag F.PCI_LINK_BME = true ∧ d.bad = false ∧
      d.kind = 1 ∧ (s.dma n.val).item = some it ∧ d.len < it.data.length)) ∧
    (∃ (n : Fin 16) (d : DmaDesc) (data : List Byte) (s : State) (t : State),
      t = dmaMove n.val d data (s.fld (F.DMA_CH_STAT_PROGRESS n.val)) (bursts d.base ((s.dma n.val).len d)) s ∧
      (s.dmaState n.val = dmaActive ∧ (s.dma n.val).desc = some d ∧ (s.dma n.val).waiting = false ∧
      s.flag F.PCI_LINK_BME = true ∧ d.bad = false ∧ d.kind ≠ 0 ∧ (d.kind = 1 → (s.dma n.val).len d ≤ d.len) ∧
      burstFault (s.dma n.val) d (s.fld (F.DMA_CH_STAT_PROGRESS n.val)) s = none)) ∧
    (∃ (n : Fin 16) (d : DmaDesc) (s : State) (k : Nat) (a : Nat) (cause : Nat), (s.dmaState n.val = dmaActive ∧
      (s.dma n.val).desc = some d ∧ (s.dma n.val).waiting = false ∧ s.flag F.PCI_LINK_BME = true ∧ d.bad = false ∧
      d.kind ≠ 0 ∧ (d.kind = 1 → (s.dma n.val).len d ≤ d.len) ∧
      burstFault (s.dma n.val) d (s.fld (F.DMA_CH_STAT_PROGRESS n.val)) s = some (k, a, cause))) ∧
    (∃ (v : Word) (it : QItem) (s : State) (t : State),
      t = (dmaRelease (v.toNat % 64) s).setFld (F.DMA_CH_STAT_PROGRESS (v.toNat % 64)) 0 ∧
      (s.reaches R.QUE_DROP = true ∧ v.toNat % 64 ≤ 15 ∧ (s.queue (v.toNat % 64)).agrees = true ∧
      (s.dma (v.toNat % 64)).item = some it)) :=
  ⟨⟨15, st .service, by decide +kernel⟩,
   ⟨15, 2, (st .service).setFld (F.DMA_CH_CTL_LOG2_SLOTS 15) 0, by decide +kernel⟩,
   ⟨15, 1, (st .service).setFld (F.DMA_CH_CTL_LOG2_SLOTS 15) 0, by decide +kernel⟩,
   ⟨15, ⟨0, false, 2048, 0, 0x1000000000, 0, true⟩,
     { ((st .service).setFld (F.DMA_CH_STAT_STATE 15) 2).setFlag F.PCI_LINK_BME true with bufs.dma := [(15, { DmaChan.reset with desc := some ⟨0, false, 2048, 0, 0x1000000000, 0, true⟩ })] },
     by decide +kernel⟩,
   ⟨15, ⟨0, false, 2048, 0, 0x1000000000, 0, false⟩,
     { ((st .service).setFld (F.DMA_CH_STAT_STATE 15) 2).setFlag F.PCI_LINK_BME true with bufs.dma := [(15, { DmaChan.reset with desc := some ⟨0, false, 2048, 0, 0x1000000000, 0, false⟩ })] },
     by decide +kernel⟩,
   ⟨15, ⟨1, false, 0, 0, 0x1000000000, 0, false⟩,
     { ((st .service).setFld (F.DMA_CH_STAT_STATE 15) 2).setFlag F.PCI_LINK_BME true with bufs.dma := [(15, { DmaChan.reset with desc := some ⟨1, false, 0, 0, 0x1000000000, 0, false⟩, item := some ⟨[], [1], 0, 0, 0, 0⟩ })] },
     ⟨[], [1], 0, 0, 0, 0⟩, by decide +kernel⟩,
   ⟨15, ⟨1, false, 2048, 0, 0x1000000000, 0, false⟩, [],
     { ((st .service).setFld (F.DMA_CH_STAT_STATE 15) 2).setFlag F.PCI_LINK_BME true with bufs.dma := [(15, { DmaChan.reset with desc := some ⟨1, false, 2048, 0, 0x1000000000, 0, false⟩, item := some ⟨[], [], 0, 0, 0, 0⟩ })] },
     _, rfl, by decide +kernel⟩,
   ⟨15, ⟨4, false, 2048, 0, 0x1000000000, 0, false⟩,
     { ((st .service).setFld (F.DMA_CH_STAT_STATE 15) 2).setFlag F.PCI_LINK_BME true with bufs.dma := [(15, { DmaChan.reset with desc := some ⟨4, false, 2048, 0, 0x1000000000, 0, false⟩ })] },
     0, 0x1000000000, cPermission, by decide +kernel⟩,
   ⟨15, ⟨[], [], 0, 0, 0, 0⟩,
     { ((st .service).setFld (F.DMA_CH_STAT_STATE 15) 2).setFlag F.PCI_LINK_BME true with bufs.dma := [(15, { DmaChan.reset with desc := some ⟨1, false, 2048, 0, 0x1000000000, 0, false⟩, item := some ⟨[], [], 0, 0, 0, 0⟩ })] },
     _, rfl, by decide +kernel⟩⟩

/-- Witnesses for MemoryCommands: each clause's hypotheses hold together somewhere. -/
theorem test_witness_MemoryCommands :
    (∃ (p : Packet) (s : State) (tbl : Nat), tbl = tableFrames (p.u32 12) ∧ (Served 24 [.calibrate, .test] p s ∧
      p.u64 0 % 2 ^ 20 = 0 ∧ 1024 ≤ p.u32 8 ∧ p.u32 8 ≤ 524288 ∧ 1023 ≤ p.u32 12 ∧ p.u32 12 ≤ 262143 ∧
      p.u32 12 + tbl ≤ p.u32 8 ∧ s.inDram (p.u64 0) (2048 * p.u32 8) = true ∧ p.u32 16 ≤ p.u32 12 / 2 ∧
      p.u32 20 < p.u32 12 ∧ s.dmaAllOff = true ∧ s.bufs.pages.any (fun e => e.2.alloc && !e.2.spill) = false)) ∧
    (∃ (p : Packet) (s : State), (Served 0 coreModes p s)) ∧
    (∃ (r : Req) (s : State), (s.inMode [.cold] = false ∧ 0x10 ≤ r.toNat ∧ r.toNat ≤ 0x1F)) ∧
    (∃ (r : Req) (s : State), (s.inMode [.cold] = false ∧ r.toNat = 0x0E ∧ s.ringReady = true)) ∧
    (∃ (r : Req) (s : State), (s.inMode [.cold] = false ∧ r.toNat ≠ 0x0E ∧ ¬ (0x10 ≤ r.toNat ∧ r.toNat ≤ 0x1F))) ∧
    (∃ (s : State), (s.reaches R.MMU_FLT_CTL = true)) ∧
    (∃ (v : Word) (s : State) (t : State), t = fltFullFlag (s.setFld F.MMU_FLT_CI_CI v.toNat) ∧
      (s.reaches R.MMU_FLT_CI = true)) ∧
    (∃ (a : BitVec 40) (p : Nat) (s : State) (u : State) (t : State), u = s.count F.MMU_ECC_CNT_UNCORRECTABLE 1 ∧
      t = (if u.inDram a.toNat 1 && !u.bufs.badBursts.contains ((a.toNat - dramBase) / 64) then { u with bufs.badBursts := u.bufs.badBursts ++ [(a.toNat - dramBase) / 64] } else u) ∧
      (t.inRegion a.toNat = true ∧ t.inTable a.toNat = false ∧ t.pageOfFrame ((a.toNat - t.bufBase) / 2048) = some p)) ∧
    (∃ (off : BitVec 26) (data : List Byte) (a : Nat) (s : State),
      a = dramBase + s.fld F.PCI_BAR2_CTL_BASE * 2 ^ 26 + off.toNat ∧ (s.hostUp = true ∧
      s.flag F.PCI_BAR2_CTL_EN = true ∧ s.fld F.PCI_BAR2_CTL_BASE * 2 ^ 26 < s.dramBytes ∧ (∀ i, i < data.length →
      s.bar2Denied true (a + i) = none) ∧ s.rmwBad (a - dramBase) data.length = false)) ∧
    (∃ (off : BitVec 26) (a : Nat) (s : State), a = dramBase + s.fld F.PCI_BAR2_CTL_BASE * 2 ^ 26 + off.toNat ∧
      (s.hostUp = true ∧ s.flag F.PCI_BAR2_CTL_EN = true ∧ s.fld F.PCI_BAR2_CTL_BASE * 2 ^ 26 < s.dramBytes ∧ (∀ i,
      i < 4 → s.bar2Denied false (a + i) = none) ∧ s.burstBad (a - dramBase) 4 = false)) ∧
    (∃ (p : Nat) (s : State), (p ≠ 0 ∧ p ≤ s.bufPages ∧ (s.page p).alloc = false)) ∧
    (∃ (p : Nat) (s : State), (p ≠ 0 ∧ p ≤ s.bufPages ∧ (s.page p).alloc = true ∧ (s.page p).bad = false)) ∧
    (∃ (p : Nat) (s : State), (p ≠ 0 ∧ p ≤ s.bufPages ∧ (s.page p).alloc = true ∧ (s.page p).bad = true ∧
      s.fld F.MMU_RETIRE_SPARES = 0)) :=
  ⟨⟨pk 24 [0, 0, 0, 0, 0x10, 0, 0, 0, 0x02, 0x04, 0, 0, 0xFF, 0x03, 0, 0, 0xFF, 1, 0, 0, 0xFE, 3],
    { st .test with bufs.pages := [] }, _, rfl, by unfold Served; decide +kernel⟩,
   ⟨pk 0 [], emb, by unfold Served; decide +kernel⟩,
   ⟨0x1F, st .quarantine, by decide +kernel⟩,
   ⟨0x0E, (st .service).setFld F.EVJ_STAT_STATE 1, by decide +kernel⟩,
   ⟨0x20, st .service, by decide +kernel⟩,
   ⟨st .service, by decide +kernel⟩,
   ⟨0, st .service, _, rfl, by decide +kernel⟩,
   ⟨0x1000000000, 1,
     (((st .service).setFld F.MMU_BUF_BASE_BASE 0x10000).setFld F.MMU_BUF_FRAMES_FRAMES 1024).setFld
       F.MMU_BUF_PAGES_PAGES 1020,
     _, _, rfl, rfl, by decide +kernel⟩,
   ⟨0x3FFFFFF, [1], _, (st .service).setFlag F.PCI_BAR2_CTL_EN true, rfl, by decide +kernel⟩,
   ⟨0, _, (st .service).setFlag F.PCI_BAR2_CTL_EN true, rfl, by decide +kernel⟩,
   ⟨1023, { (st .service).setFld F.MMU_BUF_PAGES_PAGES 1023 with bufs.pages := [(1023, ⟨false, false, false, none⟩)] },
     by decide +kernel⟩,
   ⟨1023, { (st .service).setFld F.MMU_BUF_PAGES_PAGES 1023 with bufs.pages := [(1023, ⟨true, false, false, none⟩)] },
     by decide +kernel⟩,
   ⟨1023, { (st .service).setFld F.MMU_BUF_PAGES_PAGES 1023 with bufs.pages := [(1023, ⟨true, true, false, none⟩)] },
     by decide +kernel⟩⟩

/-- Witnesses for ArbiterCommands: each clause's hypotheses hold together somewhere. -/
theorem test_witness_ArbiterCommands :
    (∃ (cs : List ArbCycle) (k : Fin 7) (s : State) (t : State), t = arbRun cs s ∧
      (t.reaches (R.ARB_PRIO k.val) = true)) ∧
    (∃ (cs : List ArbCycle) (s : State) (t : State), t = arbRun cs s ∧ (t.reaches R.ARB_QUOTA = true)) ∧
    (∃ (cs : List ArbCycle) (s : State) (t : State), t = arbRun cs s ∧ ((t.fld F.ARB_STAT_WPOS ≠ 0 ∨ cs = []))) ∧
    (∃ (s : State) (c : ArbCycle) (r : Nat), (s.arbWinner c = some r ∧ 6 ≤ s.prio r)) ∧
    (∃ (s : State) (c : ArbCycle) (r : Nat) (q : Nat), (s.arbWinner c = some r ∧ 1 ≤ q ∧ q ≤ 53 ∧
      c.asks.contains q = true ∧ s.arbMasked c q = false)) :=
  ⟨⟨[⟨true, [1], [], false, false⟩], 6, st .service, _, rfl, by decide +kernel⟩,
   ⟨[⟨true, [1], [], false, false⟩], st .service, _, rfl, by decide +kernel⟩,
   ⟨[], st .service, _, rfl, by decide +kernel⟩,
   ⟨(st .service).setFld ⟨0x110118, 20, 3⟩ 7, ⟨true, [1, 53], [], false, false⟩, 53, by decide +kernel⟩,
   ⟨(st .service).setFld ⟨0x110118, 20, 3⟩ 7, ⟨true, [1, 53], [], false, false⟩, 53, 1, by decide +kernel⟩⟩

/-- Witnesses for RadioCommands: each clause's hypotheses hold together somewhere. -/
theorem test_witness_RadioCommands :
    (∃ (p : Packet) (s : State), (Served 8 radioModes p s ∧ p.u8 0 ≤ 3 ∧ p.dirty 2 2 = false ∧
      (fromCores p = true ∨ s.frozen (s.pairEnv 0 (p.u8 0)) = true) ∧ p.u8 1 = 0)) ∧
    (∃ (p : Packet) (s : State), (Served 8 radioModes p s ∧ p.u8 0 ≤ 3 ∧ p.dirty 2 2 = false ∧
      (fromCores p = true ∨ s.frozen (s.pairEnv 0 (p.u8 0)) = true) ∧ p.u8 1 = 1 ∧ centreOk (p.u32 4) = true ∧
      s.pairState (p.u8 0) = 1 ∧ s.fld (F.RFE_PAIR_STAT_CENTRE_KHZ (p.u8 0)) = p.u32 4 ∧
      s.flag (F.RFE_PAIR_STAT_LOCK (p.u8 0)) = true)) ∧
    (∃ (p : Packet) (s : State) (same : Bool) (u : State) (t : State) (v : State),
      same = (s.pairState (p.u8 0) == 1 && s.fld (F.RFE_PAIR_STAT_CENTRE_KHZ (p.u8 0)) == p.u32 4) ∧
      u = (if s.pairState (p.u8 0) == 1 && !same then s.count (F.RFE_PAIR_CNT_RETUNES (p.u8 0)) 1 else s) ∧
      t = setPairLock (p.u8 0) false (setPairState (p.u8 0) 1 { u.setFld (F.RFE_PAIR_STAT_CENTRE_KHZ (p.u8 0)) (p.u32 4) with sched.planDue := u.sched.planDue || !same }) ∧
      v = (defer (asOp 0x2001 p) t).2.setPairU (p.u8 0)
        { (defer (asOp 0x2001 p) t).2.pairOf (p.u8 0) with spanCmds := ((defer (asOp 0x2001 p) t).2.pairOf (p.u8 0)).spanCmds ++ [(defer (asOp 0x2001 p) t).1] }
        ∧
      (Served 8 radioModes p s ∧ p.u8 0 ≤ 3 ∧ p.dirty 2 2 = false ∧
      (fromCores p = true ∨ s.frozen (s.pairEnv 0 (p.u8 0)) = true) ∧ p.u8 1 = 1 ∧ centreOk (p.u32 4) = true ∧
      s.pairState (p.u8 0) ≠ 2 ∧ (same = true → s.flag (F.RFE_PAIR_STAT_LOCK (p.u8 0)) = false))) ∧
    (∃ (p : Packet) (s : State), (Served 4 radioModes p s ∧ p.u8 0 ≤ 3 ∧ p.u8 1 ≤ 3)) ∧
    (∃ (p : Packet) (s : State) (c : Cal), c = ⟨p.u8 1, p.bit 2 0, some s.interp.nextSeq, s.now,
      if p.u32 4 = 0 then 0 else s.now + p.u32 4, 0, 0, false, false⟩ ∧ (Served 12 radioModes p s ∧ p.bits 0 6 2 = 0 ∧
      p.bits 2 7 1 = 0 ∧ p.dirty 3 1 = false ∧ p.dirty 8 4 = false ∧ (p.bit 2 0 = true →
      s.flag F.THM_STAT_CRIT = false) ∧ p.bit 0 7 = true ∧ p.u8 1 &&& 0x31 = p.u8 1 ∧ s.txState (p.bits 0 1 0) ≠ txOff ∧
      (s.chain (p.bits 0 1 0)).cal = none)) ∧
    (∃ (p : Packet) (s : State) (c : Cal), c = ⟨p.u8 1, p.bit 2 0, some s.interp.nextSeq, s.now,
      if p.u32 4 = 0 then 0 else s.now + p.u32 4, 0, 0, false, false⟩ ∧ (Served 12 radioModes p s ∧ p.bits 0 6 2 = 0 ∧
      p.bits 2 7 1 = 0 ∧ p.dirty 3 1 = false ∧ p.dirty 8 4 = false ∧ (p.bit 2 0 = true →
      s.flag F.THM_STAT_CRIT = false) ∧ p.bit 0 7 = false ∧ p.u8 1 &&& 0x0F = p.u8 1 ∧
      (s.pairOf (p.bits 0 1 0)).cal = none)) ∧
    (∃ (p : Packet) (s : State), profileOk (imageWords p) = true ∧ (Served 272 [.calibrate, .test] p s ∧
      s.regLock = false)) ∧
    (∃ (p : Packet) (s : State), (Served 4 coreModes p s ∧ p.u8 0 ≤ 15 ∧ p.dirty 1 3 = false ∧ s.radio.profile ≠ [])) ∧
    (∃ (p : Packet) (s : State) (t : State),
      t = (List.range 68).foldl (fun s i => burn (0x100 + i) ((imageWords p).getD i 0) s) s ∧
      profileOk (imageWords p) = true ∧ (Managed 276 [.calibrate, .test] p s ∧ p.u8 272 ≤ 1 ∧ p.dirty 273 3 = false ∧
      s.regLock = false ∧ t.otpProfile = imageWords p ∧ p.bit 272 0 = false)) ∧
    (∃ (p : Packet) (s : State) (t : State),
      t = (List.range 68).foldl (fun s i => burn (0x100 + i) ((imageWords p).getD i 0) s) s ∧
      profileOk (imageWords p) = true ∧ (Managed 276 [.calibrate, .test] p s ∧ p.u8 272 ≤ 1 ∧ p.dirty 273 3 = false ∧
      s.regLock = false ∧ t.otpProfile = imageWords p ∧ p.bit 272 0 = true)) ∧
    (∃ (v : Word) (s : State) (e : Nat) (t : Tighten) (u : Tighten), e = bitsOf v.toNat 31 28 ∧ t = s.tighten e ∧
      u = { t with drive := some (bitsOf v.toNat 27 21) } ∧ (s.reaches R.RFE_REG_TIGHTEN_A = true ∧
      bitsOf v.toNat 27 21 = 0x7F ∧ bitsOf v.toNat 20 11 = 0x3FF)) ∧
    (∃ (v : Word) (s : State) (e : Nat) (t : Tighten) (u : Tighten), e = bitsOf v.toNat 31 28 ∧ t = s.tighten e ∧
      u = { t with drive := some (bitsOf v.toNat 27 21) } ∧ (s.reaches R.RFE_REG_TIGHTEN_A = true ∧
      bitsOf v.toNat 27 21 ≠ 0x7F ∧ bitsOf v.toNat 27 21 < (s.band e).maxDrive ∧ bitsOf v.toNat 20 11 = 0x3FF)) ∧
    (∃ (v : Word) (s : State) (e : Nat) (t : Tighten) (u : Tighten), e = bitsOf v.toNat 31 28 ∧ t = s.tighten e ∧
      u = { t with dutyPpm := some (bitsOf v.toNat 27 8) } ∧ (s.reaches R.RFE_REG_TIGHTEN_B = true ∧
      bitsOf v.toNat 27 8 = 0xFFFFF ∧ bitsOf v.toNat 7 0 = 0xFF)) ∧
    (∃ (v : Word) (s : State) (e : Nat) (t : Tighten) (u : Tighten), e = bitsOf v.toNat 31 28 ∧ t = s.tighten e ∧
      u = { t with dutyPpm := some (bitsOf v.toNat 27 8) } ∧ (s.reaches R.RFE_REG_TIGHTEN_B = true ∧
      bitsOf v.toNat 27 8 ≠ 0xFFFFF ∧ bitsOf v.toNat 27 8 < (s.band e).dutyPpm ∧ bitsOf v.toNat 7 0 = 0xFF)) :=
  ⟨⟨pk 8 [3, 0], st .test, by unfold Served; decide +kernel⟩,
   ⟨pk 8 [3, 1, 0, 0, 0, 0x71, 2],
     setPairLock 3 true (setPairState 3 1 ((st .test).setFld (F.RFE_PAIR_STAT_CENTRE_KHZ 3) 160000)),
     by unfold Served; decide +kernel⟩,
   ⟨pk 8 [3, 1, 0, 0, 0, 0x71, 2], st .test, _, _, _, _, rfl, rfl, rfl, rfl, by unfold Served; decide +kernel⟩,
   ⟨pk 4 [3, 3], st .test, by unfold Served; decide +kernel⟩,
   ⟨pk 12 [0x81, 0x31], setTxState 1 2 (st .test), _, rfl, by unfold Served; decide +kernel⟩,
   ⟨pk 12 [1, 0x0F], st .test, _, rfl, by unfold Served; decide +kernel⟩,
   ⟨regPk 272 [], st .test, regA, by unfold Served; decide +kernel⟩,
   ⟨pk 4 [15], { st .test with radio.profile := oneBand }, by unfold Served; decide +kernel⟩,
   ⟨regPk 276 [0], st .test, _, rfl, regB, by unfold Managed; decide +kernel⟩,
   ⟨regPk 276 [1], st .test, _, rfl, regC, by unfold Managed; decide +kernel⟩,
   ⟨0x0FFFF800, st .service, _, _, _, rfl, rfl, rfl, by decide +kernel⟩,
   ⟨0x001FF800, { st .service with radio.profile := oneBand }, _, _, _, rfl, rfl, rfl, by decide +kernel⟩,
   ⟨0x0FFFFFFF, st .service, _, _, _, rfl, rfl, rfl, by decide +kernel⟩,
   ⟨0x000000FF, { st .service with radio.profile := [1, 0, 0, 0, 0x80000000, 1, 0x1000, 0] }, _, _, _, rfl, rfl, rfl,
     by decide +kernel⟩⟩

/-- Witness for TighteningNeverRelaxes. -/
theorem test_witness_TighteningNeverRelaxes :
    (∃ (v : Word) (s : State) (t : State) (e : Nat) (d : Nat × Nat),
      (exec (.rfeRegTightenA v) s = .next t ∨ exec (.rfeRegTightenB v) s = .next t) ∧ (s.bandDwell e = some d)) :=
  ⟨0, { st .service with radio.tighten := [(0, { Tighten.none with dwellMs := some 5 })] }, _, 0, (5, 1), .inl rfl,
    by decide +kernel⟩

/-- Witnesses for RadioEventsAndTransmissions: each clause's hypotheses hold together somewhere. -/
theorem test_witness_RadioEventsAndTransmissions :
    (∃ (n : Fin 4) (s : State) (c : Chain), (s.chain n.val = c ∧ c.tuning = true)) ∧
    (∃ (n : Fin 4) (s : State) (c : Chain), (s.chain n.val = c ∧ s.txLock n.val = true)) ∧
    (∃ (n : Fin 4) (s : State) (c : Chain) (t : _), (s.chain n.val = c ∧ s.txState n.val = txOff ∧
      c.enabledAt = some t ∧ t + 2400 ≤ s.now)) ∧
    (∃ (n : Fin 4) (s : State) (c : Chain) (k : Cal), (s.chain n.val = c ∧ c.cal = some k ∧ k.running = true ∧
      k.bits ≠ startupBits ∧ k.start + calTicks k.bits ≤ s.now)) ∧
    (∃ (n : Fin 4) (s : State) (c : Chain) (k : Cal), (s.chain n.val = c ∧ c.cal = some k ∧ k.running = false ∧
      k.force = false ∧ k.limit ≠ 0 ∧ k.limit < s.now)) ∧
    (∃ (p : Fin 4) (s : State) (x : Pair), (s.pairOf p.val = x ∧ s.pairState p.val = 1 ∧
      s.flag (F.RFE_PAIR_STAT_LOCK p.val) = false)) ∧
    (∃ (p : Fin 4) (s : State) (x : Pair), (s.pairOf p.val = x ∧ s.flag (F.RFE_PAIR_STAT_LOCK p.val) = true)) ∧
    (∃ (p : Fin 4) (s : State) (x : Pair) (k : Cal) (r : Byte) (t : State) (u : State),
      t = s.setPairU p.val { x with cal := none } ∧
      u = calAnswer (10 + p.val) (pairFail p.val) r.toNat k (setPairState p.val (if k.fromArmed then 1 else 0) (setPairLock p.val false (if k.bits / 8 % 2 = 1 ∧
      r = 0 then rssiCalibrate p.val t else t))) ∧ (s.pairOf p.val = x ∧ x.cal = some k ∧ k.running = true ∧
      k.bits ≠ startupBits ∧ k.start + calTicks k.bits ≤ s.now)) ∧
    (∃ (p : Fin 4) (s : State) (x : Pair) (k : Cal), (s.pairOf p.val = x ∧ x.cal = some k ∧ k.running = false ∧
      k.force = false ∧ k.limit ≠ 0 ∧ k.limit < s.now)) ∧
    (∃ (d : TxDesc) (s : State), (d.kind = .ack ∧ d.deadline < s.now + 240)) ∧
    (∃ (d : TxDesc) (s : State), ((d.kind ≠ .ack ∨ s.now + 240 ≤ d.deadline) ∧ inSynthBand (s.carrier d) = true)) ∧
    (∃ (d : TxDesc) (s : State), ((d.kind ≠ .ack ∨ s.now + 240 ≤ d.deadline) ∧ inSynthBand (s.carrier d) = false)) ∧
    (∃ (n : Fin 4) (d : TxDesc) (rest : List TxDesc) (s : State), ((s.chain n.val).queue = d :: rest ∧
      s.startDue n.val d = false)) ∧
    (∃ (n : Fin 4) (lbt : Option Byte) (d : TxDesc) (rest : List TxDesc) (s : State) (t : State) (u : State) (v : State)
      (w : State) (eff : Effective) (mode : Nat),
      t = s.setChain n.val { s.chain n.val with queue := rest } ∧ mode = u.paModeOf n.val (driveOf d eff) ∧
      w = (if driveOf d eff < least2 d.drive 64 then u.count (F.RFE_TX_CNT_CLAMP n.val) 1 else u) ∧
      v = blankFor n.val (driveOf d eff) mode (w.now + w.txLead n.val + d.airTicks + w.txTail n.val + 240) w ∧
      ((s.chain n.val).queue = d :: rest ∧ s.startDue n.val d = true ∧ startChecks n.val d lbt t = (.inr eff, u))) ∧
    (∃ (n : Fin 4) (lbt : Option Byte) (d : TxDesc) (rest : List TxDesc) (s : State) (t : State) (u : State) (st : Nat),
      t = s.setChain n.val { s.chain n.val with queue := rest } ∧ ((s.chain n.val).queue = d :: rest ∧
      s.startDue n.val d = true ∧ startChecks n.val d lbt t = (.inl st, u))) ∧
    (∃ (n : Fin 4) (d : TxDesc) (rest : List TxDesc) (s : State), ((s.chain n.val).queue = d :: rest ∧
      s.txState n.val ≠ txCal ∧ d.deadline + s.fld (F.RFE_TX_CTL_TOL n.val) < s.now)) ∧
    (∃ (n : Fin 4) (r : TxRun) (s : State), ((s.chain n.val).run = some r ∧ s.txState n.val = txRampUp ∧
      r.start + s.txLead n.val ≤ s.now)) ∧
    (∃ (n : Fin 4) (r : TxRun) (s : State) (t : State),
      t = s.setChain n.val { s.chain n.val with run := some { r with stop := some s.now } } ∧
      ((s.chain n.val).run = some r ∧ s.txState n.val = txTx ∧ r.start + s.txLead n.val + r.desc.airTicks ≤ s.now)) ∧
    (∃ (n : Fin 4) (r : TxRun) (s : State) (e : Nat), ((s.chain n.val).run = some r ∧ r.stop = some e ∧
      s.txState n.val = txRampDown ∧ e + s.txTail n.val ≤ s.now ∧ (s.chain n.val).offAfter = true)) ∧
    (∃ (n : Fin 4) (r : TxRun) (s : State) (e : Nat) (t : State) (u : State),
      t = s.setChain n.val { s.chain n.val with run := none } ∧
      (u = (if (t.chain n.val).queue ≠ [] ∨ t.flag (F.RFE_TX_CTL_RETURN n.val) = true then setTxState n.val txReady t else setTxState n.val txIdle (setTxLock n.val false (t.setChain n.val { t.chain n.val with tuning := false })))) ∧
      ((s.chain n.val).run = some r ∧ r.stop = some e ∧ s.txState n.val = txRampDown ∧ e + s.txTail n.val ≤ s.now ∧
      (s.chain n.val).offAfter = false)) :=
  ⟨⟨3, { st .service 9000000 with radio.chains := [(3, { Chain.reset with tuning := true })] },
    { Chain.reset with tuning := true }, by decide +kernel⟩,
   ⟨3, setTxLock 3 true (st .service), Chain.reset, by decide +kernel⟩,
   ⟨3, (setTxState 3 0 ({ (st .service 2400) with radio.chains := [(3, { Chain.reset with enabledAt := some 0 })] })),
     { Chain.reset with enabledAt := some 0 }, 0, by decide +kernel⟩,
   ⟨3,
     { st .service 9000000 with radio.chains := [(3, { Chain.reset with cal := some (⟨1, false, none, 0, 0, 0, 0, true, false⟩ : Cal) })] },
     { Chain.reset with cal := some (⟨1, false, none, 0, 0, 0, 0, true, false⟩ : Cal) }, (⟨1, false, none, 0, 0, 0, 0,
     true, false⟩ : Cal), by decide +kernel⟩,
   ⟨3,
     { st .service 9000000 with radio.chains := [(3, { Chain.reset with cal := some (⟨1, false, none, 0, 1, 0, 0, false, false⟩ : Cal) })] },
     { Chain.reset with cal := some (⟨1, false, none, 0, 1, 0, 0, false, false⟩ : Cal) }, (⟨1, false, none, 0, 1, 0, 0,
     false, false⟩ : Cal), by decide +kernel⟩,
   ⟨3, setPairState 3 1 (st .service), Pair.reset, by decide +kernel⟩,
   ⟨3, setPairLock 3 true (st .service), Pair.reset, by decide +kernel⟩,
   ⟨3,
     { st .service 9000000 with radio.pairs := [(3, { Pair.reset with cal := some (⟨1, false, none, 0, 0, 0, 0, true, false⟩ : Cal) })] },
     { Pair.reset with cal := some (⟨1, false, none, 0, 0, 0, 0, true, false⟩ : Cal) }, (⟨1, false, none, 0, 0, 0, 0,
     true, false⟩ : Cal), 0, _, _, rfl, rfl, by decide +kernel⟩,
   ⟨3,
     { st .service 9000000 with radio.pairs := [(3, { Pair.reset with cal := some (⟨1, false, none, 0, 1, 0, 0, false, false⟩ : Cal) })] },
     { Pair.reset with cal := some (⟨1, false, none, 0, 1, 0, 0, false, false⟩ : Cal) }, (⟨1, false, none, 0, 1, 0, 0,
     false, false⟩ : Cal), by decide +kernel⟩,
   ⟨dsc .ack 239, onAir 3 0 Chain.reset, by decide +kernel⟩,
   ⟨dsc .ack 240, onAir 3 0 Chain.reset, by decide +kernel⟩,
   ⟨{ dsc with slot := 2 }, onAir 3 0 Chain.reset, by decide +kernel⟩,
   ⟨3, dsc, [], onAir 3 4 { Chain.reset with queue := [dsc] }, by decide +kernel⟩,
   ⟨3, none, dsc, [], onAir 3 5 { Chain.reset with queue := [dsc] }, _,
     (startChecks 3 dsc none ((onAir 3 5 { Chain.reset with queue := [dsc] }).setChain 3
       { (onAir 3 5 { Chain.reset with queue := [dsc] }).chain 3 with queue := [] })).2,
     _, _, ⟨30, none, [], [], none⟩, _, rfl, rfl, rfl, rfl, by decide +kernel⟩,
   ⟨3, none, { dsc with unbuilt := true }, [], onAir 3 5 { Chain.reset with queue := [{ dsc with unbuilt := true }] },
     _,
     (startChecks 3 { dsc with unbuilt := true } none ((onAir 3 5
       { Chain.reset with queue := [{ dsc with unbuilt := true }] }).setChain 3
       { (onAir 3 5 { Chain.reset with queue := [{ dsc with unbuilt := true }] }).chain 3 with queue := [] })).2,
     St.TX_NO_TOKEN, rfl, by decide +kernel⟩,
   ⟨3, dsc, [], onAir 3 6 { Chain.reset with queue := [dsc] }, by decide +kernel⟩,
   ⟨3, ⟨dsc, 0, none, false, 30, 0, .flr [], false, []⟩,
     setTxState 3 3 (onAir 3 5000 { Chain.reset with run := some ⟨dsc, 0, none, false, 30, 0, .flr [], false, []⟩ }),
     by decide +kernel⟩,
   ⟨3, ⟨dsc, 0, none, false, 30, 0, .flr [], false, []⟩,
     setTxState 3 4 (onAir 3 5000 { Chain.reset with run := some ⟨dsc, 0, none, false, 30, 0, .flr [], false, []⟩ }), _,
     rfl, by decide +kernel⟩,
   ⟨3, ⟨dsc, 0, some 7, false, 30, 0, .flr [], false, []⟩,
     setTxState 3 5 (onAir 3 5000
       { Chain.reset with run := some ⟨dsc, 0, some 7, false, 30, 0, .flr [], false, []⟩, offAfter := true }),
     7, by decide +kernel⟩,
   ⟨3, ⟨dsc, 0, some 7, false, 30, 0, .flr [], false, []⟩,
     setTxState 3 5 (onAir 3 5000 { Chain.reset with run := some ⟨dsc, 0, some 7, false, 30, 0, .flr [], false, []⟩ }),
     7, _, _, rfl, rfl, by decide +kernel⟩⟩

/-- Witness for StartsAreLawful. -/
theorem test_witness_StartsAreLawful :
    (∃ (n : Nat) (d : TxDesc) (lbt : Option Byte) (s : State) (u : State) (eff : Effective),
      (startChecks n d lbt s = (.inr eff, u))) :=
  ⟨3, dsc, none, onAir 3 5 { Chain.reset with queue := [dsc] },
    (startChecks 3 dsc none (onAir 3 5 { Chain.reset with queue := [dsc] })).2, ⟨30, none, [], [], none⟩,
    by decide +kernel⟩

/-- Witnesses for ChannelizerCommands: each clause's hypotheses hold together somewhere. -/
theorem test_witness_ChannelizerCommands :
    (∃ (p : Packet) (s : State), (Served 16 radioModes p s ∧ p.u8 1 = 0 ∧ p.u8 3 ≤ 15 ∧ p.bits 3 1 0 ≠ 3 ∧
      p.dirty 6 2 = false ∧ p.dirty 12 4 = false ∧ chanOwned p s = false ∧ (s.stream (p.u8 0)).cmd = none ∧
      s.isHead (p.u8 0) = true)) ∧
    (∃ (p : Packet) (s : State), (Served 16 radioModes p s ∧ p.u8 1 = 0 ∧ p.u8 3 ≤ 15 ∧ p.bits 3 1 0 ≠ 3 ∧
      p.dirty 6 2 = false ∧ p.dirty 12 4 = false ∧ chanOwned p s = false ∧ (s.stream (p.u8 0)).cmd = none ∧
      s.slotEn (p.u8 0) = false)) ∧
    (∃ (p : Packet) (s : State), (Served 16 radioModes p s ∧ p.u8 1 = 1 ∧ p.u8 2 ≤ 7 ∧ p.u8 3 ≤ 15 ∧ p.bits 3 1 0 ≠ 3 ∧
      p.u8 4 ≤ 3 ∧ p.u8 5 ≤ 63 ∧ p.dirty 6 2 = false ∧ p.dirty 12 4 = false ∧ s.profLoaded (p.u8 5) = true ∧
      (p.u8 5 = 63 ∨ p.u8 2 ≠ 7 ∧ profWidth (s.profile (p.u8 5)) = p.u8 2) ∧ chanOwned p s = false ∧
      slotConflict (p.u8 0) (p.u8 2) s = false ∧ s.pairSlots (p.u8 4) (p.u8 0) + widthSlots (p.u8 2) ≤ 64 ∧
      (s.pairArmed (p.u8 4) = true → (fitBin (s.centreHz (p.u8 4)) (p.u32 8) (widthHz (p.u8 2))).isNone = false) ∧
      (s.stream (p.u8 0)).cmd = none ∧ s.isHead (p.u8 0) = false ∧ s.slotEn (p.u8 0) = false ∧
      s.fld F.THM_STAT_STEPS < 2)) ∧
    (∃ (p : Packet) (s : State) (t : State),
      t = (List.range (widthSlots (p.u8 2))).foldl (fun s i => if s.slotEn (p.u8 0 + i) then s else s.setWord (R.CHZ_CH_CFG (p.u8 0 + i)) ((F.CHZ_CH_CFG_HEAD (p.u8 0)).write 0 (chanCfg p))) s ∧
      (Served 16 radioModes p s ∧ p.u8 1 = 1 ∧ p.u8 2 ≤ 7 ∧ p.u8 3 ≤ 15 ∧ p.bits 3 1 0 ≠ 3 ∧ p.u8 4 ≤ 3 ∧ p.u8 5 ≤ 63 ∧
      p.dirty 6 2 = false ∧ p.dirty 12 4 = false ∧ s.profLoaded (p.u8 5) = true ∧ (p.u8 5 = 63 ∨ p.u8 2 ≠ 7 ∧
      profWidth (s.profile (p.u8 5)) = p.u8 2) ∧ chanOwned p s = false ∧ slotConflict (p.u8 0) (p.u8 2) s = false ∧
      s.pairSlots (p.u8 4) (p.u8 0) + widthSlots (p.u8 2) ≤ 64 ∧ (s.pairArmed (p.u8 4) = true →
      (fitBin (s.centreHz (p.u8 4)) (p.u32 8) (widthHz (p.u8 2))).isNone = false) ∧ (s.stream (p.u8 0)).cmd = none ∧
      s.isHead (p.u8 0) = true)) ∧
    (∃ (p : Packet) (s : State), (Served 48 radioModes p s ∧ p.u8 0 = 0)) ∧
    (∃ (p : Packet) (s : State) (c : StoreCapture) (t : State),
      c =
        { trig := p.u8 3, trigSlot := p.u8 4, source := p.u8 2, slots := (List.range (p.u8 6)).map (fun i => p.u8 (16 + i)), length := p.u32 8, timeout := p.u32 12, avg := p.u8 5, startAt := s.now, trigAt := 0, remaining := p.u32 8, stored := 0, waiting := [], cmd := some s.interp.nextSeq }
        ∧
      t = ((((defer (asOp 0x3003 p) s).2.setFld F.CHZ_CAP_STAT_STATE (if p.u8 3 = 0 then 2 else 1)).setFld F.CHZ_CAP_STAT_MODE (p.u8 1)).setFlag F.CHZ_CAP_STAT_WRAPPED false).setFld F.CHZ_CAP_STAT_COUNT 0 ∧
      (Served 48 radioModes p s ∧ p.u8 0 = 1 ∧ captureBad p = false ∧ s.chz.cap = none)) ∧
    (∃ (p : Packet) (s : State), (Served 8 coreModes p s ∧ p.u16 4 ≠ 0 ∧ p.u16 4 ≤ 480 ∧ p.dirty 6 2 = false ∧
      p.u32 0 + p.u16 4 ≤ 4194304)) ∧
    (∃ (c : StoreCapture) (s : State), (s.chz.cap = some c ∧ s.fld F.CHZ_CAP_STAT_STATE = 1 ∧ c.timeout ≠ 0 ∧
      c.startAt + c.timeout ≤ s.now)) ∧
    (∃ (c : StoreCapture) (s : State), (s.chz.cap = some c ∧ s.fld F.CHZ_CAP_STAT_MODE ≠ 1 ∧
      s.fld F.CHZ_CAP_STAT_STATE = 2 ∧ c.endsAt (s.fld F.CHZ_CAP_STAT_MODE) ≤ s.now)) ∧
    (∃ (slot : Fin 256) (s : State) (per : Nat) (k : Nat), per = blockPeriod (s.streamWidth slot.val) ∧
      k = s.now / per ∧ (s.isHead slot.val = true ∧ (s.stream slot.val).block < k)) ∧
    (∃ (slot : Fin 256) (s : State) (per : Nat) (k : Nat), per = blockPeriod (s.streamWidth slot.val) ∧
      k = s.now / per ∧ (s.isHead slot.val = true ∧ k ≤ (s.stream slot.val).block)) ∧
    (∃ (p : Packet) (s : State), (Served 40 radioModes p s ∧ p.u8 0 ≤ 62 ∧ p.u8 1 ≤ 1 ∧ p.dirty 2 2 = false ∧
      (crc32 (p.bytes 8 32)).toNat = p.u32 4 ∧ profileBad (p.bytes 8 32) = false ∧
      s.heads.filter (fun n => s.fld (F.CHZ_CH_CFG_PHY_PROFILE n) == p.u8 0) = [])) ∧
    (∃ (p : Packet) (s : State) (users : List Nat) (t : State),
      users = s.heads.filter (fun n => s.fld (F.CHZ_CH_CFG_PHY_PROFILE n) == p.u8 0) ∧
      t = users.foldl (fun s n => s.setStream n { s.stream n with tookNew := false }) (defer (asOp 0x3010 p) s).2 ∧
      (Served 40 radioModes p s ∧ p.u8 0 ≤ 62 ∧ p.u8 1 = 1 ∧ p.dirty 2 2 = false ∧
      (crc32 (p.bytes 8 32)).toNat = p.u32 4 ∧ profileBad (p.bytes 8 32) = false ∧ users ≠ [] ∧
      profType (p.bytes 8 32) ≠ 0 ∧ profWidth (p.bytes 8 32) = profWidth (s.profile (p.u8 0)) ∧
      s.demod.replace = none)) ∧
    (∃ (p : Packet) (s : State), (Served 4 coreModes p s ∧ p.u8 0 ≤ 63 ∧ p.dirty 1 3 = false)) :=
  ⟨⟨pk 16 [255, 0, 0, 14], ((st .service).setFlag (F.CHZ_CH_CFG_EN 255) true).setFlag (F.CHZ_CH_CFG_HEAD 255) true,
    by unfold Served; decide +kernel⟩,
   ⟨pk 16 [255, 0, 0, 14], st .service, by unfold Served; decide +kernel⟩,
   ⟨pk 16 [254, 1, 6, 14, 3, 62], { st .test with demod.profiles := [(62, [3, 6])] }, by unfold Served; decide +kernel⟩,
   ⟨pk 16 [254, 1, 6, 14, 3, 62],
     (({ st .test with demod.profiles := [(62, [3, 6])] }).setFlag (F.CHZ_CH_CFG_EN 254) true).setFlag
       (F.CHZ_CH_CFG_HEAD 254) true,
     _, rfl, by unfold Served; decide +kernel⟩,
   ⟨pk 48 [0], st .test, by unfold Served; decide +kernel⟩,
   ⟨pk 48 [1, 0, 7, 2, 0, 0, 0, 0, 0, 0, 0x10], st .service, _, _, rfl, rfl, by unfold Served; decide +kernel⟩,
   ⟨pk 8 [0x20, 0xFE, 0x3F, 0, 0xE0, 1], emb, by unfold Served; decide +kernel⟩,
   ⟨⟨2, 0, 0, [], 1, 5, 0, 0, 0, 0, 0, [], none⟩,
     (({ st .service 5 with chz.cap := some ⟨2, 0, 0, [], 1, 5, 0, 0, 0, 0, 0, [], none⟩ }).setFld F.CHZ_CAP_STAT_MODE
       1).setFld F.CHZ_CAP_STAT_STATE 1,
     by decide +kernel⟩,
   ⟨⟨0, 0, 0, [], 1, 5, 0, 0, 0, 0, 0, [], none⟩,
     (({ st .service 2048 with chz.cap := some ⟨0, 0, 0, [], 1, 5, 0, 0, 0, 0, 0, [], none⟩ }).setFld
       F.CHZ_CAP_STAT_MODE 2).setFld F.CHZ_CAP_STAT_STATE 2,
     by decide +kernel⟩,
   ⟨255, ((st .service 1000000).setFlag (F.CHZ_CH_CFG_EN 255) true).setFlag (F.CHZ_CH_CFG_HEAD 255) true, _, _, rfl,
     rfl, by decide +kernel⟩,
   ⟨255, ((st .service).setFlag (F.CHZ_CH_CFG_EN 255) true).setFlag (F.CHZ_CH_CFG_HEAD 255) true, _, _, rfl, rfl,
     by decide +kernel⟩,
   ⟨pk 40 [62, 1, 0, 0, 0xAD, 0x55, 0x0A, 0x19], st .test, by unfold Served; decide +kernel⟩,
   ⟨pk 40 ([62, 1, 0, 0, 238, 172, 32, 51, 1, 1, 250, 0] ++ List.replicate 14 0 ++ [1, 0, 0, 4]),
     ((({ st .test with demod.profiles := [(62, [3, 1])] }).setFlag (F.CHZ_CH_CFG_EN 255) true).setFlag
       (F.CHZ_CH_CFG_HEAD 255) true).setFld (F.CHZ_CH_CFG_PHY_PROFILE 255) 62,
     _, _, rfl, rfl, by unfold Served; decide +kernel⟩,
   ⟨pk 4 [63], emb, by unfold Served; decide +kernel⟩⟩

/-- Witnesses for DemodulatorCommands: each clause's hypotheses hold together somewhere. -/
theorem test_witness_DemodulatorCommands :
    (∃ (slot : Fin 256) (branchB : Bool) (d : Detection) (s : State), (s.detects slot.val branchB d = false)) ∧
    (∃ (slot : Fin 256) (branchB : Bool) (d : Detection) (s : State), (s.detects slot.val branchB d = true)) ∧
    (∃ (slot : Fin 256) (f : Nat) (x : RxFrame) (s : State), (s.slotFrame slot.val = some (f, x) ∧
      s.dstate slot.val = dDiversity ∧ s.bothBlank x = true)) ∧
    (∃ (slot : Fin 256) (hyp : Int) (f : Nat) (x : RxFrame) (s : State), (s.slotFrame slot.val = some (f, x) ∧
      s.dstate slot.val = dDiversity ∧ s.bothBlank x = false ∧
      (s.now < x.detectAt + divSyms x.entry * symTicks x.entry ∨ hyp ≠ x.hyp))) ∧
    (∃ (slot : Fin 256) (ea : List Nat) (eb : List Nat) (hyp : Int) (pa : Int) (pb : Int) (f : Nat) (x : RxFrame) (s :
      State) (toB : Bool) (other : Nat) (u : State) (c : ChanStats) (m : Sparse ChanStats),
      hyp = x.hyp ∧
      toB = (if s.energySum x false ea = s.energySum x true eb then s.primaryB slot.val else decide (s.energySum x false ea < s.energySum x true eb)) ∧
      other = s.rssiCode (branchNo (s.streamPair slot.val) (!toB)) (if toB then pa else pb) ∧
      u = (s.setFrame f (some { x with branchB := toB, compared := true, rssiOther := other, syncSince := s.now })).count (if toB then F.DMD_DIV_CNT_DIV_B else F.DMD_DIV_CNT_DIV_A) 1 ∧
      c = u.sched.chans.get ChanStats.empty slot.val ∧
      m = u.sched.chans.set ChanStats.empty slot.val (if toB then { c with divB := c.divB + 1 } else { c with divA := c.divA + 1 }) ∧
      (s.slotFrame slot.val = some (f, x) ∧ s.dstate slot.val = dDiversity ∧ s.bothBlank x = false ∧
      x.detectAt + divSyms x.entry * symTicks x.entry ≤ s.now)) ∧
    (∃ (slot : Fin 256) (f : Nat) (x : RxFrame) (s : State), (s.slotFrame slot.val = some (f, x) ∧
      s.dstate slot.val = dSync ∧ s.syncBlank x = true)) ∧
    (∃ (slot : Fin 256) (f : Nat) (x : RxFrame) (s : State), (s.slotFrame slot.val = some (f, x) ∧
      s.dstate slot.val = dSync ∧ s.syncBlank x = false ∧ x.syncLimit < s.now)) ∧
    (∃ (slot : Fin 256) (sm : SyncMeasure) (f : Nat) (x : RxFrame) (s : State), (s.slotFrame slot.val = some (f, x) ∧
      s.dstate slot.val = dSync ∧ s.syncBlank x = false ∧ s.now ≤ x.syncLimit ∧ syncTier x.entry sm.sync = none)) ∧
    (∃ (slot : Fin 256) (lead : Nat) (power : Int) (snr : Int) (sm : SyncMeasure) (residual : Int) (steps : List
      LmsStep) (f : Nat) (x : RxFrame) (s : State) (tier : Nat) (rssi : Nat) (pre : Bool) (y : RxFrame) (t : State) (u :
      State),
      pre = s.preMode x residual ∧ rssi = s.rssiCode (branchNo (s.streamPair slot.val) x.branchB) power ∧
      y = { x with syncEnd := s.now, lead := lead, rssi := rssi, lqi := lqiCode snr, pilot := !pre, derot := if pre then (sm.phase, residual) else (0, 0), rateCorr := if pre then x.rateCorr else 0, cfo := BitVec.ofInt 16 (rnd ((s.stream slot.val).trimHz + residual) 10), taint := s.flag F.TMB_STAT_CAL_FAULT, tier := tier } ∧
      t = ((s.setFrame f (some y)).setFld (F.DMD_CH_STAT_RSSI slot.val) rssi).setFld (F.DMD_CH_STAT_LQI slot.val)
        (lqiCode snr) ∧
      u = dfeAdapt slot.val x.entry steps (if profType x.entry = 1 ∧
      pre = false then t.count F.DMD_CNT2_PILOT 1 else t) ∧ (s.slotFrame slot.val = some (f, x) ∧
      s.dstate slot.val = dSync ∧ s.syncBlank x = false ∧ s.now ≤ x.syncLimit ∧ syncTier x.entry sm.sync = some tier)) ∧
    (∃ (slot : Fin 256) (f : Nat) (x : RxFrame) (s : State), (s.slotFrame slot.val = some (f, x) ∧
      s.dstate slot.val = dSync ∧ s.syncBlank x = true)) ∧
    (∃ (slot : Fin 256) (f : Nat) (x : RxFrame) (s : State), (s.slotFrame slot.val = some (f, x) ∧
      s.dstate slot.val = dSync ∧ s.syncBlank x = false ∧ x.syncLimit ≤ s.now)) ∧
    (∃ (slot : Fin 256) (f : Nat) (x : RxFrame) (s : State) (offset : Int) (y : RxFrame) (t : State),
      y = { x with endAt := some s.now, erased := s.spanBlank slot.val x.branchB x.syncEnd s.now, cfo := if x.pilot then BitVec.ofInt 16 (rnd ((s.stream slot.val).trimHz + offset) 10) else x.cfo } ∧
      t = ctxSearch slot.val (s.setFrame f (some y)) ∧ (s.slotFrame slot.val = some (f, x) ∧
      s.dstate slot.val = dPayload ∧ profType x.entry = 1)) ∧
    (∃ (slot : Fin 256) (f : Nat) (x : RxFrame) (s : State) (offset : Int) (y : RxFrame) (t : State),
      y = { x with endAt := some s.now, erased := s.spanBlank slot.val x.branchB x.syncEnd s.now, cfo := if x.pilot then BitVec.ofInt 16 (rnd ((s.stream slot.val).trimHz + offset) 10) else x.cfo } ∧
      t = ctxSearch slot.val (s.setFrame f (some y)) ∧ (s.slotFrame slot.val = some (f, x) ∧
      s.dstate slot.val = dPayload ∧ profType x.entry ≠ 1)) ∧
    (∃ (slot : Fin 256) (f : Nat) (x : RxFrame) (s : State) (phr : SunPhr) (y : RxFrame),
      y = { x with phrDone := true, len := phr.len, mcs := if profType x.entry = 3 then phr.mcs else 0 } ∧
      (s.slotFrame slot.val = some (f, x) ∧ s.dstate slot.val = dHeader ∧
      (profType x.entry = 2 ∨ profType x.entry = 3) ∧ phr.valid = true ∧ (profType x.entry = 2 →
      phr.modeSwitch = none) ∧ (profType x.entry = 3 → profByte x.entry 17 / 2 ^ phr.mcs % 2 = 1) ∧ phr.len ≠ 0 ∧
      phr.len ≤ 2047)) ∧
    (∃ (slot : Fin 256) (f : Nat) (x : RxFrame) (s : State) (phr : SunPhr) (m : Fin 4) (t : State),
      t = ctxSearch slot.val (s.setFrame f none) ∧ (s.slotFrame slot.val = some (f, x) ∧ s.dstate slot.val = dHeader ∧
      profType x.entry = 2 ∧ phr.valid = true ∧ phr.modeSwitch = some m ∧ profByte x.entry (21 + m.val) < 63 ∧
      s.profLoaded (profByte x.entry (21 + m.val)) = true ∧
      profWidth (s.profile (profByte x.entry (21 + m.val))) = profWidth x.entry)) ∧
    (∃ (slot : Fin 256) (s : State) (c : DemodCtx), c = { s.dctx slot.val with msProfile := none } ∧
      ((s.dctx slot.val).frame = none)) :=
  ⟨⟨255, true, ⟨0, 0, 0⟩, setDstate 255 1 (st .service), by decide +kernel⟩,
   ⟨255, true, ⟨0, 48, 24577⟩,
     { setDstate 255 1 (setChState 255 stDual (st .service)) with demod := { (setDstate 255 1 (st .service)).demod with profiles := [(0, [1, 1, 250, 0])] } },
     by decide +kernel⟩,
   ⟨255, 7, rxf 255 [1, 1, 250, 0],
     { onFrame 2 76800 [1, 1, 250, 0] (rxf 255 [1, 1, 250, 0]) with radio.pairs := [(0, { Pair.reset with dark := some 0 })] },
     by decide +kernel⟩,
   ⟨255, 0, 7, rxf 255 [1, 1, 250, 0],
     { onFrame 2 76799 [1, 1, 250, 0] (rxf 255 [1, 1, 250, 0]) with radio.pairs := [(0, { Pair.reset with dark := none })] },
     by decide +kernel⟩,
   ⟨255, [], [], _, 0, 0, 7, rxf 255 [1, 1, 250, 0],
     { onFrame 2 76800 [1, 1, 250, 0] (rxf 255 [1, 1, 250, 0]) with radio.pairs := [(0, { Pair.reset with dark := none })] },
     _, _, _, _, _, rfl, rfl, rfl, rfl, rfl, rfl, by decide +kernel⟩,
   ⟨255, 7, rxf 255 [1, 1, 250, 0],
     { onFrame 3 76800 [1, 1, 250, 0] (rxf 255 [1, 1, 250, 0]) with radio.pairs := [(0, { Pair.reset with dark := some 0 })] },
     by decide +kernel⟩,
   ⟨255, 7, rxf 255 [1, 1, 250, 0, 0, 0, 1, 0],
     { onFrame 3 4801 [1, 1, 250, 0, 0, 0, 1, 0] (rxf 255 [1, 1, 250, 0, 0, 0, 1, 0]) with radio.pairs := [(0, { Pair.reset with dark := none })] },
     by decide +kernel⟩,
   ⟨255, ⟨0, 0⟩, 7, rxf 255 [1, 1, 250, 0, 0, 0, 1, 0],
     { onFrame 3 4800 [1, 1, 250, 0, 0, 0, 1, 0] (rxf 255 [1, 1, 250, 0, 0, 0, 1, 0]) with radio.pairs := [(0, { Pair.reset with dark := none })] },
     by decide +kernel⟩,
   ⟨255, 0, 0, 0, ⟨0x7A31C4E5, 0⟩, 0, [], 7, rxf 255 [1, 1, 250, 0, 0, 0, 1, 0],
     { onFrame 3 4800 [1, 1, 250, 0, 0, 0, 1, 0] (rxf 255 [1, 1, 250, 0, 0, 0, 1, 0]) with radio.pairs := [(0, { Pair.reset with dark := none })] },
     0, _, _, _, _, _, rfl, rfl, rfl, rfl, rfl, by decide +kernel⟩,
   ⟨255, 7, rxf 255 [1, 1, 250, 0],
     { onFrame 3 76800 [1, 1, 250, 0] (rxf 255 [1, 1, 250, 0]) with radio.pairs := [(0, { Pair.reset with dark := some 0 })] },
     by decide +kernel⟩,
   ⟨255, 7, rxf 255 [1, 1, 250, 0, 0, 0, 1, 0],
     { onFrame 3 4800 [1, 1, 250, 0, 0, 0, 1, 0] (rxf 255 [1, 1, 250, 0, 0, 0, 1, 0]) with radio.pairs := [(0, { Pair.reset with dark := none })] },
     by decide +kernel⟩,
   ⟨255, 7, rxf 255 [1, 1, 250, 0],
     { onFrame 5 76800 [1, 1, 250, 0] (rxf 255 [1, 1, 250, 0]) with radio.pairs := [(0, { Pair.reset with dark := none })] },
     0, _, _, rfl, rfl, by decide +kernel⟩,
   ⟨255, 7, rxf 255 [2],
     { onFrame 5 76800 [2] (rxf 255 [2]) with radio.pairs := [(0, { Pair.reset with dark := none })] }, 0, _, _, rfl,
     rfl, by decide +kernel⟩,
   ⟨255, 7, rxf 255 [2],
     { onFrame 4 76800 [2] (rxf 255 [2]) with radio.pairs := [(0, { Pair.reset with dark := none })] }, ⟨true, 2047, 3,
     none⟩, _, rfl, by decide +kernel⟩,
   ⟨255, 7, rxf 255 [2],
     { onFrame 4 76800 [2] (rxf 255 [2]) with radio.pairs := [(0, { Pair.reset with dark := none })] }, ⟨true, 0, 0,
     some 0⟩, 0, _, rfl, by decide +kernel⟩,
   ⟨255, st .service, _, rfl, by decide +kernel⟩⟩

/-- Witnesses for DecoderCommands: each clause's hypotheses hold together somewhere. -/
theorem test_witness_DecoderCommands :
    (∃ (slot : Fin 256) (b : SoftBlock) (f : Nat) (x : RxFrame) (s : State) (t : State),
      t = dfeAdapt x.slot x.entry b.steps s ∧ (s.awaiting slot.val = some (f, x) ∧ profType x.entry = 1 ∧
      x.phrJob = true ∧ x.phrDone = true ∧ s.softAt x (x.codewordAt x.jobs).1 (x.codewordAt x.jobs).2 ≤ s.now)) ∧
    (∃ (slot : Fin 256) (b : SoftBlock) (f : Nat) (x : RxFrame) (s : State) (t : State) (y : RxFrame),
      t = dfeAdapt x.slot x.entry b.steps s ∧ y = { x with holding := x.holding ++ [softValues b.llr] } ∧
      (s.awaiting slot.val = some (f, x) ∧ profType x.entry = 1 ∧ x.phrJob = true ∧ x.phrDone = false)) ∧
    (∃ (slot : Fin 256) (b : SoftBlock) (f : Nat) (x : RxFrame) (s : State) (t : State) (u : State) (j : Job),
      t = dfeAdapt x.slot x.entry b.steps s ∧
      u = dfeAdapt x.slot x.entry b.steps (s.setFrame f (some { x with phrJob := true })) ∧ j = ⟨f, true, u.now, x.slot,
      0, insertFill 288 216 (combine 360 [] (u.erase x 0 360 (softValues b.llr))), false, 0, x.entry⟩ ∧
      (s.awaiting slot.val = some (f, x) ∧ profType x.entry = 1 ∧ x.phrJob = false ∧ s.softAt x 0 360 ≤ s.now)) ∧
    (∃ (j : Job) (d : Nat) (s : State), (nextJob s.demod.queue = some j ∧
      (List.range 8).find? (fun d => (s.decoder d).isNone) = some d)) ∧
    (∃ (decoder : Fin 8) (d : Decoder) (s : State) (t : State) (u : State),
      t = ({ s with demod.decoders := s.demod.decoders.set none decoder.val none }).wrapCount F.LDP_CNT_ITER_ITERATIONS
        (decodeJob d.job d.cap).1 ∧
      u = (if (decodeJob d.job d.cap).2.1 = true then t.wrapCount F.LDP_CNT_CW_COUNT 1 else t.count F.LDP_CNT_FAIL_FAIL 1) ∧
      (s.decoder decoder.val = some d ∧ d.start + jobTicks d.job (decodeJob d.job d.cap).1 ≤ s.now ∧
      d.job.phr = true)) ∧
    (∃ (decoder : Fin 8) (d : Decoder) (s : State) (t : State) (u : State) (fill : Nat), t =
      ({ s with demod.decoders := s.demod.decoders.set none decoder.val none }).wrapCount F.LDP_CNT_ITER_ITERATIONS
      (decodeJob d.job d.cap).1 ∧
      u = (if (decodeJob d.job d.cap).2.1 = true then t.wrapCount F.LDP_CNT_CW_COUNT 1 else t.count F.LDP_CNT_FAIL_FAIL 1) ∧
      fill = (match u.frame d.job.frame with | some x => fillOf x.len x.rate x.long d.job.idx | none => 0) ∧
      (s.decoder decoder.val = some d ∧ d.start + jobTicks d.job (decodeJob d.job d.cap).1 ≤ s.now ∧ d.job.phr = false ∧
      (decodeJob d.job d.cap).2.1 = false)) ∧
    (∃ (id : Nat) (e : CombEntry) (s : State) (t : State) (back : List CombEntry),
      t = makeRoom (sumOf ((s.demod.comb.filter (fun o => e.mate o)).map CombEntry.units)) s.demod.comb.length s ∧
      back = t.demod.comb.map (fun (o : CombEntry) => if e.mate o then { o with spilled := false } else o) ∧
      (s.demod.comb.find? (fun e => e.shortId == id && e.spilled && e.frame.isSome) = some e)) ∧
    (∃ (l : List Job) (j : Job) (k : Job), (nextJob l = some j ∧ k ∈ l ∧ k.phr = true)) ∧
    (∃ (l : List Job) (j : Job) (k : Job), (nextJob l = some j ∧ k ∈ l ∧ k.phr = j.phr)) :=
  ⟨⟨255, ⟨[], []⟩, 7, { rxf 255 [1, 1, 250, 0] with syncEnd := 5, phrJob := true, phrDone := true, len := 100 },
    { onFrame 4 10000000000 [1, 1, 250, 0] ({ rxf 255 [1, 1, 250, 0] with syncEnd := 5, phrJob := true, phrDone := true, len := 100 }) with radio.pairs := [(0, { Pair.reset with dark := none })] },
    _, rfl, by decide +kernel⟩,
   ⟨255, ⟨[], []⟩, 7, { rxf 255 [1, 1, 250, 0] with syncEnd := 5, phrJob := true },
     { onFrame 4 10000000000 [1, 1, 250, 0] ({ rxf 255 [1, 1, 250, 0] with syncEnd := 5, phrJob := true }) with radio.pairs := [(0, { Pair.reset with dark := none })] },
     _, _, rfl, rfl, by decide +kernel⟩,
   ⟨255, ⟨[], []⟩, 7, { rxf 255 [1, 1, 250, 0] with syncEnd := 5 },
     { onFrame 4 10000000000 [1, 1, 250, 0] ({ rxf 255 [1, 1, 250, 0] with syncEnd := 5 }) with radio.pairs := [(0, { Pair.reset with dark := none })] },
     _, _, _, rfl, rfl, rfl, by decide +kernel⟩,
   ⟨⟨7, true, 0, 255, 0, [], true, 0, []⟩, 7,
     { st .service with demod.queue := [⟨7, true, 0, 255, 0, [], true, 0, []⟩], demod.decoders := (List.range 7).map (fun d => (d, some ⟨⟨7, true, 0, 255, 0, [], true, 0, []⟩, 0, 0⟩)) },
     by decide +kernel⟩,
   ⟨7, ⟨⟨7, true, 0, 255, 0, [], true, 0, []⟩, 0, 0⟩,
     { st .service 1200 with demod.decoders := [(7, some ⟨⟨7, true, 0, 255, 0, [], true, 0, []⟩, 0, 0⟩)] }, _, _, rfl,
     rfl, by decide +kernel⟩,
   ⟨7, ⟨⟨7, false, 0, 255, 0, [-1], false, 3, []⟩, 0, 0⟩,
     { st .service 1200 with demod.decoders := [(7, some ⟨⟨7, false, 0, 255, 0, [-1], false, 3, []⟩, 0, 0⟩)] }, _, _, _,
     rfl, rfl, rfl, by decide +kernel⟩,
   ⟨9, ⟨9, 0, 0, true, 0, 100, [], 5, some 7, true⟩,
     { st .service with demod.comb := [⟨9, 0, 0, true, 0, 100, [], 5, some 7, true⟩] }, _, _, rfl, rfl,
     by decide +kernel⟩,
   ⟨[⟨7, false, 0, 255, 0, [], true, 0, []⟩, ⟨8, true, 3, 255, 0, [], true, 0, []⟩], ⟨8, true, 3, 255, 0, [], true, 0,
     []⟩, ⟨8, true, 3, 255, 0, [], true, 0, []⟩, by decide +kernel⟩,
   ⟨⟨8, true, 3, 255, 0, [], true, 0, []⟩ :: [⟨7, false, 0, 255, 0, [], true, 0, []⟩, ⟨8, true, 3, 255, 0, [], true, 0,
     []⟩], ⟨8, true, 3, 255, 0, [], true, 0, []⟩, ⟨8, true, 3, 255, 0, [], true, 0, []⟩, by decide +kernel⟩⟩

/-- Witnesses for MacCommands: each clause's hypotheses hold together somewhere. -/
theorem test_witness_MacCommands :
    (∃ (p : Packet) (s : State) (a : Almanac),
      a =
        { slotLen := p.u8 1, roundsM1 := p.u16 2, baseSeed := p.u8 4, epoch0 := p.u32 8, evOfs := p.u16 12, ackTurn := p.u16 14, start := p.u64 16, cmd := some s.interp.nextSeq }
        ∧
      (Served 32 radioModes p s ∧ p.u8 0 ≤ 1 ∧ 1 ≤ p.u8 1 ∧ p.u8 1 ≤ 200 ∧ p.dirty 5 3 = false ∧ p.dirty 24 8 = false ∧
      p.u16 12 * 1200 < p.u8 1 * 150000 ∧ 50 ≤ p.u16 14 ∧ p.u16 14 ≤ 2000 ∧ (s.almanacRuns = true → p.bit 0 0 = true) ∧
      s.now + 2 * (p.u8 1 * 150000) ≤ p.u64 16 ∧ s.mac.nextAlmanac = none)) ∧
    (∃ (p : Packet) (s : State) (a : Almanac) (e : Nat) (cfg : Word) (h : HeraldSet),
      cfg = BitVec.ofNat 32 (p.u8 1 * 2 ^ 30 + p.u8 2 * 2 ^ 24 + p.u8 3 * 2 ^ 22 + p.u8 5 * 2 ^ 21 + (p.u8 0 - 1) * 2 ^
        17 + p.u8 4 * 2 ^ 10) ∧
      h = ⟨e, cfg, (List.range 4).map (fun k => BitVec.ofNat 32 (p.u32 (12 + 4 * k)))⟩ ∧ (Served 28 radioModes p s ∧
      1 ≤ p.u8 0 ∧ p.u8 0 ≤ 16 ∧ p.u8 1 ≤ 3 ∧ p.u8 2 ≤ 62 ∧ s.profLoaded (p.u8 2) = true ∧ p.u8 3 ≤ 3 ∧
      (p.u8 3 = 0 ∨ profType (s.profile (p.u8 2)) = 1) ∧ p.u8 4 ≤ 64 ∧ p.u8 5 ≤ 1 ∧ p.dirty 6 2 = false ∧
      s.almanac = some a ∧ (p.u32 8 ≠ 0 → e = p.u32 8) ∧ (p.u32 8 = 0 → s.almanacRuns = true →
      e = (a.epochOf (s.roundOf s.now) + 1) % 2 ^ 32) ∧ (p.u32 8 = 0 → s.almanacRuns = false → e = a.epoch0) ∧
      s.epochLate a e = false)) ∧
    (∃ (p : Packet) (s : State) (a : Almanac), (Served 40 radioModes p s ∧ p.u8 0 ≤ 63 ∧ p.dirty 1 3 = false ∧
      (fromCores p = true ∨ s.frozen (s.mapEnv (p.u8 0)) = true) ∧ BitVec.ofNat 256 (leNat (p.bytes 8 32)) ≠ 0 ∧
      s.almanac = some a ∧ s.epochLate a (s.epochNamed a (p.u32 4)) = false)) ∧
    (∃ (p : Packet) (s : State) (a : Assoc), a = Assoc.ofBytes p.params ∧ (Served 32 radioModes p s ∧ p.u32 0 ≠ 0 ∧
      p.u32 0 < broadcastId ∧ a.chmap ≤ 63 ∧ a.tier ≤ 3 ∧ a.profile ≤ 62 ∧ p.dirty 11 1 = false ∧ p.dirty 14 2 = false ∧
      p.dirty 28 4 = false ∧ s.almanacRuns = true ∧ s.schedOwned (asOp 0x4004 p) (p.u32 0) a = false ∧
      s.assocBad a = false ∧ s.tooLate a.anchor = false ∧
      (s.nodeState (p.u32 0) = nsLearned ∨ s.nodeState (p.u32 0) = nsLapsed))) ∧
    (∃ (p : Packet) (s : State) (a : Assoc), a = Assoc.ofBytes p.params ∧ (Served 32 radioModes p s ∧ p.u32 0 ≠ 0 ∧
      p.u32 0 < broadcastId ∧ a.chmap ≤ 63 ∧ a.tier ≤ 3 ∧ a.profile ≤ 62 ∧ p.dirty 11 1 = false ∧ p.dirty 14 2 = false ∧
      p.dirty 28 4 = false ∧ s.almanacRuns = true ∧ s.schedOwned (asOp 0x4004 p) (p.u32 0) a = false ∧
      s.assocBad a = false ∧ s.tooLate a.anchor = false ∧ s.nodeState (p.u32 0) = nsAssociated ∧
      s.eventOf (p.u32 0) = none)) ∧
    (∃ (p : Packet) (s : State) (a : Assoc) (e : RxEvent), a = Assoc.ofBytes p.params ∧ (Served 32 radioModes p s ∧
      p.u32 0 ≠ 0 ∧ p.u32 0 < broadcastId ∧ a.chmap ≤ 63 ∧ a.tier ≤ 3 ∧ a.profile ≤ 62 ∧ p.dirty 11 1 = false ∧
      p.dirty 14 2 = false ∧ p.dirty 28 4 = false ∧ s.almanacRuns = true ∧
      s.schedOwned (asOp 0x4004 p) (p.u32 0) a = false ∧ s.assocBad a = false ∧ s.tooLate a.anchor = false ∧
      s.nodeState (p.u32 0) = nsAssociated ∧ s.eventOf (p.u32 0) = some e)) ∧
    (∃ (p : Packet) (s : State) (a : Assoc), a = Assoc.ofBytes p.params ∧ (Served 32 radioModes p s ∧ p.u32 0 ≠ 0 ∧
      p.u32 0 < broadcastId ∧ a.chmap ≤ 63 ∧ a.tier ≤ 3 ∧ a.profile ≤ 62 ∧ p.dirty 11 1 = false ∧ p.dirty 14 2 = false ∧
      p.dirty 28 4 = false ∧ s.almanacRuns = true ∧ s.schedOwned (asOp 0x4004 p) (p.u32 0) a = false ∧
      s.assocBad a = false ∧ s.tooLate a.anchor = false ∧ s.nodeState (p.u32 0) = nsHandedOff ∧ fromCores p = true)) ∧
    (∃ (p : Packet) (s : State), (Served 4 radioModes p s ∧ p.u32 0 ≠ 0 ∧ p.u32 0 < broadcastId ∧
      onWheel (s.nodeState (p.u32 0)) = true ∧ s.eventOf (p.u32 0) = none)) ∧
    (∃ (p : Packet) (s : State) (e : RxEvent) (l : List (Nat × Nat)), l = s.mac.dropPend ++ [(p.u32 0,
      s.interp.nextSeq)] ∧ (Served 4 radioModes p s ∧ p.u32 0 ≠ 0 ∧ p.u32 0 < broadcastId ∧
      onWheel (s.nodeState (p.u32 0)) = true ∧ s.eventOf (p.u32 0) = some e)) ∧
    (∃ (p : Packet) (s : State) (w : Window) (ch : Nat) (kind : Nat) (lo : Nat) (hi : Nat), w = s.window (p.u32 0) ∧
      (∀ e, s.delivered.find? (fun e => e.node == p.u32 0 && !e.shadow) = some e → ch = e.ch ∧ kind = e.kind ∧
      lo = e.lo ∧ hi = e.hi) ∧ (Served 4 coreModes p s ∧ p.u32 0 ≠ 0 ∧ p.u32 0 < broadcastId ∧ s.almanacRuns = true ∧
      onWheel (s.nodeState (p.u32 0)) = true ∧ (s.delivered.find? (fun e => e.node == p.u32 0 && !e.shadow) = none →
      ch = s.hopOf (p.u32 0) ∧ kind = w.kind ∧ lo = w.lo ∧ hi = w.hi))) ∧
    (∃ (p : Packet) (s : State), (Served 12 radioModes p s ∧ 1200 ≤ p.u16 0 ∧ 1 ≤ p.u8 2 ∧ p.u8 2 ≤ 6 ∧ 1 ≤ p.u16 4 ∧
      p.u16 6 ≤ p.u16 4 ∧ p.dirty 8 4 = false)) ∧
    (∃ (p : Packet) (s : State) (i : Nat) (cur : Nat) (b : Band) (t : State), i = p.u8 1 ∧
      cur = s.now / 120000000 + feastBase ∧ b = s.band i ∧ t = feastVoteRange i (cur + 1 - b.dutyWin) cur s ∧
      (Served 4 coreModes p s ∧ p.dirty 2 2 = false ∧ p.u8 0 = 0 ∧ i ≤ 15)) ∧
    (∃ (p : Packet) (s : State) (i : Nat) (wd : Nat) (ms : Nat) (cur : Nat) (eff : Effective) (d : DwellLedger),
      i = p.u8 1 ∧ d = (s.dwellOf i).rebuild ms wd s.now ∧ cur = s.now / dwellWidth wd + dwellBase ∧
      (Served 4 coreModes p s ∧ p.dirty 2 2 = false ∧ p.u8 0 = 1 ∧ s.channelEff i = some eff ∧ eff.dwell = some (ms,
      wd))) ∧
    (∃ (p : Packet) (s : State) (i : Nat) (d : DwellLedger), i = p.u8 1 ∧ d = s.dwellOf i ∧
      (s.channelEff i = none ∨ ∃ eff, s.channelEff i = some eff ∧ eff.dwell = none) ∧ (Served 4 coreModes p s ∧
      p.dirty 2 2 = false ∧ p.u8 0 = 1)) ∧
    (∃ (s : State), (s.mac.nextAlmanac = none)) ∧
    (∃ (s : State) (a : Almanac), (s.mac.nextAlmanac = some a ∧ s.now < a.start)) ∧
    (∃ (s : State) (a : Almanac) (x : State) (y : State) (z : State),
      x = (if s.almanacRuns then s.wheel.foldl (fun s id => nodeLapse id 2 (s.nodeLane id) s) s else s) ∧
      y = post 39 sevInfo 0x0801 (arg4 a.epoch0 ++ arg8 a.start) (loadAlmanac a x) ∧ (a.cmd = none → z = y) ∧ (∀ q,
      a.cmd = some q → z = finishAt a.start q St.OK [] y) ∧ (s.mac.nextAlmanac = some a ∧ a.start ≤ s.now ∧
      (loadAlmanac a x).mac.feastSampled = true)) ∧
    (∃ (s : State), (s.epochDue = true)) ∧
    (∃ (idle : List (Fin 256 × Int)) (s : State) (t : State), t = roundBegin (s.roundOf s.now) idle s ∧
      (s.almanacRuns = true ∧ s.almStart ≤ s.now ∧ s.mac.round ≤ s.roundOf s.now)) ∧
    (∃ (n : Fin 16) (s : State) (t : State), t = s.setBit F.LNS_CTL_RUN n.val true ∧ (s.inMode [.cold, .quarantine,
      .ember] = false)) ∧
    (∃ (n : Fin 16) (s : State), (s.laneRuns n.val = true)) ∧
    (∃ (node : BitVec 17) (s : State) (e : RxEvent),
      e = s.newEvent node.toNat (s.nf node.toNat N.EVENT_CTR) (s.hopAt node.toNat (s.nf node.toNat N.CHMAP_IDX) (s.nf
        node.toNat N.EVENT_CTR) (s.nf node.toNat N.ANCHOR)) (s.nf node.toNat N.ANCHOR) (s.nf node.toNat N.WAKE_INTERVAL)
        false ∧
      (onWheel (s.nodeState node.toNat) = true ∧
      s.sched.updates.find? (fun u => u.node == node.toNat && u.applied) = none ∧
      s.deliveryDue node.toNat (s.nf node.toNat N.ANCHOR) false = true ∧ s.now < e.lo ∧
      s.mac.ended.get 0 node.toNat ≤ s.nf node.toNat N.ANCHOR ∧
      s.canDeliver node.toNat e.ch (s.nf node.toNat N.CHMAP_IDX) (s.nf node.toNat N.ANCHOR) = true)) ∧
    (∃ (node : BitVec 17) (s : State) (t : State) (e : RxEvent) (l : Lane),
      l =
        { s.lane (laneOf e.ch) with due := (s.lane (laneOf e.ch)).due.filter (fun y => !y.same e), active := (s.lane (laneOf e.ch)).active ++ [{ e with prepared := true }] }
        ∧
      t = e.chans.foldl (fun s c => prepareStream e c s) (putLane (laneOf e.ch) l s) ∧
      (((List.range 16).flatMap (fun n => (s.lane n).due)).find? (fun e => e.node == node.toNat && s.prepareAt e ≤ s.now
        && s.laneRuns (laneOf e.ch)) = some e)) ∧
    (∃ (node : BitVec 17) (s : State) (e : RxEvent),
      (s.delivered.find? (fun e => e.node == node.toNat && e.prepared && !e.closed && decide (s.windowEnd e ≤ s.now) &&
        e.chans.all (fun c => (s.dctx c).frame.isNone)) = some e)) ∧
    (∃ (node : BitVec 17) (s : State) (e : RxEvent),
      (s.delivered.find? (fun e => e.node == node.toNat && s.eventOver e) = some e)) ∧
    (∃ (node : BitVec 17) (s : State) (h : Handover), (s.handoverOf node.toNat = some h ∧ s.hoLost h = true ∧
      s.eventOf h.node = none)) :=
  ⟨⟨pk 32 [0, 200, 0xFF, 0xFF, 0, 0, 0, 0, 0, 0, 0, 0, 0, 0, 0xD0, 7, 0, 0x87, 0x93, 3], st .test, _, rfl,
    by unfold Served; decide +kernel⟩,
   ⟨pk 28 [16, 3, 62, 0, 64, 1, 0, 0, 1],
     { st .test with mac.nextAlmanac := some ⟨1, 0, 0, 1, 0, 50, 300000, none⟩, demod.profiles := [(62, [3])] }, ⟨1, 0,
     0, 1, 0, 50, 300000, none⟩, 1, _, _, rfl, rfl, by unfold Served; decide +kernel⟩,
   ⟨pk 40 [63, 0, 0, 0, 0, 0, 0, 0, 1],
     { st .test with mac.nextAlmanac := some ⟨1, 0, 0, 1, 0, 50, 300000, none⟩, demod.profiles := [(62, [3])] }, ⟨1, 0,
     0, 1, 0, 50, 300000, none⟩, by unfold Served; decide +kernel⟩,
   ⟨pk 32 [0xFE, 0xFF, 1, 0, 1, 0, 1, 0, 63, 3, 62, 0, 0, 0, 0, 0, 0xE0, 0x93, 4],
     ({ alm .test 0 with ledger.chmap := [(63, 1), (0, 2 ^ 255)] }).setNf 0x1FFFE N.STATE 1, _, rfl,
     by unfold Served; decide +kernel⟩,
   ⟨pk 32 [0xFE, 0xFF, 1, 0, 1, 0, 1, 0, 63, 3, 62, 0, 0, 0, 0, 0, 0xE0, 0x93, 4],
     ({ alm .test 0 with ledger.chmap := [(63, 1), (0, 2 ^ 255)] }).setNf 0x1FFFE N.STATE 3, _, rfl,
     by unfold Served; decide +kernel⟩,
   ⟨pk 32 [0xFE, 0xFF, 1, 0, 1, 0, 1, 0, 63, 3, 62, 0, 0, 0, 0, 0, 0xE0, 0x93, 4],
     ({ alm .test 0 with ledger.chmap := [(63, 1), (0, 2 ^ 255)], mac.lanes := [(15, { Lane.reset with due := [rxe 0x1FFFE] })] }).setNf
       0x1FFFE N.STATE 3,
     _, rxe 0x1FFFE, rfl, by unfold Served; decide +kernel⟩,
   ⟨pk 32 [0xFE, 0xFF, 1, 0, 1, 0, 1, 0, 63, 3, 62, 0, 0, 0, 0, 0, 0xE0, 0x93, 4],
     ({ alm .test 0 with ledger.chmap := [(63, 1), (0, 2 ^ 255)] }).setNf 0x1FFFE N.STATE nsHandedOff, _, rfl,
     by unfold Served; decide +kernel⟩,
   ⟨pk 4 [0xFE, 0xFF, 1], ({ alm .test 0 with ledger.chmap := [(63, 1), (0, 2 ^ 255)] }).setNf 0x1FFFE N.STATE 4,
     by unfold Served; decide +kernel⟩,
   ⟨pk 4 [0xFE, 0xFF, 1],
     ({ alm .test 0 with ledger.chmap := [(63, 1), (0, 2 ^ 255)], mac.lanes := [(15, { Lane.reset with due := [rxe 0x1FFFE] })] }).setNf
       0x1FFFE N.STATE 3,
     rxe 0x1FFFE, _, rfl, by unfold Served; decide +kernel⟩,
   ⟨pk 4 [0xFE, 0xFF, 1], ({ alm .service 0 with ledger.chmap := [(63, 1), (0, 2 ^ 255)] }).setNf 0x1FFFE N.STATE 3, _,
     (({ alm .service 0 with ledger.chmap := [(63, 1), (0, 2 ^ 255)] }).setNf 0x1FFFE N.STATE 3).hopOf 0x1FFFE,
     ((({ alm .service 0 with ledger.chmap := [(63, 1), (0, 2 ^ 255)] }).setNf 0x1FFFE N.STATE 3).window 0x1FFFE).kind,
     ((({ alm .service 0 with ledger.chmap := [(63, 1), (0, 2 ^ 255)] }).setNf 0x1FFFE N.STATE 3).window 0x1FFFE).lo,
     ((({ alm .service 0 with ledger.chmap := [(63, 1), (0, 2 ^ 255)] }).setNf 0x1FFFE N.STATE 3).window 0x1FFFE).hi,
     rfl, (fun e h => not_some (by decide +kernel) h), by unfold Served; decide +kernel⟩,
   ⟨pk 12 [0xB0, 4, 6, 0, 1, 0, 1], st .test, by unfold Served; decide +kernel⟩,
   ⟨pk 4 [0, 1], st .service, _, _, _, _, rfl, rfl, rfl, rfl, by unfold Served; decide +kernel⟩,
   ⟨pk 4 [1, 1],
     { ((onAir 3 0 Chain.reset).setFlag (F.CHZ_CH_CFG_EN 1) true).setFlag (F.CHZ_CH_CFG_HEAD 1) true with radio.profile := [1, 0, 0, 0, BitVec.ofNat 32 (2 ^ 31 + 30 * 2 ^ 22 + 902000), BitVec.ofNat 32 (400 * 2 ^ 22 + 928000), 1, 0] },
     _, 1, 400, _, ⟨30, some (400, 1), [], [], none⟩, _, rfl, rfl, rfl, by unfold Served; decide +kernel⟩,
   ⟨pk 4 [1, 1], st .service, _, _, rfl, rfl, .inl (by decide +kernel), by unfold Served; decide +kernel⟩,
   ⟨st .service, by decide +kernel⟩,
   ⟨{ st .service with mac.nextAlmanac := some ⟨1, 0, 0, 1, 0, 50, 300000, none⟩ }, ⟨1, 0, 0, 1, 0, 50, 300000, none⟩,
     by decide +kernel⟩,
   ⟨{ st .service 300000 with mac.nextAlmanac := some ⟨1, 0, 0, 1, 0, 50, 300000, none⟩, mac.feastSampled := true }, ⟨1, 0, 0, 1, 0, 50, 300000, none⟩, _, _, _, rfl, rfl, fun _ => rfl, (fun q h => nomatch (show (none : Option Nat) = some q from h)), by decide +kernel⟩,
   ⟨alm .service 150000, by decide +kernel⟩,
   ⟨[], alm .service 0, _, rfl, by decide +kernel⟩,
   ⟨15, st .service, _, rfl, by decide +kernel⟩,
   ⟨15, (st .service).setFld (F.LNS_LANE_STAT_STATE 15) 3, by decide +kernel⟩,
   ⟨0x1FFFE,
     setChState 255 3 ((((((({ alm .service 0 with ledger.chmap := [(63, 1), (0, 2 ^ 255)] }).setNf 0x1FFFE N.STATE
       3).setFld (F.LNS_LANE_STAT_STATE 15) 3).setFlag (F.CHZ_CH_CFG_EN 255) true).setFlag (F.CHZ_CH_CFG_HEAD 255)
       true).setNf 0x1FFFE N.ANCHOR 300000)),
     _, rfl, by decide +kernel⟩,
   ⟨0x1FFFE,
     (({ alm .service 0 with ledger.chmap := [(0, 2 ^ 255)], mac.lanes := [(15, { Lane.reset with due := [rxe 0x1FFFE] })] }).setNf
       0x1FFFE N.STATE 3).setFld (F.LNS_LANE_STAT_STATE 15) 3,
     _, rxe 0x1FFFE, _, rfl, rfl, by decide +kernel⟩,
   ⟨0x1FFFE,
     ({ alm .service 240000000 with ledger.chmap := [(0, 2 ^ 255)], mac.lanes := [(15, { Lane.reset with active := [{ rxe 0x1FFFE with prepared := true }] })] }).setNf
       0x1FFFE N.STATE 3,
     { rxe 0x1FFFE with prepared := true }, by decide +kernel⟩,
   ⟨0x1FFFE,
     ({ alm .service 0 with ledger.chmap := [(0, 2 ^ 255)], mac.lanes := [(15, { Lane.reset with active := [{ rxe 0x1FFFE with closed := true }] })] }).setNf
       0x1FFFE N.STATE 3,
     { rxe 0x1FFFE with closed := true }, by decide +kernel⟩,
   ⟨0x1FFFE, { st .service with zoant.handovers := [hov 0x1FFFE] }, hov 0x1FFFE, by decide +kernel⟩⟩

/-- Witnesses for ScheduleArithmetic: each clause's hypotheses hold together somewhere. -/
theorem test_witness_ScheduleArithmetic :
    (∃ (m : BitVec 256) (e : Nat) (n : Nat) (seed : Nat), (m.getLsbD ((e * 40503 + n * 45 + seed) % 256) = true)) ∧
    (∃ (m : BitVec 256) (e : Nat) (n : Nat) (seed : Nat), (m ≠ 0 ∧
      m.getLsbD ((e * 40503 + n * 45 + seed) % 256) = false)) ∧
    (∃ (s : State) (x : Int), (x.natAbs < 120 * s.fld F.MAC_DRIFT_CFG_CORR_MIN)) :=
  ⟨⟨1, 0, 0, 0, by decide +kernel⟩,
   ⟨2, 0, 0, 0, by decide +kernel⟩,
   ⟨(st .service).setFld F.MAC_DRIFT_CFG_CORR_MIN 1, 119, by decide +kernel⟩⟩

/-- Witnesses for AirtimeVotes: each clause's hypotheses hold together somewhere. -/
theorem test_witness_AirtimeVotes :
    (∃ (k : Nat) (s : State) (a : Nat) (b : Nat) (c : Nat) (i : Nat), a = (s.feastCopy 0).get 0 k ∧
      b = (s.feastCopy 1).get 0 k ∧ c = (s.feastCopy 2).get 0 k ∧ (s.mac.feast.length = 3 ∧ i < 3)) ∧
    (∃ (k : Nat) (s : State) (a : Nat) (b : Nat) (c : Nat) (j : Nat), a = (s.feastCopy 0).get 0 k ∧
      b = (s.feastCopy 1).get 0 k ∧ c = (s.feastCopy 2).get 0 k ∧ (s.mac.feast.length = 3 ∧ j ≠ k)) ∧
    (∃ (k : Nat) (s : State) (a : Nat) (b : Nat) (c : Nat), a = (s.feastCopy 0).get 0 k ∧ b = (s.feastCopy 1).get 0 k ∧
      c = (s.feastCopy 2).get 0 k ∧ (s.mac.feast.length = 3 ∧ (a = b ∨ a = c))) ∧
    (∃ (k : Nat) (s : State) (a : Nat) (b : Nat) (c : Nat), a = (s.feastCopy 0).get 0 k ∧ b = (s.feastCopy 1).get 0 k ∧
      c = (s.feastCopy 2).get 0 k ∧ (s.mac.feast.length = 3 ∧ b = c)) ∧
    (∃ (k : Nat) (s : State) (a : Nat) (b : Nat) (c : Nat) (x : Nat), a = (s.feastCopy 0).get 0 k ∧
      b = (s.feastCopy 1).get 0 k ∧ c = (s.feastCopy 2).get 0 k ∧ (s.mac.feast.length = 3 ∧ a ≠ b ∧ a ≠ c ∧ b ≠ c ∧
      (x = a ∨ x = b ∨ x = c) ∧ x ≤ 4000000)) ∧
    (∃ (ups : List Upset) (s : State) (t : State) (u : State), t = ups.foldl (fun s u => upset u s) s ∧
      u = (List.range 16).foldl (fun s e => feastVote (feastKey e (t.now / 120000000 + feastBase - (t.now / 120000000 +
        feastBase + 3600 - t.mac.scrub) % 3600)) s) t) :=
  ⟨⟨5, { st .service with mac.feast := [[(5, 1)], [], []] }, _, _, _, 2, rfl, rfl, rfl, by decide +kernel⟩,
   ⟨5, { st .service with mac.feast := [[(5, 1)], [], []] }, _, _, _, 4, rfl, rfl, rfl, by decide +kernel⟩,
   ⟨5, { st .service with mac.feast := [[(5, 1)], [(5, 1)], []] }, _, _, _, rfl, rfl, rfl, by decide +kernel⟩,
   ⟨5, { st .service with mac.feast := [[(5, 1)], [], []] }, _, _, _, rfl, rfl, rfl, by decide +kernel⟩,
   ⟨5, { st .service with mac.feast := [[(5, 4000000)], [(5, 2)], []] }, _, _, _, 4000000, rfl, rfl, rfl,
     by decide +kernel⟩,
   ⟨[], st .service, _, _, rfl, rfl⟩⟩

/-- Witnesses for SchedulerCommands: each clause's hypotheses hold together somewhere. -/
theorem test_witness_SchedulerCommands :
    (∃ (s : State), (s.schedActive = true ∧ s.sched.plans < s.reviewsDue 72000000000 ∧ s.sched.thermal ≠ tsCritical)) ∧
    (∃ (s : State), (s.schedActive = true ∧ s.sched.plans < s.reviewsDue 72000000000 ∧ s.sched.thermal = tsCritical)) ∧
    (∃ (s : State) (short : Bool) (busy : Bool) (t : State) (u : State) (v : State),
      short = decide (s.sched.lastDivShort < s.fld F.CHZ_CNT_DIV_SHORT) ∧
      t = reviewThermal { s with sched.loads := s.reviewsDue 120000000 } ∧
      (busy = true ↔ 96 ≤ s.sched.queuePeak ∨ short = true ∨ ∃ x, s.demod.overloadLim.last = some x ∧
      s.sched.serviceAt + s.sched.loads * 120000000 ≤ x) ∧ (t.sched.thermal = tsCritical → v = t) ∧
      (t.sched.thermal ≠ tsCritical →
      u = reviewMaps false ((if busy then spreadLoad else id) ((if short then relaxDiv else id) (reviewDownlinks (applyOverdue t)))) ∧
      v = if u.sched.planDue then planReview { u with sched.planDue := false } else u) ∧ (s.schedActive = true ∧
      s.sched.loads < s.reviewsDue 120000000)) ∧
    (∃ (s : State) (t : State) (r : State) (u : State) (m : Sparse ChanStats) (l : List Nat),
      t = (List.range 256).foldl (fun s c => reviewChannel c s)
        { s with sched.channels := s.reviewsDue 7200000000, sched.lastChannelReview := s.now } ∧
      r = (if t.sched.thermal = tsCritical then t else (List.range 4).foldl (fun s p => reviewStreams p s) (reviewMaps true t)) ∧
      l = (r.sched.summary ++ List.replicate 6 0).take 6 ∧
      u = post 2 sevInfo 0x0A04 (arg2 (nth l 0) ++ arg2 (nth l 1) ++ arg2 (nth l 2) ++ arg2 (nth l 3) ++ arg2
        (r.sched.committed - nth l 4) ++ arg2 (r.sched.reverted - nth l 5)) r ∧
      m = u.sched.chans.foldl (fun (m : Sparse ChanStats) e => m.set ChanStats.empty e.1
        { e.2 with idle := [], heard := 0, miss := 0, divA := 0, divB := 0 }) u.sched.chans ∧
      (s.schedActive = true ∧ s.sched.channels < s.reviewsDue 7200000000)) ∧
    (∃ (node : BitVec 17) (cs : List Candidate) (s : State) (x : NodeStats) (y : NodeStats) (m : Sparse NodeStats),
      x = s.nodeStat node.toNat ∧
      y = { x with heardSince := 0, reseeded := false, reverted := false, candidates := cs.take 4 } ∧
      m = s.sched.nodes.set NodeStats.empty node.toNat y ∧ (s.schedActive = true ∧
      onWheel (s.nodeState node.toNat) = true ∧ (16 ≤ x.heardSince ∨ x.reseeded = true) ∧
      s.sched.thermal = tsCritical)) ∧
    (∃ (node : BitVec 17) (cs : List Candidate) (s : State) (x : NodeStats) (y : NodeStats) (m : Sparse NodeStats),
      x = s.nodeStat node.toNat ∧
      y = { x with heardSince := 0, reseeded := false, reverted := false, candidates := cs.take 4 } ∧
      m = s.sched.nodes.set NodeStats.empty node.toNat y ∧ (s.schedActive = true ∧
      onWheel (s.nodeState node.toNat) = true ∧ (16 ≤ x.heardSince ∨ x.reseeded = true) ∧
      s.sched.thermal ≠ tsCritical)) ∧
    (∃ (p : Packet) (s : State) (t : State) (u : State) (d : Nat) (mode : Nat) (kind : Nat) (scope : Nat) (mask : BitVec
      256) (r : EnvRec),
      d = p.u8 0 ∧ mode = p.u8 1 ∧ kind = p.u8 2 ∧ scope = p.u32 4 ∧ mask = BitVec.ofNat 256 (leAt p.params 20 32) ∧
      t = (if mode = 3 then { s with sched.override := s.sched.override.filter (fun o => !(o.1 == scope && o.2.1 == d)) } else putEnv d kind scope r s) ∧
      u = post 2 sevInfo 0x0A07 (arg1 d ++ arg1 kind ++ arg4 scope ++ arg1 mode ++ arg1 p.issuer.toNat) { t with sched.updates := t.sched.updates.filter (fun x => x.carried || x.applied || !t.updateIn d kind scope x) } ∧
      (Served 52 radioModes p s ∧ d ≤ 7 ∧ mode ≤ 3 ∧ kind ≤ 3 ∧ p.dirty 3 1 = false ∧ scopeOk d kind = true ∧
      scopeRange kind scope = true ∧ (mode = 3 → kind = 3) ∧ (d ≠ 2 → p.dirty 20 32 = false) ∧ (mode = 1 →
      boundsBad d (p.u32 8) (p.u32 12) (p.u32 16) = false ∧
      s.infeasible d kind scope (p.u32 8) (p.u32 12) (p.u32 16) mask = false) ∧ (kind = 3 → s.schedNode scope = true) ∧
      (kind = 3 → mode ≠ 3 →
      s.sched.override.any (fun o => o.1 == scope && o.2.1 == d) = true ∨ s.sched.override.length < 1024) ∧ (mode = 1 →
      r = ⟨1, p.u32 8, p.u32 12, p.u32 16, if d = 2 then mask else 0, true⟩) ∧ (mode ≠ 1 →
      r = { defaultEnv d with mode := mode, own := true }))) ∧
    (∃ (p : Packet) (s : State) (d : Nat) (kind : Nat) (scope : Nat) (own : Nat) (r : EnvRec), d = p.u8 0 ∧
      kind = p.u8 1 ∧ scope = p.u32 4 ∧ (Served 8 coreModes p s ∧ d ≤ 7 ∧ kind ≤ 3 ∧ p.dirty 2 2 = false ∧
      scopeOk d kind = true ∧ scopeRange kind scope = true ∧ (kind = 3 → s.schedNode scope = true) ∧ (kind = 0 →
      r = s.chipEnv d ∧ own = 0) ∧ (kind = 1 → r = s.pairEnv d scope ∧ own = 1) ∧ (kind = 2 → r = s.mapEnv scope ∧
      own = 1) ∧ (kind = 3 → r = s.nodeEnv d scope ∧
      own = if s.sched.override.any (fun o => o.1 == scope && o.2.1 == d) then 1 else 0))) ∧
    (∃ (p : Packet) (s : State), (Served 0 coreModes p s)) ∧
    (∃ (p : Packet) (s : State), (Served 4 coreModes p s ∧ p.u32 0 ≠ 0 ∧ p.u32 0 < broadcastId ∧
      s.schedNode (p.u32 0) = true)) ∧
    (∃ (d : Nat) (e : Nat), (d < 8 ∧ e < 8 ∧ e ≠ d)) ∧
    (∃ (d : Nat) (s : State) (e : Nat) (p : Nat), (d < 8 ∧ s.sched.pairRec.get none (4 * e + p) = none ∧ e ≠ d ∧
      e < 8)) ∧
    (∃ (d : Nat) (k : Nat) (scope : Nat), (d < 8 ∧ k = 1 ∧ scope < 4)) :=
  ⟨⟨st .service 72000000000, by decide +kernel⟩,
   ⟨{ st .service 72000000000 with sched.thermal := tsCritical }, by decide +kernel⟩,
   ⟨{ st .service 120000000 with sched.queuePeak := 96 }, _, true, _, _, _, rfl, rfl,
     ⟨fun _ => .inl (by decide +kernel), fun _ => rfl⟩, fun h => absurd h (by decide +kernel), fun _ => ⟨rfl, rfl⟩,
     by decide +kernel⟩,
   ⟨st .service 7200000000, _, _, _, _, _, rfl, rfl, rfl, rfl, rfl, by decide +kernel⟩,
   ⟨0x1FFFE, [],
     ({ st .service with sched.nodes := [(0x1FFFE, { NodeStats.empty with heardSince := 16 })], sched.thermal := tsCritical }).setNf
       0x1FFFE N.STATE 4,
     _, _, _, rfl, rfl, rfl, by decide +kernel⟩,
   ⟨0x1FFFE, [],
     ({ st .service with sched.nodes := [(0x1FFFE, { NodeStats.empty with heardSince := 16 })] }).setNf 0x1FFFE N.STATE
       4,
     _, _, _, rfl, rfl, rfl, by decide +kernel⟩,
   ⟨pk 52 [7, 2], st .test, _, _, _, _, _, _, _, { defaultEnv 7 with mode := 2, own := true }, rfl, rfl, rfl, rfl, rfl,
     rfl, rfl, by unfold Served; decide +kernel⟩,
   ⟨pk 8 [7], emb, _, _, _, 0, emb.chipEnv 7, rfl, rfl, rfl, by unfold Served; decide +kernel⟩,
   ⟨pk 0 [], emb, by unfold Served; decide +kernel⟩,
   ⟨pk 4 [0xFE, 0xFF, 1], ({ alm .service 0 with ledger.chmap := [(63, 1), (0, 2 ^ 255)] }).setNf 0x1FFFE N.STATE 4,
     by unfold Served; decide +kernel⟩,
   ⟨7, 6, by decide +kernel⟩,
   ⟨7, st .service, 6, 3, by decide +kernel⟩,
   ⟨7, 1, 3, by decide +kernel⟩⟩

/-- Witnesses for FrameAndCounterCommands: each clause's hypotheses hold together somewhere. -/
theorem test_witness_FrameAndCounterCommands :
    (∃ (it : QItem) (s : State) (t : State), (s.coresWork = true ∧ queuePop joinQid s = (some it, t))) ∧
    (∃ (b : Build) (s : State) (t : State) (l : List Build) (ack : Build → Bool), ack = (fun x => x.kind == .ack) ∧
      (s.frames.builds.filter ack ++ s.frames.builds.filter (fun x => !ack x) = b :: l ∧ buildOne b s = (false, t))) ∧
    (∃ (node : BitVec 17) (s : State) (e : RxEvent),
      (s.delivered.find? (fun e => e.node == node.toNat && e.heard) = some e ∧
      s.frames.builds.any (fun b => b.node == e.node && (b.kind == .ack || b.kind == .downlink)) = false ∧
      e.waiting = true ∧ e.lastEnd + s.ackTurn + s.fld F.MAC_DRIFT_CFG_G_MIN < s.now ∧ s.framePending e.ch = false)) ∧
    (∃ (node : BitVec 17) (s : State) (e : RxEvent),
      (s.delivered.find? (fun e => e.node == node.toNat && e.heard) = some e ∧
      s.frames.builds.any (fun b => b.node == e.node && (b.kind == .ack || b.kind == .downlink)) = false ∧
      e.waiting = false ∧ e.pendingBit = true ∧ e.sent < (s.lane (laneOf e.ch)).dlPerEvent ∧ s.dlqOf e.node = [])) ∧
    (∃ (node : BitVec 17) (s : State) (e : RxEvent) (f : DlFrame) (l : List DlFrame),
      (s.delivered.find? (fun e => e.node == node.toNat && e.heard) = some e ∧
      s.frames.builds.any (fun b => b.node == e.node && (b.kind == .ack || b.kind == .downlink)) = false ∧
      e.waiting = false ∧ e.pendingBit = true ∧ e.sent < (s.lane (laneOf e.ch)).dlPerEvent ∧ s.dlqOf e.node = f :: l ∧
      s.exchangeReaches e f = true)) ∧
    (∃ (node : BitVec 17) (s : State) (e : RxEvent) (f : DlFrame) (l : List DlFrame) (bs : List Build),
      bs = s.frames.builds ++ [⟨.downlink, e.node, e.ch, laneOf e.ch, e.lastEnd + s.ackTurn, 0, 0, 0, 0, []⟩] ∧
      (s.delivered.find? (fun e => e.node == node.toNat && e.heard) = some e ∧
      s.frames.builds.any (fun b => b.node == e.node && (b.kind == .ack || b.kind == .downlink)) = false ∧
      e.waiting = false ∧ e.pendingBit = true ∧ e.sent < (s.lane (laneOf e.ch)).dlPerEvent ∧ s.dlqOf e.node = f :: l ∧
      s.exchangeReaches e f = false)) ∧
    (∃ (p : Packet) (s : State) (t : State),
      t = ((((s.setFld F.FRM_CTL_PAN_ID (p.u16 0)).setFld F.FRM_CTL_TX_LEVEL (p.bits 2 1 0)).setFld
        F.FRM_CTL_RX_MIN_LEVEL (p.bits 2 3 2)).setFld F.FRM_CTL_FRAG_PSDU (p.u16 4)).setFld F.FRM_FRAG_STAT_REASM_S
        (p.u16 6) ∧
      (Served 20 radioModes p s ∧ p.bits 2 1 0 ≠ 3 ∧ p.bits 2 3 2 ≠ 3 ∧ p.bits 2 7 4 = 0 ∧ p.dirty 3 1 = false ∧
      32 ≤ p.u16 4 ∧ p.u16 4 ≤ 2047 ∧ 1 ≤ p.u16 6 ∧ p.u16 6 ≤ 60 ∧ p.dirty 16 4 = false ∧ (s.inMode [.calibrate,
      .test] = true ∨ p.u64 8 = s.cellEui))) ∧
    (∃ (p : Packet) (s : State), (Served 20 radioModes p s ∧ p.u8 0 ≤ 15 ∧ p.u8 1 ≤ 128 ∧ p.dirty 2 2 = false ∧
      beAt p.params 4 16 % 2 ^ (128 - p.u8 1) = 0)) ∧
    (∃ (sender : BitVec 17) (size : Nat) (dtag : Nat) (s : State) (same : Reasm → Bool),
      same = (fun x => x.sender == sender.toNat && x.size == size && x.dtag == dtag && decide (x.start + s.fld
        F.FRM_FRAG_STAT_REASM_S * 120000000 ≤ s.now)) ∧
      (s.frames.reasm.any same = true)) ∧
    (∃ (r : RxRecord) (l : List RxRecord) (s : State) (t : State),
      (sortBy (fun r => 256 * r.syncEnd + r.slot) s.frames.rxq = r :: l ∧ rxFrame r s = (false, t))) ∧
    (∃ (s : State) (t : State) (g : Programming) (r : CtrRow), r = s.ctrRow g.phys ∧
      t =
        { (({ s with frames.programming := none } : State).wrapCount F.NVS_CTR_PROG_PROGRAMS 1) with frames.rowSeq := s.frames.rowSeq + 1 }
        ∧
      (s.frames.programming = some g ∧ s.ctrCopy g.lrow = some g.phys)) ∧
    (∃ (s : State) (t : State) (g : Programming) (r : CtrRow) (u : State) (v : State), r = s.ctrRow g.phys ∧
      t =
        { (({ s with frames.programming := none } : State).wrapCount F.NVS_CTR_PROG_PROGRAMS 1) with frames.rowSeq := s.frames.rowSeq + 1 }
        ∧
      u = post 37 sevDegraded 0x0921 [] (ctrStat (t.setCtrRow g.phys
        { r with pcnt := r.pcnt + 1, valid := false, retired := true })) ∧
      v = (if u.ctrSpares == 4 && t.ctrSpares == 5 then post 37 sevDegraded 0x0922 [] u else u) ∧
      (s.frames.programming = some g ∧ s.ctrCopy g.lrow ≠ some g.phys)) ∧
    (∃ (s : State) (t : State) (g : Programming) (r : CtrRow) (u : State) (l : List Resv), r = s.ctrRow g.phys ∧
      t =
        { (({ s with frames.programming := none } : State).wrapCount F.NVS_CTR_PROG_PROGRAMS 1) with frames.rowSeq := s.frames.rowSeq + 1 }
        ∧
      u = t.setCtrRow g.phys ⟨g.lrow, t.frames.rowSeq, r.pcnt + 1, g.vals, true, false⟩ ∧
      l = u.frames.resv.map (fun x => if x.scope / 256 = g.lrow ∧
      x.p ≤ g.vals.get 0 (x.scope % 256) then { x with persisted := true } else x) ∧ (s.frames.programming = some g)) ∧
    (∃ (p : Packet) (s : State) (id : Nat) (h : Nat) (pv : Nat) (f : Nat), id = p.u32 0 ∧ h = s.nextCtr id / 65536 ∧
      f = (if s.halfUsable id h then 1 else 0) + (if s.halfUsable id (h + 1) then 2 else 0) + (if s.frames.lostRows.contains (id / 256) then 4 else 0) + (if s.frames.resv.any (fun r => r.scope == id && r.rseq != 0 && !r.acked) then 8 else 0) ∧
      (Served 4 coreModes p s ∧ id ≤ broadcastId ∧ s.scopeBad id = false ∧ (s.usableHalves id ≠ 0 →
      pv = s.usableHalves id - 1) ∧ (s.usableHalves id = 0 → pv = (s.ctrStored id).getD 0))) ∧
    (∃ (p : Packet) (s : State), (Served 12 coreModes p s ∧ 1 ≤ p.u16 4 ∧ p.u16 4 ≤ 40 ∧ p.dirty 6 2 = false ∧
      s.extPersist = true ∧ (s.fetchReady (p.u32 0) = true ∨ p.u32 8 = 0))) ∧
    (∃ (p : Packet) (s : State), (Served 12 coreModes p s ∧ 1 ≤ p.u16 4 ∧ p.u16 4 ≤ 40 ∧ p.dirty 6 2 = false ∧
      s.extPersist = true ∧ s.fetchReady (p.u32 0) = false ∧ p.u32 8 ≠ 0)) ∧
    (∃ (s : State) (late : List (Nat × Nat × Nat × Nat)),
      late = s.frames.fetchWait.filter (fun w => decide (w.2.2.2 ≤ s.now))) ∧
    (∃ (p : Packet) (s : State) (t : State) (new : Resv → Bool) (l : List Resv),
      new = (fun r => r.rseq != 0 && !r.acked && decide (r.rseq ≤ p.u32 0)) ∧
      l = s.frames.resv.map (fun r => if new r then { r with acked := true } else r) ∧ t = { s with frames.resv := l } ∧
      (Served 4 coreModes p s ∧ p.u32 0 ≤ s.fld F.NVS_CTR_RSEQ_RSEQ ∧ s.extPersist = true)) ∧
    (∃ (p : Packet) (s : State) (t : State) (u : State),
      t = (restoreEntries p).foldl (fun s e => { s with frames.restart := if most2 (s.restartHalf e.1) (s.usableHalves e.1) ≤ e.2 then s.frames.restart.set 0 e.1 (e.2 + 2) else s.frames.restart, frames.restored := s.frames.restored.set 0 e.1 (e.2 + 1) }) s ∧
      u = (if p.bit 2 0 then ctrBackground { t with frames.restoreDone := true } else t) ∧ (restoreLen p = true ∧
      s.coresServe = true ∧ s.inMode coreModes = true ∧ p.u16 0 ≤ 61 ∧ p.u8 2 ≤ 1 ∧ p.dirty 3 5 = false ∧
      (∀ e ∈ restoreEntries p, e.1 ≤ broadcastId ∧ s.scopeBad e.1 = false) ∧ (∀ i, i < p.u16 0 →
      p.dirty (14 + 8 * i) 2 = false) ∧ s.extPersist = true)) ∧
    (∃ (s : State), (s.outCtr 0 / 65536 < 0xF000)) ∧
    (∃ (s : State), (∀ x, s.frames.groupLowAt = some x → x + 86400 * 120000000 ≤ s.now) ∧
      (0xF000 ≤ s.outCtr 0 / 65536)) :=
  ⟨⟨⟨[], [], 0, 0, 0, 0⟩,
    { st .service with interp.queues := [(40, { Queue.empty with items := [⟨[], [], 0, 0, 0, 0⟩] })] },
    (queuePop joinQid
      ({ st .service with interp.queues := [(40, { Queue.empty with items := [⟨[], [], 0, 0, 0, 0⟩] })] })).2,
    by decide +kernel⟩,
   ⟨⟨.ack, 5, 255, 15, 0, 0, 0, 0, 0, []⟩,
     { st .service with frames.builds := [⟨.ack, 5, 255, 15, 0, 0, 0, 0, 0, []⟩], mac.txResume := 1 }, (buildOne ⟨.ack,
     5, 255, 15, 0, 0, 0, 0, 0,
     []⟩ ({ st .service with frames.builds := [⟨.ack, 5, 255, 15, 0, 0, 0, 0, 0, []⟩], mac.txResume := 1 })).2, [], _,
     rfl, by decide +kernel⟩,
   ⟨0x1FFFE,
     { st .service 1000000 with mac.lanes := [(15, { Lane.reset with active := [{ rxe 0x1FFFE with heard := true, waiting := true }] })] },
     { rxe 0x1FFFE with heard := true, waiting := true }, by decide +kernel⟩,
   ⟨0x1FFFE,
     { st .service 0 with mac.lanes := [(15, { Lane.reset with active := [{ rxe 0x1FFFE with heard := true, pendingBit := true, sent := 3 }] })] },
     { rxe 0x1FFFE with heard := true, pendingBit := true, sent := 3 }, by decide +kernel⟩,
   ⟨0x1FFFE,
     { st .service 0 with mac.lanes := [(15, { Lane.reset with active := [{ rxe 0x1FFFE with heard := true, pendingBit := true, sent := 3 }, rxe 5] })], fwd.dlq := [(0x1FFFE, [⟨0, 0, 0, [], [], 0, [], [], 0, 0, 0⟩])] },
     { rxe 0x1FFFE with heard := true, pendingBit := true, sent := 3 }, ⟨0, 0, 0, [], [], 0, [], [], 0, 0, 0⟩, [],
     by decide +kernel⟩,
   ⟨0x1FFFE,
     { st .service 0 with mac.lanes := [(15, { Lane.reset with active := [{ rxe 0x1FFFE with heard := true, pendingBit := true, sent := 3 }] })], fwd.dlq := [(0x1FFFE, [⟨0, 0, 0, [], [], 0, [], [], 0, 0, 0⟩])] },
     { rxe 0x1FFFE with heard := true, pendingBit := true, sent := 3 }, ⟨0, 0, 0, [], [], 0, [], [], 0, 0, 0⟩, [], _,
     rfl, by decide +kernel⟩,
   ⟨pk 20 [0, 0, 0x0A, 0, 0xFF, 7, 60], st .test, _, rfl, by unfold Served; decide +kernel⟩,
   ⟨pk 20 [15, 128], st .test, by unfold Served; decide +kernel⟩,
   ⟨1, 2047, 3, { st .service with frames.reasm := [⟨1, 2047, 3, [], none, 0, []⟩] }, _, rfl, by decide +kernel⟩,
   ⟨rxr, [], { st .service with frames.rxq := [rxr] }, (rxFrame rxr ({ st .service with frames.rxq := [rxr] })).2,
     by decide +kernel⟩,
   ⟨{ st .service with frames.programming := some ⟨511, 511, []⟩ }, _, ⟨511, 511, []⟩, _, rfl, rfl, by decide +kernel⟩,
   ⟨{ st .service with frames.programming := some ⟨543, 511, []⟩ }, _, ⟨543, 511, []⟩, _, _, _, rfl, rfl, rfl, rfl,
     by decide +kernel⟩,
   ⟨{ st .service with frames.programming := some ⟨543, 511, []⟩ }, _, ⟨543, 511, []⟩, _, _, _, rfl, rfl, rfl, rfl,
     by decide +kernel⟩,
   ⟨pk 4 [0xFE, 0xFF, 1], emb.setNf 0x1FFFE N.STATE 1, _, _, ((emb.setNf 0x1FFFE N.STATE 1).ctrStored 0x1FFFE).getD 0,
     _, rfl, rfl, rfl, by unfold Served; decide +kernel⟩,
   ⟨pk 12 [0, 0, 0, 0, 40], (emb).setFlag F.NVS_CTR_CTL_EXT_PERSIST true, by unfold Served; decide +kernel⟩,
   ⟨pk 12 [0, 0, 0, 0, 40, 0, 0, 0, 1], (emb).setFlag F.NVS_CTR_CTL_EXT_PERSIST true, by unfold Served; decide +kernel⟩,
   ⟨st .service, _, rfl⟩,
   ⟨pk 4 [0], (emb).setFlag F.NVS_CTR_CTL_EXT_PERSIST true, _, _, _, rfl, rfl, rfl, by unfold Served; decide +kernel⟩,
   ⟨pk 496 [61], (emb).setFlag F.NVS_CTR_CTL_EXT_PERSIST true, _, _, rfl, rfl, by decide +kernel⟩,
   ⟨st .service, by decide +kernel⟩,
   ⟨{ (st .service).setNf 0 N.OUT_CTR 0xF0000000 with frames.groupLowAt := none }, (fun x h => nomatch (show (none : Option Nat) = some x from h)), by decide +kernel⟩⟩

/-- Witnesses for ReplayWindow: each clause's hypotheses hold together somewhere. -/
theorem test_witness_ReplayWindow :
    (∃ (id : Nat) (c : Nat) (a : Nat) (w : Nat) (digest : Word) (s : State) (t : State), a = s.nf id N.IN_CTR ∧
      w = s.nf id N.IN_WIN ∧ t = acceptCtr id c digest s ∧ (id < 2 ^ 17 ∧ c < 2 ^ 32 ∧ inWindow a w c = true ∧ c < a)) ∧
    (∃ (id : Nat) (c : Nat) (a : Nat) (w : Nat) (digest : Word) (s : State) (t : State), a = s.nf id N.IN_CTR ∧
      w = s.nf id N.IN_WIN ∧ t = acceptCtr id c digest s ∧ c = a ∧ (id < 2 ^ 17 ∧ c < 2 ^ 32 ∧ inWindow a w c = true)) ∧
    (∃ (id : Nat) (c : Nat) (a : Nat) (w : Nat) (digest : Word) (s : State) (t : State) (x : Nat),
      a = s.nf id N.IN_CTR ∧ w = s.nf id N.IN_WIN ∧ t = acceptCtr id c digest s ∧ (id < 2 ^ 17 ∧ c < 2 ^ 32 ∧
      inWindow a w c = true ∧ x < a ∧ inWindow a w x = false)) ∧
    (∃ (id : Nat) (c : Nat) (a : Nat) (w : Nat) (digest : Word) (s : State) (t : State), a = s.nf id N.IN_CTR ∧
      w = s.nf id N.IN_WIN ∧ t = acceptCtr id c digest s ∧ (id < 2 ^ 17 ∧ c < 2 ^ 32 ∧ inWindow a w c = true ∧ a < c ∧
      w % 2 = 1)) ∧
    (∃ (id : Nat) (c : Nat) (a : Nat) (w : Nat) (digest : Word) (s : State) (t : State) (other : Nat),
      a = s.nf id N.IN_CTR ∧ w = s.nf id N.IN_WIN ∧ t = acceptCtr id c digest s ∧ (id < 2 ^ 17 ∧ c < 2 ^ 32 ∧
      inWindow a w c = true ∧ other ≠ id)) :=
  ⟨⟨0x1FFFF, 1, _, _, 7, ((st .service).setNf 0x1FFFF N.IN_CTR 32).setNf 0x1FFFF N.IN_WIN 0, _, rfl, rfl, rfl,
    by decide +kernel⟩,
   ⟨0x1FFFF, _, _, _, 7, ((st .service).setNf 0x1FFFF N.IN_CTR 0).setNf 0x1FFFF N.IN_WIN 0, _, rfl, rfl, rfl, rfl,
     by decide +kernel⟩,
   ⟨0x1FFFF, 9, _, _, 7, ((st .service).setNf 0x1FFFF N.IN_CTR 40).setNf 0x1FFFF N.IN_WIN 0, _, 8, rfl, rfl, rfl,
     by decide +kernel⟩,
   ⟨0x1FFFF, 0xFFFFFFFF, _, _, 7, ((st .service).setNf 0x1FFFF N.IN_CTR 5).setNf 0x1FFFF N.IN_WIN 1, _, rfl, rfl, rfl,
     by decide +kernel⟩,
   ⟨0x1FFFF, 1, _, _, 7, ((st .service).setNf 0x1FFFF N.IN_CTR 32).setNf 0x1FFFF N.IN_WIN 0, _, 5, rfl, rfl, rfl,
     by decide +kernel⟩⟩

/-- Witness for CountersNeverRepeat. -/
theorem test_witness_CountersNeverRepeat :
    (∃ (scope : Nat) (c : Nat) (s : State) (t : State), ctrAssign scope s = (.got c, t) ∧ (scope < broadcastId)) :=
  ⟨5, 65537, { st .service with frames.usable := [(5, 3)] },
    (ctrAssign 5 ({ st .service with frames.usable := [(5, 3)] })).2, pair_eta _ _ (by decide +kernel),
    by decide +kernel⟩

/-- Witnesses for KeyCommands: each clause's hypotheses hold together somewhere. -/
theorem test_witness_KeyCommands :
    (∃ (p : Packet) (s : State), (Served 84 radioModes p s ∧ blobParamsBad p 1 = false ∧
      (s.keyLoaded 1 = false ∨ p.bit 0 0 = true))) ∧
    (∃ (p : Packet) (s : State) (e : Nat) (ebind : Nat), e = leAt (blobOf p) 3 1 ∧ ebind = leAt (blobOf p) 4 4 ∧
      (Served 84 radioModes p s ∧ blobParamsBad p 1 = false ∧ (s.keyLoaded 2 = false ∨ p.bit 0 0 = true))) ∧
    (∃ (p : Packet) (s : State), (Served 84 radioModes p s ∧ blobParamsBad p 2 = false ∧ 16 ≤ p.u8 1 ∧ p.u8 1 ≤ 63 ∧
      leAt (blobOf p) 4 4 = p.u8 1 ∧ (s.keyLoaded (p.u8 1) = false ∨ p.bit 0 0 = true))) ∧
    (∃ (p : Packet) (s : State), (Served 8 radioModes p s ∧ p.u8 0 / 4 = 0 ∧ p.dirty 1 3 = false ∧ p.bit 0 0 = true ∧
      s.keyState = kePrepared)) ∧
    (∃ (p : Packet) (s : State) (t : State),
      t = loadEpoch 5 ((s.keyCur + 1) % 256) (s.setFld F.KEY_STAT_NEXT ((s.keyCur + 1) % 256)) ∧
      (Served 8 radioModes p s ∧ p.u8 0 / 4 = 0 ∧ p.dirty 1 3 = false ∧ p.bit 0 0 = false ∧ s.keyLoaded 2 = true ∧
      s.keyState = keCurrent ∧ s.actTooNear (p.u32 4) = false ∧ (s.stragglers = 0 ∨ p.bit 0 1 = true))) ∧
    (∃ (p : Packet) (s : State), (Served 0 coreModes p s)) ∧
    (∃ (p : Packet) (s : State), (Served 12 coreModes p s ∧ p.u8 8 ≤ 1 ∧ p.dirty 9 3 = false ∧ p.bit 0 0 = false)) ∧
    (∃ (p : Packet) (s : State), (Served 4 coreModes p s ∧ p.u8 0 ≤ 63 ∧ p.dirty 1 3 = false)) ∧
    (∃ (p : Packet) (s : State), (Managed 32 allButCold p s ∧ s.latched = false)) ∧
    (∃ (p : Packet) (s : State), (Managed 4 [.calibrate, .test] p s ∧ p.u32 0 = 0x4C4F434B)) ∧
    (∃ (s : State) (l : List KeyMiss), (serveMiss s s.keys.misses = some (l, none))) ∧
    (∃ (s : State) (l : List KeyMiss) (t : KeyTag) (k : List Byte), serveMiss s s.keys.misses = some (l, some (t, k))) ∧
    (∃ (i : Nat) (h : Nat) (k : List Byte) (s : State) (j : Nat), (s.handleKey h = some k ∧ h % 64 = i ∧ j % 64 ≠ i)) :=
  ⟨⟨pk 84 [0], st .test, by unfold Served; decide +kernel⟩,
   ⟨pk 84 [1], st .test, _, _, rfl, rfl, by unfold Served; decide +kernel⟩,
   ⟨pk 84 [0, 63, 0, 0, 0, 0, 0, 0, 63], st .test, by unfold Served; decide +kernel⟩,
   ⟨pk 8 [1], (st .test).setFld F.KEY_STAT_STATE 2, by unfold Served; decide +kernel⟩,
   ⟨pk 8 [0, 0, 0, 0, 2],
     { (alm .service 0).setFld F.KEY_STAT_STATE 1 with keys.slots := [(2, { KeySlot.empty with content := 1 })] }, _,
     rfl, by unfold Served; decide +kernel⟩,
   ⟨pk 0 [], emb, by unfold Served; decide +kernel⟩,
   ⟨pk 12 [], emb, by unfold Served; decide +kernel⟩,
   ⟨pk 4 [63], emb, by unfold Served; decide +kernel⟩,
   ⟨pk 32 [], st .quarantine, by unfold Managed; decide +kernel⟩,
   ⟨pk 4 [0x4B, 0x43, 0x4F, 0x4C], st .test, by unfold Managed; decide +kernel⟩,
   ⟨{ st .service with keys.misses := [⟨⟨0, 2, 1, []⟩, false, none⟩] }, [⟨⟨0, 2, 1, []⟩, true, none⟩],
     by decide +kernel⟩,
   ⟨{ st .service with keys.slots := [(2, { KeySlot.empty with content := 1 })], keys.misses := [⟨⟨0, 2, 1, []⟩, false, none⟩] },
     _, ⟨0, 2, 1, []⟩, _, rfl⟩,
   ⟨63, 127, [], { st .service with keys.slots := [(63, { KeySlot.empty with content := 1 })] }, 0, by decide +kernel⟩⟩

/-- Witnesses for LedgerCommands: each clause's hypotheses hold together somewhere. -/
theorem test_witness_LedgerCommands :
    (∃ (op : Nat) (row : Writer → Fin 4 → Word → Instr) (w : Writer) (win : Fin 4) (s : State), (op, row) ∈ ([(0,
      .ldgOpRead), (1, .ldgOpWrite), (2, .ldgOpWriteMasked), (3, .ldgOpCas), (4, .ldgOpInvalidate), (5, .ldgOpAlloc),
      (6, .ldgOpFree)] : List (Nat × (Writer → Fin 4 → Word → Instr))) ∧ (s.reaches (R.LDG_CMD win.val) = true ∧
      win.val ≠ 0 ∧ writerIsFirmware w = false)) ∧
    (∃ (op : Nat) (row : Writer → Fin 4 → Word →
      Instr) (w : Writer) (win : Fin 4) (v : Word) (x : Word) (o : LOp) (r : LRes × State) (s : State),
      x = ((v &&& 0x8FFFFFFF#32) ||| BitVec.ofNat 32 (op * 2 ^ 28)) &&& (if win.val = 0 then 0x7FF3FFFF#32 else 0xFFF3FFFF#32) ∧
      o =
        { op := x.toNat / 2 ^ 28 % 8, table := x.toNat / 2 ^ 24 % 16, keyed := x.toNat / 2 ^ 23 % 2 == 1, txn := x.toNat / 2 ^ 31 == 1, word := x.toNat / 2 ^ 20 % 8, index := x.toNat % 2 ^ 18, mask := s.pair (R.LDG_MASK_LO win.val) (R.LDG_MASK_HI win.val), cas := BitVec.ofNat 64 (s.pair (R.LDG_CAS_LO win.val) (R.LDG_CAS_HI win.val)), data := BitVec.ofNat 512 (leNat ((List.range 16).flatMap (fun k => leBytes 4 (s.word (R.LDG_DATA win.val k)).toNat))) }
        ∧
      r = ledgerOp (windowWho w win.val) (win.val == 0) o (s.setWord (R.LDG_CMD win.val) x) ∧ (op, row) ∈ ([(0,
      .ldgOpRead), (1, .ldgOpWrite), (2, .ldgOpWriteMasked), (3, .ldgOpCas), (4, .ldgOpInvalidate), (5, .ldgOpAlloc),
      (6, .ldgOpFree)] : List (Nat × (Writer → Fin 4 → Word → Instr))) ∧ (s.reaches (R.LDG_CMD win.val) = true ∧
      (win.val = 0 ∨ writerIsFirmware w = true))) ∧
    (∃ (p : Packet) (s : State) (o : LOp) (r : LRes × State),
      o =
        { op := p.u8 0, table := p.u8 1, keyed := p.bit 2 0, txn := p.bit 2 1, word := p.u8 3, index := p.u32 4, mask := p.u64 8, cas := BitVec.ofNat 64 (p.u64 16), data := BitVec.ofNat 512 (leNat (p.bytes 32 64)) }
        ∧
      r = ledgerOp p.issuer.toNat (restrictedIssuer p) o s ∧ (Served 96 coreModes p s ∧ p.u8 2 ≤ 3 ∧ p.u8 3 ≤ 7 ∧
      p.dirty 24 8 = false)) ∧
    (∃ (p : Packet) (s : State) (t : State) (c : Nat), t = s.setCtx c LdgCtx.free ∧ (Served 4 coreModes p s ∧
      p.u8 0 ≤ 1 ∧ p.dirty 1 3 = false ∧ s.ctxOf p.issuer.toNat = some c ∧ p.bit 0 0 = false)) ∧
    (∃ (p : Packet) (s : State) (t : State) (c : Nat) (e : Staged), t = s.setCtx c LdgCtx.free ∧
      (Served 4 coreModes p s ∧ p.u8 0 ≤ 1 ∧ p.dirty 1 3 = false ∧ s.ctxOf p.issuer.toNat = some c ∧ p.bit 0 0 = true ∧
      (s.ctx c).staged.find? t.casFails = some e)) ∧
    (∃ (p : Packet) (s : State) (t : State) (c : Nat), t = s.setCtx c LdgCtx.free ∧ (Served 4 coreModes p s ∧
      p.u8 0 ≤ 1 ∧ p.dirty 1 3 = false ∧ s.ctxOf p.issuer.toNat = some c ∧ p.bit 0 0 = true ∧
      (s.ctx c).staged.find? t.casFails = none)) ∧
    (∃ (p : Packet) (s : State) (t : State),
      t = (((((s.setFlag F.LDG_LEARN_CTL_NODE_EN (p.bit 0 0)).setFlag F.LDG_LEARN_CTL_BNT_EN (p.bit 0 1)).setFld
        F.LDG_LEARN_CTL_BURST (p.u8 1)).setFld F.LDG_LEARN_CTL_RATE (p.u16 2)).setFld F.LDG_AGE_CFG_LEARN_AGE_S (p.u16
        4)).setFld F.LDG_AGE_CFG_BNT_AGE_S (p.u16 6) ∧
      (Served 12 coreModes p s ∧ p.u8 0 ≤ 3 ∧ 1 ≤ p.u8 1 ∧ 1 ≤ p.u16 2 ∧ p.u16 2 ≤ 2000 ∧ p.dirty 8 4 = false)) ∧
    (∃ (p : Packet) (s : State), (Served 4 coreModes p s ∧ 1 ≤ p.u8 0 ∧ p.u8 0 ≤ 29 ∧ p.dirty 1 3 = false)) ∧
    (∃ (s : State), (s.reaches R.LDG_MMF_POP = true)) :=
  ⟨⟨0, .ldgOpRead, .bar0, 3, st .service, .head _, by decide +kernel⟩,
   ⟨0, .ldgOpRead, .bar0, 0, 0, _, _, _, st .service, rfl, rfl, rfl, .head _, by decide +kernel⟩,
   ⟨pk 96 [7, 15, 3, 7], emb, _, _, rfl, rfl, by unfold Served; decide +kernel⟩,
   ⟨pk 4 [0], ctxs [(3, 2)], _, 3, rfl, by unfold Served; decide +kernel⟩,
   ⟨pk 4 [1], ctxs [(3, 2)] [⟨0, 5, 0, 0, [(0, 1, 1)]⟩], _, 3, ⟨0, 5, 0, 0, [(0, 1, 1)]⟩, rfl,
     by unfold Served; decide +kernel⟩,
   ⟨pk 4 [1], ctxs [(3, 2)], _, 3, rfl, by unfold Served; decide +kernel⟩,
   ⟨pk 12 [3, 1, 0xD0, 7], emb, _, rfl, by unfold Served; decide +kernel⟩,
   ⟨pk 4 [29], emb, by unfold Served; decide +kernel⟩,
   ⟨st .service, by decide +kernel⟩⟩

/-- Witnesses for LedgerLock: each clause's hypotheses hold together somewhere. -/
theorem test_witness_LedgerLock :
    (∃ (p : Packet) (s : State) (c : Nat), (Served 0 coreModes p s ∧ s.ctxOf p.issuer.toNat = some c)) ∧
    (∃ (p : Packet) (s : State) (c : Nat), (Served 0 coreModes p s ∧ s.ctxOf p.issuer.toNat = none ∧
      (List.range 4).find? (fun c => (s.ctx c).owner.isNone) = some c)) ∧
    (∃ (p : Packet) (s : State), (Served 0 coreModes p s ∧ s.ctxOf p.issuer.toNat = none ∧ (∀ c, c < 4 →
      (s.ctx c).owner ≠ none))) ∧
    (∃ (p : Packet) (s : State) (t : State) (w : Nat) (c : Nat) (d : Nat), exec (.ldgLock p) s = .next t ∧
      (∀ w c d : Nat, c < 4 → d < 4 → (s.ctx c).owner = some w → (s.ctx d).owner = some w → c = d) ∧
      (Served 0 coreModes p s ∧ c < 4 ∧ d < 4 ∧ (t.ctx c).owner = some w ∧ (t.ctx d).owner = some w)) :=
  ⟨⟨pk 0 [], ctxs [(3, 2)], 3, by unfold Served; decide +kernel⟩,
   ⟨pk 0 [], ctxs [(0, 5), (1, 6), (2, 7)], 3, by unfold Served; decide +kernel⟩,
   ⟨pk 0 [], ctxs [(0, 5), (1, 6), (2, 7), (3, 8)], by unfold Served; decide +kernel⟩,
   ⟨pk 0 [], st .service, _, 2, 0, 0, rfl, (fun w c d _ _ h _ => nomatch (show (none : Option Nat) = some w from h)), by unfold Served; decide +kernel⟩⟩

/-- Witnesses for LockedRowsHold: each clause's hypotheses hold together somewhere. -/
theorem test_witness_LockedRowsHold :
    (∃ (who : Nat) (o : LOp) (s : State), ((o.op = 0 ∨ (s.lockedFor who o.table o.index = true ∧ o.op ≠ 5)))) ∧
    (∃ (who : Nat) (o : LOp) (s : State), ((o.op = 0 ∨ (s.lockedFor who o.table o.index = true ∧ o.op ≠ 5)) ∧
      o.op ≠ 0)) ∧
    (∃ (who : Nat) (o : LOp) (s : State), ((o.op = 0 ∨ (s.lockedFor who o.table o.index = true ∧ o.op ≠ 5)))) :=
  ⟨⟨5, lop 1, ctxs [(3, 2)] [⟨0, 5, 0, 0, []⟩], by decide +kernel⟩,
   ⟨5, lop 1, ctxs [(3, 2)] [⟨0, 5, 0, 0, []⟩], by decide +kernel⟩,
   ⟨5, lop 1, ctxs [(3, 2)] [⟨0, 5, 0, 0, []⟩], by decide +kernel⟩⟩

/-- Witnesses for LedgerUpkeep: each clause's hypotheses hold together somewhere. -/
theorem test_witness_LedgerUpkeep :
    (∃ (c : Fin 4) (who : Nat) (s : State), ((s.ctx c.val).owner = some who ∧ ¬ (0x40 ≤ who ∧ who ≤ 0x7F) ∧
      (s.ctx c.val).last + most2 12000 (s.word R.LDG_LOCK_TMO).toNat ≤ s.now)) ∧
    (∃ (node : BitVec 17) (s : State) (t : State) (n : Nat) (l : Limiter),
      t = (freeNode node.toNat s).count F.LDG_LEARN_CNT1_AGED 1 ∧ (s.fld F.LDG_AGE_CFG_LEARN_AGE_S ≠ 0 ∧
      s.nodeState node.toNat = nsLearned ∧ s.nf node.toNat N.FROZEN ≠ 1 ∧ s.stagedAny 0 node.toNat = false ∧
      s.nf node.toNat N.ANCHOR + s.fld F.LDG_AGE_CFG_LEARN_AGE_S * 120000000 < s.now ∧
      limited 120000000 t.now t.ledger.agedLim = (some n, l))) ∧
    (∃ (node : BitVec 17) (s : State) (t : State) (l : Limiter),
      t = (freeNode node.toNat s).count F.LDG_LEARN_CNT1_AGED 1 ∧ (s.fld F.LDG_AGE_CFG_LEARN_AGE_S ≠ 0 ∧
      s.nodeState node.toNat = nsLearned ∧ s.nf node.toNat N.FROZEN ≠ 1 ∧ s.stagedAny 0 node.toNat = false ∧
      s.nf node.toNat N.ANCHOR + s.fld F.LDG_AGE_CFG_LEARN_AGE_S * 120000000 < s.now ∧
      limited 120000000 t.now t.ledger.agedLim = (none, l))) ∧
    (∃ (i : Fin 4096) (s : State), (s.fld F.LDG_AGE_CFG_BNT_AGE_S ≠ 0 ∧ bntValid (s.bntEntry i.val) = true ∧
      bntStatic (s.bntEntry i.val) = false ∧
      s.fld F.LDG_AGE_CFG_BNT_AGE_S * 120000000 < (at24 s.now + 2 ^ 32 - bntSeen (s.bntEntry i.val)) % 2 ^ 32 * 2 ^ 24))
        ∧
    (∃ (s : State) (per : Nat) (k : Nat), per = 120000000 / s.fld F.LDG_LEARN_CTL_RATE ∧
      k = (s.now - s.ledger.tokenAt) / per) ∧
    (∃ (s : State) (k : Nat), k = (s.now - s.ledger.bntTokenAt) / 120000) ∧
    (∃ (v : Word) (s : State) (t : State) (en : Bool), en = (v.getLsbD 31 && s.shadowOk) ∧
      t = ((s.setWord R.LDG_BGC_CTL (v &&& 0xFFFF0000#32)).setFlag F.LDG_BGC_CTL_EN en).setFlag F.LDG_BGC_STAT_RUNNING
        en ∧
      (s.reaches R.LDG_BGC_CTL = true ∧ en = true ∧ s.flag F.LDG_BGC_CTL_EN = false)) ∧
    (∃ (v : Word) (s : State) (t : State) (en : Bool), en = (v.getLsbD 31 && s.shadowOk) ∧
      t = ((s.setWord R.LDG_BGC_CTL (v &&& 0xFFFF0000#32)).setFlag F.LDG_BGC_CTL_EN en).setFlag F.LDG_BGC_STAT_RUNNING
        en ∧
      (s.reaches R.LDG_BGC_CTL = true ∧ (en = false ∨ s.flag F.LDG_BGC_CTL_EN = true))) ∧
    (∃ (s : State) (t : State) (u : State) (per : Nat) (id : Nat) (diff : Nat) (ecc : Bool) (xref : Bool), per = 120000
      / most2 1 (s.fld F.LDG_BGC_CTL_RATE) ∧
      id = s.fld F.LDG_BGC_STAT_POSITION ∧
      diff = diffBytes (s.pair R.LDG_BGC_MASK_LO R.LDG_BGC_MASK_HI) (leBytes 64 (s.node id).toNat) (s.dramRead
        (s.shadowBase + 64 * id - dramBase) 64) ∧
      ecc = s.rowBad 0 id ∧
      xref = (s.flag F.LDG_BGC_CTL_XREF && s.nodeState id != nsFree && s.idOf (s.nf id N.EUI64) != some id) ∧
      t = { s with ledger.visitAt := s.ledger.visitAt + per } ∧
      (u = (if diff ≠ 0 ∨ ecc = true ∨ xref = true then mismatch ⟨id, xref, ecc, diff, at24 t.now⟩ t else t)) ∧
      (s.flag F.LDG_BGC_STAT_RUNNING = true ∧ s.ledger.visitAt + per ≤ s.now)) ∧
    (∃ (table : Fin 9) (idx : BitVec 18) (word : Fin 8) (s : State) (l : List (Nat × Nat × Nat)),
      (idx.toNat < (tableShape table.val).2 ∧ 8 * word.val < (tableShape table.val).1 ∧
      (s.ledger.bad.contains (table.val, idx.toNat, word.val) = true → l = s.ledger.bad) ∧
      (s.ledger.bad.contains (table.val, idx.toNat, word.val) = false → l = (table.val, idx.toNat,
      word.val) :: s.ledger.bad))) :=
  ⟨⟨3, 2, ctxs [(3, 2)] [] 12000, by decide +kernel⟩,
   ⟨0x1FFFE, ((st .service 120000001).setNf 0x1FFFE N.STATE 1).setFld F.LDG_AGE_CFG_LEARN_AGE_S 1, _, 1,
     ⟨some 120000001, 0⟩, rfl, by decide +kernel⟩,
   ⟨0x1FFFE,
     { ((st .service 120000001).setNf 0x1FFFE N.STATE 1).setFld F.LDG_AGE_CFG_LEARN_AGE_S 1 with ledger.agedLim := ⟨some 120000001, 0⟩ },
     _, ⟨some 120000001, 1⟩, rfl, by decide +kernel⟩,
   ⟨4095, ({ st .service (2 ^ 27) with ledger.bnt := [(4095, 2 ^ 71)] }).setFld F.LDG_AGE_CFG_BNT_AGE_S 1,
     by decide +kernel⟩,
   ⟨st .service, _, _, rfl, rfl⟩,
   ⟨st .service, _, rfl⟩,
   ⟨0x80000000, (st .service).setFld F.LDG_BGC_BASE_HI_BASE 16, _, _, rfl, rfl, by decide +kernel⟩,
   ⟨0, st .service, _, _, rfl, rfl, by decide +kernel⟩,
   ⟨(((st .service 120000).setFlag F.LDG_BGC_STAT_RUNNING true).setFld F.LDG_BGC_BASE_HI_BASE 16).setFld
     F.LDG_BGC_LAST_SHORT_ID 1,
     _, _, _, _, _, _, _, rfl, rfl, rfl, rfl, rfl, rfl, rfl, by decide +kernel⟩,
   ⟨8, 4095, 7, st .service, [(8, 4095, 7)], by decide +kernel⟩⟩

/-- Witnesses for ForwardAndRolloutCommands: each clause's hypotheses hold together somewhere. -/
theorem test_witness_ForwardAndRolloutCommands :
    (∃ (p : Packet) (s : State), (Served 32 radioModes p s ∧ p.u8 0 ≤ 31 ∧ p.u8 1 ≤ 4 ∧ (p.u8 1 ≠ 1 →
      p.dirty 4 8 = false) ∧ p.dirty 12 4 = false ∧ p.bits 11 7 4 = 0 ∧ p.u8 2 ≤ 128 ∧
      beAt p.params 16 16 % 2 ^ (128 - p.u8 2) = 0 ∧ (p.u8 1 = 1 → p.u8 3 ≤ 1) ∧ (p.u8 1 = 3 → p.u8 3 ≤ 63) ∧
      (p.u8 1 ≠ 1 → p.u8 1 ≠ 3 → p.u8 3 = 0))) ∧
    (∃ (p : Packet) (s : State), (Served 4 radioModes p s ∧ p.u8 0 ≤ 31 ∧ p.dirty 1 3 = false)) ∧
    (∃ (p : Packet) (s : State) (t : State),
      t = ((s.setPair R.FWD_PREFIX_LO R.FWD_PREFIX_HI (p.u64 0)).setFlag F.FWD_CTL_EN (p.bit 8 0)).setFld
        F.FWD_CTL_SRC_CHECK (p.bits 8 2 1) ∧
      (Served 16 radioModes p s ∧ p.bits 8 7 4 = 0 ∧ p.bits 8 2 1 ≠ 3 ∧ p.dirty 9 1 = false ∧ p.dirty 12 4 = false ∧
      1280 ≤ p.u16 10 ∧ p.u16 10 ≤ 9000 ∧ (s.inMode [.calibrate, .test] = true ∨ p.bytes 0 8 = s.fwdPrefix))) ∧
    (∃ (p : Packet) (s : State), (Served 4 radioModes p s ∧ p.u32 0 < broadcastId ∧
      onWheel (s.nodeState (p.u32 0)) = true)) ∧
    (∃ (it : QItem) (rest : List QItem) (s : State) (t : State), t = { s with fwd.ingress := rest } ∧
      (s.fwd.ingress = it :: rest ∧ t.held = true ∧ t.inMode [.service, .test] = true ∧ t.flag F.FWD_CTL_EN = true)) ∧
    (∃ (it : QItem) (rest : List QItem) (s : State) (t : State), t = { s with fwd.ingress := rest } ∧
      (s.fwd.ingress = it :: rest ∧ t.held = true ∧ t.inMode [.service, .test] = true ∧ t.flag F.FWD_CTL_EN = false)) ∧
    (∃ (it : QItem) (rest : List QItem) (s : State) (t : State), t = { s with fwd.ingress := rest } ∧
      (s.fwd.ingress = it :: rest ∧ (t.held = false ∨ t.inMode [.service, .test] = false) ∧ t.nodeBound it = true ∧
      (t.held = false ∨ t.inMode [.banked] = true))) ∧
    (∃ (it : QItem) (rest : List QItem) (s : State) (t : State), t = { s with fwd.ingress := rest } ∧
      (s.fwd.ingress = it :: rest ∧ (t.held = false ∨ t.inMode [.service, .test] = false) ∧
      (t.nodeBound it = false ∨ t.held = true ∧ t.inMode [.banked] = false))) ∧
    (∃ (s : State) (rise : List Nat),
      rise = (List.range 9).map (fun i => if nth (dropFields.map s.fld) i < nth s.fwd.drops i then nth (dropFields.map s.fld) i else nth (dropFields.map s.fld) i - nth s.fwd.drops i) ∧
      (∀ x, s.fwd.dropsAt = some x → x + 120000000 ≤ s.now) ∧ (rise.any (· != 0) = true)) ∧
    (∃ (p : Packet) (s : State) (t : State) (u : State) (x : Campaign) (y : Campaign) (c : Nat), t = s.draw.2 ∧
      x =
        { Campaign.reset with tCode := p.u8 1, kMax := p.u8 2, perFrame := p.u8 3, imageId := p.u32 4, length := p.u32 8, addr := p.u64 12, channel := p.u8 20, profile := p.u8 21, tier := p.u8 22, drive := p.u8 23, fwTag := p.u16 24, frameLimit := p.u32 28, seed := s.draw.1 % 2 ^ 32 }
        ∧
      y = { x with crc := (crc32 (t.image x)).toNat } ∧
      u = (((pendClear c (t.setCamp c y)).setWord (R.ROL_CAMP_SENT c) 0).setWord (R.ROL_CAMP_SKIP c) 0).setWord
        (R.ROL_CAMP_DONE c) 0 ∧
      (Served 48 rolModes p s ∧ p.u8 0 = c ∧ c ≤ 15 ∧ 1 ≤ p.u8 3 ∧ p.u8 3 ≤ 16 ∧ p.u8 21 ≤ 62 ∧ p.u8 22 ≤ 3 ∧
      p.u8 23 ≤ 64 ∧ p.dirty 17 3 = false ∧ p.dirty 26 2 = false ∧ p.dirty 32 16 = false ∧
      s.profLoaded (p.u8 21) = true ∧ (profType (s.profile (p.u8 21)) = 1 ∨ p.u8 22 = 0) ∧ s.campLive c = false ∧
      1 ≤ p.u32 8 ∧ p.u32 8 ≤ 16777216 ∧ p.u8 1 ≤ 5 ∧ 1 ≤ p.u8 2 ∧ s.inDram (p.u64 12) (p.u32 8) = true ∧
      s.isHead (p.u8 20) = true ∧ 44 + p.u8 3 * (32 * 2 ^ p.u8 1) ≤ 2047 ∧ s.keyLoaded 2 = true)) ∧
    (∃ (p : Packet) (s : State) (r : Nat × Nat × State), (p.u8 1 = 0 →
      r = ((List.range (p.u16 4)).map (fun i => p.u32 (8 + 4 * i))).foldl (rolAdd (p.u8 0)) (0, 0, s)) ∧ (p.u8 1 = 1 →
      r = (0, 0,
      ((List.range (p.u16 4)).map (fun i => p.u32 (8 + 4 * i))).foldl (fun s id => pendDrop (p.u8 0) id s) s)) ∧
      (p.u8 1 = 2 →
      r = ((s.ledger.ntab.filter (fun e => N.STATE.read e.2 != nsFree && N.FW_TAG.read e.2 == p.u16 2)).map (·.1)).foldl
        (rolAdd (p.u8 0)) (0,
      0, s)) ∧ (p.u8 1 = 3 → r = (0, 0,
      if (pendClear (p.u8 0) s).campState (p.u8 0) = rsSending then campDone (p.u8 0) (pendClear (p.u8 0) s) else pendClear (p.u8 0) s)) ∧
      (p.n = 8 + 4 * p.u16 4 ∧ s.coresServe = true ∧ s.inMode rolModes = true ∧ p.u8 0 ≤ 15 ∧ p.u8 1 ≤ 3 ∧
      p.u16 4 ≤ 120 ∧ p.dirty 6 2 = false ∧ s.campLive (p.u8 0) = true)) ∧
    (∃ (p : Packet) (s : State) (x : Campaign),
      x = { s.camp (p.u8 0) with winRounds := p.u8 1, period := p.u16 2, startEpoch := p.u32 4, startRound := p.u16 8 }
        ∧
      (Served 12 rolModes p s ∧ p.u8 0 ≤ 15 ∧ 1 ≤ p.u8 1 ∧ p.u8 1 ≤ p.u16 2 ∧ p.dirty 10 2 = false ∧
      s.campState (p.u8 0) = rsConfigured ∧ s.almanacRuns = true ∧ s.rolTooLate (p.u32 4) (p.u16 8) = false)) ∧
    (∃ (p : Packet) (s : State), (Served 4 rolModes p s ∧ p.u8 0 ≤ 15 ∧ p.bits 1 7 1 = 0 ∧ p.dirty 2 2 = false ∧
      s.campState (p.u8 0) ≠ rsIdle ∧ s.campLive (p.u8 0) = true)) ∧
    (∃ (p : Packet) (s : State), (Served 4 rolModes p s ∧ p.u8 0 ≤ 15 ∧ p.bits 1 7 1 = 0 ∧ p.dirty 2 2 = false ∧
      s.campState (p.u8 0) ≠ rsIdle ∧ s.campLive (p.u8 0) = false ∧ p.bit 1 0 = true)) ∧
    (∃ (p : Packet) (s : State), (Served 4 rolModes p s ∧ p.u8 0 ≤ 15 ∧ p.bits 1 7 1 = 0 ∧ p.dirty 2 2 = false ∧
      s.campState (p.u8 0) ≠ rsIdle ∧ s.campLive (p.u8 0) = false ∧ p.bit 1 0 = false)) ∧
    (∃ (p : Packet) (s : State) (c : Nat) (x : Campaign), c = p.u8 0 ∧ x = s.camp c ∧ (Served 4 coreModes p s ∧
      p.u8 0 ≤ 15 ∧ p.dirty 1 3 = false)) ∧
    (∃ (n : Fin 16) (s : State), (s.laneRuns n.val = true ∧ s.almanacRuns = true)) :=
  ⟨⟨pk 32 [31, 2, 128], st .test, by unfold Served; decide +kernel⟩,
   ⟨pk 4 [31], st .test, by unfold Served; decide +kernel⟩,
   ⟨pk 16 [0, 0, 0, 0, 0, 0, 0, 0, 4, 0, 0x28, 0x23], st .test, _, rfl, by unfold Served; decide +kernel⟩,
   ⟨pk 4 [0xFE, 0xFF, 1], (st .test).setNf 0x1FFFE N.STATE 4, by unfold Served; decide +kernel⟩,
   ⟨⟨[], [], 0, 0, 0, 0⟩, [], { (st .test).setFlag F.FWD_CTL_EN true with fwd.ingress := [⟨[], [], 0, 0, 0, 0⟩] }, _,
     rfl, by decide +kernel⟩,
   ⟨⟨[], [], 0, 0, 0, 0⟩, [], { st .test with fwd.ingress := [⟨[], [], 0, 0, 0, 0⟩] }, _, rfl, by decide +kernel⟩,
   ⟨⟨[], [0x60] ++ List.replicate 22 0 ++ [1] ++ List.replicate 15 0 ++ [1], 0, 0, 0, 0⟩, [],
     { (st .service).setFld F.PAR_STAT_ROLE 1 with fwd.ingress := [⟨[], [0x60] ++ List.replicate 22 0 ++ [1] ++ List.replicate 15 0 ++ [1], 0, 0, 0, 0⟩] },
     _, rfl, by decide +kernel⟩,
   ⟨⟨[], [], 0, 0, 0, 0⟩, [], { (st .service).setFld F.PAR_STAT_ROLE 1 with fwd.ingress := [⟨[], [], 0, 0, 0, 0⟩] }, _,
     rfl, by decide +kernel⟩,
   ⟨(st .service).setFld F.FWD_DROP0_NO_ROUTE 1, _, rfl, (fun x h => nomatch (show (none : Option Nat) = some x from h)), by decide +kernel⟩,
   ⟨pk 48 [15, 5, 1, 1, 0, 0, 0, 0, 1, 0, 0, 0, 0, 0, 0, 0, 0x10, 0, 0, 0, 255, 62, 0, 64],
     { ((st .test).setFlag (F.CHZ_CH_CFG_EN 255) true).setFlag (F.CHZ_CH_CFG_HEAD 255) true with demod.profiles := [(62, [3])], keys.slots := [(2, { KeySlot.empty with content := 1 })] },
     _, _, _, _, 15, rfl, rfl, rfl, rfl, by unfold Served; decide +kernel⟩,
   ⟨pk 488 [15, 0, 0, 0, 120], (st .test).setFld (F.ROL_CAMP_STAT_STATE 15) 3, _, fun _ => rfl,
     fun h => absurd h (by decide +kernel), fun h => absurd h (by decide +kernel),
     fun h => absurd h (by decide +kernel), by decide +kernel⟩,
   ⟨pk 12 [15, 1, 1, 0, 2], (alm .test 0).setFld (F.ROL_CAMP_STAT_STATE 15) 1, _, rfl,
     by unfold Served; decide +kernel⟩,
   ⟨pk 4 [15], (st .test).setFld (F.ROL_CAMP_STAT_STATE 15) 3, by unfold Served; decide +kernel⟩,
   ⟨pk 4 [15, 1], (st .test).setFld (F.ROL_CAMP_STAT_STATE 15) 4, by unfold Served; decide +kernel⟩,
   ⟨pk 4 [15], (st .test).setFld (F.ROL_CAMP_STAT_STATE 15) 4, by unfold Served; decide +kernel⟩,
   ⟨pk 4 [15], emb, _, _, rfl, rfl, by unfold Served; decide +kernel⟩,
   ⟨15, (alm .service 0).setFld (F.LNS_LANE_STAT_STATE 15) 3, by decide +kernel⟩⟩

/-- Witnesses for FabricCommands: each clause's hypotheses hold together somewhere. -/
theorem test_witness_FabricCommands :
    (∃ (p : Fin 4) (s : State), (s.portState p.val = portDown ∧ s.bit F.ZFB_CTL_PORT_EN p.val = true ∧ s.inMode [.cold,
      .quarantine] = false)) ∧
    (∃ (p : Fin 4) (s : State), (s.portState p.val = portTraining)) ∧
    (∃ (p : Fin 4) (s : State), (s.portState p.val ≠ portDown)) ∧
    (∃ (p : Fin 4) (s : State) (f : ZFrame) (z : ZPort), f = ⟨0, false, 0, 0, 8, 0, 32, true,
      .hello (BitVec.ofNat 64 s.serial) (BitVec.ofNat 32 s.district) s.idByte p.val (s.fld F.STP_STRAPS_PAIRROLE)
        (s.flag F.ZFB_ID_REGISTRAR) (s.inMode [.ember]) (s.flag F.TMB_STAT_CAL_FAULT) (s.zport p.val).nbrSerial⟩ ∧
      z = { s.zport p.val with txq := (s.zport p.val).txq ++ [⟨f, none⟩], helloAt := s.now + s.helloGap p.val } ∧
      (portHello ≤ s.portState p.val ∧ (s.zport p.val).helloAt ≤ s.now)) ∧
    (∃ (p : Fin 4) (f : ZFrame) (s : State), (portHello ≤ s.portState p.val ∧ f.crcOk = false)) ∧
    (∃ (p : Fin 4) (f : ZFrame) (s : State) (z : ZPort), z = { s.zport p.val with lastRx := s.now } ∧
      (portHello ≤ s.portState p.val ∧ f.crcOk = true)) ∧
    (∃ (p : Fin 4) (f : ZFrame) (serial : Quad) (echo : Quad) (district : Word) (idb : Nat) (nport : Nat) (role : Nat)
      (reg : Bool) (ember : Bool) (fault : Bool) (s : State) (t : State) (z : ZPort),
      z =
        { s.zport p.val with nbrSerial := serial, nbrId := idb, nbrEmber := ember, nbrCalFault := fault, nbrRole := role, lastRx := s.now }
        ∧
      t = ((s.setZport p.val z).setFld (F.ZFB_PORT_STAT_NBR_ID p.val) (idOfByte idb)).setFld (F.ZFB_PORT_STAT_NBR_PORT
        p.val) nport ∧
      (portHello ≤ s.portState p.val ∧ f.crcOk = true ∧
      f.msg = .hello serial district idb nport role reg ember fault echo)) ∧
    (∃ (s : State) (changed : Bool), changed = false ∧ (changed = false ↔ ∃ l, s.zoant.lsaSent = some l ∧
      lsaSame l s.ownLsa = true) ∧ (s.district ≠ 0 ∧ s.inMode [.cold, .quarantine] = false ∧
      s.now < s.zoant.lsaAt + 120000000)) ∧
    (∃ (s : State) (changed : Bool) (t : State) (u : State),
      t = (if changed then dbChanged (settleId s) else settleId s) ∧
      u = { t with zoant.ownSeq := (t.zoant.ownSeq + 1) % 2 ^ 32 } ∧ (changed = false ↔ ∃ l, s.zoant.lsaSent = some l ∧
      lsaSame l s.ownLsa = true) ∧ (s.district ≠ 0 ∧ s.inMode [.cold, .quarantine] = false ∧
      (changed = true ∨ s.zoant.lsaAt + 120000000 ≤ s.now))) ∧
    (∃ (chip : Fin 64) (s : State) (old : Lsa × Nat → Bool) (l : _),
      old = (fun e => (!idValid e.1.idByte || idOfByte e.1.idByte == chip.val) && decide (e.2 + 480000000 ≤ s.now)) ∧
      l = s.zoant.lsdb.filter (fun e => !old e) ∧ (s.zoant.lsdb.any old = true)) ∧
    (∃ (s : State) (t : State) (own : Bool), own = (s.electedRegistrar != 0 && s.electedRegistrar.toNat == s.serial) ∧
      t = ({ s with zoant.registrar := s.electedRegistrar, zoant.thetas := [] } : State).setFlag F.ZFB_ID_REGISTRAR own
        ∧
      (s.electedRegistrar ≠ s.zoant.registrar ∧ s.zoant.changedAt + 1200000 ≤ s.now)) ∧
    (∃ (p : Packet) (s : State) (t : State),
      t = ((setDistrict (p.u32 0) s).setFld F.ZFB_TIME_CFG_RATE (p.u16 4)).setFld F.ZFB_TIME_CFG_ALIGN_THR (p.u16 6) ∧
      (Served 16 coreModes p s ∧ 1 ≤ p.u16 4 ∧ p.u16 4 ≤ 1000 ∧ 3 ≤ p.u16 6 ∧ p.u16 6 ≤ 12000 ∧ 1200000 ≤ p.u32 8 ∧
      p.u32 8 ≤ 120000000 ∧ p.dirty 12 4 = false ∧ (p.u32 0 = s.district ∨ s.inMode [.calibrate, .test] = true))) ∧
    (∃ (p : Packet) (s : State), (Served 0 coreModes p s)) ∧
    (∃ (p : Packet) (s : State) (le : Nat) (o : HandoverNode) (l : List Handover), o = s.offerOf (p.u32 0) le ∧
      l = s.zoant.handovers ++ [
        { source := true, eui := o.eui, node := p.u32 0, other := p.u8 4, newId := 0, cell := 0, eh := 0, ehAnchor := 0, leaseEvents := le, cmd := some s.interp.nextSeq, ready := false, switched := false, committed := false, acked := false, plain := false, offer := none, reused := false, heardAt := s.now }]
        ∧
      (Served 8 [.service] p s ∧ p.u32 0 < broadcastId ∧ p.u8 4 < 64 ∧ s.chipId ≠ some (p.u8 4) ∧ p.u8 5 ≤ 16 ∧
      (p.u8 5 = 0 → le = 4) ∧ (p.u8 5 ≠ 0 → le = p.u8 5) ∧ p.dirty 6 2 = false ∧ s.district ≠ 0 ∧ s.chipId ≠ none ∧
      s.hoBarred (p.u32 0) = false ∧ s.reachable (p.u8 4) = true ∧ s.flag F.ZFB_ID_ALIGNED = true ∧
      entryBits (s.froute (p.u8 4)) 2 2 1 ≠ 0)) ∧
    (∃ (s : State), (s.zoant.syncAt ≤ s.now ∧ s.inMode [.ember] = false)) ∧
    (∃ (s : State), (s.zoant.renewAt ≤ s.now ∧ s.coresWork = true)) ∧
    (∃ (chip : Fin 64) (s : State) (t : State) (owner : Nat) (ctx : Bool) (hos : List Handover),
      owner = 0x40 + chip.val ∧
      ctx = (decide (s.zoant.ctxHeard.get 0 chip.val + s.leaseTmo ≤ s.now) && (s.ctxOf owner).isSome) ∧
      hos = s.zoant.handovers.filter (fun h => h.other == chip.val && decide (h.heardAt + s.leaseTmo ≤ s.now)) ∧
      t = (if ctx then resVanishAll 4 owner owner (abandonOf 4 owner owner s) else s) ∧ (ctx = false ∧ hos = [])) ∧
    (∃ (chip : Fin 64) (s : State) (t : State) (owner : Nat) (ctx : Bool) (hos : List Handover),
      owner = 0x40 + chip.val ∧
      ctx = (decide (s.zoant.ctxHeard.get 0 chip.val + s.leaseTmo ≤ s.now) && (s.ctxOf owner).isSome) ∧
      hos = s.zoant.handovers.filter (fun h => h.other == chip.val && decide (h.heardAt + s.leaseTmo ≤ s.now)) ∧
      t = (if ctx then resVanishAll 4 owner owner (abandonOf 4 owner owner s) else s) ∧ ((ctx = true ∨ hos ≠ []))) :=
  ⟨⟨3, (st .kindling).setBit F.ZFB_CTL_PORT_EN 3 true, by decide +kernel⟩,
   ⟨3, setPortState 3 1 (st .service), by decide +kernel⟩,
   ⟨3, setPortState 3 1 (st .service), by decide +kernel⟩,
   ⟨3, setPortState 3 2 (st .service), _, _, rfl, rfl, by decide +kernel⟩,
   ⟨3, ⟨0, false, 0, 0, 8, 0, 32, false, .sync false⟩, setPortState 3 2 (st .service), by decide +kernel⟩,
   ⟨3, ⟨0, false, 0, 0, 8, 0, 32, true, .sync false⟩, setPortState 3 2 (st .service), _, rfl, by decide +kernel⟩,
   ⟨3, ⟨0, false, 0, 0, 8, 0, 32, true, .hello 1 0 0 0 0 false false false 0⟩, 1, 0, 0, 0, 0, 0, false, false, false,
     setPortState 3 5 (st .service), _, _, rfl, rfl, by decide +kernel⟩,
   ⟨{ (st .service).setFld F.ZFB_DISTRICT_DISTRICT_ID 1 with zoant.lsaSent := some ((st .service).setFld F.ZFB_DISTRICT_DISTRICT_ID 1).ownLsa },
     _, rfl, ⟨fun _ => ⟨_, rfl, by decide +kernel⟩, fun _ => rfl⟩, by decide +kernel⟩,
   ⟨(st .service).setFld F.ZFB_DISTRICT_DISTRICT_ID 1, true, _, _, rfl, rfl, ⟨(fun h => nomatch h), fun ⟨l, h, _⟩ => nomatch (show (none : Option Lsa) = some l from h)⟩, by decide +kernel⟩,
   ⟨63, { st .service 480000000 with zoant.lsdb := [(⟨1, 0, 0x7F, false, false, false, []⟩, 0)] }, _, _, rfl, rfl,
     by decide +kernel⟩,
   ⟨{ (st .service 1200000).setFld F.ZFB_DISTRICT_DISTRICT_ID 1 with otp := [(8, 5)] }, _, _, rfl, rfl,
     by decide +kernel⟩,
   ⟨pk 16 [0, 0, 0, 0, 0xE8, 3, 3, 0, 0x80, 0x4F, 0x12], emb, _, rfl, by unfold Served; decide +kernel⟩,
   ⟨pk 0 [], emb, by unfold Served; decide +kernel⟩,
   ⟨pk 8 [0xFE, 0xFF, 1, 0, 63, 16],
     ((setPortState 0 3
       ({ ((((st .service).setFld F.ZFB_DISTRICT_DISTRICT_ID 1).setFlag F.ZFB_ID_VALID true).setFld F.ZFB_ID_ID 1).setFlag F.ZFB_ID_ALIGNED true with zoant.froute := [(63, 0x040180)] })).setNf
       0x1FFFE N.STATE 3).setNf 0x1FFFE N.LOCAL 1,
     16, _, _, rfl, rfl, by unfold Served; decide +kernel⟩,
   ⟨st .service, by decide +kernel⟩,
   ⟨st .service, by decide +kernel⟩,
   ⟨63, st .service, _, _, _, _, rfl, rfl, rfl, rfl, by decide +kernel⟩,
   ⟨63, ctxs [(3, 0x7F)], _, _, _, _, rfl, rfl, rfl, rfl, by decide +kernel⟩⟩

/-! ### Ill-formed operands -/

theorem test_packet_of_wrong_length_refused : (Instr.cmdNop { pk 0 [] with len := 1 }).wf = false := by decide

theorem test_packet_too_long_refused : (Instr.cmdNop (pk 497 [])).wf = false := by decide +kernel

theorem test_packet_of_full_length_accepted : (Instr.cmdNop (pk 496 [])).wf = true := by decide +kernel

theorem test_unaligned_register_refused : (Instr.registerWrite .bar0 2 true 0).wf = false := by decide

theorem test_descriptor_of_no_node_refused : (Instr.txDescriptorIssue 0 { dsc with node := 0x20000 }).wf = false := by decide

theorem test_frame_of_wide_field_refused : (Instr.zoantFrameRx 0 ⟨64, false, 0, 0, 0, 0, 0, true, .sync false⟩ 0).wf = false := by
  decide

theorem test_requester_out_of_range_refused : (Instr.arbWindowEnd [⟨true, [54], [], false, false⟩]).wf = false := by decide

theorem test_no_word_spells_a_command : decodeTableWord 32 0 = none := rfl

/-! ### The specification's worked examples -/

/-- The machine in a mode, its registers at their reset values. -/
def rs (m : Mode) (now : Nat := 0) : State := { st m now with csr := csrReset }

/-- The 24 bytes of the command of the doorbell example (`01_planes_and_imter_commands.md`). -/
theorem test_packet_bytes :
    Packet.ofBytes ([0x01, 0x00, 0x31, 0x0C, 0x08, 0x00, 0x01, 0x83, 0x80, 0x41, 0x18, 0x2A, 0x01, 0x00, 0x00, 0x00,
      0x11, 0x22, 0x33, 0x44, 0x55, 0x66, 0x77, 0x88]) =
    ⟨0x0001, 0x0C31, 8, 1, 0x83, 5001200000, [0x11, 0x22, 0x33, 0x44, 0x55, 0x66, 0x77, 0x88]⟩ := by decide

/-- Its reply echoes the data, at the front of the queue and through a step. -/
theorem test_nop_echoes :
    (match step { rs .service with pending := [.cmdNop { pk 2 [0x11, 0x22] with issuer := 0x02 }] } with
     | .next t => (t.interp.fwReplies.map (fun r => (r.status, r.data)), t.pending)
     | _ => ([], [.cpStopped])) = ([(0, [0x11, 0x22])], []) := by decide +kernel

/-- Event 203 of node 0x04A3C hops to channel 92, event 204 to channel 19 (`06_medium_access_almanac.md`). -/
theorem test_hop :
    (hop (BitVec.ofNat 256 (2 ^ 128 - 1)) 203 19004 179, hop (BitVec.ofNat 256 (2 ^ 128 - 1)) 204 19004 179) = (92, 19) := by
  decide +kernel

/-- The gas meter's window at event 201 reaches from −20,550 to +26,010 about N (`06_medium_access_almanac.md`). -/
theorem test_window :
    (let s := (((rs .service).setFld F.MAC_ALM_CFG_SLOT_LEN 8).setFld F.MAC_DRIFT_CFG_G_MIN 7680).setFld F.MAC_SLOT_CFG_EV_OFS 100
     let s := (((s.setNf 5 N.DRIFT_RATE 40).setNf 5 N.DRIFT_VAR 300).setNf 5 N.TRUST 15).setNf 5 N.DRIFT_OFS 2730
     let w := s.windowAt 5 1200000 60000
     (w.lo, w.hi, w.g)) = (1320000 - 20550, 1320000 + 26010, 23280) := by decide +kernel

/-- The reading with counter 0x1F7 shifts the window; the late 0x1F5 fills it; 0x1F0 and 0x1D0 lie outside
(`08_frame_security_replay.md`). -/
theorem test_replay_example :
    (let s := acceptCtr 5 0x1F7 1 (((st .service).setNf 5 N.IN_CTR 0x1F6).setNf 5 N.IN_WIN 0xFFFFFFFD)
     let t := acceptCtr 5 0x1F5 2 s
     (s.nf 5 N.IN_CTR, s.nf 5 N.IN_WIN, t.nf 5 N.IN_WIN, t.digest 5, inWindow 0x1F7 0xFFFFFFFB 0x1F0,
      inWindow 0x1F7 0xFFFFFFFB 0x1D0)) = (0x1F7, 0xFFFFFFFB, 0xFFFFFFFF, 1, false, false) := by decide +kernel

/-- Entry 0 of the operator's profile, and entry 1 (`03_radio_front_end.md`). -/
theorem test_profile_entries :
    (let b := Band.of [0x8F0DC370, 0x4B0E2900, 0x0000000C, 0]
     let c := Band.of [0xD00295C2, 0x000295FE, 0x061A8000, 0x7088C100]
     ((b.lo, b.hi, b.maxDrive, b.dwellMs, b.dwellWin), (c.feast, c.maxDrive, c.dutyPpm, c.dutyWin, c.thresh, c.listen))) =
    ((902000, 928000, 60, 300, 12), (true, 64, 25000, 1800, 140, 16)) := by decide

/-- Tightening to MAX_DRIVE 56 takes effect; a later 62 leaves it at 56 (`03_radio_front_end.md`). -/
theorem test_tighten :
    (let s := { st .service with radio.profile := [0, 0, 0, 0, 0x8F0DC370, 0x4B0E2900, 0x0000000C, 0] }
     let t := runRfeRegTightenA 0x071FF800 s
     ((t.band 0).maxDrive, ((runRfeRegTightenA 0x07DFF800 t).band 0).maxDrive)) = (56, 56) := by decide +kernel

/-- A block whose largest component is −9,000 has exponent 7 (`04_sample_path_channelizer.md`). -/
theorem test_block_exponent : blockExp [100, -9000, 37] = 7 := by decide

/-- A long codeword at rate 1/2 with 12 iterations takes 804 ticks (`05_demodulation_decoding.md`). -/
theorem test_job_ticks : jobTicks ⟨0, false, 0, 0, 0, [], true, 0, []⟩ 12 = 804 := by decide

/-- The two halves read together belong to one capture (`02_calendar_timers_event_order.md`). -/
theorem test_capture_pair :
    (let s := { st .service with timers.caps := [(8, { Capture.reset with value := 0x25A0BC2F0 })] }
     let t := runCapValueLoRead .bar0 8 s
     let at' (x : Quad) (s : State) : State := capTake 8 { s with cal.copyA := x, cal.copyB := x, cal.copyC := x }
     let v := runCapValueHiRead .bar0 8 (at' 0x25A0BC310 (at' 0x25A0BC300 t))
     (t.readData, v.readData, (runCapValueLoRead .bar0 8 v).readData)) = (0x5A0BC2F0, 2, 0x5A0BC300) := by decide +kernel

/-- TIME_SLEW at 100 ppm alters one update in every 10,000 (`02_calendar_timers_event_order.md`). -/
theorem test_slew_step :
    (runTimeSlew (pk 8 [0x20, 0xD1, 0xFF, 0xFF, 0x64]) (rs .service)).cal.slewStep = 10000 := by decide +kernel

/-- Requester 0x34 at priority 6 with its quota used is masked, and not at priority 5 (`12_buffers_dma_mmu_arbiter.md`). -/
theorem test_arbiter_mask :
    (let s := { (rs .service).setFld ⟨0x110118, 16, 3⟩ 6 with bufs.arbCount := [(0x34, 64)] }
     let c : ArbCycle := ⟨true, [0x13, 0x34], [], false, false⟩
     (s.arbWinner c, (s.setFld ⟨0x110118, 16, 3⟩ 5).arbWinner c)) = (some 0x13, some 0x34) := by decide +kernel

/-- PPS_SET on a timer that another holds claims nothing, and answers RESOURCE_HELD with the entry and its holder
(`14_host_backhaul_management.md`). -/
theorem test_pps_resource_held :
    (let s := { st .service with host.owners := [(0x0607, 0x82)] }
     let t := runPpsSet (pk 16 [1, 7, 15, 0, 0x70, 0x17]) s
     (t.interp.fwReplies.map (fun r => r.data.take 3), t.host.owners)) = ([[0x07, 0x06, 0x82]], [(0x0607, 0x82)]) := by
  decide +kernel

/-- The input for LK of node 02-5A-E1-00-00-04-A3-C1 (`09_keys_attestation_debug.md`). -/
theorem test_kdf_input :
    kdfInput [0x6C, 0x69, 0x6E, 0x6B] [0x02, 0x5A, 0xE1, 0x00, 0x00, 0x04, 0xA3, 0xC1] =
    [0, 0, 0, 1, 0x6C, 0x69, 0x6E, 0x6B, 0, 0x02, 0x5A, 0xE1, 0x00, 0x00, 0x04, 0xA3, 0xC1, 0, 0, 0, 0x80] := by decide

/-- A takeover 4,678 ticks after the last ledger update raises buckets by 156 µs (`13_zoant_fabric_pairs.md`). -/
theorem test_takeover_raise :
    ((takeoverLedgers ((4 * 4678 + 119) / 120)
      { st .service with radio.profile := [0, 0, 0, 0, 0xD00295C2, 0x000295FE, 0x061A8000, 0x7088C100] }).feastVoted (feastKey 0 (feastSec 0))) = 156 := by
  decide +kernel

/-- The slow advance of the EMBER example: PHASE 59 steps to 2 with 3,663 ticks, then to 9 with 3,662
(`02_calendar_timers_event_order.md`). -/
theorem test_slow_step : (slowStep 59, slowStep 2) = ((3663, 2), (3662, 9)) := by decide

/-- PORESET_N going high releases the calendar, in COLD (R470). -/
theorem test_power_on :
    (match exec .poresetDeassert State.reset with
     | .next t => (t.cal.porLow, t.seq.mode)
     | _ => (true, .test)) = (false, .cold) := by decide +kernel

/-- SHA-256 of "abc" (FIPS 180-4), and the substitution of 0x53 (FIPS 197): the standards of R8. -/
theorem test_sha256_abc : sha256 [0x61, 0x62, 0x63] =
    0xBA7816BF8F01CFEA414140DE5DAE2223B00361A396177A9CB410FF61F20015AD#256 := by decide +kernel

theorem test_aes_substitution : aesSub 0x53 = 0xED := by decide +kernel

end Sys2Proof.Tests
end

/-! The slow advance (R66): what one SLOW_CLK edge makes of the copies, of PHASE and of CALCNT, and what any number
of consecutive edges makes of them. -/

namespace Sys2Proof.Machine

/-! ### Advancing the copies -/

/-- The calendar with each copy advanced by `n`, modulo 2^64. -/
def Calendar.advance (n : Nat) (c : Calendar) : Calendar :=
  { c with copyA := c.copyA + BitVec.ofNat 64 n, copyB := c.copyB + BitVec.ofNat 64 n,
           copyC := c.copyC + BitVec.ofNat 64 n }

@[simp] theorem Calendar.advance_copyA (n : Nat) (c : Calendar) :
    (c.advance n).copyA = c.copyA + BitVec.ofNat 64 n := rfl
@[simp] theorem Calendar.advance_copyB (n : Nat) (c : Calendar) :
    (c.advance n).copyB = c.copyB + BitVec.ofNat 64 n := rfl
@[simp] theorem Calendar.advance_copyC (n : Nat) (c : Calendar) :
    (c.advance n).copyC = c.copyC + BitVec.ofNat 64 n := rfl

@[simp] theorem Calendar.advance_zero (c : Calendar) : c.advance 0 = c := by simp [Calendar.advance]

theorem Calendar.advance_advance (m n : Nat) (c : Calendar) : (c.advance m).advance n = c.advance (m + n) := by
  simp [Calendar.advance, BitVec.ofNat_add, BitVec.add_assoc]

@[simp] theorem addTicks_cal (n : Nat) (s : State) : (addTicks n s).cal = s.cal.advance n := rfl

@[simp] theorem addTicks_fld (n : Nat) (s : State) (f : Field) : (addTicks n s).fld f = s.fld f := rfl

/-- Copies that advance alike keep their agreements, so the majority advances with them. -/
theorem vote_add (a b c d : Quad) : vote (a + d) (b + d) (c + d) = vote a b c + d := by
  simp only [vote, BitVec.add_left_inj]
  split
  · rfl
  · split <;> rfl

/-- CALCNT advances with its copies, with or without a calendar fault. -/
theorem addTicks_now (n : Nat) (s : State) : (addTicks n s).now = (s.now + n) % 2 ^ 64 := by
  have hflag : (addTicks n s).flag F.TMB_STAT_CAL_FAULT = s.flag F.TMB_STAT_CAL_FAULT := rfl
  unfold State.now
  rw [hflag]
  split <;> simp [vote_add]

/-! ### One edge -/

theorem slowStep_fst (ph : Nat) : (slowStep ph).1 = if 64 ≤ ph + 7 then 3663 else 3662 := by
  unfold slowStep
  split <;> rfl

theorem slowStep_snd (ph : Nat) : (slowStep ph).2 = if 64 ≤ ph + 7 then ph + 7 - 64 else ph + 7 := by
  unfold slowStep
  split <;> rfl

/-- The step as a division: the carry out of PHASE is the tick above 3,662. -/
theorem slowStep_eq {ph : Nat} (h : ph < 64) : slowStep ph = (3662 + (ph + 7) / 64, (ph + 7) % 64) := by
  unfold slowStep
  split <;> ext <;> simp only <;> omega

/-- PHASE is a field of 6 bits. -/
theorem phase_lt (s : State) : s.fld F.TMB_STAT_PHASE < 64 := Nat.mod_lt _ (by decide)

theorem slowEdge_cal (s : State) :
    (slowEdge s).cal = s.cal.advance (slowStep (s.fld F.TMB_STAT_PHASE)).1 := rfl

theorem slowEdge_phase (s : State) :
    (slowEdge s).fld F.TMB_STAT_PHASE = (slowStep (s.fld F.TMB_STAT_PHASE)).2 := by
  have hlt : (slowStep (s.fld F.TMB_STAT_PHASE)).2 < 2 ^ F.TMB_STAT_PHASE.width := by
    rw [slowStep_eq (phase_lt s)]
    exact Nat.mod_lt _ (by decide)
  unfold slowEdge
  rw [addTicks_fld, State.fld_setFld_same _ _ _ (by decide), Nat.mod_eq_of_lt hlt]

/-- A write of PHASE leaves CALCNT as it was. -/
theorem setPhase_now (v : Nat) (s : State) : (s.setFld F.TMB_STAT_PHASE v).now = s.now := by
  have hflag : (s.setFld F.TMB_STAT_PHASE v).flag F.TMB_STAT_CAL_FAULT = s.flag F.TMB_STAT_CAL_FAULT := by
    unfold State.flag
    rw [State.fld_setFld_apart s _ _ v (by decide)]
  unfold State.now
  rw [hflag, State.setFld_cal]

theorem slowEdge_now (s : State) :
    (slowEdge s).now = (s.now + (slowStep (s.fld F.TMB_STAT_PHASE)).1) % 2 ^ 64 := by
  unfold slowEdge
  rw [addTicks_now, setPhase_now]

/-! ### Consecutive edges -/

/-- `n` consecutive SLOW_CLK edges. -/
def slowEdges (n : Nat) (s : State) : State := (List.range n).foldl (fun s _ => slowEdge s) s

theorem slowEdges_succ (n : Nat) (s : State) : slowEdges (n + 1) s = slowEdge (slowEdges n s) := by
  simp [slowEdges, List.range_succ]

theorem slowEdges_phase (n : Nat) (s : State) :
    (slowEdges n s).fld F.TMB_STAT_PHASE = (s.fld F.TMB_STAT_PHASE + 7 * n) % 64 := by
  induction n with
  | zero => exact (Nat.mod_eq_of_lt (phase_lt s)).symm
  | succ n ih =>
    rw [slowEdges_succ, slowEdge_phase, slowStep_eq (phase_lt _), ih]
    omega

/-- Each edge adds 3,662, and one tick more for each carry out of PHASE. -/
theorem slowEdges_cal (n : Nat) (s : State) :
    (slowEdges n s).cal = s.cal.advance (3662 * n + (s.fld F.TMB_STAT_PHASE + 7 * n) / 64) := by
  induction n with
  | zero => simp [slowEdges, Nat.div_eq_of_lt (phase_lt s)]
  | succ n ih =>
    rw [slowEdges_succ, slowEdge_cal, ih, Calendar.advance_advance, slowStep_eq (phase_lt _), slowEdges_phase]
    congr 1
    omega

/-- 64 edges carry out of PHASE 7 times, whatever PHASE was: 64 × 3,662 + 7 ticks. -/
theorem slowEdges_64_cal (s : State) : (slowEdges 64 s).cal = s.cal.advance 234375 := by
  have hph := phase_lt s
  rw [slowEdges_cal]
  congr 1
  omega

theorem slowEdges_64_phase (s : State) : (slowEdges 64 s).fld F.TMB_STAT_PHASE = s.fld F.TMB_STAT_PHASE := by
  have hph := phase_lt s
  rw [slowEdges_phase]
  omega

/-- Settles O25: one edge by the two components of `slowStep`, 64 edges from the closed form of `n` edges. -/
theorem slowAdvance : Obligations.SlowAdvance := by
  unfold Obligations.SlowAdvance
  refine ⟨?edge, ?edges64⟩
  case edge =>
    rintro s ph inc rfl rfl
    rw [slowEdge_phase, slowEdge_cal, slowEdge_now, slowStep_fst, slowStep_snd]
    exact ⟨rfl, rfl, rfl, rfl, fun _ _ hlt => Nat.mod_eq_of_lt hlt⟩
  case edges64 =>
    rintro s t (rfl : t = slowEdges 64 s)
    rw [slowEdges_64_cal, slowEdges_64_phase]
    exact ⟨rfl, rfl, rfl, rfl⟩

end Sys2Proof.Machine

/-! The replay window (R263): reads of a ledger entry's fields after a write, the window that an accepted counter
leaves, and what that window refuses. -/

namespace Sys2Proof.Machine

/-! ### Fields of an entry -/

/-- A field's bits are those of the entry from its place on. -/
theorem NField.read_bit (f : NField) (e : BitVec 512) (i : Nat) :
    (f.read e).testBit i = (decide (i < f.width) && e.toNat.testBit (f.shift + i)) := by
  rw [NField.read, Nat.testBit_mod_two_pow, Nat.testBit_div_two_pow, Nat.add_comm]

theorem NField.read_lt (f : NField) (e : BitVec 512) : f.read e < 2 ^ f.width := Nat.mod_lt _ (Nat.two_pow_pos _)

/-- A write replaces the field's bits and no others. -/
theorem NField.write_bit (f : NField) (v : Nat) (e : BitVec 512) (h : f.shift + f.width ≤ 512) (i : Nat) :
    (f.write v e).toNat.testBit i =
      if f.shift ≤ i ∧ i < f.shift + f.width then v.testBit (i - f.shift) else e.toNat.testBit i := by
  -- the bits below the field stay, the field becomes `v`, the bits above it stay
  have hsplit : e.toNat - f.read e * 2 ^ f.shift + v % 2 ^ f.width * 2 ^ f.shift =
      2 ^ f.shift * (2 ^ f.width * (e.toNat / 2 ^ f.shift / 2 ^ f.width) + v % 2 ^ f.width) +
        e.toNat % 2 ^ f.shift := by
    have hlow := Nat.div_add_mod e.toNat (2 ^ f.shift)
    have hmid : 2 ^ f.width * (e.toNat / 2 ^ f.shift / 2 ^ f.width) + f.read e = e.toNat / 2 ^ f.shift :=
      Nat.div_add_mod _ _
    rw [← hmid, Nat.mul_add] at hlow
    rw [Nat.mul_add, Nat.mul_comm (f.read e), Nat.mul_comm (v % 2 ^ f.width)]
    omega
  rw [NField.write, hsplit, BitVec.testBit_toNat, BitVec.getLsbD_ofNat,
    Nat.testBit_two_pow_mul_add _ (Nat.mod_lt _ (Nat.two_pow_pos _)),
    Nat.testBit_two_pow_mul_add _ (Nat.mod_lt _ (Nat.two_pow_pos _))]
  simp only [Nat.testBit_mod_two_pow, Nat.testBit_div_two_pow]
  by_cases hlo : i < f.shift
  · simp [hlo, show ¬f.shift ≤ i by omega, show i < 512 by omega]
  by_cases hhi : i < f.shift + f.width
  · simp [hlo, hhi, show f.shift ≤ i by omega, show i < 512 by omega, show i - f.shift < f.width by omega]
  · have hpos : i - f.shift - f.width + f.width + f.shift = i := by omega
    simp only [hlo, hhi, show ¬i - f.shift < f.width by omega, hpos, and_false, if_false, BitVec.testBit_toNat]
    by_cases h512 : i < 512
    · simp [h512]
    · rw [BitVec.getLsbD_of_ge e i (by omega), Bool.and_false]

/-- A field of an entry read after it was written. -/
theorem NField.read_write_same (f : NField) (v : Nat) (e : BitVec 512) (h : f.shift + f.width ≤ 512) :
    f.read (f.write v e) = v % 2 ^ f.width := by
  apply Nat.eq_of_testBit_eq
  intro i
  rw [NField.read_bit, NField.write_bit f v e h, Nat.testBit_mod_two_pow]
  by_cases hi : i < f.width
  · simp [hi]
  · simp [hi]

/-- Two fields of an entry that share no bit. -/
def NField.apart (f g : NField) : Bool :=
  f.shift + f.width ≤ 512 && (g.shift + g.width ≤ f.shift || f.shift + f.width ≤ g.shift)

/-- A write of a field leaves every field of the entry that shares no bit with it. -/
theorem NField.read_write_apart (f g : NField) (v : Nat) (e : BitVec 512) (h : f.apart g = true) :
    g.read (f.write v e) = g.read e := by
  simp only [NField.apart, Bool.and_eq_true, Bool.or_eq_true, decide_eq_true_eq] at h
  obtain ⟨hfit, hdisj⟩ := h
  apply Nat.eq_of_testBit_eq
  intro i
  rw [NField.read_bit, NField.read_bit, NField.write_bit f v e hfit]
  by_cases hi : i < g.width
  · rw [if_neg (by omega)]
  · simp [hi]

theorem mirroredBit_bit (i : Nat) : mirroredBit.getLsbD i = decide (i = 69) := by
  rw [mirroredBit, BitVec.getLsbD_ofNat, Nat.testBit_two_pow]
  by_cases hi : i = 69
  · simp [hi]
  · simp [hi, Ne.symm hi]

/-- Masking MIRRORED out of an entry writes 0 to it. -/
theorem clear_mirrored_eq_write (e : BitVec 512) : e &&& ~~~mirroredBit = N.MIRRORED.write 0 e := by
  apply BitVec.eq_of_getLsbD_eq
  intro i hi
  rw [← BitVec.testBit_toNat (N.MIRRORED.write 0 e), NField.write_bit _ _ _ (by decide), BitVec.getLsbD_and,
    BitVec.getLsbD_not, mirroredBit_bit, BitVec.testBit_toNat, Nat.zero_testBit]
  simp only [NField.shift, N.MIRRORED]
  by_cases h69 : i = 69
  · simp [h69]
  · simp [h69, hi, show ¬(69 ≤ i ∧ i < 70) by omega]

/-! ### The ledger -/

@[simp] theorem State.putNode_node (id : Nat) (e : BitVec 512) (s : State) : (s.putNode id e).node id = e :=
  Sparse.get_set_same _ _ _ _

theorem State.setNode_node_other (e : BitVec 512) (s : State) {id other : Nat} (h : other ≠ id) :
    (s.setNode id e).node other = s.node other := by
  unfold State.setNode
  split
  · exact Sparse.get_set_other _ _ _ h
  · exact Sparse.get_set_other _ _ _ h

/-- A field other than MIRRORED reads what an entry's write gave it (R439). -/
theorem State.setNode_nf (id : Nat) (e : BitVec 512) (s : State) (f : NField) (h : N.MIRRORED.apart f = true) :
    (s.setNode id e).nf id f = f.read e := by
  unfold State.setNode State.nf
  split
  · rw [State.putNode_node]
  · rw [State.putNode_node, clear_mirrored_eq_write, NField.read_write_apart _ _ _ _ h]

@[simp] theorem State.setNode_digest (id : Nat) (e : BitVec 512) (s : State) (other : Nat) :
    (s.setNode id e).digest other = s.digest other := by
  unfold State.setNode
  split <;> rfl

@[simp] theorem State.setNode_csr (id : Nat) (e : BitVec 512) (s : State) : (s.setNode id e).csr = s.csr := by
  unfold State.setNode
  split <;> rfl

@[simp] theorem State.setDigest_digest (id : Nat) (w : Word) (s : State) : (s.setDigest id w).digest id = w :=
  Sparse.get_set_same _ _ _ _

theorem State.setDigest_digest_other (w : Word) (s : State) {id other : Nat} (h : other ≠ id) :
    (s.setDigest id w).digest other = s.digest other := Sparse.get_set_other _ _ _ h

@[simp] theorem State.setDigest_node (id : Nat) (w : Word) (s : State) (other : Nat) :
    (s.setDigest id w).node other = s.node other := rfl

@[simp] theorem State.setDigest_nf (id : Nat) (w : Word) (s : State) (other : Nat) (f : NField) :
    (s.setDigest id w).nf other f = s.nf other f := rfl

@[simp] theorem State.setDigest_csr (id : Nat) (w : Word) (s : State) : (s.setDigest id w).csr = s.csr := rfl

/-! ### What a window refuses -/

/-- A counter is refused when it lies below the newest, and out of the window's reach or with its bit set. -/
theorem inWindow_eq_false_iff (a w x : Nat) :
    inWindow a w x = false ↔ x < a ∧ (a - x < 32 → w.testBit (a - x) = true) := by
  rw [Nat.testBit_eq_decide_div_mod_eq]
  simp [inWindow]

/-- The window `w` below the newest counter `a` after counter `c` was accepted (R263). -/
def acceptedWin (a w c : Nat) : Nat :=
  if a < c then (if 32 ≤ c - a then 1 else w * 2 ^ (c - a) % 2 ^ 32 ||| 1) else w ||| 2 ^ (a - c)

theorem acceptedWin_of_lt {a c : Nat} (w : Nat) (h : a < c) :
    acceptedWin a w c = if 32 ≤ c - a then 1 else w * 2 ^ (c - a) % 2 ^ 32 ||| 1 := if_pos h

theorem acceptedWin_of_le {a c : Nat} (w : Nat) (h : c ≤ a) : acceptedWin a w c = w ||| 2 ^ (a - c) :=
  if_neg (Nat.not_lt.2 h)

/-- The shift leaves bit 0 clear, so adding the newest's bit sets it. -/
theorem shifted_add_one (w : Nat) {d : Nat} (h : 0 < d) :
    w * 2 ^ d % 2 ^ 32 + 1 = w * 2 ^ d % 2 ^ 32 ||| 1 := by
  obtain ⟨k, rfl⟩ := Nat.exists_eq_succ_of_ne_zero (Nat.ne_of_gt h)
  have heven : w * 2 ^ (k + 1) % 2 ^ 32 = 2 ^ 1 * (w * 2 ^ k % 2 ^ 31) := by
    rw [Nat.pow_succ, ← Nat.mul_assoc]
    omega
  rw [Nat.succ_eq_add_one, heven]
  exact Nat.two_pow_add_eq_or_of_lt (by decide) _

/-- Each bit of the window moves up by the distance to the new newest, as far as the window reaches. -/
theorem acceptedWin_bit_of_lt {a c i : Nat} (w : Nat) (h : a < c) (hi : i < 32) (hd : c - a ≤ i) :
    (acceptedWin a w c).testBit i = w.testBit (i - (c - a)) := by
  have hnewest : Nat.testBit 1 i = false := Nat.testBit_two_pow_of_ne (n := 0) (by omega)
  rw [acceptedWin_of_lt w h, if_neg (by omega), Nat.testBit_or, Nat.testBit_mod_two_pow, Nat.testBit_mul_two_pow]
  simp [hi, hd, hnewest]

theorem acceptedWin_bit_of_le {a c : Nat} (w i : Nat) (h : c ≤ a) :
    (acceptedWin a w c).testBit i = (w.testBit i || decide (a - c = i)) := by
  rw [acceptedWin_of_le w h, Nat.testBit_or, Nat.testBit_two_pow]

/-- A refused counter stays refused, whatever counter is accepted. -/
theorem acceptedWin_keeps_refused {a w x : Nat} (c : Nat) (h : inWindow a w x = false) :
    inWindow (max a c) (acceptedWin a w c) x = false := by
  rw [inWindow_eq_false_iff] at h ⊢
  obtain ⟨hx, hbit⟩ := h
  by_cases hc : a < c
  · rw [Nat.max_eq_right (Nat.le_of_lt hc)]
    refine ⟨by omega, fun hreach => ?_⟩
    rw [acceptedWin_bit_of_lt w hc hreach (by omega), show c - x - (c - a) = a - x by omega]
    exact hbit (by omega)
  · rw [Nat.max_eq_left (by omega)]
    refine ⟨hx, fun hreach => ?_⟩
    rw [acceptedWin_bit_of_le w _ (by omega), hbit hreach, Bool.true_or]

/-- A counter accepted below the newest is refused from then on. -/
theorem acceptedWin_refuses_accepted {a c : Nat} (w : Nat) (h : c < a) :
    inWindow a (acceptedWin a w c) c = false := by
  rw [inWindow_eq_false_iff]
  refine ⟨h, fun _ => ?_⟩
  rw [acceptedWin_bit_of_le w _ (Nat.le_of_lt h), decide_eq_true rfl, Bool.or_true]

/-- The newest, once accepted itself, is refused when a higher counter takes its place. -/
theorem acceptedWin_refuses_former {a c w : Nat} (h : a < c) (hw : w % 2 = 1) :
    inWindow c (acceptedWin a w c) a = false := by
  rw [inWindow_eq_false_iff]
  refine ⟨h, fun hreach => ?_⟩
  rw [acceptedWin_bit_of_lt w h hreach (Nat.le_refl _), Nat.sub_self, Nat.testBit_zero, hw]
  rfl

/-- The window stays a 32-bit word when the counter passed the check of R262, step 3. -/
theorem acceptedWin_lt {a w c : Nat} (hw : w < 2 ^ 32) (h : inWindow a w c = true) : acceptedWin a w c < 2 ^ 32 := by
  by_cases hc : a < c
  · rw [acceptedWin_of_lt w hc]
    split
    · decide
    · exact Nat.or_lt_two_pow (Nat.mod_lt _ (by decide)) (by decide)
  · have hreach : a - c < 32 := by
      simp only [inWindow, Bool.or_eq_true, Bool.and_eq_true, decide_eq_true_eq] at h
      obtain hle | ⟨hlt, -⟩ := h
      · omega
      · exact hlt
    rw [acceptedWin_of_le w (by omega)]
    exact Nat.or_lt_two_pow hw (Nat.pow_lt_pow_right (by decide) hreach)

/-! ### The write of an accepted frame -/

/-- An entry with newest counter `a` and window `w` after counter `c` was accepted. -/
def acceptedEntry (a w c : Nat) (e : BitVec 512) : BitVec 512 :=
  if a < c then N.IN_CTR.write c (N.IN_WIN.write (acceptedWin a w c) e) else N.IN_WIN.write (acceptedWin a w c) e

theorem acceptedEntry_read_inCtr {a w c : Nat} {e : BitVec 512} (ha : a = N.IN_CTR.read e) (hc : c < 2 ^ 32) :
    N.IN_CTR.read (acceptedEntry a w c e) = max a c := by
  unfold acceptedEntry
  split
  case isTrue h =>
    rw [NField.read_write_same _ _ _ (by decide), Nat.max_eq_right (Nat.le_of_lt h)]
    exact Nat.mod_eq_of_lt hc
  case isFalse h => rw [NField.read_write_apart _ _ _ _ (by decide), Nat.max_eq_left (Nat.not_lt.1 h), ha]

theorem acceptedEntry_read_inWin {a w c : Nat} (e : BitVec 512) (hw : w < 2 ^ 32) (h : inWindow a w c = true) :
    N.IN_WIN.read (acceptedEntry a w c e) = acceptedWin a w c := by
  have hwrite : N.IN_WIN.read (N.IN_WIN.write (acceptedWin a w c) e) = acceptedWin a w c := by
    rw [NField.read_write_same _ _ _ (by decide)]
    exact Nat.mod_eq_of_lt (acceptedWin_lt hw h)
  unfold acceptedEntry
  split
  · rw [NField.read_write_apart _ _ _ _ (by decide), hwrite]
  · exact hwrite

theorem acceptedEntry_read_apart (a w c : Nat) (e : BitVec 512) (f : NField) (hctr : N.IN_CTR.apart f = true)
    (hwin : N.IN_WIN.apart f = true) : f.read (acceptedEntry a w c e) = f.read e := by
  unfold acceptedEntry
  split
  · rw [NField.read_write_apart _ _ _ _ hctr, NField.read_write_apart _ _ _ _ hwin]
  · rw [NField.read_write_apart _ _ _ _ hwin]

/-- An accepted frame is one write of its entry; a frame below the newest leaves no digest (R263). -/
theorem acceptCtr_eq (id c : Nat) (digest : Word) (s : State) (a w : Nat) (ha : a = s.nf id N.IN_CTR)
    (hw : w = s.nf id N.IN_WIN) :
    acceptCtr id c digest s =
      if c < a then s.setNode id (acceptedEntry a w c (s.node id))
      else (s.setNode id (acceptedEntry a w c (s.node id))).setDigest id digest := by
  unfold acceptCtr acceptedEntry
  rw [← ha, ← hw]
  rcases Nat.lt_trichotomy a c with habove | rfl | hbelow
  case inl =>
    simp only [habove, Nat.lt_asymm habove, if_true, if_false, acceptedWin_of_lt]
    split
    · rfl
    · rw [shifted_add_one w (by omega)]
  case inr.inl =>
    simp only [Nat.lt_irrefl, if_false, acceptedWin_of_le w (Nat.le_refl a), Nat.sub_self, Nat.pow_zero, State.setNf]
  case inr.inr =>
    simp only [hbelow, Nat.lt_asymm hbelow, if_true, if_false, acceptedWin_of_le w (Nat.le_of_lt hbelow), State.setNf]

section
variable (id c : Nat) (digest : Word) (s : State)

/-- A field other than MIRRORED reads what the accepted entry holds. -/
theorem acceptCtr_nf (f : NField) (h : N.MIRRORED.apart f = true) :
    (acceptCtr id c digest s).nf id f =
      f.read (acceptedEntry (s.nf id N.IN_CTR) (s.nf id N.IN_WIN) c (s.node id)) := by
  rw [acceptCtr_eq id c digest s _ _ rfl rfl]
  split
  · exact State.setNode_nf _ _ _ f h
  · exact State.setNode_nf _ _ _ f h

theorem acceptCtr_inCtr (hc : c < 2 ^ 32) :
    (acceptCtr id c digest s).nf id N.IN_CTR = max (s.nf id N.IN_CTR) c := by
  rw [acceptCtr_nf _ _ _ _ _ (by decide)]
  exact acceptedEntry_read_inCtr rfl hc

theorem acceptCtr_inWin (h : inWindow (s.nf id N.IN_CTR) (s.nf id N.IN_WIN) c = true) :
    (acceptCtr id c digest s).nf id N.IN_WIN = acceptedWin (s.nf id N.IN_CTR) (s.nf id N.IN_WIN) c := by
  rw [acceptCtr_nf _ _ _ _ _ (by decide), acceptedEntry_read_inWin _ (NField.read_lt _ _) h]

theorem acceptCtr_nf_apart (f : NField) (hm : N.MIRRORED.apart f = true) (hctr : N.IN_CTR.apart f = true)
    (hwin : N.IN_WIN.apart f = true) : (acceptCtr id c digest s).nf id f = s.nf id f := by
  rw [acceptCtr_nf _ _ _ _ f hm, acceptedEntry_read_apart _ _ _ _ f hctr hwin]
  rfl

theorem acceptCtr_digest :
    (acceptCtr id c digest s).digest id = if c < s.nf id N.IN_CTR then s.digest id else digest := by
  rw [acceptCtr_eq id c digest s _ _ rfl rfl]
  split
  · exact State.setNode_digest _ _ _ _
  · exact State.setDigest_digest _ _ _

theorem acceptCtr_other {other : Nat} (h : other ≠ id) :
    (acceptCtr id c digest s).node other = s.node other ∧ (acceptCtr id c digest s).digest other = s.digest other := by
  rw [acceptCtr_eq id c digest s _ _ rfl rfl]
  split
  · exact ⟨State.setNode_node_other _ _ h, State.setNode_digest _ _ _ _⟩
  · rw [State.setDigest_node, State.setDigest_digest_other _ _ h]
    exact ⟨State.setNode_node_other _ _ h, State.setNode_digest _ _ _ _⟩

theorem acceptCtr_csr : (acceptCtr id c digest s).csr = s.csr := by
  rw [acceptCtr_eq id c digest s _ _ rfl rfl]
  split
  · exact State.setNode_csr _ _ _
  · rw [State.setDigest_csr, State.setNode_csr]

end

/-- Settles O52: the newest counter, the window and the digest after the write, then what the window refuses by the
bits that the accepted counter moves and sets. -/
theorem replayWindow : Obligations.ReplayWindow := by
  unfold Obligations.ReplayWindow
  rintro id c a w digest s t - hc rfl rfl hin rfl
  rw [acceptCtr_inCtr id c digest s hc, acceptCtr_inWin id c digest s hin, acceptCtr_digest]
  refine ⟨fun habove => ?above, fun hbelow => ?below, fun hequal => ?equal,
    fun _ _ hx => acceptedWin_keeps_refused c hx, fun hbelow => ?refusesAccepted, fun habove hbit => ?refusesFormer, acceptCtr_nf_apart _ _ _ _ _ rfl rfl rfl,
    acceptCtr_nf_apart _ _ _ _ _ rfl rfl rfl, fun _ => acceptCtr_other id c digest s, acceptCtr_csr id c digest s⟩
  case above =>
    exact ⟨Nat.max_eq_right (Nat.le_of_lt habove), if_neg (Nat.lt_asymm habove), acceptedWin_of_lt _ habove⟩
  case below =>
    exact ⟨Nat.max_eq_left (Nat.le_of_lt hbelow), if_pos hbelow, acceptedWin_of_le _ (Nat.le_of_lt hbelow)⟩
  case equal =>
    refine ⟨Nat.max_eq_left (Nat.le_of_eq hequal), if_neg (hequal ▸ Nat.lt_irrefl _), ?_⟩
    rw [acceptedWin_of_le _ (Nat.le_of_eq hequal), hequal, Nat.sub_self, Nat.pow_zero]
  case refusesAccepted =>
    rw [Nat.max_eq_left (Nat.le_of_lt hbelow)]
    exact acceptedWin_refuses_accepted _ hbelow
  case refusesFormer =>
    rw [Nat.max_eq_right (Nat.le_of_lt habove)]
    exact acceptedWin_refuses_former habove hbit

end Sys2Proof.Machine

/-! LDG_LOCK (R337): reads of a transaction context after a write and after a reply, the three answers of the
operation, and why no requester ends with two contexts. -/

namespace Sys2Proof.Machine

open Sys2Proof.Claims

/-! ### Transaction contexts -/

@[simp] theorem State.setCtx_ctx (s : State) (c : Nat) (x : LdgCtx) : (s.setCtx c x).ctx c = x :=
  Sparse.get_set_same _ _ _ _

theorem State.setCtx_ctx_other (s : State) (x : LdgCtx) {c d : Nat} (h : d ≠ c) : (s.setCtx c x).ctx d = s.ctx d :=
  Sparse.get_set_other _ _ _ h

@[simp] theorem State.setCtx_pending (s : State) (c : Nat) (x : LdgCtx) : (s.setCtx c x).pending = s.pending := rfl

@[simp] theorem reply_ctx (s : State) (p : Packet) (status : Nat) (data : List Byte) (c : Nat) :
    (reply p status data s).ctx c = s.ctx c := by
  unfold State.ctx
  rw [(quiet_reply s p status data).ledger]

/-- A requester without a context owns none of the four. -/
theorem State.ctxOf_eq_none_iff (s : State) (who : Nat) :
    s.ctxOf who = none ↔ ∀ c, c < 4 → (s.ctx c).owner ≠ some who := by
  simp [State.ctxOf]

/-- The context that LDG_LOCK hands out; that it is the lowest-numbered free one is the model's choice. -/
def State.freeCtx (s : State) : Option Nat := (List.range 4).find? (fun c => (s.ctx c).owner.isNone)

theorem State.freeCtx_eq_none_iff (s : State) : s.freeCtx = none ↔ ∀ c, c < 4 → (s.ctx c).owner ≠ none := by
  simp [State.freeCtx]

/-! ### One context a requester -/

/-- No requester owns two of the four contexts. -/
def State.HeldOnce (s : State) : Prop :=
  ∀ w c d : Nat, c < 4 → d < 4 → (s.ctx c).owner = some w → (s.ctx d).owner = some w → c = d

theorem State.HeldOnce.of_reply {s : State} (h : s.HeldOnce) (p : Packet) (status : Nat) (data : List Byte) :
    (reply p status data s).HeldOnce := by
  simpa only [State.HeldOnce, reply_ctx] using h

/-- An owner after a context was given to `who`: `who` in that context, or whoever owned another one before. -/
theorem State.owner_of_setCtx {s : State} {who w c d now : Nat}
    (h : ((s.setCtx c ⟨some who, [], now⟩).ctx d).owner = some w) :
    (d = c ∧ w = who) ∨ (s.ctx d).owner = some w := by
  by_cases hd : d = c
  · subst hd
    rw [State.setCtx_ctx] at h
    exact .inl ⟨rfl, (Option.some.inj h).symm⟩
  · rw [State.setCtx_ctx_other _ _ hd] at h
    exact .inr h

/-- A context may be given to a requester that has none. -/
theorem State.HeldOnce.setCtx {s : State} {who : Nat} (h : s.HeldOnce) (hnone : s.ctxOf who = none) (c now : Nat) :
    (s.setCtx c ⟨some who, [], now⟩).HeldOnce := by
  rw [State.ctxOf_eq_none_iff] at hnone
  intro w a b ha hb hwa hwb
  rcases State.owner_of_setCtx hwa with ⟨hac, rfl⟩ | howa
  · rcases State.owner_of_setCtx hwb with ⟨hbc, -⟩ | howb
    · exact hac.trans hbc.symm
    · exact absurd howb (hnone b hb)
  · rcases State.owner_of_setCtx hwb with ⟨-, rfl⟩ | howb
    · exact absurd howa (hnone a ha)
    · exact h w a b ha hb howa howb

/-! ### The operation -/

section
variable {p : Packet} {s : State} {c : Nat}

theorem opLdgLock_of_held (h : s.ctxOf p.issuer.toNat = some c) :
    opLdgLock p s = reply p St.OK (leBytes 1 c ++ leBytes 1 (s.ctx c).staged.length ++ leBytes 2 0) s := by
  simp only [opLdgLock, h, done]

theorem opLdgLock_of_free (h : s.ctxOf p.issuer.toNat = none) (hfree : s.freeCtx = some c) :
    opLdgLock p s = reply p St.OK (leBytes 1 c ++ leBytes 1 0 ++ leBytes 2 0)
      (s.setCtx c ⟨some p.issuer.toNat, [], s.now⟩) := by
  rw [State.freeCtx] at hfree
  simp only [opLdgLock, h, hfree, done, State.setCtx_ctx, List.length_nil]

theorem opLdgLock_of_full (h : s.ctxOf p.issuer.toNat = none) (hfull : s.freeCtx = none) :
    opLdgLock p s = reply p St.TBL_LOCKED [] s := by
  rw [State.freeCtx] at hfull
  simp only [opLdgLock, h, hfull]

end

/-- All that LDG_LOCK does: it replies, having given a context at most to a requester that had none. -/
theorem opLdgLock_cases (p : Packet) (s : State) :
    ∃ status data t, opLdgLock p s = reply p status data t ∧
      (t = s ∨ s.ctxOf p.issuer.toNat = none ∧ ∃ c, t = s.setCtx c ⟨some p.issuer.toNat, [], s.now⟩) := by
  cases h : s.ctxOf p.issuer.toNat with
  | some c => exact ⟨_, _, s, opLdgLock_of_held h, .inl rfl⟩
  | none =>
    cases hfree : s.freeCtx with
    | some c => exact ⟨_, _, _, opLdgLock_of_free h hfree, .inr ⟨rfl, c, rfl⟩⟩
    | none => exact ⟨_, _, s, opLdgLock_of_full h hfree, .inl rfl⟩

@[simp] theorem opLdgLock_pending (p : Packet) (s : State) : (opLdgLock p s).pending = s.pending := by
  obtain ⟨status, data, t, heq, rfl | ⟨-, c, rfl⟩⟩ := opLdgLock_cases p s
  · rw [heq, reply_pending]
  · rw [heq, reply_pending, State.setCtx_pending]

theorem opLdgLock_heldOnce {s : State} (p : Packet) (h : s.HeldOnce) : (opLdgLock p s).HeldOnce := by
  obtain ⟨status, data, t, heq, rfl | ⟨hnone, c, rfl⟩⟩ := opLdgLock_cases p s
  · rw [heq]
    exact h.of_reply p status data
  · rw [heq]
    exact (h.setCtx hnone c s.now).of_reply p status data

/-- A served LDG_LOCK is its operation, and the queue stays as it was. -/
theorem exec_ldgLock {p : Packet} {s : State} (h : Served 0 coreModes p s) :
    exec (.ldgLock p) s = .next (opLdgLock (asOp 0x7002 p) s) := by
  obtain ⟨hlen, hserve, hmode⟩ := h
  have hlenOk : lenIs 0 (asOp 0x7002 p) = true := beq_iff_eq.2 hlen
  exact answer_eq (command_runs hlenOk hserve hmode) (opLdgLock_pending _ s)

/-- Settles O56: the three answers by who holds the contexts; one context a requester, since a context is given only
to a requester that has none. -/
theorem ledgerLock : Obligations.LedgerLock := by
  unfold Obligations.LedgerLock
  intro p s hserved
  rw [exec_ldgLock hserved]
  refine ⟨fun c hheld => ?held, fun c hnone hfree => ?free, fun hnone hfull => ?full, fun t ht hOnce => ?once⟩
  case held => rw [opLdgLock_of_held (p := asOp 0x7002 p) hheld]
  case free =>
    rw [opLdgLock_of_free (p := asOp 0x7002 p) hnone hfree]
    rfl
  case full => rw [opLdgLock_of_full (p := asOp 0x7002 p) hnone (s.freeCtx_eq_none_iff.2 hfull)]
  case once =>
    cases ht
    exact opLdgLock_heldOnce (asOp 0x7002 p) hOnce

end Sys2Proof.Machine

/-! Claims and releases of several entries (R466, R467): what a reply leaves of the resource table, who holds an entry
after a run of claims or of releases, and what RES_CLAIM, RES_RELEASE and PPS_SET make of the table. -/

namespace Sys2Proof.Machine

open Sys2Proof.Claims

/-! ### The resource table -/

/-- The resource table: the owners, and the entries that wait for their bus. -/
def HostPort.table (h : HostPort) : Sparse Req × List Nat := (h.owners, h.releasing)

theorem ownerOf_of_table {s t : State} (h : t.host.table = s.host.table) (id : Nat) :
    t.ownerOf id = s.ownerOf id := by
  obtain ⟨howners, -⟩ := Prod.mk.inj h
  rw [State.ownerOf, howners, State.ownerOf]

theorem releasing_of_table {s t : State} (h : t.host.table = s.host.table) : t.host.releasing = s.host.releasing :=
  (Prod.mk.inj h).2

/-! ### Replies leave the table alone -/

@[simp] theorem State.setRing_host (s : State) (n : Nat) (r : Ring) : (s.setRing n r).host = s.host := rfl

@[simp] theorem writeBack_host (s : State) (n : Nat) : (writeBack n s).host = s.host := rfl

@[simp] theorem signal_table (s : State) (v : Nat) : (signal v s).host.table = s.host.table := by
  unfold signal
  split
  · rw [State.setFlag_host]
  · rfl

@[simp] theorem mgtCause_table (s : State) (i : Nat) : (mgtCause i s).host.table = s.host.table := by
  unfold mgtCause
  dsimp only
  split
  · rfl
  · split
    · rw [signal_table, State.setFlag_host]
    · rw [State.setFlag_host]

@[simp] theorem ringStop_table (s : State) (n cause : Nat) : (ringStop n cause s).host.table = s.host.table := by
  unfold ringStop
  dsimp only
  split
  · rfl
  · rw [post_host, signal_table]
    split <;> rfl

@[simp] theorem ringWrite_table (s : State) (n : Nat) (r : Reply) :
    (ringWrite n r s).host.table = s.host.table := by
  unfold ringWrite
  dsimp only
  split
  · simp
  · generalize 2 ^ _ = limit
    split <;> simp

@[simp] theorem ringReply_table (s : State) (n : Nat) (r : Reply) :
    (ringReply n r s).host.table = s.host.table := by
  unfold ringReply
  split
  · simp
  · split <;> simp

@[simp] theorem smbReply_table (s : State) (r : Reply) : (smbReply r s).host.table = s.host.table := by
  unfold smbReply
  dsimp only
  split
  · rw [mgtCause_table]
  · rfl

@[simp] theorem zoantRoute_host (s : State) (f : ZFrame) : (zoantRoute f s).host = s.host := by
  unfold zoantRoute noRoute
  split
  · rfl
  · split <;> rfl

@[simp] theorem zoantSend_host (s : State) (dst cls len : Nat) (msg : ZMsg) :
    (zoantSend dst cls len msg s).host = s.host := by
  unfold zoantSend
  dsimp only
  split
  · rfl
  · rw [zoantRoute_host]
    split <;> rfl

@[simp] theorem zoantReply_host (s : State) (chip : Nat) (r : Reply) : (zoantReply chip r s).host = s.host := by
  unfold zoantReply
  dsimp only
  split
  · rw [zoantSend_host]
  · rfl

@[simp] theorem firmwareReply_host (s : State) (r : Reply) : (firmwareReply r s).host = s.host := by
  unfold firmwareReply
  dsimp only
  split
  · split <;> rfl
  · rfl

/-- Whatever the transport, a reply leaves the resource table alone. -/
@[simp] theorem reply_table (s : State) (p : Packet) (status : Nat) (data : List Byte) :
    (reply p status data s).host.table = s.host.table := by
  unfold reply deliver
  split
  · exact ringReply_table ..
  · split
    · exact smbReply_table ..
    · split
      · rw [zoantReply_host]
      · rw [firmwareReply_host]

@[simp] theorem resRefuse_table (s : State) (p : Packet) (id st : Nat) :
    (resRefuse p id st s).host.table = s.host.table := by
  unfold resRefuse
  dsimp only
  rw [reply_table]
  split
  · rw [State.count_host]
  · rfl

/-! ### All or nothing -/

/-- From `s` a command answered `t` with the table left alone, or with no entry refused and the table of `granted`. -/
def AllOrNone (s t granted : State) (refusal : Option (Nat × Nat)) : Prop :=
  t.host.table = s.host.table ∨ refusal = none ∧ t.host.table = granted.host.table

namespace AllOrNone

variable {s t granted : State} {refusal : Option (Nat × Nat)}

theorem ownerOf_of_refusal (h : AllOrNone s t granted refusal) (hrefusal : refusal ≠ none) (id : Nat) :
    t.ownerOf id = s.ownerOf id :=
  ownerOf_of_table (h.resolve_right fun hgranted => hrefusal hgranted.1) id

theorem of_reply (p : Packet) (status : Nat) (data : List Byte) :
    AllOrNone s (reply p status data s) granted refusal := .inl (reply_table ..)

theorem of_refuse (p : Packet) (id st : Nat) : AllOrNone s (resRefuse p id st s) granted refusal :=
  .inl (resRefuse_table ..)

/-- A check that fails answers with a reply alone. -/
theorem of_checked {p : Packet} {cs : List (Bool × Nat)} {act : State → State}
    (h : AllOrNone s (act s) granted refusal) : AllOrNone s (checked p cs act s) granted refusal := by
  unfold checked
  split
  · exact of_reply ..
  · exact h

/-- A command of the wrong length, or one that is not served, answers with a reply alone. -/
theorem of_command {op : Nat} {lenOk : Packet → Bool} {modes : List Mode} {body : Packet → State → State}
    {p : Packet} (h : AllOrNone s (body (asOp op p) s) granted refusal) :
    AllOrNone s (command op lenOk modes body p s) granted refusal := by
  unfold command
  dsimp only
  split
  · exact of_reply ..
  · split
    · exact of_reply ..
    · exact h

theorem of_answer {run : State → State} (ht : answer run s = .next t) (h : AllOrNone s (run s) granted refusal) :
    AllOrNone s t granted refusal := by
  cases ht
  exact h

end AllOrNone

/-! ### The first refused entry -/

theorem claimRefusal_eq_none_iff (who : Req) (s : State) (ids : List Nat) : claimRefusal who s ids = none ↔
    ∀ id ∈ ids, resKnown id = true ∧ (s.ownerOf id = 0 ∨ s.ownerOf id = who) := by
  induction ids with
  | nil => simp [claimRefusal]
  | cons id ids ih =>
    rw [claimRefusal, List.forall_mem_cons, ← ih]
    cases resKnown id with
    | false => simp
    | true => by_cases h0 : s.ownerOf id = 0#8 <;> by_cases hw : s.ownerOf id = who <;> simp [h0, hw]

theorem claimRefusal_ne_none {who : Req} {s : State} {ids : List Nat}
    (h : ∃ id ∈ ids, resKnown id = false ∨ (s.ownerOf id ≠ 0 ∧ s.ownerOf id ≠ who)) :
    claimRefusal who s ids ≠ none := by
  intro hnone
  obtain ⟨id, hid, hbad⟩ := h
  obtain ⟨hknown, howner⟩ := (claimRefusal_eq_none_iff ..).1 hnone id hid
  rcases hbad with hunknown | ⟨hheld, hother⟩
  · exact Bool.false_ne_true (hunknown.symm.trans hknown)
  · exact howner.elim hheld hother

theorem releaseRefusal_eq_none_iff (who : Req) (s : State) (ids : List Nat) : releaseRefusal who s ids = none ↔
    ∀ id ∈ ids, resKnown id = true ∧ s.ownerOf id = who := by
  induction ids with
  | nil => simp [releaseRefusal]
  | cons id ids ih =>
    rw [releaseRefusal, List.forall_mem_cons, ← ih]
    cases resKnown id with
    | false => simp
    | true => by_cases hw : s.ownerOf id = who <;> simp [hw]

theorem releaseRefusal_ne_none {who : Req} {s : State} {ids : List Nat}
    (h : ∃ id ∈ ids, resKnown id = false ∨ s.ownerOf id ≠ who) : releaseRefusal who s ids ≠ none := by
  intro hnone
  obtain ⟨id, hid, hbad⟩ := h
  obtain ⟨hknown, howner⟩ := (releaseRefusal_eq_none_iff ..).1 hnone id hid
  rcases hbad with hunknown | hother
  · exact Bool.false_ne_true (hunknown.symm.trans hknown)
  · exact hother howner

/-! ### Claims -/

theorem setOwner_ownerOf (s : State) (id : Nat) (who : Req) (j : Nat) :
    (setOwner id who s).ownerOf j = if j = id then who else s.ownerOf j := by
  split
  · subst_vars
    exact Sparse.get_set_same ..
  · exact Sparse.get_set_other _ _ _ ‹_›

/-- A run of claims gives every entry that it names to the claimer, and no other. -/
theorem foldl_setOwner_ownerOf (who : Req) (ids : List Nat) (s : State) (j : Nat) :
    (ids.foldl (fun s id => setOwner id who s) s).ownerOf j = if j ∈ ids then who else s.ownerOf j := by
  induction ids generalizing s with
  | nil => simp
  | cons id ids ih =>
    rw [List.foldl_cons, ih, setOwner_ownerOf]
    by_cases hmem : j ∈ ids <;> simp [hmem]

/-! ### Releases -/

/-- A field below the registers of the buses: in a block below ETH, or in the MGT block below MGT_QSPI_CMD. -/
def Field.belowBuses (f : Field) : Prop := f.off < 0x160000 ∨ (0x180000 ≤ f.off ∧ f.off < 0x180040)

/-- A write of such a field leaves every bus as busy as it was. -/
theorem State.setFld_busBusy (s : State) {f : Field} (v : Nat) (h : f.belowBuses) (id : Nat) :
    (s.setFld f v).busBusy id = s.busBusy id := by
  unfold Field.belowBuses at h
  have hqspi : F.MGT_QSPI_CMD_BUSY.off ≠ f.off := by
    show 0x180040 ≠ f.off
    omega
  have hsfp : (F.ETH_I2C_CMD_BUSY (id % 256)).off ≠ f.off := by
    show 0x160400 + 16 * (id % 256) ≠ f.off
    omega
  unfold State.busBusy State.flag
  rw [State.fld_setFld_off s f _ v hqspi, State.fld_setFld_off s f _ v hsfp]

theorem State.setFlag_busBusy (s : State) {f : Field} (b : Bool) (h : f.belowBuses) (id : Nat) :
    (s.setFlag f b).busBusy id = s.busBusy id := State.setFld_busBusy s _ h id

theorem State.setBit_busBusy (s : State) {f : Field} (i : Nat) (b : Bool) (h : f.belowBuses) (id : Nat) :
    (s.setBit f i b).busBusy id = s.busBusy id := State.setFld_busBusy s _ h id

theorem captureSource_belowBuses {n : Nat} (h : n < 256) : (F.TMR_CAP_CTL_SRC n).belowBuses :=
  .inl (by show 0x020600 + 16 * n < 0x160000; omega)

theorem timerI_belowBuses {n : Nat} (h : n < 256) : (F.TMR_I_CTL_EN n).belowBuses :=
  .inl (by show 0x020400 + 32 * n < 0x160000; omega)

theorem timerL_belowBuses {n : Nat} (h : n < 256) : (F.TMR_L_CTL_ARM n).belowBuses :=
  .inl (by show 0x020104 + 16 * n < 0x160000; omega)

theorem rawWindow_belowBuses {n : Nat} (h : n < 256) : (F.MMU_RAW_BASE_EN n).belowBuses :=
  .inl (by show 0x0F0080 + 8 * n < 0x160000; omega)

theorem gpioFunc_belowBuses {pin : Nat} (h : pin < 24) : (gpioFunc pin).belowBuses :=
  .inr (by show 0x180000 ≤ 0x180010 + 4 * (pin / 8) ∧ 0x180010 + 4 * (pin / 8) < 0x180040; omega)

theorem stopCaptures_busBusy (s : State) (src id : Nat) : (stopCaptures src s).busBusy id = s.busBusy id := by
  unfold stopCaptures
  refine List.foldlRecOn (motive := fun t : State => t.busBusy id = s.busBusy id) _ _ rfl fun t ih n hn => ?_
  have hn16 := List.mem_range.1 hn
  split
  · rw [State.setFld_busBusy t 0 (captureSource_belowBuses (by omega)), ih]
  · exact ih

theorem stopTimersI_busBusy (s : State) (src id : Nat) : (stopTimersI src s).busBusy id = s.busBusy id := by
  unfold stopTimersI
  refine List.foldlRecOn (motive := fun t : State => t.busBusy id = s.busBusy id) _ _ rfl fun t ih n hn => ?_
  have hn8 := List.mem_range.1 hn
  split
  · rw [State.setFlag_busBusy t false (timerI_belowBuses (by omega)), ih]
  · exact ih

@[simp] theorem stopCaptures_host (s : State) (src : Nat) : (stopCaptures src s).host = s.host := by
  unfold stopCaptures
  refine List.foldlRecOn (motive := fun t : State => t.host = s.host) _ _ rfl fun t ih n _ => ?_
  split
  · exact ih
  · exact ih

@[simp] theorem stopTimersI_host (s : State) (src : Nat) : (stopTimersI src s).host = s.host := by
  unfold stopTimersI
  refine List.foldlRecOn (motive := fun t : State => t.host = s.host) _ _ rfl fun t ih n _ => ?_
  split
  · exact ih
  · exact ih

/-- The idle state of an entry is one of its registers, not of the table. -/
@[simp] theorem resIdle_table (s : State) (id : Nat) : (resIdle id s).host.table = s.host.table := by
  unfold resIdle
  dsimp only
  split
  case h_2 => rw [stopTimersI_host, stopCaptures_host]
  case h_3 => rw [stopCaptures_host]
  all_goals rfl

/-- A GPIO pin that the table knows is one of 24. -/
theorem pin_lt_of_resKnown {id : Nat} (h : resKnown id = true) (hclass : id / 256 = 1) : id % 256 < 24 := by
  simpa [resKnown, hclass] using h

theorem resIdle_busBusy (s : State) {id : Nat} (h : resKnown id = true) (j : Nat) :
    (resIdle id s).busBusy j = s.busBusy j := by
  have hlow : id % 256 < 256 := Nat.mod_lt _ (by decide)
  unfold resIdle
  dsimp only
  split
  case h_1 hclass => exact State.setFld_busBusy s 0 (gpioFunc_belowBuses (pin_lt_of_resKnown h hclass)) j
  case h_2 => rw [stopTimersI_busBusy, stopCaptures_busBusy]
  case h_3 => exact stopCaptures_busBusy s 5 j
  case h_4 => exact State.setFlag_busBusy s false (f := F.MGT_PPS_CTL_OUT_EN) (.inr (by decide)) j
  case h_5 =>
    rw [State.setBit_busBusy _ _ _ (f := F.TMR_L_IE_IE) (.inl (by decide)),
      State.setFlag_busBusy _ _ (timerL_belowBuses hlow)]
  case h_6 =>
    rw [State.setFlag_busBusy _ _ (f := F.TMR_I_CTL_IE _) (timerI_belowBuses hlow),
      State.setFlag_busBusy _ _ (timerI_belowBuses hlow)]
  case h_7 =>
    rw [State.setFlag_busBusy _ _ (f := F.TMR_CAP_CTL_IE _) (captureSource_belowBuses hlow),
      State.setFld_busBusy _ _ (captureSource_belowBuses hlow)]
  case h_8 => exact State.setFlag_busBusy s false (rawWindow_belowBuses hlow) j
  case h_9 => rfl

section
variable {s : State} {id : Nat}

theorem resFree_busBusy (h : resKnown id = true) (j : Nat) : (resFree id s).busBusy j = s.busBusy j := by
  unfold resFree
  split
  · rfl
  · exact resIdle_busBusy s h j

/-- A release frees its entry, but for a bus that is busy. -/
theorem resFree_ownerOf (j : Nat) :
    (resFree id s).ownerOf j = if j = id ∧ s.busBusy j = false then 0 else s.ownerOf j := by
  unfold resFree
  cases hbusy : s.busBusy id with
  | true =>
    rw [if_pos rfl, if_neg]
    · rfl
    · rintro ⟨rfl, hidle⟩
      simp [hbusy] at hidle
  | false =>
    rw [if_neg Bool.false_ne_true, setOwner_ownerOf, ownerOf_of_table (resIdle_table s id)]
    by_cases hj : j = id
    · rw [if_pos hj, if_pos ⟨hj, hj ▸ hbusy⟩]
    · rw [if_neg hj, if_neg fun hboth => hj hboth.1]

/-- A busy bus that waits for its end does so after any release; a release of its own entry makes it wait. -/
theorem mem_resFree_releasing {j : Nat} (hbusy : s.busBusy j = true) (h : j = id ∨ j ∈ s.host.releasing) :
    j ∈ (resFree id s).host.releasing := by
  unfold resFree
  by_cases hj : j = id
  · subst hj
    rw [if_pos hbusy]
    exact List.mem_cons_self
  · have hwaits : j ∈ s.host.releasing.filter (· != id) :=
      List.mem_filter.2 ⟨h.resolve_left hj, bne_iff_ne.2 hj⟩
    split
    · exact List.mem_cons_of_mem _ hwaits
    · show j ∈ (resIdle id s).host.releasing.filter (· != id)
      rwa [releasing_of_table (resIdle_table s id)]

end

/-- A run of releases frees every entry that it names, but for the buses that are busy. -/
theorem foldl_resFree_ownerOf {ids : List Nat} (s : State) (h : ∀ id ∈ ids, resKnown id = true) (j : Nat) :
    (ids.foldl (fun s id => resFree id s) s).ownerOf j =
      if j ∈ ids ∧ s.busBusy j = false then 0 else s.ownerOf j := by
  induction ids generalizing s with
  | nil => simp
  | cons id ids ih =>
    obtain ⟨hid, hids⟩ := List.forall_mem_cons.1 h
    rw [List.foldl_cons, ih _ hids, resFree_busBusy hid, resFree_ownerOf]
    by_cases hmem : j ∈ ids <;> cases hbusy : s.busBusy j <;> simp [hmem]

theorem mem_foldl_resFree_releasing {ids : List Nat} (s : State) (h : ∀ id ∈ ids, resKnown id = true) {j : Nat}
    (hbusy : s.busBusy j = true) (hj : j ∈ ids ∨ j ∈ s.host.releasing) :
    j ∈ (ids.foldl (fun s id => resFree id s) s).host.releasing := by
  induction ids generalizing s with
  | nil => simpa using hj
  | cons id ids ih =>
    obtain ⟨hid, hids⟩ := List.forall_mem_cons.1 h
    refine ih _ hids (by rwa [resFree_busBusy hid]) ?_
    rw [List.mem_cons, or_right_comm] at hj
    exact hj.symm.imp_right (mem_resFree_releasing hbusy)

/-! ### 1 PPS -/

theorem mem_ppsHas {s : State} {id : Nat} (h : id ∈ s.ppsHas) :
    (id = 0x0400 ∨ id = 0x0600 + s.fld F.MGT_PPS_CTL_TIMER) ∨
      id = 0x0300 ∨ id = 0x0700 + s.fld F.MGT_PPS_CTL_CAP := by
  unfold State.ppsHas at h
  refine (List.mem_append.1 h).imp (fun hout => ?_) (fun hin => ?_)
  · simpa using (List.mem_ite_nil_right.1 hout).2
  · simpa using (List.mem_ite_nil_right.1 hin).2

theorem resKnown_timerI {n : Nat} (h : n < 8) : resKnown (0x0600 + n) = true := by
  have hclass : (0x0600 + n) / 256 = 6 := by omega
  have hunit : (0x0600 + n) % 256 = n := by omega
  simpa [resKnown, hclass, hunit] using h

theorem resKnown_capture {n : Nat} (h : n < 16) : resKnown (0x0700 + n) = true := by
  have hclass : (0x0700 + n) / 256 = 7 := by omega
  have hunit : (0x0700 + n) % 256 = n := by omega
  simpa [resKnown, hclass, hunit] using h

/-- The entries that the 1 PPS function holds are in the table: TIMER and CAP are fields of 3 and 4 bits. -/
theorem resKnown_of_mem_ppsHas {s : State} {id : Nat} (h : id ∈ s.ppsHas) : resKnown id = true := by
  rcases mem_ppsHas h with (rfl | rfl) | rfl | rfl
  · rfl
  · exact resKnown_timerI (Nat.mod_lt _ (by decide))
  · rfl
  · exact resKnown_capture (Nat.mod_lt _ (by decide))

/-- The classes below 9 have no bus. -/
theorem busBusy_of_lt {id : Nat} (h : id < 0x0900) (s : State) : s.busBusy id = false := by
  unfold State.busBusy
  split
  · omega
  · omega
  · rfl

theorem busBusy_of_mem_ppsHas {s : State} {id : Nat} (h : id ∈ s.ppsHas) : s.busBusy id = false := by
  have htimer : s.fld F.MGT_PPS_CTL_TIMER < 8 := Nat.mod_lt _ (by decide)
  have hcap : s.fld F.MGT_PPS_CTL_CAP < 16 := Nat.mod_lt _ (by decide)
  have hcases := mem_ppsHas h
  exact busBusy_of_lt (by omega) s

@[simp] theorem recomputeP_host (s : State) (n : Nat) : (recomputeP n s).host = s.host := by
  unfold recomputeP
  dsimp only
  split <;> rfl

@[simp] theorem ppsTimer_host (s : State) (n phase : Nat) : (ppsTimer n phase s).host = s.host := by
  unfold ppsTimer
  dsimp only
  rw [State.setWord_host, State.setWord_host, recomputeP_host]
  rfl

/-- PPS_SET's change of hands: the protocol cores hold what the request names, and what they held beyond it is free. -/
theorem ppsSettings_ownerOf (p : Packet) (s : State) (j : Nat) : (ppsSettings p s).ownerOf j =
    if j ∈ ppsWant p then 0x02 else if j ∈ s.ppsHas then 0 else s.ownerOf j := by
  have hknown : ∀ id ∈ s.ppsHas.filter (fun id => !(ppsWant p).contains id), resKnown id = true :=
    fun id hid => resKnown_of_mem_ppsHas (List.mem_filter.1 hid).1
  have hgrant : (ppsSettings p s).ownerOf j = ((ppsWant p).foldl (fun s id => setOwner id 0x02 s)
      ((s.ppsHas.filter (fun id => !(ppsWant p).contains id)).foldl (fun s id => resFree id s) s)).ownerOf j := rfl
  rw [hgrant, foldl_setOwner_ownerOf, foldl_resFree_ownerOf s hknown]
  by_cases hwant : j ∈ ppsWant p
  · rw [if_pos hwant, if_pos hwant]
  · by_cases hhas : j ∈ s.ppsHas
    · simp [hwant, hhas, busBusy_of_mem_ppsHas hhas]
    · simp [hwant, hhas]

/-- PPS_SET after the change of hands: the output starts or stops. -/
def ppsOutput (p : Packet) (s : State) : State :=
  if p.bit 0 0 then ppsTimer (p.u8 1) (p.u32 8) s else { s with host.pps.out := false, host.pps.left := 0 }

/-- Then the capture unit takes PPS_IN, or the alignment's fault ends. -/
def ppsInput (p : Packet) (s : State) : State :=
  if p.bit 0 1 then (s.setFld (F.TMR_CAP_CTL_SRC (p.u8 2)) 5).setFlag (F.TMR_CAP_CTL_EDGE (p.u8 2)) false
  else { s with host.pps.lost := false }

/-- Then the time of the alignment starts, where `s0`, the state before PPS_SET, did not align. -/
def ppsSince (p : Packet) (s0 s : State) : State :=
  if p.bit 0 1 && !s0.flag F.MGT_PPS_CTL_ALIGN then { s with host.pps.since := s.now } else s

/-- After the change of hands PPS_SET writes registers and settings of the function, not the table. -/
theorem ppsSince_ppsInput_ppsOutput_table (p : Packet) (s0 s : State) :
    (ppsSince p s0 (ppsInput p (ppsOutput p s))).host.table = s.host.table := by
  have hout : (ppsOutput p s).host.table = s.host.table := by
    unfold ppsOutput
    split
    · rw [ppsTimer_host]
    · rfl
  have hin (t : State) : (ppsInput p t).host.table = t.host.table := by
    unfold ppsInput
    split <;> rfl
  have hsince (t : State) : (ppsSince p s0 t).host.table = t.host.table := by
    unfold ppsSince
    split <;> rfl
  rw [hsince, hin, hout]

/-! ### The three commands -/

theorem opResClaim_allOrNone (p : Packet) (s : State) : AllOrNone s (opResClaim p s)
    ((resIds p).foldl (fun s id => setOwner id p.issuer s) s) (claimRefusal p.issuer s (resIds p)) := by
  refine AllOrNone.of_checked ?_
  cases claimRefusal p.issuer s (resIds p) with
  | some refused => exact .of_refuse ..
  | none => exact .inr ⟨rfl, reply_table ..⟩

theorem opResRelease_allOrNone (p : Packet) (s : State) : AllOrNone s (opResRelease p s)
    ((resIds p).foldl (fun s id => resFree id s) s) (releaseRefusal p.issuer s (resIds p)) := by
  refine AllOrNone.of_checked ?_
  cases releaseRefusal p.issuer s (resIds p) with
  | some refused => exact .of_refuse ..
  | none => exact .inr ⟨rfl, reply_table ..⟩

theorem opPpsSet_allOrNone (p : Packet) (s : State) :
    AllOrNone s (opPpsSet p s) (ppsSettings p s) (claimRefusal 0x02 s (ppsWant p)) := by
  refine AllOrNone.of_checked ?_
  cases claimRefusal 0x02 s (ppsWant p) with
  | some refused => exact .of_refuse ..
  | none => exact .inr ⟨rfl, (reply_table ..).trans (ppsSince_ppsInput_ppsOutput_table p s (ppsSettings p s))⟩

section
variable {p : Packet} {s t : State}

theorem exec_resClaim_allOrNone (h : exec (.resClaim p) s = .next t) : AllOrNone s t
    ((resIds p).foldl (fun s id => setOwner id p.issuer s) s) (claimRefusal p.issuer s (resIds p)) :=
  .of_answer (run := runResClaim p) h (.of_command (opResClaim_allOrNone (asOp 0xC001 p) s))

theorem exec_resRelease_allOrNone (h : exec (.resRelease p) s = .next t) : AllOrNone s t
    ((resIds p).foldl (fun s id => resFree id s) s) (releaseRefusal p.issuer s (resIds p)) :=
  .of_answer (run := runResRelease p) h (.of_command (opResRelease_allOrNone (asOp 0xC002 p) s))

theorem exec_ppsSet_allOrNone (h : exec (.ppsSet p) s = .next t) :
    AllOrNone s t (ppsSettings p s) (claimRefusal 0x02 s (ppsWant p)) :=
  .of_answer (run := runPpsSet p) h (.of_command (opPpsSet_allOrNone (asOp 0xC020 p) s))

end

/-- Settles O30: each of the three commands leaves the table alone, or no entry is refused and the table is that of
its run of claims or releases. That a busy bus keeps its owner until its transfer ends is the model's choice (log
entry 209). -/
theorem allOrNothing : Obligations.AllOrNothing := by
  unfold Obligations.AllOrNothing
  refine ⟨fun p s t h => ?claim, fun p s t h => ?release, fun p s t h => ?pps⟩
  case claim =>
    have hall := exec_resClaim_allOrNone h
    refine ⟨fun hbad => hall.ownerOf_of_refusal (claimRefusal_ne_none hbad), hall.imp ownerOf_of_table ?_⟩
    rintro ⟨-, hgranted⟩
    simp +contextual [ownerOf_of_table hgranted, foldl_setOwner_ownerOf]
  case release =>
    have hall := exec_resRelease_allOrNone h
    refine ⟨fun hbad => hall.ownerOf_of_refusal (releaseRefusal_ne_none hbad),
      hall.imp (fun hkept => ⟨ownerOf_of_table hkept, releasing_of_table hkept⟩) ?_⟩
    rintro ⟨hnone, hgranted⟩
    have hknown : ∀ id ∈ resIds p, resKnown id = true :=
      fun id hid => ((releaseRefusal_eq_none_iff ..).1 hnone id hid).1
    have howner id := (ownerOf_of_table hgranted id).trans (foldl_resFree_ownerOf s hknown id)
    refine ⟨fun id hid => ⟨fun hidle => ?_, fun hbusy => ⟨?_, ?_⟩⟩, fun id hid => ?_⟩
    · rw [howner, if_pos ⟨hid, hidle⟩]
    · rw [howner, if_neg fun hfree => by simp [hbusy] at hfree]
    · rw [releasing_of_table hgranted]
      exact mem_foldl_resFree_releasing s hknown hbusy (.inl hid)
    · rw [howner, if_neg fun hfree => hid hfree.1]
  case pps =>
    have hall := exec_ppsSet_allOrNone h
    refine ⟨fun hbad => hall.ownerOf_of_refusal (claimRefusal_ne_none hbad), hall.imp ownerOf_of_table ?_⟩
    rintro ⟨-, hgranted⟩
    simp +contextual [ownerOf_of_table hgranted, ppsSettings_ownerOf]

end Sys2Proof.Machine

/-! The step and the queue: what every command and every step make of the queue of waiting commands. -/

namespace Sys2Proof.Machine

open Sys2Proof.Claims

/-- Every command answers a next state with the queue as it was: each arm of the dispatch is an `answer`. -/
theorem exec_next (c : Instr) (s : State) : ∃ t, exec c s = .next t ∧ t.pending = s.pending := by
  cases c <;> exact ⟨_, rfl, rfl⟩

/-- A step answers a next state and takes the command at the front of the queue. -/
theorem step_next (s : State) : ∃ t, step s = .next t ∧ t.pending = s.pending.drop 1 := by
  unfold step
  cases hq : s.pending with
  | nil => exact ⟨_, rfl, rfl⟩
  | cons c rest => exact exec_next c { s with pending := rest }

/-- Settles O2: each arm of the dispatch is an `answer`, which puts the queue back. -/
theorem commandsKeepQueue : Obligations.CommandsKeepQueue := by
  unfold Obligations.CommandsKeepQueue
  exact exec_next

/-- Settles O1: by the two arms of the step. -/
theorem stepRunsFront : Obligations.StepRunsFront := by
  unfold Obligations.StepRunsFront
  refine ⟨fun c rest s hq => ?front, fun s hq => ?empty⟩
  case front => simp only [step, hq]
  case empty => simp only [step, hq]

/-- A run that takes a step goes on from where the step leads. -/
theorem run_succ_of_step {M : Host.Core} {s t : M.State} (h : M.step s = .next t) (k : Nat) :
    M.run (k + 1) s = M.run k t := by
  simp only [Host.Core.run, h]

/-- Settles O5: by induction on the number of steps, each of which takes the front command. -/
theorem queueServedInOrder : Obligations.QueueServedInOrder := by
  unfold Obligations.QueueServedInOrder
  intro k
  induction k with
  | zero => exact fun s => ⟨s, rfl, rfl⟩
  | succ k ih =>
    intro s
    obtain ⟨t, ht, hqt⟩ := step_next s
    obtain ⟨u, hu, hqu⟩ := ih t
    exact ⟨u, (run_succ_of_step (M := core) ht k).trans hu, by rw [hqu, hqt, List.drop_drop, Nat.add_comm]⟩

end Sys2Proof.Machine

/-! Bytes and numbers (R11), and packets on the wire (R27). -/

namespace Sys2Proof.Machine

@[simp] theorem leBytes_length (n v : Nat) : (leBytes n v).length = n := by
  induction n generalizing v with
  | zero => rfl
  | succ n ih => simp [leBytes, ih]

/-- `n` bytes hold a number modulo 256 to the `n`. -/
theorem leNat_leBytes (n v : Nat) : leNat (leBytes n v) = v % 256 ^ n := by
  induction n generalizing v with
  | zero => simp [leBytes, leNat, Nat.mod_one]
  | succ n ih =>
    rw [leBytes, leNat, ih, BitVec.toNat_ofNat, Nat.pow_succ' (n := n), Nat.mod_mul]

theorem leNat_leBytes_of_lt {n v : Nat} (h : v < 256 ^ n) : leNat (leBytes n v) = v := by
  rw [leNat_leBytes, Nat.mod_eq_of_lt h]

/-- Bytes are those of the number that they spell. -/
theorem leBytes_leNat (bs : List Byte) : leBytes bs.length (leNat bs) = bs := by
  induction bs with
  | nil => rfl
  | cons b bs ih =>
    have hb := b.isLt
    have hlow : BitVec.ofNat 8 (b.toNat + 256 * leNat bs) = b := by
      apply BitVec.eq_of_toNat_eq
      rw [BitVec.toNat_ofNat]
      omega
    have hhigh : (b.toNat + 256 * leNat bs) / 256 = leNat bs := by omega
    rw [List.length_cons, leNat, leBytes, hlow, hhigh, ih]

theorem leNat_lt (bs : List Byte) : leNat bs < 256 ^ bs.length := by
  induction bs with
  | nil => simp [leNat]
  | cons b bs ih =>
    have hb := b.isLt
    rw [List.length_cons, leNat, Nat.pow_succ]
    omega

/-! ### Slices -/

/-- A slice that lies within the bytes needs no zeros. -/
theorem sliceBytes_eq {bs : List Byte} {off n : Nat} (h : off + n ≤ bs.length) :
    sliceBytes bs off n = (bs.drop off).take n := by
  simp [sliceBytes, show n - min n (bs.length - off) = 0 by omega]

@[simp] theorem sliceBytes_length (bs : List Byte) (off n : Nat) : (sliceBytes bs off n).length = n := by
  simp only [sliceBytes, List.length_append, List.length_replicate, List.length_take]
  omega

/-- The number whose bytes stand at an offset. -/
theorem leAt_of_bytes {bs : List Byte} {off n v : Nat} (hfit : off + n ≤ bs.length)
    (hbs : (bs.drop off).take n = leBytes n v) (hv : v < 256 ^ n) : leAt bs off n = v := by
  rw [leAt, sliceBytes_eq hfit, hbs, leNat_leBytes_of_lt hv]

/-- The bytes of the number that stands at an offset. -/
theorem leBytes_leAt {bs : List Byte} {off n : Nat} (h : off + n ≤ bs.length) :
    leBytes n (leAt bs off n) = (bs.drop off).take n := by
  have hround := leBytes_leNat (sliceBytes bs off n)
  rw [sliceBytes_length] at hround
  rw [leAt, hround, sliceBytes_eq h]

theorem leAt_lt (bs : List Byte) (off n : Nat) : leAt bs off n < 256 ^ n := by
  have h := leNat_lt (sliceBytes bs off n)
  rwa [sliceBytes_length] at h

/-- A number of a register's width survives the way through the register. -/
theorem toNat_ofNat_leAt (bs : List Byte) (off : Nat) {n w : Nat} (hw : 2 ^ w = 256 ^ n) :
    (BitVec.ofNat w (leAt bs off n)).toNat = leAt bs off n := by
  rw [BitVec.toNat_ofNat, Nat.mod_eq_of_lt (hw ▸ leAt_lt bs off n)]

/-! ### Packets -/

theorem leBytes_one (b : Byte) : leBytes 1 b.toNat = [b] := by simp [leBytes]

theorem Packet.wire_length (p : Packet) : p.wire.length = 16 + p.params.length := by
  simp [Packet.wire]
  omega

/-- The bytes of a packet whose LEN counts its parameters spell that packet. -/
theorem Packet.ofBytes_wire {p : Packet} (h : p.params.length = p.len.toNat) : Packet.ofBytes p.wire = p := by
  have hfit (k : Nat) (hk : k ≤ 16) : k ≤ p.wire.length := by rw [Packet.wire_length]; omega
  have hop : leAt p.wire 0 2 = p.opcode.toNat := leAt_of_bytes (hfit _ (by decide)) rfl p.opcode.isLt
  have htag : leAt p.wire 2 2 = p.tag.toNat := leAt_of_bytes (hfit _ (by decide)) rfl p.tag.isLt
  have hlen : leAt p.wire 4 2 = p.len.toNat := leAt_of_bytes (hfit _ (by decide)) rfl p.len.isLt
  have hflags : leAt p.wire 6 1 = p.flags.toNat :=
    leAt_of_bytes (hfit _ (by decide)) (leBytes_one p.flags).symm p.flags.isLt
  have hissuer : leAt p.wire 7 1 = p.issuer.toNat :=
    leAt_of_bytes (hfit _ (by decide)) (leBytes_one p.issuer).symm p.issuer.isLt
  have hnb : leAt p.wire 8 8 = p.notBefore.toNat := leAt_of_bytes (hfit _ (by decide)) rfl p.notBefore.isLt
  have hparams : sliceBytes p.wire 16 p.len.toNat = p.params := by
    rw [sliceBytes_eq (Nat.le_of_eq (by rw [Packet.wire_length, h])), ← h]
    exact List.take_length
  simp only [Packet.ofBytes, hop, htag, hlen, hflags, hissuer, hnb, hparams, BitVec.ofNat_toNat, BitVec.setWidth_eq]

/-- Bytes as long as their LEN tells are those of the packet that they spell. -/
theorem Packet.wire_ofBytes {bs : List Byte} (h : bs.length = 16 + leAt bs 4 2) : (Packet.ofBytes bs).wire = bs := by
  have hflags : [BitVec.ofNat 8 (leAt bs 6 1)] = (bs.drop 6).take 1 := by
    rw [← leBytes_leAt (by omega), leBytes, leBytes]
  have hissuer : [BitVec.ofNat 8 (leAt bs 7 1)] = (bs.drop 7).take 1 := by
    rw [← leBytes_leAt (by omega), leBytes, leBytes]
  have hparams : sliceBytes bs 16 (leAt bs 4 2) = bs.drop 16 := by
    rw [sliceBytes_eq (by omega), List.take_of_length_le (by rw [List.length_drop]; omega)]
  have hcut (i n : Nat) : (bs.drop i).take n ++ bs.drop (i + n) = bs.drop i := by
    rw [← List.drop_drop, List.take_append_drop]
  have hpair (b c : Byte) (l : List Byte) : [b, c] ++ l = [b] ++ ([c] ++ l) := rfl
  simp only [Packet.wire, Packet.ofBytes, toNat_ofNat_leAt bs _ (w := 16) (n := 2) rfl,
    toNat_ofNat_leAt bs _ (w := 64) (n := 8) rfl, leBytes_leAt (bs := bs) (off := 0) (n := 2) (by omega),
    leBytes_leAt (bs := bs) (off := 2) (n := 2) (by omega), leBytes_leAt (bs := bs) (off := 4) (n := 2) (by omega),
    leBytes_leAt (bs := bs) (off := 8) (n := 8) (by omega), hparams, List.append_assoc]
  rw [hpair, hflags, hissuer, hcut 8 8, hcut 7 1, hcut 6 1, hcut 4 2, hcut 2 2, hcut 0 2, List.drop_zero]

/-- Settles O6: each header field's bytes stand at its offset, and the bytes from each offset on are the field's and
those after it. -/
theorem packetRoundTrip : Obligations.PacketRoundTrip := by
  unfold Obligations.PacketRoundTrip
  refine ⟨fun p hp => ?packet, fun bs => Packet.wire_ofBytes⟩
  case packet =>
    simp only [Packet.wf, Bool.and_eq_true, beq_iff_eq] at hp
    exact ⟨Packet.ofBytes_wire hp.1, by rw [Packet.wire_length, hp.1, Packet.n]⟩

end Sys2Proof.Machine

/-! What a packet command runs when it is served, and what it answers when it is not (R30, R34). -/

namespace Sys2Proof.Machine

open Sys2Proof.Claims

/-! ### Answers -/

theorem answer_sameQueue {run : State → State} {s t : State} (h : run s = t) :
    answer run s = .next (sameQueue s t) := by
  rw [← h]
  rfl

/-! ### A packet under its row's opcode -/

section
variable (op : Nat) (p : Packet)

@[simp] theorem asOp_n : (asOp op p).n = p.n := rfl
@[simp] theorem asOp_issuer : (asOp op p).issuer = p.issuer := rfl
@[simp] theorem asOp_tag : (asOp op p).tag = p.tag := rfl
@[simp] theorem asOp_params : (asOp op p).params = p.params := rfl
@[simp] theorem asOp_u8 (i : Nat) : (asOp op p).u8 i = p.u8 i := rfl
@[simp] theorem asOp_u16 (i : Nat) : (asOp op p).u16 i = p.u16 i := rfl
@[simp] theorem asOp_u32 (i : Nat) : (asOp op p).u32 i = p.u32 i := rfl
@[simp] theorem asOp_u64 (i : Nat) : (asOp op p).u64 i = p.u64 i := rfl
@[simp] theorem asOp_i16 (i : Nat) : (asOp op p).i16 i = p.i16 i := rfl
@[simp] theorem asOp_i32 (i : Nat) : (asOp op p).i32 i = p.i32 i := rfl
@[simp] theorem asOp_bytes (i n : Nat) : (asOp op p).bytes i n = p.bytes i n := rfl
@[simp] theorem asOp_bits (i hi lo : Nat) : (asOp op p).bits i hi lo = p.bits i hi lo := rfl
@[simp] theorem asOp_bit (i b : Nat) : (asOp op p).bit i b = p.bit i b := rfl
@[simp] theorem asOp_dirty (i n : Nat) : (asOp op p).dirty i n = p.dirty i n := rfl
@[simp] theorem fromCores_asOp : fromCores (asOp op p) = fromCores p := rfl

end

/-! ### Served commands -/

section
variable {op n : Nat} {lenOk : Packet → Bool} {modes : List Mode} {body : Packet → State → State} {p : Packet}
  {s t : State}

theorem command_eq (hlen : lenOk (asOp op p) = true) (hserve : s.coresServe = true) (hmode : s.inMode modes = true)
    (hbody : body (asOp op p) s = t) : command op lenOk modes body p s = t :=
  (command_runs hlen hserve hmode).trans hbody

theorem mgtCommand_eq (hlen : lenOk (asOp op p) = true) (hmode : s.inMode modes = true)
    (hbody : body (asOp op p) s = t) : mgtCommand op lenOk modes body p s = t :=
  (mgtCommand_runs hlen hmode).trans hbody

theorem lenIs_of_eq (h : p.n = n) : lenIs n (asOp op p) = true := beq_iff_eq.2 h

/-- A served command's run is its operation. -/
theorem served_eq (h : Served n modes p s) (hbody : body (asOp op p) s = t) :
    command op (lenIs n) modes body p s = t :=
  command_eq (lenIs_of_eq h.1) h.2.1 h.2.2 hbody

/-- So is that of a command which the management controller runs. -/
theorem managed_eq (h : Managed n modes p s) (hbody : body (asOp op p) s = t) :
    mgtCommand op (lenIs n) modes body p s = t :=
  mgtCommand_eq (lenIs_of_eq h.1) h.2 hbody

/-- A served command answers what its operation leaves, with the queue as it was. -/
theorem served_sameQueue (h : Served n modes p s) (hbody : body (asOp op p) s = t) :
    answer (command op (lenIs n) modes body p) s = .next (sameQueue s t) :=
  answer_sameQueue (served_eq h hbody)

/-- It answers just that where the operation leaves the queue alone. -/
theorem served_next (h : Served n modes p s) (hbody : body (asOp op p) s = t) (hqueue : t.pending = s.pending) :
    answer (command op (lenIs n) modes body p) s = .next t :=
  answer_eq (served_eq h hbody) hqueue

theorem managed_sameQueue (h : Managed n modes p s) (hbody : body (asOp op p) s = t) :
    answer (mgtCommand op (lenIs n) modes body p) s = .next (sameQueue s t) :=
  answer_sameQueue (managed_eq h hbody)

theorem managed_next (h : Managed n modes p s) (hbody : body (asOp op p) s = t) (hqueue : t.pending = s.pending) :
    answer (mgtCommand op (lenIs n) modes body p) s = .next t :=
  answer_eq (managed_eq h hbody) hqueue

end

/-- No check fails: the first holds, and none of the others fails. -/
theorem firstFail_cons_eq_none (b : Bool) (st : Nat) (cs : List (Bool × Nat)) :
    firstFail ((b, st) :: cs) = none ↔ b = false ∧ firstFail cs = none := by
  cases b <;> simp

/-! ### Refused commands -/

/-- A row, with its opcode and LEN, answers BAD_LENGTH to another LEN and does nothing else. -/
def RefusesLength : Nat × Nat × (Packet → Instr) → Prop
  | (op, n, row) => ∀ (p : Packet) (s : State), p.n ≠ n → exec (row p) s = .next (reply (asOp op p) St.BAD_LENGTH [] s)

/-- A row, with its opcode, LEN and modes, answers NOT_IN_MODE where it is not served, and does nothing else. -/
def RefusesMode : Nat × Nat × List Mode × (Packet → Instr) → Prop
  | (op, n, modes, row) => ∀ (p : Packet) (s : State), p.n = n → (s.coresServe = false ∨ s.inMode modes = false) →
      exec (row p) s = .next (reply (asOp op p) St.NOT_IN_MODE [] s)

/-- A row that looks at its LEN first refuses another one, whatever it does after that. -/
theorem refusesLength_of_check {op n : Nat} {row : Packet → Instr} {rest : Packet → State → State}
    (hrow : ∀ p s, exec (row p) s =
      answer (fun s => if !lenIs n (asOp op p) then reply (asOp op p) St.BAD_LENGTH [] s else rest p s) s) :
    RefusesLength (op, n, row) := by
  intro p s hn
  rw [hrow]
  exact answer_eq (if_pos (by simp [lenIs, hn])) (reply_pending ..)

/-- A row of the protocol cores refuses where they do not serve, and in other modes. -/
theorem refusesMode_of_command {op n : Nat} {modes : List Mode} {row : Packet → Instr} {body : Packet → State → State}
    (hrow : ∀ p s, exec (row p) s = answer (command op (lenIs n) modes body p) s) :
    RefusesMode (op, n, modes, row) := by
  intro p s hn hmode
  have hlen : (!lenIs n (asOp op p)) = false := by simp [lenIs, hn]
  have hrefused : (!s.coresServe || !s.inMode modes) = true := by
    rcases hmode with h | h <;> simp [h]
  rw [hrow]
  exact answer_eq ((if_neg (Bool.eq_false_iff.1 hlen)).trans (if_pos hrefused)) (reply_pending ..)

/-- Settles O7: every row of the lists looks at its LEN first, and every row of the second is one of the cores'. -/
theorem packetRefusals : Obligations.PacketRefusals := by
  unfold Obligations.PacketRefusals
  refine ⟨fun op n row => ?length, fun op n modes row => ?mode⟩
  case length =>
    suffices hall : ∀ x ∈ _, RefusesLength x from hall (op, n, row)
    simp only [List.forall_mem_cons, List.not_mem_nil, false_implies, implies_true, and_true]
    and_intros
    all_goals
      apply refusesLength_of_check
      exact fun _ _ => rfl
  case mode =>
    suffices hall : ∀ x ∈ _, RefusesMode x from hall (op, n, modes, row)
    simp only [List.forall_mem_cons, List.not_mem_nil, false_implies, implies_true, and_true]
    and_intros
    all_goals
      apply refusesMode_of_command
      exact fun _ _ => rfl

end Sys2Proof.Machine

/-! The checks of arrival in their order (R30, R34, R35, R40), and what registers and memories read back. -/

namespace Sys2Proof.Machine

open Sys2Proof.Claims

/-! ### Checks of arrival -/

theorem firstFail_cons (b : Bool) (st : Nat) (cs : List (Bool × Nat)) :
    firstFail ((b, st) :: cs) = if b then some st else firstFail cs := by
  cases b <;> rfl

section
variable {p : Packet} {s : State}

theorem arrivalFail_eq (p : Packet) (s : State) : s.arrivalFail p =
    if 496 < p.n then some St.BAD_LENGTH
    else if 8 ≤ p.flags.toNat then some St.BAD_PARAM
    else if s.permitted p = false then some St.NOT_PERMITTED
    else if opLen p = none then some St.BAD_OPCODE
    else if opLen p = some false then some St.BAD_LENGTH
    else if s.now + 2 ^ 40 < p.notBefore.toNat then some St.BAD_PARAM
    else if s.flag F.TMB_STAT_CAL_FAULT = true ∧ p.notBefore ≠ 0 then some St.FAULT_PENDING
    else if s.now < p.notBefore.toNat ∧ 256 ≤ s.interp.sched.length then some St.BUSY
    else if byManagement p = false ∧ s.coresServe = false then some St.NOT_IN_MODE
    else none := by
  have hzero : (p.notBefore.toNat != 0) = true ↔ p.notBefore ≠ 0 := by simp [← BitVec.toNat_inj]
  simp only [State.arrivalFail, firstFail_cons, firstFail_nil, decide_eq_true_eq, Bool.not_eq_true', beq_iff_eq,
    Bool.and_eq_true, hzero]

end

/-- Settles O10: the checks are the branches of `arrivalFail_eq`, and at each the ones before it hold. -/
theorem arrivalChecksInOrder : Obligations.ArrivalChecksInOrder := by
  unfold Obligations.ArrivalChecksInOrder
  intro p s
  rw [arrivalFail_eq]
  refine ⟨fun hlong => if_pos hlong, fun hlen hflags => ?_, fun hlen hflags => ?_⟩
  · rw [if_neg (Nat.not_lt.2 hlen), if_pos hflags]
  rw [if_neg (Nat.not_lt.2 hlen), if_neg (Nat.not_le.2 hflags)]
  refine ⟨fun hissuer => if_pos hissuer, fun hissuer => ?_⟩
  rw [if_neg (by simp [hissuer])]
  refine ⟨fun hop => if_pos hop, fun hop => ?_, fun hop => ?_⟩
  · rw [if_neg (by simp [hop]), if_pos hop]
  rw [if_neg (by simp [hop]), if_neg (by simp [hop])]
  refine ⟨fun hfar => if_pos hfar, fun hnear => ?_⟩
  rw [if_neg (Nat.not_lt.2 hnear)]
  refine ⟨fun hfault hnb => if_pos ⟨hfault, hnb⟩, fun hfault hlater hfull => ?_, fun hfault hlater hroom hplane => ?_⟩
  · rw [if_neg (by simp [hfault]), if_pos ⟨hlater, hfull⟩]
  · rw [if_neg (by simp [hfault]), if_neg (fun h => Nat.not_le.2 hroom h.2), if_neg]
    rintro ⟨hcores, hserve⟩
    rcases hplane with h | h
    · simp [h] at hcores
    · simp [h] at hserve

/-! ### Runs of bytes in sparse tables -/

/-- A run that was written is read back. -/
theorem getRun_setRun_same {α : Type} [DecidableEq α] (d : α) (m : Sparse α) (i : Nat) (vs : List α) :
    (m.setRun d i vs).getRun d i vs.length = vs := by
  induction vs generalizing m i with
  | nil => rfl
  | cons v vs ih =>
    rw [List.length_cons, Sparse.getRun, Sparse.setRun, ih,
      Sparse.get_setRun_outside _ _ _ _ _ (.inl (Nat.lt_succ_self i)), Sparse.get_set_same]

theorem dramRead_one (s : State) (b : Nat) : s.dramRead b 1 = [s.dram.get 0 b] := rfl

/-- Settles O14: fields by the laws of register writes, memories by those of sparse tables. -/
theorem stateReadsBack : Obligations.StateReadsBack := by
  unfold Obligations.StateReadsBack
  refine ⟨fun f v s hf => ⟨s.fld_setFld_same f v hf, fun g hg hapart => ?other, fun off hoff => s.word_setFld_other f v hoff, rfl⟩, fun a bs s =>
    ⟨getRun_setRun_same .., fun b hb => ?dramOther, getRun_setRun_same .., fun b hb => Sparse.get_setRun_outside _ _ _ _ _ hb,
      fun hwf => Sparse.wf_setRun _ _ hwf, fun hwf => Sparse.wf_setRun _ _ hwf, fun l hl => ?dram, rfl⟩⟩
  case other =>
    refine s.fld_setFld_apart f g v ?_
    simpa [Field.apart, hf] using hapart
  case dramOther =>
    rw [dramRead_one, dramRead_one]
    exact congrArg (fun x => [x]) (Sparse.get_setRun_outside _ _ _ _ _ hb)
  case dram =>
    rw [hl]
    rfl

end Sys2Proof.Machine

/-! Register writes: what is lost, the access codes, locks and counter clears (R14, R555 to R557, R561). -/

namespace Sys2Proof.Machine

open Sys2Proof.Claims

/-! ### Writes that do not reach their block -/

theorem State.reaches_eq_of_block (s : State) {o off : Nat} (h : o / 0x10000 = off / 0x10000) :
    s.reaches o = s.reaches off := by
  unfold State.reaches
  rw [h]

/-- No write to a block reaches it. -/
def State.Lost (s : State) (blk : Nat) : Prop := ∀ o, o / 0x10000 = blk → s.reaches o = false

theorem State.lost_of_reaches {s : State} {off : Nat} (h : s.reaches off = false) : s.Lost (off / 0x10000) :=
  fun _ ho => (s.reaches_eq_of_block ho).trans h

section
variable {s : State} {w : Writer} {off : Nat} {v : Word} {act : State → State}

theorem plainWrite_lost (h : s.reaches off = false) : plainWrite w off v s = s := atReg_lost h

theorem busOwned_lost {res : Nat} (h : s.reaches off = false) : busOwned w res off act s = s := atReg_lost h

theorem tmrOwned_lost {res : Nat} (h : s.reaches off = false) : tmrOwned w res off act s = s := atReg_lost h

theorem byFirmware_lost (h : s.reaches off = false) : byFirmware w off act s = s := by
  unfold byFirmware
  split
  · exact atReg_lost h
  · rfl

theorem writeTmr_lost (h : s.Lost 0x02) (hoff : off / 0x10000 = 0x02) : writeTmr w off v s = s := by
  have hown := h off hoff
  have hL (k : Nat) (hk : k < 16) (n : Fin 32) : s.reaches (0x020100 + k + 16 * n.val) = false := h _ (by omega)
  have hI (k : Nat) (hk : k < 32) (n : Fin 8) : s.reaches (0x020400 + k + 32 * n.val) = false := h _ (by omega)
  unfold writeTmr
  dsimp only
  repeat' split
  · exact atReg_lost (h _ rfl)
  · exact atReg_lost (h _ rfl)
  · exact tmrOwned_lost (hL 0 (by decide) _)
  · exact tmrOwned_lost (hL 4 (by decide) _)
  · exact tmrOwned_lost (hL 4 (by decide) _)
  · exact tmrOwned_lost hown
  · rfl
  · exact tmrOwned_lost (hI 0 (by decide) _)
  · exact tmrOwned_lost (hI 4 (by decide) _)
  · exact tmrOwned_lost (hI 8 (by decide) _)
  · exact tmrOwned_lost (hI 12 (by decide) _)
  · rename_i hstat
    exact tmrOwned_lost (hstat ▸ hown)
  · rfl
  · rename_i hcctl
    exact tmrOwned_lost (hcctl ▸ hown)
  · rename_i hcstat
    exact tmrOwned_lost (hcstat ▸ hown)
  · rfl
  · rfl

theorem writeRfe_lost (h : s.Lost 0x03) (hoff : off / 0x10000 = 0x03) : writeRfe w off v s = s := by
  have hown := h off hoff
  unfold writeRfe
  repeat' split
  · exact atReg_lost (h _ rfl)
  · exact atReg_lost (h _ rfl)
  · rw [plainWrite_lost hown, atReg_lost hown]
  · rfl
  · exact plainWrite_lost hown
  · exact plainWrite_lost hown

theorem writeChz_lost (h : s.reaches off = false) : writeChz w off v s = s := by
  unfold writeChz
  split
  · exact byFirmware_lost h
  · exact plainWrite_lost h

theorem writeLdg_lost (h : s.Lost 0x0C) (hoff : off / 0x10000 = 0x0C) : writeLdg w off v s = s := by
  have hown := h off hoff
  unfold writeLdg
  dsimp only
  repeat' split
  · exact atReg_lost (h _ rfl)
  · exact atReg_lost (h _ rfl)
  · rename_i hcmd
    exact atReg_lost (hcmd ▸ hown)
  · rfl
  · exact plainWrite_lost hown
  · exact plainWrite_lost hown

theorem writeFwd_lost (h : s.reaches off = false) : writeFwd w off v s = s := by
  unfold writeFwd
  split
  · rfl
  · exact plainWrite_lost h

theorem writeMmu_lost (h : s.Lost 0x0F) (hoff : off / 0x10000 = 0x0F) : writeMmu w off v s = s := by
  have hown := h off hoff
  unfold writeMmu
  split
  · exact atReg_lost (h _ rfl)
  · split
    · exact atReg_lost (h _ rfl)
    · split
      · exact atReg_lost hown
      · split
        · exact busOwned_lost hown
        · exact plainWrite_lost hown

theorem writeDma_lost (h : s.Lost 0x10) (hoff : off / 0x10000 = 0x10) : writeDma w off v s = s := by
  have hown := h off hoff
  unfold writeDma
  dsimp only
  repeat' split
  · exact atReg_lost hown
  · exact atReg_lost (h (0x100114 + 64 * (Fin.ofNat 16 _).val) (by omega))
  · exact plainWrite_lost hown

theorem writeArb_lost (h : s.Lost 0x11) (hoff : off / 0x10000 = 0x11) : writeArb w off v s = s := by
  unfold writeArb
  split
  · rw [runArbQuotaWrite, arbRun, List.foldl_nil]
    exact atReg_lost (h _ rfl)
  · split
    · exact atReg_lost (h (0x110100 + 4 * (Fin.ofNat 7 _).val) (by omega))
    · exact plainWrite_lost (h off hoff)

theorem writeQue_lost (h : s.Lost 0x12) (hoff : off / 0x10000 = 0x12) : writeQue w off v s = s := by
  have hown := h off hoff
  unfold writeQue
  repeat' split
  · exact atReg_lost (h _ rfl)
  · exact atReg_lost hown
  · exact plainWrite_lost hown

theorem writeCmd_lost (h : s.reaches off = false) : writeCmd w off v s = s := by
  unfold writeCmd
  dsimp only
  repeat' split
  · exact atReg_lost h
  · rfl
  · exact plainWrite_lost h
  · exact plainWrite_lost h

theorem writeZfb_lost (h : s.reaches off = false) : writeZfb w off v s = s := by
  unfold writeZfb
  dsimp only
  repeat' split
  · rw [plainWrite_lost h, atReg_lost h]
  · exact plainWrite_lost h

theorem writePar_lost (h : s.reaches off = false) : writePar w off v s = s := by
  unfold writePar
  repeat' split
  · exact byFirmware_lost h
  · exact byFirmware_lost h
  · exact plainWrite_lost h

theorem writeEth_lost (h : s.Lost 0x16) (hoff : off / 0x10000 = 0x16) : writeEth w off v s = s := by
  have hown := h off hoff
  unfold writeEth
  dsimp only
  repeat' split
  · exact byFirmware_lost hown
  · exact busOwned_lost (h (0x160400 + 16 * (Fin.ofNat 2 _).val) (by omega))
  · exact busOwned_lost hown
  · rfl
  · exact plainWrite_lost hown

theorem writePci_lost (h : s.reaches off = false) : writePci w off v s = s := by
  unfold writePci
  dsimp only
  split
  · split
    · split
      · exact atReg_lost h
      · exact atReg_lost h
    · exact atReg_lost h
  · exact plainWrite_lost h

theorem writeMgt_lost (h : s.Lost 0x18) (hoff : off / 0x10000 = 0x18) : writeMgt w off v s = s := by
  have hown := h off hoff
  unfold writeMgt
  repeat' split
  · exact atReg_lost (h _ rfl)
  · exact atReg_lost (h _ rfl)
  · exact busOwned_lost (h _ rfl)
  · exact busOwned_lost hown
  · exact atReg_lost (h (0x180010 + 4 * (Fin.ofNat 3 _).val) (by omega))
  · exact plainWrite_lost hown

theorem evjClrWrite_lost (h : s.Lost 0x1F) : evjClrWrite v s = s := atReg_lost (h _ rfl)

theorem writeEvj_lost (h : s.Lost 0x1F) (hoff : off / 0x10000 = 0x1F) : writeEvj w off v s = s := by
  have hown := h off hoff
  unfold writeEvj
  repeat' split
  · exact atReg_lost (h _ rfl)
  · exact atReg_lost (h _ rfl)
  · exact evjClrWrite_lost h
  · rw [plainWrite_lost hown, atReg_lost hown]
  · exact plainWrite_lost hown

theorem writeNvs_lost (h : s.reaches off = false) : writeNvs w off v s = s := by
  unfold writeNvs
  split
  · rw [plainWrite_lost h, atReg_lost h]
  · exact plainWrite_lost h

/-- A write that does not reach its block changes nothing, whatever its register does. -/
theorem writeWord_lost (h : s.reaches off = false) : writeWord w off v s = s := by
  have hlost := State.lost_of_reaches h
  unfold writeWord
  split
  · exact atReg_lost h
  · split <;> rename_i hblk
    · exact writeTmr_lost (hblk ▸ hlost) hblk
    · exact writeRfe_lost (hblk ▸ hlost) hblk
    · exact writeChz_lost h
    · split
      · exact byFirmware_lost h
      · exact plainWrite_lost h
    · exact writeLdg_lost (hblk ▸ hlost) hblk
    · exact writeFwd_lost h
    · exact writeMmu_lost (hblk ▸ hlost) hblk
    · exact writeDma_lost (hblk ▸ hlost) hblk
    · exact writeArb_lost (hblk ▸ hlost) hblk
    · exact writeQue_lost (hblk ▸ hlost) hblk
    · exact writeCmd_lost h
    · exact writeZfb_lost h
    · exact writePar_lost h
    · exact writeEth_lost (hblk ▸ hlost) hblk
    · exact writePci_lost h
    · exact writeMgt_lost (hblk ▸ hlost) hblk
    · split
      · exact atReg_lost h
      · exact plainWrite_lost h
    · exact writeNvs_lost h
    · split
      · exact atReg_lost (hlost 0x1E0014 (by rw [hblk]))
      · exact plainWrite_lost h
    · exact writeEvj_lost (hblk ▸ hlost) hblk
    · exact plainWrite_lost h

end

theorem runLockSet_lost {s : State} {off : BitVec 24} (h : s.reaches off.toNat = false) (w : Writer) (v : Word) :
    runLockSet w off v s = s := by
  unfold runLockSet
  split
  · split
    · exact writeWord_lost h
    · rfl
  · rfl

theorem runCounterClearWrite_lost {s : State} {off : BitVec 24} (h : s.reaches off.toNat = false) (w : Writer)
    (v : Word) : runCounterClearWrite w off v s = s := by
  unfold runCounterClearWrite
  split
  · rename_i hclr
    exact atReg_lost (hclr ▸ h)
  · exact atReg_lost h

/-- The three cases in which a write does not reach its block (R555 to R557). -/
theorem State.reaches_eq_false {s : State} {off : Nat} (h : s.seq.mode = .cold ∨
    (s.seq.mode = .quarantine ∧ dataBlock (off / 0x10000) = true ∧ off / 0x10000 ≠ 0x17) ∨
    (s.seq.mode = .ember ∧ 4 ≤ off / 0x10000 ∧ off / 0x10000 ≤ 7)) : s.reaches off = false := by
  unfold State.reaches
  rcases h with hmode | ⟨hmode, hdata, hpci⟩ | ⟨hmode, hlo, hhi⟩
  · simp [hmode]
  · simp [hmode, hdata, hpci]
  · simp [hmode, hlo, hhi]

/-- Settles O15: no write acts but through `atReg` at a register of the block that its offset names. -/
theorem writesOutOfReachLost : Obligations.WritesOutOfReachLost := by
  unfold Obligations.WritesOutOfReachLost
  refine fun w off v s => ⟨answer_eq rfl rfl, fun hcase => ?_⟩
  have h := State.reaches_eq_false hcase
  exact ⟨h, answer_eq (writeWord_lost h) rfl, answer_eq (runLockSet_lost h w v) rfl,
    answer_eq (runCounterClearWrite_lost h w v) rfl⟩

/-! ### Access codes -/

/-- A bit of a register after a write, by the access codes of the bit. -/
theorem RegDesc.written_bit (d : RegDesc) (fw locked : Bool) (old v : Word) {i : Nat} (hi : i < 32) :
    (d.written fw locked old v).getLsbD i =
      (((if d.rw.getLsbD i || (fw && d.fw.getLsbD i) || (!locked && d.lk.getLsbD i) then v.getLsbD i
          else old.getLsbD i) && !(v.getLsbD i && d.w1c.getLsbD i)) || (v.getLsbD i && d.w1s.getLsbD i)) := by
  have hfw : BitVec.getLsbD (if fw then d.fw else 0) i = (fw && d.fw.getLsbD i) := by cases fw <;> simp
  have hlk : BitVec.getLsbD (if locked then 0 else d.lk) i = (!locked && d.lk.getLsbD i) := by cases locked <;> simp
  simp only [RegDesc.written, BitVec.getLsbD_or, BitVec.getLsbD_and, BitVec.getLsbD_not, hi, decide_true, Bool.true_and,
    hfw, hlk]
  cases (d.rw.getLsbD i || fw && d.fw.getLsbD i || !locked && d.lk.getLsbD i) <;> simp

theorem plainWrite_eq {s : State} {off : Nat} {d : RegDesc} (w : Writer) (v : Word) (hr : s.reaches off = true)
    (hd : findReg off = some d) : plainWrite w off v s =
      s.setWord off (d.written (writerIsFirmware w) (s.locked d) (s.word off) v) := by
  rw [plainWrite, atReg_acts hr, hd]

theorem writeWord_plain {off : Nat} (hblk : plainBlock (off / 0x10000) = true) (hclr : clearMap off = [])
    (w : Writer) (v : Word) (s : State) : writeWord w off v s = plainWrite w off v s := by
  unfold writeWord
  rw [if_neg (fun h => h hclr)]
  split <;> simp_all [plainBlock]

/-- Settles O16: a register of a plain block takes what its access codes leave, bit by bit. -/
theorem accessCodes : Obligations.AccessCodes := by
  unfold Obligations.AccessCodes
  intro w off v s d hr hblk hclr hd
  refine ⟨_, answer_eq ((writeWord_plain hblk hclr w v s).trans (plainWrite_eq w v hr hd)) rfl, rfl,
    fun o ho => s.word_setWord_other _ ho, fun i hi => ?_⟩
  rw [s.word_setWord_same, RegDesc.written_bit d _ _ _ _ hi]
  refine ⟨fun hc hs hrw hfw hlk => ?w1c, fun hs hc hrw hfw hlk => ?w1s, fun hc hs =>
    ⟨fun hrw => ?rw, fun hrw hlk hfw => ?lk, fun hrw hfw hlk => ?fw, fun hrw hfw hlk => ?other⟩⟩
  case w1c => simp [hc, hs, hrw, hfw, hlk]
  case w1s => simp [hc, hs, hrw, hfw, hlk]
  case rw => simp [hc, hs, hrw]
  case lk => cases hlock : s.locked d <;> simp [hc, hs, hrw, hlk, hfw]
  case fw => cases writerIsFirmware w <;> simp [hc, hs, hrw, hlk, hfw]
  case other => simp [hc, hs, hrw, hfw, hlk]

/-! ### Locks -/

/-- The registers with a LOCK bit. -/
def lockRegs : List Nat := [0x080000, 0x110000, 0x130000, 0x170008, 0x180000, 0x1B0100]

theorem lockReg_of_blocks : ∀ blk, blk < 32 → ∀ d ∈ regsOfBlock blk, d.w1s.getLsbD 31 = true →
    d.idx = [] ∧ d.off ∈ lockRegs := by
  decide +kernel

theorem regsOfBlock_of_le {blk : Nat} (h : 32 ≤ blk) : regsOfBlock blk = [] := by
  unfold regsOfBlock
  split <;> simp_all

theorem off_mem_lockRegs {off : Nat} {d : RegDesc} (hd : findReg off = some d) (hlock : d.w1s.getLsbD 31 = true) :
    off ∈ lockRegs := by
  have hfind : (regsOfBlock (off / 0x10000)).find? (fun x => x.covers off) = some d := hd
  have hmem : d ∈ regsOfBlock (off / 0x10000) := List.mem_of_find?_eq_some hfind
  have hcovers := List.find?_some hfind
  have hblk : off / 0x10000 < 32 := Nat.lt_of_not_le fun hge => by
    rw [regsOfBlock_of_le hge] at hmem
    exact List.not_mem_nil hmem
  obtain ⟨hidx, hoff⟩ := lockReg_of_blocks _ hblk d hmem hlock
  simp only [RegDesc.covers, hidx, beq_iff_eq] at hcovers
  exact hcovers ▸ hoff

/-- Every register with a LOCK bit but NVS_CTR_CTL takes writes by its access codes alone. -/
theorem writeWord_lockReg {off : Nat} (h : off ∈ lockRegs) (hne : off ≠ F.NVS_CTR_CTL_EXT_PERSIST.off) (w : Writer)
    (v : Word) (s : State) : writeWord w off v s = plainWrite w off v s := by
  simp only [lockRegs, List.mem_cons, List.not_mem_nil, or_false] at h
  rcases h with rfl | rfl | rfl | rfl | rfl | rfl
  · rfl
  · rfl
  · rfl
  · rfl
  · rfl
  · exact absurd rfl hne

theorem runLockSet_eq {off : BitVec 24} {d : RegDesc} (hd : findReg off.toNat = some d)
    (hlock : d.w1s.getLsbD 31 = true) (w : Writer) (v : Word) (s : State) :
    runLockSet w off v s = writeWord w off.toNat (v ||| 0x80000000#32) s := by
  simp only [runLockSet, hd, hlock, if_true]

/-- A write with LOCK = 1 leaves LOCK set. -/
theorem written_lock {d : RegDesc} (fw locked : Bool) (old v : Word) (h : d.w1s.getLsbD 31 = true) :
    (d.written fw locked old (v ||| 0x80000000#32)).getLsbD 31 = true := by
  have hv : (v ||| 0x80000000#32).getLsbD 31 = true := by simp
  rw [RegDesc.written_bit _ _ _ _ _ (by decide), hv, h, Bool.and_self, Bool.or_true]

/-- An LK bit of a locked register keeps its value. -/
theorem written_locked {d : RegDesc} (fw : Bool) (old v : Word) {i : Nat} (hi : i < 32) (hrw : d.rw.getLsbD i = false)
    (hfw : d.fw.getLsbD i = false) (hc : d.w1c.getLsbD i = false) (hs : d.w1s.getLsbD i = false) :
    (d.written fw true old v).getLsbD i = old.getLsbD i := by
  rw [RegDesc.written_bit _ _ _ _ _ hi, hrw, hfw, hc, hs]
  simp

/-! ### Counter clears -/

section
variable {v : Word} {l : List (Nat × Nat)} {s : State}

theorem clearRegs_eq_csr (v : Word) (l : List (Nat × Nat)) (s : State) :
    clearRegs v l s = { s with csr := (clearRegs v l s).csr } := by
  unfold clearRegs
  refine List.foldlRecOn (motive := fun t : State => t = { s with csr := t.csr }) _ _ rfl fun t ih e _ => ?_
  split
  · rw [ih]
    rfl
  · exact ih

theorem clearRegs_cons (e : Nat × Nat) :
    clearRegs v (e :: l) s = clearRegs v l (if v.getLsbD e.1 then s.setWord e.2 0 else s) := rfl

/-- A register that no set bit names keeps its value. -/
theorem clearRegs_other {o : Nat} (h : ∀ e ∈ l, v.getLsbD e.1 = true → e.2 ≠ o) :
    (clearRegs v l s).word o = s.word o := by
  induction l generalizing s with
  | nil => rfl
  | cons e l ih =>
    obtain ⟨he, hl⟩ := List.forall_mem_cons.1 h
    rw [clearRegs_cons, ih hl]
    split
    · exact s.word_setWord_other _ (he ‹_›).symm
    · rfl

theorem clearRegs_keeps_zero {o : Nat} (h : s.word o = 0) : (clearRegs v l s).word o = 0 := by
  induction l generalizing s with
  | nil => exact h
  | cons e l ih =>
    rw [clearRegs_cons]
    apply ih
    split
    · by_cases ho : o = e.2
      · rw [ho, s.word_setWord_same]
      · rw [s.word_setWord_other _ ho, h]
    · exact h

/-- A register that a set bit names reads 0. -/
theorem clearRegs_named {e : Nat × Nat} (he : e ∈ l) (hv : v.getLsbD e.1 = true) : (clearRegs v l s).word e.2 = 0 := by
  induction l generalizing s with
  | nil => simp at he
  | cons f l ih =>
    rw [clearRegs_cons]
    rcases List.mem_cons.1 he with rfl | hl
    · apply clearRegs_keeps_zero
      rw [if_pos hv, s.word_setWord_same]
    · exact ih hl

end

/-- Settles O17: a lock register but one is plain, and a counter clear is a run of register writes. -/
theorem locksAndCounterClears : Obligations.LocksAndCounterClears := by
  unfold Obligations.LocksAndCounterClears
  refine ⟨fun w off v s d hr hd hlock => ⟨fun hne => ?lock, fun heq => ?persist⟩, fun w off v s hr hne => ?clear⟩
  case lock =>
    have hrun := (runLockSet_eq hd hlock w v s).trans ((writeWord_lockReg (off_mem_lockRegs hd hlock) hne w _ s).trans
      (plainWrite_eq w _ hr hd))
    refine ⟨_, answer_eq hrun rfl, rfl, ?_, fun o ho => s.word_setWord_other _ ho, fun hlocked i hi hlk hrw hfw hc hs => ?_⟩
    · rw [s.word_setWord_same, written_lock _ _ _ _ hlock]
    · rw [s.word_setWord_same, hlocked, written_locked _ _ _ hi hrw hfw hc hs]
  case persist =>
    rw [plainWrite_eq w _ hr hd]
    refine ⟨answer_sameQueue ((runLockSet_eq hd hlock w v s).trans ?_), ?_⟩
    · rw [← plainWrite_eq w _ hr hd, heq]
      exact atReg_acts (s := plainWrite w _ _ s) (by rw [plainWrite_eq w _ (heq ▸ hr) (heq ▸ hd)]; exact heq ▸ hr)
    · rw [s.word_setWord_same, written_lock _ _ _ _ hlock]
  case clear =>
    have hrun : runCounterClearWrite w off v s = clearRegs v (clearMap off.toNat) s :=
      (if_neg hne).trans (atReg_acts hr)
    refine ⟨_, answer_eq hrun ?_, clearRegs_eq_csr .., fun e he hv => clearRegs_named he hv, fun o ho => clearRegs_other ho⟩
    rw [clearRegs_eq_csr]

end Sys2Proof.Machine

/-! The voted calendar, its faults, and timer writes by those who do not hold the timer (R63 to R65, R87). -/

namespace Sys2Proof.Machine

open Sys2Proof.Claims

/-! ### The vote -/

section
variable {α : Type} [DecidableEq α]

theorem vote_of_eq_first {a b c : α} (h : a = b ∨ a = c) : vote a b c = a := if_pos h

theorem vote_of_eq_last {a b c : α} (h : b = c) : vote a b c = b := by
  subst h
  by_cases hab : a = b <;> simp [vote, hab]

end

/-! ### Timers that another holds -/

theorem State.reaches_of_timersRun {s : State} {off : Nat} (h : s.timersRun = true) (hoff : off / 0x10000 = 2) :
    s.reaches off = true := by
  have hmode : s.seq.mode ≠ .cold ∧ s.seq.mode ≠ .quarantine := by simpa [State.timersRun, State.inMode] using h
  unfold State.reaches
  rw [hoff]
  cases hm : s.seq.mode <;> simp_all

theorem tmrOwned_of_not_holds {w : Writer} {res off : Nat} {act : State → State} {s : State} (hrun : s.timersRun = true)
    (hoff : off / 0x10000 = 2) (hh : s.holds w res = false) : tmrOwned w res off act s = tmrIgnore w s :=
  tmrOwned_ignored (s.reaches_of_timersRun hrun hoff) hh

/-- An ignored write leaves all but the count of such writes, and the count of free values. -/
theorem tmrIgnore_eq (w : Writer) (s : State) :
    tmrIgnore w s = { s with csr := (tmrIgnore w s).csr, free := (tmrIgnore w s).free } := by
  cases w <;> rfl

theorem tmrIgnore_leaves (w : Writer) (s : State) :
    (tmrIgnore w s).timers = s.timers ∧ (tmrIgnore w s).interp = s.interp ∧ (tmrIgnore w s).host = s.host ∧
      (tmrIgnore w s).journal = s.journal := by
  rw [tmrIgnore_eq]
  exact ⟨rfl, rfl, rfl, rfl⟩

theorem tmrIgnore_word (w : Writer) (s : State) {off : Nat} (hoff : off ≠ F.TMR_IGN_CNT_COUNT.off) :
    (tmrIgnore w s).word off = s.word off := by
  have hcount := State.word_setFld_other (f := F.TMR_IGN_CNT_COUNT) (o := off)
  have hreq := State.word_setFld_other (f := F.TMR_IGN_CNT_LAST_REQ) (o := off)
  cases w <;> exact (hreq _ _ hoff).trans (hcount _ _ hoff)

theorem tmrIgnore_lastReq (r : Req) (s : State) : (tmrIgnore (.req r) s).fld F.TMR_IGN_CNT_LAST_REQ = r.toNat :=
  (State.fld_setFld_same _ F.TMR_IGN_CNT_LAST_REQ _ (by decide)).trans (Nat.mod_eq_of_lt r.isLt)

theorem satAdd_le {m a b : Nat} : satAdd m a b ≤ m := by
  unfold satAdd
  split <;> omega

theorem tmrIgnore_count (w : Writer) (s : State) : (tmrIgnore w s).fld F.TMR_IGN_CNT_COUNT =
    satAdd (2 ^ F.TMR_IGN_CNT_COUNT.width - 1) (s.fld F.TMR_IGN_CNT_COUNT) 1 := by
  unfold tmrIgnore
  rw [State.fld_setFld_apart _ F.TMR_IGN_CNT_LAST_REQ F.TMR_IGN_CNT_COUNT _ (by decide), State.count,
    State.fld_setFld_same _ _ _ (by decide), Nat.mod_eq_of_lt (Nat.lt_of_le_of_lt satAdd_le (by decide))]
  cases w <;> rfl

/-- Settles O27: a write of a timer acts only where the writer holds it, and else counts. -/
theorem unheldTimerWritesIgnored : Obligations.UnheldTimerWritesIgnored := by
  unfold Obligations.UnheldTimerWritesIgnored
  rintro w v s t hrun rfl
  refine ⟨fun n hn => ⟨?_, ?_, ?_⟩, fun n hn => ⟨?_, ?_, ?_, ?_⟩, ?_⟩
  · exact answer_eq (tmrOwned_of_not_holds hrun (by simp [R.TMR_L_CMP]; omega) hn) (by rw [tmrIgnore_eq])
  · exact answer_eq (tmrOwned_of_not_holds hrun (by simp [R.TMR_L_CTL]; omega) hn) (by rw [tmrIgnore_eq])
  · exact answer_eq (tmrOwned_of_not_holds hrun (by simp [R.TMR_L_CTL]; omega) hn) (by rw [tmrIgnore_eq])
  · exact answer_eq (tmrOwned_of_not_holds hrun (by simp [R.TMR_I_CMP]; omega) hn) (by rw [tmrIgnore_eq])
  · exact answer_eq (tmrOwned_of_not_holds hrun (by simp [R.TMR_I_COUNT]; omega) hn) (by rw [tmrIgnore_eq])
  · exact answer_eq (tmrOwned_of_not_holds hrun (by simp [R.TMR_I_PRESC]; omega) hn) (by rw [tmrIgnore_eq])
  · exact answer_eq (tmrOwned_of_not_holds hrun (by simp [R.TMR_I_CTL]; omega) hn) (by rw [tmrIgnore_eq])
  · obtain ⟨htimers, hinterp, hhost, hjournal⟩ := tmrIgnore_leaves w s
    exact ⟨htimers, hinterp, hhost, hjournal, fun off hoff => tmrIgnore_word w s hoff,
      fun r hr => hr ▸ tmrIgnore_lastReq r s, tmrIgnore_count w s⟩

/-- Settles O23: by the vote of the three copies and by the branches of the two events. -/
theorem calendarVoteAndFault : Obligations.CalendarVoteAndFault := by
  unfold Obligations.CalendarVoteAndFault
  refine ⟨⟨fun s hrun => ⟨fun h => ?_, fun h => ?_, fun h => ?_⟩, ?corrected⟩, ?fault⟩
  · rw [State.now, hrun, if_neg Bool.false_ne_true, vote_of_eq_first (.inl h)]
  · rw [State.now, hrun, if_neg Bool.false_ne_true, vote_of_eq_first (.inr h)]
  · rw [State.now, hrun, if_neg Bool.false_ne_true, vote_of_eq_last h]
  case corrected =>
    rintro copy v s t hrun hv rfl
    have hfirst : ¬ (s.flag F.TMB_STAT_CAL_FAULT || v.toNat == s.now) = true := by simp [hrun, hv]
    refine ⟨fun hnone => ?_, fun t0 hsome hsoon => ?_⟩
    · have hnone' : s.cal.voteAt = none := hnone
      exact answer_eq ((if_neg hfirst).trans (if_pos (by simp [hnone']))) rfl
    · have hsome' : s.cal.voteAt = some t0 := hsome
      exact answer_eq ((if_neg hfirst).trans (if_neg (by simpa [hsome'] using hsoon))) rfl
  case fault =>
    rintro a b c s t hrun hab hac hbc rfl u rfl
    exact answer_sameQueue (if_neg (by simp [hrun, hab, hac, hbc]))

end Sys2Proof.Machine

/-! The arbiter, the arithmetic of the schedule, the votes of the airtime ledger, and the checks of a start
(R110, R111, R188, R194, R205, R218, R395 to R397). -/

namespace Sys2Proof.Machine

open Sys2Proof.Claims

/-! ### Least and greatest numbers -/

theorem least2_le_left (a b : Nat) : least2 a b ≤ a := by
  unfold least2
  split <;> omega

theorem least2_le_right (a b : Nat) : least2 a b ≤ b := by
  unfold least2
  split <;> omega

theorem le_foldl_greatest {l : List Nat} {acc x : Nat} (h : x ≤ acc ∨ x ∈ l) :
    x ≤ l.foldl (fun a b => if a ≤ b then b else a) acc := by
  induction l generalizing acc with
  | nil => simpa using h
  | cons y l ih =>
    refine ih ?_
    rw [List.mem_cons] at h
    rcases h with h | rfl | h
    · exact .inl (by dsimp only; split <;> omega)
    · exact .inl (by dsimp only; split <;> omega)
    · exact .inr h

theorem le_greatest {l : List Nat} {x : Nat} (h : x ∈ l) : x ≤ greatest l := le_foldl_greatest (.inr h)

theorem foldl_least2_mem (l : List Nat) (acc : Nat) : l.foldl least2 acc = acc ∨ l.foldl least2 acc ∈ l := by
  induction l generalizing acc with
  | nil => exact .inl rfl
  | cons y l ih =>
    rw [List.foldl_cons, List.mem_cons]
    rcases ih (least2 acc y) with h | h
    · rw [h]
      unfold least2
      split
      · exact .inl rfl
      · exact .inr (.inl rfl)
    · exact .inr (.inr h)

/-- The least number of a list that is not empty is one of its numbers. -/
theorem leastNat_mem {l : List Nat} (h : l ≠ []) : leastNat l ∈ l := by
  cases l with
  | nil => exact absurd rfl h
  | cons x l => exact List.mem_cons.2 (foldl_least2_mem l x)

/-! ### Sorted lists -/

theorem mem_insertBy {α : Type} {key : α → Nat} {x y : α} {l : List α} : y ∈ insertBy key x l ↔ y = x ∨ y ∈ l := by
  induction l with
  | nil => simp [insertBy]
  | cons z l ih =>
    unfold insertBy
    split
    · simp only [List.mem_cons, ih]
      exact or_left_comm
    · simp only [List.mem_cons]

theorem mem_foldl_insertBy {α : Type} {key : α → Nat} {y : α} {l acc : List α} :
    y ∈ l.foldl (fun acc x => insertBy key x acc) acc ↔ y ∈ acc ∨ y ∈ l := by
  induction l generalizing acc with
  | nil => simp
  | cons x l ih =>
    rw [List.foldl_cons, ih, mem_insertBy, List.mem_cons, or_assoc]
    exact or_left_comm

theorem mem_sortBy {α : Type} {key : α → Nat} {y : α} {l : List α} : y ∈ sortBy key l ↔ y ∈ l := by
  simp [sortBy, mem_foldl_insertBy]

theorem mem_of_nextAfter {last r : Nat} {rs : List Nat} (h : nextAfter last rs = some r) : r ∈ rs :=
  mem_sortBy.1 (List.mem_of_head? h)

/-! ### The arbiter -/

theorem mem_arbRequesters {r : Nat} : r ∈ arbRequesters ↔ 1 ≤ r ∧ r ≤ 53 := by
  simp only [arbRequesters, List.mem_map, List.mem_range]
  constructor
  · rintro ⟨a, ha, rfl⟩
    omega
  · exact fun h => ⟨r - 1, by omega, by omega⟩

/-- The winner is one of those who may win, at the highest priority among them. -/
theorem State.arbWinner_spec {s : State} {c : ArbCycle} {r : Nat} (h : s.arbWinner c = some r) :
    (r ∈ arbRequesters ∧ c.asks.contains r = true ∧ s.arbMasked c r = false) ∧
      ∀ q ∈ arbRequesters, c.asks.contains q = true → s.arbMasked c q = false → s.prio q ≤ s.prio r := by
  obtain ⟨hopen, htop⟩ := List.mem_filter.1 (mem_of_nextAfter h)
  refine ⟨by simpa using hopen, fun q hq hasks hmasked => ?_⟩
  rw [beq_iff_eq.1 htop]
  exact le_greatest (List.mem_map_of_mem (List.mem_filter.2 ⟨hq, by simp [hmasked, List.contains_iff_mem.1 hasks]⟩))

/-- Settles O39: writes act after the cycles before them, and the winner is the first of the highest priority. -/
theorem arbiterCommands : Obligations.ArbiterCommands := by
  unfold Obligations.ArbiterCommands
  refine ⟨⟨?prio, ?quota, ?window⟩, ?winner⟩
  case prio =>
    rintro cs k v s t rfl hr
    exact answer_sameQueue (atReg_acts hr)
  case quota =>
    rintro cs v s t rfl hr
    exact answer_sameQueue (atReg_acts (act := fun s => arbWindow (s.setWord R.ARB_QUOTA v)) hr)
  case window =>
    rintro cs s t rfl hend
    refine answer_sameQueue (if_neg ?_)
    rintro ⟨hpos, hcs⟩
    exact hend.elim (absurd hpos) hcs
  case winner =>
    intro s c r h
    obtain ⟨⟨hmem, hasks, hmasked⟩, htop⟩ := State.arbWinner_spec h
    obtain ⟨hlow, hquota⟩ : c.low.contains r = false ∧ (6 ≤ s.prio r → s.arbGrants r < s.arbQ) := by
      simpa [State.arbMasked] using hmasked
    obtain ⟨hlo, hhi⟩ := mem_arbRequesters.1 hmem
    exact ⟨hasks, hlo, hhi, hlow, hquota, fun q hq hq' => htop q (mem_arbRequesters.2 ⟨hq, hq'⟩)⟩

/-! ### The schedule -/

/-- The numbers below the `i`-th one that passes a filter hold `i` that pass it. -/
theorem length_filter_range_getElem {p : Nat → Bool} {n i : Nat} (h : i < ((List.range n).filter p).length) :
    ((List.range ((List.range n).filter p)[i]).filter p).length = i := by
  induction n with
  | zero => simp at h
  | succ n ih =>
    by_cases hi : i < ((List.range n).filter p).length
    · have hget : ((List.range (n + 1)).filter p)[i] = ((List.range n).filter p)[i] := by
        simp only [List.range_succ, List.filter_append]
        exact List.getElem_append_left hi
      rw [hget, ih hi]
    · have hp : p n = true := Decidable.byContradiction fun hp => by
        simp [List.range_succ, List.filter_append, hp] at h
        omega
      have hlen : i = ((List.range n).filter p).length := by
        simp [List.range_succ, List.filter_append, hp] at h
        omega
      subst hlen
      have hget : ((List.range (n + 1)).filter p)[((List.range n).filter p).length] = n := by
        simp [List.range_succ, List.filter_append, hp]
      rw [hget]

theorem mapChannels_ne_nil {m : BitVec 256} (h : m ≠ 0) : mapChannels m ≠ [] := by
  intro hnil
  apply h
  refine BitVec.eq_of_getLsbD_eq fun i hi => ?_
  have hnone := List.filter_eq_nil_iff.1 hnil i (List.mem_range.2 hi)
  simpa using hnone

/-- The channel of an event whose first choice is not in the map is one of the map, counted. -/
theorem hop_of_not_mapped {m : BitVec 256} {e n seed : Nat} (hm : m ≠ 0)
    (hraw : m.getLsbD ((e * 40503 + n * 45 + seed) % 256) = false) :
    ∃ h : (e * 40503 + n * 45 + seed) % 256 % (mapChannels m).length < (mapChannels m).length,
      hop m e n seed = (mapChannels m)[(e * 40503 + n * 45 + seed) % 256 % (mapChannels m).length] := by
  have hne := mapChannels_ne_nil hm
  have hlt := Nat.mod_lt ((e * 40503 + n * 45 + seed) % 256) (List.length_pos_iff.2 hne)
  refine ⟨hlt, ?_⟩
  simp only [hop, hraw, Bool.false_eq_true, if_false, List.isEmpty_iff, if_neg hne, nth]
  rw [List.getD_eq_getElem?_getD, List.getElem?_eq_getElem hlt, Option.getD_some]

theorem satInt_natAbs_le (m : Nat) (v : Int) : (satInt (-m) m v).natAbs ≤ m := by
  unfold satInt
  split
  · omega
  · split <;> omega

theorem State.corr_natAbs_le (s : State) (x : Int) : (s.corr x).natAbs ≤ 2047 := by
  unfold State.corr
  split
  · simp
  · exact satInt_natAbs_le 2047 _

/-- Settles O48: by the arithmetic of the seed, the hop and the correction. -/
theorem scheduleArithmetic : Obligations.ScheduleArithmetic := by
  unfold Obligations.ScheduleArithmetic
  refine ⟨fun s e k => ⟨rfl, ?seed⟩, fun m e n seed hm => ?mapped, fun m e n seed hraw => if_pos hraw,
    fun m e n seed hm hraw => ?counted, fun s x => ⟨s.corr_natAbs_le x, fun h => if_pos h⟩⟩
  case seed =>
    unfold State.seedOf
    omega
  case mapped =>
    by_cases hraw : m.getLsbD ((e * 40503 + n * 45 + seed) % 256) = true
    · rw [show hop m e n seed = _ from if_pos hraw, hraw]
    · obtain ⟨hlt, heq⟩ := hop_of_not_mapped hm (Bool.eq_false_iff.2 hraw)
      rw [heq]
      exact (List.mem_filter.1 (List.getElem_mem hlt)).2
  case counted =>
    obtain ⟨hlt, heq⟩ := hop_of_not_mapped hm hraw
    rw [heq]
    exact length_filter_range_getElem hlt

/-! ### The airtime ledger -/

theorem feastPut_copy_same {s : State} {i : Nat} (h : i < s.mac.feast.length) (k v : Nat) :
    ((feastPut k v s).feastCopy i).get 0 k = v := by
  simp [State.feastCopy, feastPut, List.getD_eq_getElem?_getD, h]

theorem feastPut_copy_other (s : State) (i : Nat) {j k : Nat} (h : j ≠ k) (v : Nat) :
    ((feastPut k v s).feastCopy i).get 0 j = (s.feastCopy i).get 0 j := by
  by_cases hi : i < s.mac.feast.length
  · simp [State.feastCopy, feastPut, List.getD_eq_getElem?_getD, hi, Sparse.get_set_other _ _ _ h]
  · simp [State.feastCopy, feastPut, List.getD_eq_getElem?_getD, hi]

/-- A vote leaves the copies as they are where the three agree, and otherwise puts the voted value into each. -/
theorem feastVote_feast (k : Nat) (s : State) : (feastVote k s).mac.feast =
    if (s.feastCopy 0).get 0 k = (s.feastCopy 1).get 0 k ∧ (s.feastCopy 1).get 0 k = (s.feastCopy 2).get 0 k then
      s.mac.feast else (feastPut k (s.feastVoted k) s).mac.feast := by
  unfold feastVote
  split
  · simp_all
  · rename_i hne
    rw [if_neg hne]
    dsimp only
    split
    · split
      · rfl
      · split <;> rfl
    · rfl

theorem feastVoted_le {s : State} {k a b c : Nat} (ha : a = (s.feastCopy 0).get 0 k) (hb : b = (s.feastCopy 1).get 0 k)
    (hc : c = (s.feastCopy 2).get 0 k) (hab : a ≠ b) (hac : a ≠ c) (hbc : b ≠ c) :
    s.feastVoted k = least2 4000000 (greatest [a, b, c]) := by
  simp [State.feastVoted, ← ha, ← hb, ← hc, hab, hac, hbc]

/-- Settles O49: a vote puts one value into the three copies of its bucket, and scrubbing votes a second's buckets. -/
theorem airtimeVotes : Obligations.AirtimeVotes := by
  unfold Obligations.AirtimeVotes
  refine ⟨fun k s a b c hlen ha hb hc => ⟨fun i hi => ?same, fun i j hj => ?other, fun h => ?first, fun h => ?last,
    fun hab hac hbc => ?largest⟩, ?scrub⟩
  case same =>
    unfold State.feastCopy
    rw [feastVote_feast]
    split
    case isTrue hall => 
      rw [← State.feastCopy, State.feastVoted, if_pos (.inl hall.1)]
      have hcopy : i = 0 ∨ i = 1 ∨ i = 2 := by omega
      rcases hcopy with rfl | rfl | rfl
      · rfl
      · exact hall.1.symm
      · exact (hall.1.trans hall.2).symm
    case isFalse => exact feastPut_copy_same (hlen ▸ hi) k _
  case other =>
    unfold State.feastCopy
    rw [feastVote_feast]
    split
    · rfl
    · exact feastPut_copy_other s i hj _
  case first => simp only [State.feastVoted, ← ha, ← hb, ← hc, if_pos h]
  case last =>
    simp only [State.feastVoted, ← ha, ← hb, ← hc, ← h]
    split <;> simp_all
  case largest =>
    rw [feastVoted_le ha hb hc hab hac hbc]
    refine ⟨least2_le_left _ _, fun x hx hle => ?_⟩
    have hgreat : x ≤ greatest [a, b, c] := le_greatest (by simpa using hx)
    unfold least2
    split <;> assumption
  case scrub =>
    intro ups s t ht u hu
    rw [hu, ht]
    exact answer_sameQueue (by simp only [runLedgerScrub, feastSec])

/-! ### The checks of a start -/

/-- The drive limit over a span is that of one of the profile's entries which hold the span. -/
theorem State.effective_entry {s : State} {lo hi : Int} {eff : Effective} (h : s.effective lo hi = some eff) :
    ∃ e ∈ s.bandsOf lo hi, eff.maxDrive = (s.band e).maxDrive := by
  dsimp only [State.effective] at h
  split at h
  · cases h
  · rename_i hne
    obtain ⟨e, he, hdrive⟩ := List.mem_map.1 (leastNat_mem (l := (s.bandsOf lo hi).map (fun e => (s.band e).maxDrive))
      (by simpa using hne))
    refine ⟨e, he, ?_⟩
    rw [hdrive]
    exact (congrArg Effective.maxDrive (Option.some.inj h)).symm

theorem State.mem_bandsOf {s : State} {lo hi : Int} {e : Nat} : e ∈ s.bandsOf lo hi ↔
    e < 16 ∧ (s.band e).valid = true ∧ 1000 * ((s.band e).lo : Int) ≤ lo ∧ hi ≤ 1000 * ((s.band e).hi : Int) := by
  simp [State.bandsOf, and_assoc]

/-- A start whose checks pass has a calendar, limits over its span, and the token. -/
theorem startChecks_pass {n : Nat} {d : TxDesc} {lbt : Option Byte} {s u : State} {eff : Effective}
    (h : startChecks n d lbt s = (.inr eff, u)) : s.flag F.TMB_STAT_CAL_FAULT = false ∧
      s.effective (s.carrier d - widthHz (s.streamWidth d.slot.val) / 2)
        (s.carrier d + widthHz (s.streamWidth d.slot.val) / 2) = some eff ∧ s.held = true ∧ d.unbuilt = false := by
  dsimp only [startChecks] at h
  split at h
  · cases h
  · rename_i hcal
    split at h
    · cases h
    · rename_i eff' heff
      split at h
      · cases h
      · rename_i htoken
        split at h
        · cases h
        · split at h
          · cases h
          · split at h
            · cases h
            · cases h
              exact ⟨by simpa using hcal, heff, by simpa using htoken⟩

theorem driveOf_le (d : TxDesc) (eff : Effective) :
    driveOf d eff ≤ d.drive ∧ driveOf d eff ≤ 64 ∧ driveOf d eff ≤ eff.maxDrive :=
  ⟨Nat.le_trans (least2_le_left _ _) (least2_le_left _ _), Nat.le_trans (least2_le_left _ _) (least2_le_right _ _),
    least2_le_right _ _⟩

/-- Settles O43: the entry of the least drive holds the span. -/
theorem startsAreLawful : Obligations.StartsAreLawful := by
  unfold Obligations.StartsAreLawful
  intro n d lbt s u eff h
  obtain ⟨hcal, heff, hheld, hbuilt⟩ := startChecks_pass h
  obtain ⟨e, he, hdrive⟩ := State.effective_entry heff
  obtain ⟨hlt, hvalid, hlo, hhi⟩ := State.mem_bandsOf.1 he
  obtain ⟨hdesc, h64, hmax⟩ := driveOf_le d eff
  exact ⟨hcal, hheld, hbuilt, ⟨e, hlt, hvalid, hlo, hhi, hdrive ▸ hmax⟩, h64, hdesc⟩

end Sys2Proof.Machine

/-! What an operation leaves of the ledger when it only reads, or when another requester holds its entry (R326, R338). -/

namespace Sys2Proof.Machine

open Sys2Proof.Claims

/-- The state on which an operation runs: a transaction's context notes the time. -/
def ledgerTouch (who : Nat) (o : LOp) (s : State) : State :=
  match (if o.txn then s.ctxOf who else none) with
  | some c => s.setCtx c { s.ctx c with last := s.now }
  | none => s

/-- What an operation does there: the first check that fails answers, and otherwise it acts. -/
def ledgerRun (who : Nat) (restricted : Bool) (o : LOp) (s : State) : LRes × State :=
  match s.opFail who restricted o with
  | some st =>
    (⟨st, o.index, false, if badOp o then o.data else if o.op = 4 ∨ o.op = 6 then o.data
      else s.view who o.table o.index⟩, s)
  | none =>
    match o.op with
    | 0 => (readOp who o s, s)
    | 4 => (⟨St.OK, o.index, false, o.data⟩, healRow 4 o.index (byteMask 0 16) (s.setBnt o.index 0))
    | 5 => if o.table = 0 then allocNode who o.key o.index o.data s else allocBnt who o s
    | 6 => freeOp o s
    | _ => writeOp who restricted o s

section
variable (who : Nat) (restricted : Bool) (o : LOp) (s : State)

theorem ledgerOp_eq : ledgerOp who restricted o s = ledgerRun who restricted o (ledgerTouch who o s) := rfl

/-- Only the contexts change, and of a context only its time. -/
theorem ledgerTouch_keeps : (∀ table i, (ledgerTouch who o s).row table i = s.row table i) ∧
    (ledgerTouch who o s).csr = s.csr ∧
    ∀ c, ((ledgerTouch who o s).ctx c).staged = (s.ctx c).staged ∧
      ((ledgerTouch who o s).ctx c).owner = (s.ctx c).owner := by
  unfold ledgerTouch
  split
  · refine ⟨fun table i => rfl, rfl, fun d => ?_⟩
    rename_i c _
    by_cases hd : d = c
    · rw [hd, State.setCtx_ctx]
      exact ⟨rfl, rfl⟩
    · rw [State.setCtx_ctx_other _ _ hd]
      exact ⟨rfl, rfl⟩
  · exact ⟨fun _ _ => rfl, rfl, fun _ => ⟨rfl, rfl⟩⟩

theorem ledgerTouch_lockedFor (table i : Nat) :
    (ledgerTouch who o s).lockedFor who table i = s.lockedFor who table i := by
  obtain ⟨-, -, hctx⟩ := ledgerTouch_keeps who o s
  simp only [State.lockedFor, LdgCtx.find, hctx]

theorem ledgerOp_of_fail {st : Nat} (h : (ledgerTouch who o s).opFail who restricted o = some st) :
    (ledgerOp who restricted o s).1.status = st ∧ (ledgerOp who restricted o s).2 = ledgerTouch who o s := by
  rw [ledgerOp_eq, ledgerRun, h]
  exact ⟨rfl, rfl⟩

theorem ledgerOp_of_read (hop : o.op = 0) (h : (ledgerTouch who o s).opFail who restricted o = none) :
    (ledgerOp who restricted o s).2 = ledgerTouch who o s := by
  rw [ledgerOp_eq, ledgerRun, h]
  simp only [hop]

end

theorem firstFail_ne_none {cs : List (Bool × Nat)} {st : Nat} (h : (true, st) ∈ cs) : firstFail cs ≠ none := by
  induction cs with
  | nil => cases h
  | cons c cs ih =>
    obtain ⟨b, x⟩ := c
    cases b with
    | true => simp
    | false => simpa using ih (by simpa using h)

theorem mem_of_firstFail {cs : List (Bool × Nat)} {st : Nat} (h : firstFail cs = some st) : (true, st) ∈ cs := by
  induction cs with
  | nil => cases h
  | cons c cs ih =>
    obtain ⟨b, x⟩ := c
    cases b with
    | true => simp_all
    | false => exact List.mem_cons_of_mem _ (ih (by simpa using h))

/-- No check of an operation answers OK. -/
theorem State.opFail_ne_ok {s : State} {who : Nat} {restricted : Bool} {o : LOp} {st : Nat}
    (h : s.opFail who restricted o = some st) : st ≠ St.OK := by
  have hmem := mem_of_firstFail h
  simp only [List.mem_cons, List.not_mem_nil, Prod.mk.injEq, or_false] at hmem
  rcases hmem with ⟨-, rfl⟩ | ⟨-, rfl⟩ | ⟨-, rfl⟩ | ⟨-, rfl⟩ | ⟨-, rfl⟩ | ⟨-, rfl⟩ <;> decide

/-- An operation other than a read or an allocation fails on an entry that another holds. -/
theorem State.opFail_of_locked {s : State} {who : Nat} {restricted : Bool} {o : LOp} (hread : o.op ≠ 0) (halloc : o.op ≠ 5)
    (h : s.lockedFor who o.table o.index = true) : s.opFail who restricted o ≠ none :=
  firstFail_ne_none (st := St.TBL_LOCKED) (by simp [h, hread, halloc])

/-- Settles O57: a read keeps the tables, and the lock check refuses the other operations before they act. -/
theorem lockedRowsHold : Obligations.LockedRowsHold := by
  unfold Obligations.LockedRowsHold
  intro who restricted o s h
  have hkeeps : (ledgerOp who restricted o s).2 = ledgerTouch who o s := by
    cases hfail : (ledgerTouch who o s).opFail who restricted o with
    | some st => exact (ledgerOp_of_fail who restricted o s hfail).2
    | none =>
      refine ledgerOp_of_read who restricted o s ?_ hfail
      refine Decidable.byContradiction fun hread => ?_
      obtain ⟨hlock, halloc⟩ := h.resolve_left hread
      exact State.opFail_of_locked hread halloc ((ledgerTouch_lockedFor who o s _ _).trans hlock) hfail
  obtain ⟨hrow, hcsr, hctx⟩ := ledgerTouch_keeps who o s
  refine ⟨fun table i => hkeeps ▸ hrow table i, fun hread => ?_, hkeeps ▸ hcsr, fun c => hkeeps ▸ hctx c⟩
  obtain ⟨hlock, halloc⟩ := h.resolve_left hread
  obtain ⟨st, hfail⟩ := Option.ne_none_iff_exists'.1
    (State.opFail_of_locked (restricted := restricted) hread halloc ((ledgerTouch_lockedFor who o s _ _).trans hlock))
  rw [(ledgerOp_of_fail who restricted o s hfail).1]
  exact State.opFail_ne_ok hfail

end Sys2Proof.Machine

/-! Commands as they arrive over each transport (R30, R35, R44, R45, R48 to R51). -/

namespace Sys2Proof.Machine

open Sys2Proof.Claims

/-! ### Arrival -/

section
variable {p : Packet} {slot : Option Nat} {st : Nat} {s t : State}

theorem arrive_fails (h : s.arrivalFail p = some st) : arrive p slot s =
    leaveQueue p s.interp.nextSeq slot (reply p st [] { s with interp.nextSeq := s.interp.nextSeq + 1 }) := by
  have h' : State.arrivalFail { s with interp.nextSeq := s.interp.nextSeq + 1 } p = some st := h
  simp only [arrive, h']

theorem arrive_passes (h : s.arrivalFail p = none) : arrive p slot s =
    if s.now < p.notBefore.toNat then leaveQueue p s.interp.nextSeq slot
      { s with interp.nextSeq := s.interp.nextSeq + 1,
               interp.sched := s.interp.sched ++ [⟨p, s.interp.nextSeq, s.now, none⟩] }
    else { s with interp.nextSeq := s.interp.nextSeq + 1,
                  interp.ready := s.interp.ready ++ [⟨p, s.interp.nextSeq, s.now, slot⟩] } := by
  have h' : State.arrivalFail { s with interp.nextSeq := s.interp.nextSeq + 1 } p = none := h
  simp only [arrive, h']
  rfl

/-- A command of no queue joins the schedule table or the ready commands. -/
theorem arrive_unqueued (h : s.arrivalFail p = none) : arrive p none s =
    { s with interp.nextSeq := s.interp.nextSeq + 1,
             interp.sched := if s.now < p.notBefore.toNat then
                 s.interp.sched ++ [⟨p, s.interp.nextSeq, s.now, none⟩] else s.interp.sched,
             interp.ready := if s.now < p.notBefore.toNat then s.interp.ready
               else s.interp.ready ++ [⟨p, s.interp.nextSeq, s.now, none⟩] } := by
  rw [arrive_passes h]
  split <;> rfl

theorem leaveQueue_firmware (h : p.issuer.toNat < 0x80) (seq k : Nat) :
    leaveQueue p seq (some k) s = queueLeave cmdQid seq s := if_neg (Nat.not_le.2 h)

theorem leaveQueue_ring {n : Fin 16} (h : p.issuer = BitVec.ofNat 8 (0x80 + n.val)) (seq k : Nat) :
    leaveQueue p seq (some k) s = writeBack n.val (passSlot n.val k (queueLeave (16 + n.val) seq s)) := by
  have hi : p.issuer.toNat = 0x80 + n.val := by
    rw [h, BitVec.toNat_ofNat]
    omega
  simp only [leaveQueue, hi, Nat.le_add_right, if_true, Nat.add_sub_cancel_left]
  rw [show 0x80 + n.val - 0x70 = 16 + n.val by omega]

end

/-! ### The firmware's commands -/

section
variable {p : Packet} {s : State}

theorem firmwareCommand_enters (hagree : (s.queue cmdQid).agrees = true) (hroom : s.queueFull cmdQid = false)
    (hnone : (s.queue cmdQid).waiting = []) : firmwareCommand true p s =
      arrive p (some 0) (queueEnter cmdQid ⟨[], p.wire, 0, 0, s.now, s.interp.nextSeq⟩ s) := by
  simp [firmwareCommand, hagree, hroom, hnone, arriveQueued]

theorem firmwareCommand_waits (hagree : (s.queue cmdQid).agrees = true) (hfull : s.queueFull cmdQid = true) :
    firmwareCommand true p s = s.setQueue cmdQid { s.queue cmdQid with
      waiting := (s.queue cmdQid).waiting ++ [⟨[], p.wire, 0, 0, s.now, 0⟩] } := by
  simp [firmwareCommand, hagree, hfull]

theorem runCommandArrival_firmware (core : Fin 4) (hrun : s.interp.cpRunning = true) (hlo : 2 ≤ p.issuer.toNat)
    (hhi : p.issuer.toNat ≤ 5) : runCommandArrival (.firmware core) (some p) s = firmwareCommand true p s := by
  simp [runCommandArrival, hrun, hlo, hhi]

theorem runCommandArrival_management (hcold : s.inMode [.cold] = false) (hissuer : p.issuer = 0x01) :
    runCommandArrival .management (some p) s = firmwareCommand true p s := by
  simp [runCommandArrival, hcold, hissuer]

end

/-! ### The other transports -/

section
variable {p q : Packet} {s t u : State}

theorem runCommandArrival_zoant {port : Fin 4} {chip : Fin 64} (hroom : s.zoant.outstanding < 16)
    (hmode : s.inMode [.cold, .quarantine] = false) : runCommandArrival (.zoant port chip) (some p) s =
      arrive { p with issuer := BitVec.ofNat 8 (0x40 + chip.val) } none
        { s with zoant.outstanding := s.zoant.outstanding + 1 } := by
  exact (if_neg (Bool.eq_false_iff.1 hmode)).trans (if_neg (Nat.not_le.2 hroom))

theorem runCommandArrival_zoant_held {port : Fin 4} {chip : Fin 64} (hfull : 16 ≤ s.zoant.outstanding)
    (hmode : s.inMode [.cold, .quarantine] = false) : runCommandArrival (.zoant port chip) (some p) s =
      { s with zoant.rxHeld := s.zoant.rxHeld ++
        [(port.val, ⟨⟨s.chipNo, false, chip.val, 1, 8, 0, p.wire.length, true, .command p⟩, none⟩)] } := by
  exact (if_neg (Bool.eq_false_iff.1 hmode)).trans (if_pos hfull)

theorem runCommandArrival_smbus (o : Option Packet) (hsub : s.interp.mbox.submitted = true)
    (hq : q = { Packet.ofBytes (s.interp.mbox.mem.getRun 0 0 512) with issuer := 0x90 })
    (hrun : s.interp.cpStopped = false ∨ q.cls = 0xF) (hmode : s.inMode [.cold] = false) :
    runCommandArrival .smbus o s = arrive q none { s with interp.mbox.submitted := false } := by
  have hwaits : (s.interp.cpStopped && q.cls != 0xF) = false := by
    rcases hrun with h | h <;> simp [h]
  have hrun' : runCommandArrival .smbus o s =
      if !s.interp.mbox.submitted || (s.interp.cpStopped && q.cls != 0xF) || s.inMode [.cold] then s
      else arrive q none { s with interp.mbox.submitted := false } := by
    rw [hq]
    rfl
  rw [hrun', hsub, hwaits, hmode]
  exact if_neg Bool.false_ne_true

theorem runCommandArrival_ring {n : Fin 16} (hfetch : s.mayFetch n.val = true)
    (hagree : (s.queue (16 + n.val)).agrees = true) (hnew : (s.ring n.val).ahead.contains (s.ring n.val).fetch = false)
    (hq : q = { p with issuer := BitVec.ofNat 8 (0x80 + n.val) })
    (hu : u = s.setRing n.val
      { s.ring n.val with fetch := ((s.ring n.val).fetch + 1) % 65536, errs := 0, inFlight := false }) :
    runCommandArrival (.ring n) (some p) s = arrive q (some (s.ring n.val).fetch)
      (queueEnter (16 + n.val) ⟨[], q.wire, 0, 0, s.now, s.interp.nextSeq⟩ u) := by
  subst hq hu
  simp only [runCommandArrival, hfetch, hagree, hnew, Bool.not_true, Bool.false_eq_true, if_false]
  rfl

end

/-- Settles O9: a command arrives through the queue of its transport, and its checks decide where it goes. -/
theorem commandsArrive : Obligations.CommandsArrive := by
  unfold Obligations.CommandsArrive
  refine ⟨⟨?firmware, ?firmwareFull, ?management, ?zoant, ?zoantFull, ?smbus, ?ring⟩,
    ?firmwareFails, ?smbusFails, ?zoantFails, ?ringFails⟩
  case firmware =>
    rintro core p s t hrun hlo hhi hagree hroom hnone rfl hpass
    have henter := (runCommandArrival_firmware core hrun hlo hhi).trans (firmwareCommand_enters hagree hroom hnone)
    refine ⟨fun hlater => answer_sameQueue ?_, fun hnow => answer_sameQueue ?_⟩
    · rw [henter, arrive_passes hpass, if_pos hlater, leaveQueue_firmware (by omega)]
    · rw [henter, arrive_passes hpass, if_neg (Nat.not_lt.2 hnow)]
  case firmwareFull =>
    intro core p s hrun hlo hhi hagree hfull
    exact answer_eq ((runCommandArrival_firmware core hrun hlo hhi).trans (firmwareCommand_waits hagree hfull)) rfl
  case management =>
    rintro p s t hcold hissuer hagree hroom hnone rfl hpass hnow
    refine answer_sameQueue ?_
    rw [runCommandArrival_management hcold hissuer, firmwareCommand_enters hagree hroom hnone, arrive_passes hpass,
      if_neg (Nat.not_lt.2 hnow)]
  case zoant =>
    rintro port chip p q s t hroom hmode rfl rfl hpass
    exact answer_eq ((runCommandArrival_zoant hroom hmode).trans (arrive_unqueued hpass)) rfl
  case zoantFull =>
    intro port chip p s hfull hmode
    exact answer_eq (runCommandArrival_zoant_held hfull hmode) rfl
  case smbus =>
    rintro o q s t hsub hrun hmode hq rfl hpass
    exact answer_eq ((runCommandArrival_smbus o hsub hq hrun hmode).trans (arrive_unqueued hpass)) rfl
  case ring =>
    rintro n p q s u t hfetch hagree hnew hq hu rfl hpass hnow
    refine answer_sameQueue ?_
    rw [runCommandArrival_ring hfetch hagree hnew hq hu, arrive_passes hpass, if_neg (Nat.not_lt.2 hnow)]
  case firmwareFails =>
    rintro core p st s t hrun hlo hhi hagree hroom hnone rfl hfail
    refine answer_sameQueue ?_
    rw [runCommandArrival_firmware core hrun hlo hhi, firmwareCommand_enters hagree hroom hnone, arrive_fails hfail,
      leaveQueue_firmware (by omega)]
  case smbusFails =>
    rintro o q st s t hsub hrun hmode hq rfl hfail
    exact answer_sameQueue ((runCommandArrival_smbus o hsub hq hrun hmode).trans (arrive_fails hfail))
  case zoantFails =>
    rintro port chip p q st s t hroom hmode rfl rfl hfail
    exact answer_sameQueue ((runCommandArrival_zoant hroom hmode).trans (arrive_fails hfail))
  case ringFails =>
    rintro n p q st s u t v hfetch hagree hnew hq hu rfl hfail rfl
    refine answer_sameQueue ?_
    rw [runCommandArrival_ring hfetch hagree hnew hq hu, arrive_fails hfail, leaveQueue_ring (by rw [hq])]

end Sys2Proof.Machine

/-! Host rings: doorbells, control, reset, and the start of commands (R35, R36, R44 to R47, R562). -/

namespace Sys2Proof.Machine

open Sys2Proof.Claims

/-! ### Bits of fields -/

theorem Field.read_bit (off lo : Nat) (v : Word) : ((⟨off, lo, 1⟩ : Field).read v == 1) = v.getLsbD lo := by
  have h := Nat.testBit_eq_decide_div_mod_eq (x := v.toNat) (i := lo)
  rw [Bool.eq_iff_iff, beq_iff_eq, BitVec.getLsbD, h, decide_eq_true_iff]
  rfl

theorem State.fld_lt (s : State) (f : Field) : s.fld f < 2 ^ f.width := Nat.mod_lt _ (Nat.two_pow_pos _)

theorem State.flag_setFlag_same (s : State) (f : Field) (b : Bool) (h : f.lo + f.width ≤ 32) (hw : 0 < f.width) :
    (s.setFlag f b).flag f = b := by
  have h1 : 1 < 2 ^ f.width := Nat.one_lt_two_pow (Nat.ne_of_gt hw)
  unfold State.flag State.setFlag
  rw [State.fld_setFld_same s f _ h]
  cases b <;> simp [Nat.mod_eq_of_lt h1]

/-- A bit that was cleared reads 0. -/
theorem State.bit_setBit_false (s : State) (f : Field) (i : Nat) (h : f.lo + f.width ≤ 32) :
    (s.setBit f i false).bit f i = false := by
  have hlt := s.fld_lt f
  unfold State.setBit
  by_cases hb : s.bit f i = false
  · rw [if_pos hb, State.bit, State.fld_setFld_same s f _ h, Nat.mod_eq_of_lt hlt]
    exact hb
  · rw [if_neg hb, if_neg Bool.false_ne_true, State.bit, State.fld_setFld_same s f _ h,
      Nat.mod_eq_of_lt (Nat.lt_of_le_of_lt (Nat.sub_le _ _) hlt)]
    have hone : s.fld f / 2 ^ i % 2 = 1 := by simpa [State.bit] using hb
    have hle : 2 ^ i ≤ s.fld f := Decidable.byContradiction fun hlt' => by
      rw [Nat.div_eq_of_lt (Nat.not_le.1 hlt')] at hone
      exact absurd hone (by decide)
    have hdiv := Nat.div_eq_sub_div (Nat.two_pow_pos i) hle
    simp only [beq_eq_false_iff_ne]
    omega

/-! ### Doorbells and ring control -/

theorem State.serves_host {s : State} (hup : s.hostUp = true) (hmode : s.inMode [.quarantine] = false) :
    ¬ (!s.hostUp || s.inMode [.quarantine]) = true := by
  simp [hup, hmode]

section
variable {n : Fin 16} {s : State} (hr : s.reaches (R.CMD_RING_CTL n.val) = true) (v : Word)
include hr

theorem runRingReset_eq : runRingReset n v s =
    if v.getLsbD 0 then ringOn n.val (ringReset n.val (ringSettings n.val v s))
    else ringOff n.val (ringReset n.val (ringSettings n.val v s)) := by
  rw [← Field.read_bit (R.CMD_RING_CTL n.val) 0 v]
  exact atReg_acts hr

variable (hv : v.getLsbD 2 = false)
include hv

theorem runRingEnable_eq : runRingEnable n v s = ringOn n.val (ringSettings n.val v s) := by
  have hreset : ((F.CMD_RING_CTL_RESET n.val).read v == 1) = false := (Field.read_bit _ 2 v).trans hv
  rw [runRingEnable, atReg_acts hr, hreset]
  rfl

theorem runRingDisable_eq : runRingDisable n v s = ringOff n.val (ringSettings n.val v s) := by
  have hreset : ((F.CMD_RING_CTL_RESET n.val).read v == 1) = false := (Field.read_bit _ 2 v).trans hv
  rw [runRingDisable, atReg_acts hr, hreset]
  rfl

end

/-! ### What a ring reset clears -/

/-- The state with the ring's commands dropped, its own state and its queue empty. -/
def ringDropped (n : Nat) (s : State) : State :=
  let mine (p : Packet) : Bool := p.issuer.toNat == 0x80 + n
  let s := { s with
    interp.sched := s.interp.sched.filter (fun w => !mine w.pkt),
    interp.ready := s.interp.ready.filter (fun w => !mine w.pkt),
    interp.running := s.interp.running.map (fun (r : Running) => if mine r.pkt then { r with drop := true } else r) }
  let s := s.setRing n Ring.empty
  s.setQueue (16 + n) { s.queue (16 + n) with headA := 0, headB := 0, tailA := 0, tailB := 0, items := [] }

/-- Beside that a reset clears the ring's stop, its cause and its bit of CMD_ERR, and renews its grants. -/
theorem ringClear_eq (n : Nat) (s : State) : (ringClear n s).2 =
    regrant n (((((ringDropped n s).setFlag (F.CMD_RING_CTL_STOPPED n) false).setFld
      (F.CMD_RING_CTL_CAUSE n) 0)).setBit F.CMD_ERR_RING_ERR n false) := rfl

theorem ringDropped_fld (n : Nat) (s : State) (f : Field) : (ringDropped n s).fld f = s.fld f := rfl

theorem regrant_fld (n : Nat) (s : State) (f : Field) (h : f.off ≠ R.CMD_RING_GRANTED n) :
    (regrant n s).fld f = s.fld f := by
  unfold State.fld
  rw [regrant, State.word_setWord_other _ _ h]

section
variable (n : Fin 16) (s : State)

theorem ringClear_ring : (ringClear n.val s).2.ring n.val = Ring.empty :=
  Sparse.get_set_same Ring.empty Ring.empty s.interp.rings n.val

theorem ringClear_ring_other {k : Nat} (h : k ≠ n.val) : (ringClear n.val s).2.ring k = s.ring k :=
  Sparse.get_set_other Ring.empty Ring.empty s.interp.rings h

theorem ringClear_queue : (ringClear n.val s).2.queue (16 + n.val) =
    { s.queue (16 + n.val) with headA := 0, headB := 0, tailA := 0, tailB := 0, items := [] } :=
  Sparse.get_set_same ..

theorem ringClear_waiting : (∀ w ∈ (ringClear n.val s).2.interp.sched, w.pkt.issuer.toNat ≠ 0x80 + n.val) ∧
    ∀ w ∈ (ringClear n.val s).2.interp.ready, w.pkt.issuer.toNat ≠ 0x80 + n.val := by
  refine ⟨fun w hw => ?_, fun w hw => ?_⟩
  · simpa using (List.mem_filter.1 hw).2
  · simpa using (List.mem_filter.1 hw).2

theorem ringClear_running : ∀ r ∈ (ringClear n.val s).2.interp.running, r.pkt.issuer.toNat = 0x80 + n.val →
    r.drop = true := by
  intro r hr hissuer
  obtain ⟨r', -, rfl⟩ := List.mem_map.1 hr
  by_cases hmine : (r'.pkt.issuer.toNat == 0x80 + n.val) = true
  · rw [if_pos hmine]
  · rw [if_neg hmine] at hissuer
    exact absurd (beq_iff_eq.2 hissuer) hmine

/-- A field of the ring's control register that the reset does not name, and that shares no bit with what it names. -/
theorem ringClear_ctl {lo width : Nat} (h : (lo + width ≤ 1 ∨ 2 ≤ lo) ∧ (lo + width ≤ 8 ∨ 16 ≤ lo)) :
    (ringClear n.val s).2.fld ⟨R.CMD_RING_CTL n.val, lo, width⟩ = s.fld ⟨R.CMD_RING_CTL n.val, lo, width⟩ := by
  rw [ringClear_eq, regrant_fld _ _ _ (by simp [R.CMD_RING_GRANTED, R.CMD_RING_CTL]), State.setBit,
    State.fld_setFld_off _ _ _ _ (by simp [F.CMD_ERR_RING_ERR, R.CMD_RING_CTL]; omega),
    State.fld_setFld_bits _ (F.CMD_RING_CTL_CAUSE n.val) ⟨R.CMD_RING_CTL n.val, lo, width⟩ _ (by simp [F.CMD_RING_CTL_CAUSE]) rfl h.2,
    State.setFlag,
    State.fld_setFld_bits _ (F.CMD_RING_CTL_STOPPED n.val) ⟨R.CMD_RING_CTL n.val, lo, width⟩ _ (by simp [F.CMD_RING_CTL_STOPPED]) rfl h.1,
    ringDropped_fld]

theorem ringClear_stopped : (ringClear n.val s).2.flag (F.CMD_RING_CTL_STOPPED n.val) = false := by
  rw [ringClear_eq, State.flag, regrant_fld _ _ _ (by simp [R.CMD_RING_GRANTED, F.CMD_RING_CTL_STOPPED]), State.setBit,
    State.fld_setFld_off _ _ _ _ (by simp [F.CMD_ERR_RING_ERR, F.CMD_RING_CTL_STOPPED]; omega),
    State.fld_setFld_bits _ (F.CMD_RING_CTL_CAUSE n.val) (F.CMD_RING_CTL_STOPPED n.val) _
      (by simp [F.CMD_RING_CTL_CAUSE]) rfl (by simp [F.CMD_RING_CTL_CAUSE, F.CMD_RING_CTL_STOPPED])]
  exact State.flag_setFlag_same _ _ _ (by simp [F.CMD_RING_CTL_STOPPED]) (by simp [F.CMD_RING_CTL_STOPPED])

theorem ringClear_cause : (ringClear n.val s).2.fld (F.CMD_RING_CTL_CAUSE n.val) = 0 := by
  rw [ringClear_eq, regrant_fld _ _ _ (by simp [R.CMD_RING_GRANTED, F.CMD_RING_CTL_CAUSE]), State.setBit,
    State.fld_setFld_off _ _ _ _ (by simp [F.CMD_ERR_RING_ERR, F.CMD_RING_CTL_CAUSE]; omega),
    State.fld_setFld_same _ _ _ (by simp [F.CMD_RING_CTL_CAUSE]), Nat.zero_mod]

theorem ringClear_err : (ringClear n.val s).2.bit F.CMD_ERR_RING_ERR n.val = false := by
  rw [ringClear_eq, State.bit, regrant_fld _ _ _ (by simp [R.CMD_RING_GRANTED, F.CMD_ERR_RING_ERR]; omega)]
  exact State.bit_setBit_false _ F.CMD_ERR_RING_ERR _ (by decide)

theorem ringClear_slots : (ringClear n.val s).2.ringSlots n.val = s.ringSlots n.val :=
  congrArg (2 ^ ·) (ringClear_ctl n s (lo := 16) (width := 4) (by decide))

/-- The grants start again at the ring's slots: nothing of it has been returned. -/
theorem ringClear_granted : (ringClear n.val s).2.word (R.CMD_RING_GRANTED n.val) =
    BitVec.ofNat 32 (s.ringSlots n.val) := by
  have hslots := ringClear_slots n s
  have hring := ringClear_ring n s
  rw [ringClear_eq] at hslots hring ⊢
  generalize (((ringDropped n.val s).setFlag _ false).setFld _ 0).setBit _ _ false = u at hslots hring ⊢
  have hslots' : u.ringSlots n.val = s.ringSlots n.val := by
    rw [← hslots, State.ringSlots, State.ringSlots,
      regrant_fld _ _ _ (by simp [R.CMD_RING_GRANTED, F.CMD_RING_CTL_LOG2_SLOTS])]
  have hring' : u.ring n.val = Ring.empty := hring
  rw [regrant, State.word_setWord_same, hslots', hring']
  exact congrArg _ (Nat.zero_add _)

end

/-- Settles O11: by the branches of each event, and by what the reset writes. -/
theorem hostRingCommands : Obligations.HostRingCommands := by
  unfold Obligations.HostRingCommands
  refine ⟨⟨?doorbell, ?overrun, ?replyDoorbell, ?control, ?coalesce, ?release, ?broken, ?start, ?idle⟩, fun n s => ?clear⟩
  case doorbell =>
    rintro n pi s t hup hmode rfl
    refine answer_eq (if_neg (State.serves_host hup hmode)) ?_
    split
    · rw [ringStop_pending]
      rfl
    · rfl
  case overrun =>
    intro n ci s hup hmode hover
    refine answer_eq ((if_neg (State.serves_host hup hmode)).trans (if_pos hover)) ?_
    rw [ringStop_pending]
    rfl
  case replyDoorbell =>
    rintro n ci s t hup hmode hle rfl
    refine answer_eq ((if_neg (State.serves_host hup hmode)).trans (if_neg (Nat.not_lt.2 hle))) ?_
    split <;> rfl
  case control =>
    intro n v s hr
    exact ⟨answer_sameQueue (runRingReset_eq hr v),
      fun hv => ⟨answer_sameQueue (runRingEnable_eq hr v hv), answer_sameQueue (runRingDisable_eq hr v hv)⟩⟩
  case coalesce =>
    intro n s hunsig hlate
    refine answer_eq (if_neg ?_) (signal_pending ..)
    rintro (h | h)
    · exact hunsig h
    · exact Nat.not_le.2 h hlate
  case release =>
    intro s hrun
    exact answer_eq (if_neg (Bool.eq_false_iff.1 hrun)) rfl
  case broken =>
    intro cls w q s hnext hq
    exact answer_sameQueue (by simp only [runCommandStart, hnext, hq])
  case start =>
    rintro cls w s t hnext hq rfl
    exact answer_sameQueue (by simp only [runCommandStart, hnext, hq])
  case idle =>
    intro cls s hnext
    exact answer_eq (by simp only [runCommandStart, hnext]) rfl
  case clear =>
    obtain ⟨hsched, hready⟩ := ringClear_waiting n s
    refine ⟨ringClear_ring n s, ?_, ?_, hsched, hready, ringClear_running n s, fun k hk => ringClear_ring_other n s hk,
      ringClear_stopped n s, ringClear_cause n s, ringClear_err n s,
      ringClear_ctl n s (lo := 0) (width := 1) (by decide), ringClear_slots n s, ringClear_granted n s⟩
    · rw [ringClear_queue]
    · rw [ringClear_queue]
      rfl

end Sys2Proof.Machine

/-! The SMBus mailbox and the packets of class 0 (R35, R42, R48, R458, R459). -/

namespace Sys2Proof.Machine

open Sys2Proof.Claims

section
variable {s : State} {m : Mailbox} (hcold : s.inMode [.cold] = false) (hm : m = { s.interp.mbox with ack := true, out := [] })
include hcold hm

/-- A transaction acts on the mailbox with the acknowledge given and nothing yet read. -/
theorem smbServe_acts (act : State → State) : smbServe act s = act { s with interp.mbox := m } := by
  subst hm
  exact if_neg (Bool.eq_false_iff.1 hcold)

theorem runSmbBlockWrite_busy (hbusy : m.busy = true) (off : BitVec 16) (data : List Byte) :
    runSmbBlockWrite true off data s = { s with interp.mbox := { m with ack := false } } :=
  (smbServe_acts hcold hm _).trans (if_pos (by simp [hbusy]))

theorem runSmbSubmit_busy (hbusy : m.busy = true) :
    runSmbSubmit true s = { s with interp.mbox := { m with ack := false } } :=
  (smbServe_acts hcold hm _).trans (if_pos (by simp [hbusy]))

theorem runSmbBlockWrite_writes {off : BitVec 16} {data : List Byte} (hidle : m.busy = false) (hlen : data.length ≤ 253)
    (hroom : off.toNat + data.length ≤ 512) (hdata : data ≠ []) :
    runSmbBlockWrite true off data s = { s with interp.mbox := { m with
      mem := m.mem.setRun 0 off.toNat data,
      high := some (match m.high with
        | some h => if h ≤ off.toNat + data.length - 1 then off.toNat + data.length - 1 else h
        | none => off.toNat + data.length - 1) } } :=
  (smbServe_acts hcold hm _).trans ((if_neg (by simp [hidle]; omega)).trans (if_neg (by simpa using hdata)))

theorem runSmbSubmit_submits (hidle : m.busy = false) (hwhole : m.incomplete = false)
    (hen : s.flag F.CMD_CTL_SMB_EN = true) :
    runSmbSubmit true s = { s with interp.mbox := { m with busy := true, err := false, submitted := true } } := by
  have hen' : State.flag { s with interp.mbox := m } F.CMD_CTL_SMB_EN = true := hen
  exact (smbServe_acts hcold hm _).trans ((if_neg (by simp [hidle])).trans (if_neg (by simp [hwhole, hen'])))

theorem runSmbSubmit_incomplete (hidle : m.busy = false) (hpart : m.incomplete = true) :
    runSmbSubmit true s = ({ s with interp.mbox := { m with err := true } } : State).setFlag F.CMD_ERR_SMB_ERR true :=
  (smbServe_acts hcold hm _).trans ((if_neg (by simp [hidle])).trans (if_pos (by simp [hpart])))

theorem runSmbRelease_releases (hbusy : m.busy = true) (hreply : m.replyReady = true) :
    runSmbRelease true s = { s with interp.mbox := { m with
      busy := false, replyReady := false, err := false, high := none, alert := false } } :=
  (smbServe_acts hcold hm _).trans ((if_neg Bool.false_ne_true).trans ((if_neg (by simp [hbusy])).trans (if_neg (by simp [hreply]))))

theorem runSmbRelease_early (hbusy : m.busy = true) (hnone : m.replyReady = false) :
    runSmbRelease true s = { s with interp.mbox := { m with ack := false } } :=
  (smbServe_acts hcold hm _).trans ((if_neg Bool.false_ne_true).trans ((if_neg (by simp [hbusy])).trans (if_pos (by simp [hnone]))))

theorem runSmbRelease_idle (hidle : m.busy = false) :
    runSmbRelease true s = { s with interp.mbox := { m with err := false } } :=
  (smbServe_acts hcold hm _).trans ((if_neg Bool.false_ne_true).trans (if_pos (by simp [hidle])))

theorem runSmbBlockRead_reads {n : Nat} (hreply : m.replyReady = true)
    (hn : n = (if 255 ≤ 16 + leAt (m.mem.getRun 0 0 16) 4 2 - m.readOff then 255
      else 16 + leAt (m.mem.getRun 0 0 16) 4 2 - m.readOff)) :
    runSmbBlockRead s = { s with interp.mbox := { m with
      out := m.mem.getRun 0 m.readOff n, readOff := m.readOff + n } } := by
  subst hn
  exact (smbServe_acts hcold hm _).trans (if_neg (by simp [hreply]))

theorem runSmbAlertResponse_answers (halert : s.alertN = true) :
    runSmbAlertResponse s = ({ s with interp.mbox := { m with
      out := leBytes 1 (2 * s.fld F.MGT_SMB_CFG_ADDR), alert := false } } : State).setFlag ⟨0x180100, 0, 1⟩ false := by
  subst hm
  exact (smbServe_acts hcold rfl _).trans (if_pos halert)

end

theorem opCmdCancel_cancels {p : Packet} {s : State} {hit : Waiting → Bool} (hall : p.u8 2 ≤ 1)
    (hclean : p.dirty 3 5 = false)
    (hhit : hit = fun w => w.pkt.issuer == p.issuer && (p.u8 2 == 1 || w.pkt.tag.toNat == p.u16 0)) :
    opCmdCancel p s = reply p St.OK (leBytes 2 (s.interp.sched.filter hit).length ++ leBytes 2 0)
      ((s.interp.sched.filter hit).foldl (fun s w => reply w.pkt St.CANCELLED [] s)
        { s with interp.sched := s.interp.sched.filter (fun w => !hit w) }) := by
  subst hhit
  exact checked_acts (by simp [firstFail_cons_eq_none, hall, hclean])

/-- Settles O13: each transaction of the mailbox by its branch, each packet by its operation. -/
theorem mailboxAndInterpreterCommands : Obligations.MailboxAndInterpreterCommands := by
  unfold Obligations.MailboxAndInterpreterCommands
  refine ⟨fun s m hcold hm => ?mailbox, fun p s hserve hmode => ⟨fun hlen => ?nop, fun hlen hall hclean hit hhit => ?cancel,
    fun hlen own hown => ?query⟩⟩
  case mailbox =>
    exact ⟨fun off data hidle hlen hroom hdata =>
        answer_eq (runSmbBlockWrite_writes hcold hm hidle hlen hroom hdata) rfl,
      fun hidle hwhole hen => answer_eq (runSmbSubmit_submits hcold hm hidle hwhole hen) rfl,
      fun hidle hpart => answer_eq (runSmbSubmit_incomplete hcold hm hidle hpart) rfl,
      fun off => answer_eq (smbServe_acts hcold hm _) rfl,
      fun hbusy hreply => answer_eq (runSmbRelease_releases hcold hm hbusy hreply) rfl,
      fun hbusy hnone => answer_eq (runSmbRelease_early hcold hm hbusy hnone) rfl,
      fun hidle => answer_eq (runSmbRelease_idle hcold hm hidle) rfl,
      answer_eq (smbServe_acts hcold hm _) rfl,
      fun n hreply hn => answer_eq (runSmbBlockRead_reads hcold hm hreply hn) rfl,
      answer_eq (by rw [hm]; rfl) rfl,
      fun halert => answer_eq (runSmbAlertResponse_answers hcold hm halert) rfl,
      fun off data hbusy => ⟨answer_eq (runSmbBlockWrite_busy hcold hm hbusy off data) rfl,
        answer_eq (runSmbSubmit_busy hcold hm hbusy) rfl⟩⟩
  case nop => exact answer_eq (command_eq (decide_eq_true hlen) hserve hmode rfl) (reply_pending ..)
  case cancel =>
    exact served_sameQueue ⟨hlen, hserve, hmode⟩ (opCmdCancel_cancels hall hclean hhit)
  case query =>
    subst hown
    exact served_next ⟨hlen, hserve, hmode⟩ rfl (reply_pending ..)

end Sys2Proof.Machine

/-! Mode requests and system resets (R470, R495, R496, R502, R503). -/

namespace Sys2Proof.Machine

open Sys2Proof.Claims

/-! ### MODE_REQ -/

section
variable {p : Packet} {s : State} {m : Mode} {st : Nat} (hcode : Mode.ofCode (p.u8 0) = some m) (hclean : p.dirty 1 3 = false)
include hcode hclean

theorem opModeReq_held (hm : m ≠ .quarantine) (hbanked : s.seq.mode = .banked) (hclaim : s.claiming = true)
    (hfree : s.seq.heldExit = none) :
    opModeReq p s = { (defer p s).2 with seq.heldExit := some (m, (defer p s).1) } := by
  simp only [opModeReq, hcode, hclean, Bool.false_eq_true, if_false]
  exact if_pos (by simp [hm, hbanked, hclaim, hfree])

theorem opModeReq_busy (hm : m ≠ .quarantine) (hopen : s.seq.mode ≠ .banked ∨ s.claiming = false)
    (hbusy : s.seqBusy m = true) : opModeReq p s = reply p St.BUSY [] s := by
  simp only [opModeReq, hcode, hclean, Bool.false_eq_true, if_false]
  refine (if_neg ?_).trans (if_pos (by simp [hm, hbusy]))
  rcases hopen with h | h <;> simp [h]

section
variable (hopen : m = .quarantine ∨ ((s.seq.mode ≠ .banked ∨ s.claiming = false) ∧ s.seqBusy m = false))
include hopen

/-- A request that is neither held nor finds the sequencer busy: its target and its checks decide. -/
theorem opModeReq_open : opModeReq p s =
    if m = s.seq.mode then done p [] s
    else match s.modeReqFail m with
      | some st => reply p st [] s
      | none => modeBegin m (defer p s).1 (defer p s).2 := by
  simp only [opModeReq, hcode, hclean, Bool.false_eq_true, if_false]
  refine (if_neg ?_).trans (if_neg ?_)
  · rcases hopen with h | ⟨h | h, -⟩ <;> simp [h]
  · rcases hopen with h | ⟨-, h⟩ <;> simp [h]

theorem opModeReq_same (hsame : m = s.seq.mode) : opModeReq p s = reply p St.OK [] s := by
  rw [opModeReq_open hcode hclean hopen, if_pos hsame]
  rfl

theorem opModeReq_refuses (hother : m ≠ s.seq.mode) (hfail : s.modeReqFail m = some st) :
    opModeReq p s = reply p st [] s := by
  rw [opModeReq_open hcode hclean hopen, if_neg hother, hfail]

theorem opModeReq_begins (hother : m ≠ s.seq.mode) (hpass : s.modeReqFail m = none) :
    opModeReq p s = modeBegin m (defer p s).1 (defer p s).2 := by
  rw [opModeReq_open hcode hclean hopen, if_neg hother, hpass]

end

end

/-- The checks of a request that the table of transitions allows. -/
theorem State.modeReqFail_eq_none {s : State} {m : Mode}
    (hcal : m = .calibrate ∨ m = .test → s.holder = false ∧ s.flag F.THM_STAT_CRIT = false)
    (hallowed : s.reqAllowed m = true) (hember : m = .ember → s.flag F.CLK_STAT_SLOW_OK = true) :
    s.modeReqFail m = none := by
  cases m <;> simp_all [State.modeReqFail, firstFail_cons_eq_none]

/-! ### SYS_RESET and BOOT_LIST_WRITE -/

section
variable {p : Packet} {s : State}

theorem opSysReset_warm (hmagic : p.u32 0 = 0x52455345) (hclean : p.dirty 5 3 = false) (hkind : p.u8 4 = 0)
    (hdebug : s.flag F.DBG_STAT_OPEN = false) (hlatch : s.latched = false) :
    opSysReset p s = { warmEnter 0 (reply p St.OK [] s) with seq.warmDue := true } :=
  (checked_acts (by simp [hmagic, hclean, hkind, hdebug, hlatch])).trans (if_pos hkind)

theorem opSysReset_plane (hmagic : p.u32 0 = 0x52455345) (hclean : p.dirty 5 3 = false) (hkind : p.u8 4 = 1)
    (hmode : s.inMode [.quarantine] = false) (hkindled : (reply p St.OK [] s).seq.mode ≠ .kindling) :
    opSysReset p s = cpRestart (reply p St.OK [] s) :=
  (checked_acts (by simp [hmagic, hclean, hkind, hmode])).trans
    ((if_neg (by simp [hkind])).trans (if_neg hkindled))

/-- A part of the boot list that is neither its last nor clears it is staged. -/
theorem opBootListWrite_stages (hlen : p.u16 4 ≤ 480) (hflags : p.u8 6 = 0) (hclean : p.dirty 7 1 = false)
    (hroom : p.u32 0 + p.u16 4 ≤ 16384) : opBootListWrite p s = reply p St.OK []
      { s with seq.staging := s.seq.staging.setRun 0 (p.u32 0) (p.bytes 8 (p.u16 4)),
               seq.stagingLen := if p.u16 4 = 0 then s.seq.stagingLen
                 else most2 s.seq.stagingLen (p.u32 0 + p.u16 4) } := by
  have hlast : p.bit 6 0 = false := by simp [Packet.bit, Packet.bits, bitsOf, hflags]
  have hclear : p.bit 6 1 = false := by simp [Packet.bit, Packet.bits, bitsOf, hflags]
  have hpass : firstFail [(decide (480 < p.u16 4) || decide (3 < p.u8 6) || p.u8 6 == 3 || p.dirty 7 1 ||
      decide (16384 < p.u32 0 + p.u16 4), St.BAD_PARAM)] = none := by
    simp [firstFail_cons_eq_none, hlen, hflags, hclean, hroom]
  unfold opBootListWrite
  dsimp only
  rw [checked_acts hpass, hlast, hclear]
  rfl

end

/-- Settles O18: each command by the branch of its operation. -/
theorem modeCommands : Obligations.ModeCommands := by
  unfold Obligations.ModeCommands
  refine ⟨fun p s m h hcode hclean => ⟨?held, ?busy, fun hopen => ⟨?same, ?refuses, ?begins⟩⟩, fun p s h => ?status,
    fun p s h hmagic hclean => ⟨?warm, ?plane⟩, ?list⟩
  case held =>
    exact fun hm hbanked hclaim hfree =>
      managed_sameQueue h (opModeReq_held hcode hclean hm hbanked hclaim hfree)
  case busy =>
    exact fun hm hopen hbusy =>
      managed_next h (opModeReq_busy hcode hclean hm hopen hbusy) (reply_pending ..)
  case same => exact fun hsame => managed_next h (opModeReq_same hcode hclean hopen hsame) (reply_pending ..)
  case refuses =>
    exact fun hother st hfail =>
      managed_next h (opModeReq_refuses hcode hclean hopen hother hfail) (reply_pending ..)
  case begins =>
    exact fun hother hcal hallowed hember =>
      managed_sameQueue h (opModeReq_begins hcode hclean hopen hother (State.modeReqFail_eq_none hcal hallowed hember))
  case status => exact managed_next h (by rw [opModeStatus, done]) (reply_pending ..)
  case warm =>
    exact fun hkind hdebug hlatch =>
      managed_sameQueue h (opSysReset_warm hmagic hclean hkind hdebug hlatch)
  case plane =>
    exact fun hkind hmode hkindled =>
      managed_sameQueue h (opSysReset_plane hmagic hclean hkind hmode hkindled)
  case list =>
    intro p s hchunk hserve hmode hlen hflags hclean hroom
    exact answer_eq (command_eq hchunk hserve hmode (opBootListWrite_stages hlen hflags hclean hroom)) (reply_pending ..)

end Sys2Proof.Machine

/-! The ends of transitions, and what an entry to a mode leaves (R116, R433, R470, R474 to R476, R502). -/

namespace Sys2Proof.Machine

open Sys2Proof.Claims

/-! ### The ends of transitions -/

section
variable {s t : State} {x : Transition}

section
variable (hcal : s.seq.calibrated = false) (hmode : s.inMode [.calibrate, .test] = true)
  (hdue : s.seq.calAt + sumOf (startupDurations.drop (s.seq.calStep - 1)) ≤ s.now) (ht : t = startupEnd s)
include hcal hmode hdue ht

theorem runCalibrateDone_test (htest : t.seq.mode = .test) : runCalibrateDone s = t := by
  rw [runCalibrateDone, if_neg (by simp [hcal, hmode, hdue]), ← ht]
  exact if_pos htest

theorem runCalibrateDone_trans (htest : t.seq.mode ≠ .test) (hx : t.seq.trans = some x) :
    runCalibrateDone s = finishOpt x.cmd St.OK [] (enterTest 2 t) := by
  rw [runCalibrateDone, if_neg (by simp [hcal, hmode, hdue]), ← ht]
  simp only [htest, hx, if_false]

theorem runCalibrateDone_serves (htest : t.seq.mode ≠ .test) (hx : t.seq.trans = none) :
    runCalibrateDone s = if !t.paired then enterService 1 t
      else if !t.flag F.PAR_STAT_LINE then enterBanked 1 t
      else armClaim { t with seq.claimWait := true } := by
  rw [runCalibrateDone, if_neg (by simp [hcal, hmode, hdue]), ← ht]
  simp only [htest, hx, if_false]

end

section
variable (hx : s.seq.trans = some x)
include hx

theorem runModeTransitionDone_service (hmode : s.seq.mode ≠ .ember) (ht : x.target = .service) :
    runModeTransitionDone s = heldApply (finishOpt x.cmd St.OK [] (enterService x.cause s)) := by
  simp only [runModeTransitionDone, hx, hmode, ht, if_false]

theorem runModeTransitionDone_banked (hmode : s.seq.mode ≠ .ember) (ht : x.target = .banked) :
    runModeTransitionDone s = finishOpt x.cmd St.OK [] (enterBanked x.cause s) := by
  simp only [runModeTransitionDone, hx, hmode, ht, if_false]

theorem runModeTransitionDone_calibrate (hmode : s.seq.mode ≠ .ember) (ht : x.target = .calibrate)
    (hquiet : s.chainsQuiet = true) :
    runModeTransitionDone s = finishOpt x.cmd St.OK [] (enterCalibrate x.cause s) := by
  simp only [runModeTransitionDone, hx, hmode, ht, hquiet, if_false, if_true]

theorem runModeTransitionDone_toEmber (hmode : s.seq.mode ≠ .ember) (ht : x.target = .ember)
    (hstopped : s.txStopped = true) (hquiet : s.chainsQuiet = true) : runModeTransitionDone s = enterEmber false s := by
  simp only [runModeTransitionDone, hx, hmode, ht, hstopped, hquiet, if_false, if_true, Bool.and_self]

theorem runModeTransitionDone_toTest (hmode : s.seq.mode ≠ .ember) (ht : x.target = .test)
    (hcal : s.seq.calibrated = true) :
    runModeTransitionDone s = finishOpt x.cmd St.OK [] (enterTest x.cause s) := by
  simp only [runModeTransitionDone, hx, hmode, ht, hcal, if_false, if_true]

theorem runModeTransitionDone_ember (hmode : s.seq.mode = .ember) (hslow : s.slowing = false) :
    runModeTransitionDone s = emberLeft x s := by
  simp only [runModeTransitionDone, hx]
  exact (if_pos hmode).trans (if_neg (Bool.eq_false_iff.1 hslow))

end

end

/-! ### An entry to a mode -/

/-- Time depends on the calendar's copies and on the fault alone. -/
theorem State.now_congr {s t : State} (hcal : t.cal = s.cal)
    (hfault : t.fld F.TMB_STAT_CAL_FAULT = s.fld F.TMB_STAT_CAL_FAULT) : t.now = s.now := by
  have hflag : t.flag F.TMB_STAT_CAL_FAULT = s.flag F.TMB_STAT_CAL_FAULT := congrArg (· != 0) hfault
  rw [State.now, State.now, hcal, hflag]

theorem State.word_setPair_other (s : State) {lo hi o : Nat} (v : Nat) (hlo : o ≠ lo) (hhi : o ≠ hi) :
    (s.setPair lo hi v).word o = s.word o := by
  rw [State.setPair, State.word_setWord_other _ _ hhi, State.word_setWord_other _ _ hlo]

/-- A pair of registers holds a number of 64 bits. -/
theorem State.pair_setPair_same (s : State) {lo hi v : Nat} (h : lo ≠ hi) (hv : v < 2 ^ 64) :
    (s.setPair lo hi v).pair lo hi = v := by
  rw [State.pair, State.setPair, State.word_setWord_same, State.word_setWord_other _ _ h, State.word_setWord_same,
    BitVec.toNat_ofNat, BitVec.toNat_ofNat]
  omega

theorem setLaser_word (p : Nat) (s : State) {o : Nat} (h : o ≠ (F.ETH_PORT_STAT_LASER_ON p).off) :
    (setLaser p s).word o = s.word o := s.word_setFld_other _ _ h

theorem setLaser_fld_off (p : Nat) (s : State) {f : Field} (h : f.off ≠ (F.ETH_PORT_STAT_LASER_ON p).off) :
    (setLaser p s).fld f = s.fld f := s.fld_setFld_off _ _ _ h

theorem setLaser_flag (p : Nat) (s : State) : (setLaser p s).flag (F.ETH_PORT_STAT_LASER_ON p) =
    (s.flag (F.ETH_PORT_CTL_EN p) && s.inMode radioModes && !s.flag (F.ETH_PORT_STAT_MOD_ABS p) &&
      !(s.ethPort p).faultSeen) := s.flag_setFlag_same _ _ (by simp [F.ETH_PORT_STAT_LASER_ON]) (by simp [F.ETH_PORT_STAT_LASER_ON])

/-- The sequencer's state and the tick of an entry, before the lasers follow and the record is made. -/
def modeSet (m : Mode) (cause : Nat) (s : State) : State :=
  { s with seq.mode := m, seq.prev := s.seq.mode, seq.cause := cause, seq.trans := none, seq.stopTx := false,
           seq.stopAt := 0, mac.heraldAt := if laneModes.contains m then s.mac.heraldAt else 0 }.setPair
    R.STP_MODE_T_LO R.STP_MODE_T_HI s.now

section
variable (m : Mode) (cause : Nat) (s : State)

theorem enterMode_eq : enterMode m cause s = post 1 sevInfo 0x1301 (arg1 s.seq.mode.code ++ arg1 m.code ++ arg1 cause)
    (setLaser 0 (setLaser 1 (modeSet m cause s))) := rfl

theorem enterMode_word {off : Nat} (h0 : off ≠ (F.ETH_PORT_STAT_LASER_ON 0).off)
    (h1 : off ≠ (F.ETH_PORT_STAT_LASER_ON 1).off) : (enterMode m cause s).word off = (modeSet m cause s).word off := by
  have hlasers := (setLaser_word 0 (setLaser 1 (modeSet m cause s)) h0).trans (setLaser_word 1 (modeSet m cause s) h1)
  exact hlasers

theorem modeSet_word {off : Nat} (hlo : off ≠ R.STP_MODE_T_LO) (hhi : off ≠ R.STP_MODE_T_HI) :
    (modeSet m cause s).word off = s.word off := State.word_setPair_other _ _ hlo hhi

theorem modeSet_fld {f : Field} (hlo : f.off ≠ R.STP_MODE_T_LO) (hhi : f.off ≠ R.STP_MODE_T_HI) :
    (modeSet m cause s).fld f = s.fld f := by
  unfold State.fld
  rw [modeSet_word m cause s hlo hhi]

theorem enterMode_tick (h : s.now < 2 ^ 64) : (enterMode m cause s).pair R.STP_MODE_T_LO R.STP_MODE_T_HI = s.now := by
  rw [State.pair, enterMode_word _ _ _ (by decide) (by decide), enterMode_word _ _ _ (by decide) (by decide)]
  exact State.pair_setPair_same _ (by decide) h

theorem enterMode_laser {port : Nat} (h : port < 2) : (enterMode m cause s).flag (F.ETH_PORT_STAT_LASER_ON port) =
    (s.flag (F.ETH_PORT_CTL_EN port) && radioModes.contains m && !s.flag (F.ETH_PORT_STAT_MOD_ABS port) &&
      !(s.ethPort port).faultSeen) := by
  have hport : port = 0 ∨ port = 1 := by omega
  have hfld (f : Field) (hlo : f.off ≠ R.STP_MODE_T_LO) (hhi : f.off ≠ R.STP_MODE_T_HI) :
      (modeSet m cause s).flag f = s.flag f := by rw [State.flag, modeSet_fld m cause s hlo hhi, State.flag]
  rcases hport with rfl | rfl
  · refine (setLaser_flag 0 (setLaser 1 (modeSet m cause s))).trans ?_
    rw [State.flag, setLaser_fld_off 1 _ (by decide), State.flag, setLaser_fld_off 1 _ (by decide), ← State.flag,
      ← State.flag, hfld _ (by decide) (by decide), hfld _ (by decide) (by decide)]
    rfl
  · have hone : (enterMode m cause s).flag (F.ETH_PORT_STAT_LASER_ON 1) =
        (setLaser 1 (modeSet m cause s)).flag (F.ETH_PORT_STAT_LASER_ON 1) :=
      congrArg (· != 0) (setLaser_fld_off 0 _ (by decide))
    rw [hone, setLaser_flag, hfld _ (by decide) (by decide), hfld _ (by decide) (by decide)]
    rfl

theorem enterMode_window : (enterMode m cause s).journal.window = s.journal.window ++
    [(s.now, JRec.of s.now 1 sevInfo 0x1301 (arg1 s.seq.mode.code ++ arg1 m.code ++ arg1 cause))] := by
  have hnow : (setLaser 0 (setLaser 1 (modeSet m cause s))).now = s.now := by
    refine State.now_congr rfl ?_
    rw [setLaser_fld_off 0 _ (by decide), setLaser_fld_off 1 _ (by decide), modeSet_fld _ _ _ (by decide) (by decide)]
  rw [enterMode_eq, post, postAt, hnow]
  rfl

end

/-- Settles O19: by the branches of the two events, and by what an entry writes. -/
theorem transitionsEnd : Obligations.TransitionsEnd := by
  unfold Obligations.TransitionsEnd
  refine ⟨⟨fun s t hcal hmode hdue ht => ?calibrated, fun s x hx => ⟨fun hmode => ?awake, fun hmode hslow => ?ember⟩⟩,
    fun m cause s => ?entry⟩
  case calibrated =>
    refine ⟨fun htest => answer_sameQueue (runCalibrateDone_test hcal hmode hdue ht htest),
      fun x htest hx => answer_sameQueue (runCalibrateDone_trans hcal hmode hdue ht htest hx),
      fun htest hx hpair => answer_sameQueue ?_, fun htest hx hpair hline => answer_sameQueue ?_,
      fun htest hx hpair hline => answer_sameQueue ?_⟩
    · rw [runCalibrateDone_serves hcal hmode hdue ht htest hx, hpair]
      rfl
    · rw [runCalibrateDone_serves hcal hmode hdue ht htest hx, hpair, hline]
      rfl
    · rw [runCalibrateDone_serves hcal hmode hdue ht htest hx, hpair, hline]
      rfl
  case awake =>
    exact ⟨fun ht => answer_sameQueue (runModeTransitionDone_service hx hmode ht),
      fun ht => answer_sameQueue (runModeTransitionDone_banked hx hmode ht),
      fun ht hquiet => answer_sameQueue (runModeTransitionDone_calibrate hx hmode ht hquiet),
      fun ht hstopped hquiet => answer_sameQueue (runModeTransitionDone_toEmber hx hmode ht hstopped hquiet),
      fun ht hcal => answer_sameQueue (runModeTransitionDone_toTest hx hmode ht hcal)⟩
  case ember => exact answer_sameQueue (runModeTransitionDone_ember hx hmode hslow)
  case entry =>
    exact ⟨rfl, enterMode_tick m cause s, fun off hlo hhi h0 h1 =>
      (enterMode_word m cause s h0 h1).trans (modeSet_word m cause s hlo hhi),
      fun port hport => enterMode_laser m cause s hport, enterMode_window m cause s, rfl, rfl⟩

end Sys2Proof.Machine

/-! The boot, from its sources to the end of KINDLING (R301, R470, R488 to R494). -/

namespace Sys2Proof.Machine

open Sys2Proof.Claims

section
variable {img x : BootImage} {s : State}

theorem runBootImageLoaded_loading {next : Nat} (hphase : s.seq.boot.phase = .loading next)
    (hfound : (if s.seq.boot.source = 0 then some img else s.heldImage next) = some x) : runBootImageLoaded img s =
      if s.imageCheck next x = 0 then imageAccept next x s
      else setFailed s.seq.boot.askedAt (imageReject next (s.imageCheck next x) s) := by
  simp only [runBootImageLoaded, hphase, hfound]

theorem runBootImageLoaded_restart (hphase : s.seq.boot.phase = .restart)
    (hfound : (if s.seq.boot.source = 1 ∨ s.seq.boot.source = 0 then some img else s.heldImage 2) = some x) :
    runBootImageLoaded img s =
      if s.imageCheck 2 x = 0 then cpResume (measure 2 x.header (setBoot (fun b => { b with phase := .idle }) s))
      else enterQuarantine 1 (imageReject 2 (s.imageCheck 2 x) (setBoot (fun b => { b with phase := .idle }) s)) := by
  simp only [runBootImageLoaded, hphase, hfound, Option.getD_some]

end

section
variable {p : Fin 4} {off tries : Nat} {bytes : List Byte} {s t : State}
  (hphase : s.seq.boot.phase = .zoant p.val tries off) (hsome : bytes ≠ []) (hlen : bytes.length ≤ 2048)
  (ht : t = { s with seq.boot.stream := s.seq.boot.stream.setRun 0 off bytes, seq.boot.streamLen := off + bytes.length })
include hphase hsome hlen ht

/-- Data of the port and offset asked for joins the stream; then the directory decides. -/
theorem runBootDataRx_eq : runBootDataRx p off bytes s =
    if off + bytes.length < 256 then bootAsk p.val 1 (off + bytes.length) t
    else if !dirOk (t.setBytes 0 256) then setFailed p.val t
    else if off + bytes.length < dirEnd (t.setBytes 0 256) then bootAsk p.val 1 (off + bytes.length) t
    else setArrived p.val t := by
  subst ht
  simp only [runBootDataRx, hphase]
  exact if_neg (by simp [hsome, hlen])

end

theorem opBootRecoveryLoad_loads {p : Packet} {s t u : State} (hrec : s.inRecovery = true) (hlo : 1 ≤ p.u16 4)
    (hhi : p.u16 4 ≤ 480) (hflags : p.u8 6 ≤ 1) (hclean : p.dirty 7 1 = false)
    (ht : t = { s with seq.boot.stream := s.seq.boot.stream.setRun 0 (p.u32 0) (p.bytes 8 (p.u16 4)),
                       seq.boot.streamLen := most2 s.seq.boot.streamLen (p.u32 0 + p.u16 4) })
    (hu : u = if s.seq.boot.streamLen / 65536 < t.seq.boot.streamLen / 65536 then uartText t else t) :
    opBootRecoveryLoad p s =
      if p.bit 6 0 then setArrived 0 (reply p St.OK [] u) else reply p St.OK [] u := by
  subst ht hu
  have hpass : firstFail [(!s.inRecovery, St.NOT_IN_MODE),
      (p.u16 4 == 0 || decide (480 < p.u16 4) || decide (1 < p.u8 6) || p.dirty 7 1, St.BAD_PARAM)] = none := by
    simp [firstFail_cons_eq_none, hrec, hhi, hflags, hclean]
    omega
  rw [opBootRecoveryLoad]
  exact checked_acts hpass

/-- Settles O20: each event by the phase that it finds. -/
theorem bootCommands : Obligations.BootCommands := by
  unfold Obligations.BootCommands
  refine ⟨?loading, ?restart, ?doorbell, ?timeout, ?silent, ?data, ?request, ?recovery, ?kindled⟩
  case loading =>
    exact fun img x s next hphase hfound => answer_sameQueue (runBootImageLoaded_loading hphase hfound)
  case restart =>
    rintro img x s t hphase hfound rfl
    exact answer_sameQueue (runBootImageLoaded_restart hphase hfound)
  case doorbell =>
    intro v s t hphase hr
    refine answer_sameQueue ?_
    rw [runStpBootDoorbell, atReg_acts hr, hphase]
    rfl
  case timeout =>
    intro s t hphase hlate
    refine answer_sameQueue ?_
    simp only [runPcieBootTimeout, hphase]
    exact if_neg (Nat.not_lt.2 hlate)
  case silent =>
    intro s p tries off hphase hlate
    refine answer_sameQueue ?_
    simp only [runZoantBootTimeout, hphase]
    exact if_neg (Nat.not_lt.2 hlate)
  case data =>
    intro p off tries bytes s t hphase hsome hlen ht
    have hrun := runBootDataRx_eq hphase hsome hlen ht
    refine ⟨fun hshort => answer_sameQueue (hrun.trans (if_pos hshort)), fun hlong hdir hend => answer_sameQueue ?_⟩
    rw [hrun, if_neg (Nat.not_lt.2 hlong), hdir, if_neg (Nat.not_lt.2 hend)]
    rfl
  case request =>
    intro p serial off len image s hmode hwork hlen
    exact answer_sameQueue (if_neg (by simp [hmode, hwork, hlen]))
  case recovery =>
    intro p s hload hmode hrec hlo hhi hflags hclean t u ht hu
    have hop := opBootRecoveryLoad_loads (p := asOp 0xF001 p) hrec hlo hhi hflags hclean ht hu
    exact ⟨fun hmore => answer_sameQueue (mgtCommand_eq hload hmode (hop.trans (if_neg (Bool.eq_false_iff.1 hmore)))),
      fun hlast => answer_sameQueue (mgtCommand_eq hload hmode (hop.trans (if_pos hlast)))⟩
  case kindled =>
    rintro s u t hmode hphase haccepted rfl rfl
    exact answer_sameQueue (if_neg (by simp [hmode, hphase, haccepted]))

end Sys2Proof.Machine

/-! Resets, supplies, the restart of the control plane, and the loss and return of the reference (R24, R60, R61, R477,
R478, R480 to R487). -/

namespace Sys2Proof.Machine

open Sys2Proof.Claims

/-! ### Power-on reset -/

theorem foldl_keepField_eq (old : State) (l : List Field) (s : State) : l.foldl (fun z f => keepField old f z) s =
    { s with csr := (l.foldl (fun z f => keepField old f z) s).csr } := by
  induction l generalizing s with
  | nil => rfl
  | cons f l ih =>
    rw [List.foldl_cons, ih]
    rfl

theorem porState_leaves (s : State) : (porState s).seq.mode = .cold ∧ (porState s).otp = s.otp ∧
    (porState s).hostMem = s.hostMem ∧ (porState s).frames.rows = s.frames.rows ∧ (porState s).dram = [] ∧
    (porState s).interp = Interp.reset ∧ (porState s).journal = Journal.reset := by
  unfold porState
  rw [foldl_keepField_eq]
  exact ⟨rfl, rfl, rfl, rfl, rfl, rfl, rfl⟩

/-! ### Straps -/

theorem setWidth_toNat_lt (levels : BitVec 14) : (levels.setWidth 32).toNat = levels.toNat := by
  rw [BitVec.toNat_setWidth]
  omega

/-- The conflict bit lies above the fourteen sampled levels. -/
theorem write_conflict (levels : BitVec 14) (b : Bool) :
    F.STP_STRAPS_CONFLICT.write (if b then 1 else 0) (levels.setWidth 32) =
      levels.setWidth 32 ||| (if b then 0x80000000#32 else 0) := by
  apply BitVec.eq_of_toNat_eq
  rw [Field.write_toNat _ _ _ (by decide), setWidth_toNat_lt, BitVec.toNat_or, setWidth_toNat_lt]
  have hlt : levels.toNat < 2 ^ 31 := by omega
  cases b with
  | false =>
    simp [F.STP_STRAPS_CONFLICT]
    omega
  | true =>
    have hor := Nat.two_pow_add_eq_or_of_lt hlt 1
    rw [Nat.or_comm] at hor
    simp [F.STP_STRAPS_CONFLICT] at hor ⊢
    omega

theorem strap_conflict (levels : BitVec 14) (s : State) (h : s.word R.STP_STRAPS = levels.setWidth 32) :
    (s.fld F.STP_STRAPS_BOOTSRC == 1 && s.flag F.STP_STRAPS_HOSTIF) =
      decide (levels.toNat % 4 = 1 ∧ levels.getLsbD 12 = true) := by
  have hsrc : s.fld F.STP_STRAPS_BOOTSRC = levels.toNat % 4 := by
    rw [State.fld, show F.STP_STRAPS_BOOTSRC.off = R.STP_STRAPS from rfl, h, Field.read, setWidth_toNat_lt]
    simp [F.STP_STRAPS_BOOTSRC]
  have hif : s.fld F.STP_STRAPS_HOSTIF = levels.toNat / 2 ^ 12 % 2 := by
    rw [State.fld, show F.STP_STRAPS_HOSTIF.off = R.STP_STRAPS from rfl, h, Field.read, setWidth_toNat_lt]
    rfl
  rw [State.flag, hsrc, hif, BitVec.getLsbD, Nat.testBit_eq_decide_div_mod_eq, Bool.eq_iff_iff]
  simp

/-- The registers that a sample leaves: the levels, and what follows from them in other registers. -/
theorem runStrapSample_eq {levels : BitVec 14} {s : State} (hpor : s.cal.porLow = false) (haon : s.cal.aonLost = false)
    (hfirst : s.seq.strapsSampled = false) (hmode : s.seq.mode = .cold) : ∃ t : State,
    runStrapSample levels s = { t with seq.strapsSampled := true, host.owners := ownersInitial t.consortium } ∧
      t = { s with csr := t.csr } ∧ t.word R.STP_STRAPS = BitVec.setWidth 32 levels |||
        (if levels.toNat % 4 = 1 ∧ levels.getLsbD 12 = true then 0x80000000#32 else 0) := by
  refine ⟨_, if_neg (by simp [hpor, haon, hfirst, hmode]), rfl, ?_⟩
  rw [State.setFlag, State.word_setFld_other _ _ _ (by decide), State.setFlag, State.word_setFld_other _ _ _ (by decide),
    State.word_setFld_other _ _ _ (by decide), State.word_setFld_other _ _ _ (by decide), State.setFlag]
  have hword : (s.setWord R.STP_STRAPS (BitVec.ofNat 32 levels.toNat)).word R.STP_STRAPS = levels.setWidth 32 :=
    (s.word_setWord_same ..).trans (BitVec.ofNat_toNat 32 levels)
  refine (State.word_setFld_same _ F.STP_STRAPS_CONFLICT _).trans ?_
  rw [strap_conflict levels _ hword]
  refine (congrArg _ hword).trans ((write_conflict levels _).trans ?_)
  simp only [decide_eq_true_eq]

/-! ### The reference -/

section
variable {counts : Option (List Nat)} {s t : State}

theorem runRefLoss_lost (hok : s.flag F.CLK_STAT_REF_OK = true) (hlost : s.refLost counts = true)
    (ht : t = post 0 sevDegraded 0x0004 [] (abortAll RF_ABORTED (enterSlow 3
      (((s.setFlag F.CLK_STAT_REF_OK false).setFlag F.CLK_STAT_PLL_LOCK counts.isSome).count
        F.CLK_REF_LOSS_CNT_COUNT 1)))) :
    (t.inMode [.service, .banked, .calibrate, .test] = true → runRefLoss counts s = enterEmber true t) ∧
    (t.seq.mode = .kindling → runRefLoss counts s =
      enterMode .cold 5 { warmState (mailboxAbandon (allAnswered t)) with seq.refRestart := true }) ∧
    (t.seq.mode = .quarantine → runRefLoss counts s =
      dataClocks false (t.setFlag F.CLK_GATE_CORE_RUN (counts.isSome && t.flag F.CLK_GATE_CORE_RUN))) ∧
    (t.seq.mode = .cold → runRefLoss counts s = t) := by
  rw [runRefLoss, if_neg (by simp [hok, hlost])]
  dsimp only
  rw [← ht]
  refine ⟨fun hmode => ?_, fun hmode => ?_, fun hmode => ?_, fun hmode => ?_⟩
  · cases hm : t.seq.mode <;> simp_all [State.inMode]
  · simp only [hmode]
  · simp only [hmode]
  · simp only [hmode]

theorem runRefRestored_back (hok : s.flag F.CLK_STAT_REF_OK = false) (hcount : s.fld F.CLK_REF_LOSS_CNT_COUNT ≠ 0)
    (ht : t = post 0 sevInfo 0x0005 [] ((s.setFlag F.CLK_STAT_REF_OK true).setFlag F.CLK_STAT_PLL_LOCK true)) :
    (s.seq.mode = .cold → t.coldWaits = false →
      runRefRestored s = kindle (if s.seq.refRestart then 6 else 1) t) ∧
    (s.seq.mode = .quarantine → runRefRestored s = dataClocks true (t.setFlag F.CLK_GATE_CORE_RUN true)) ∧
    (s.seq.mode = .ember → s.seq.heldExit = none → runRefRestored s =
      if s.seq.emberByRef then emberExit s.seq.emberFrom 6 none t else t.setFlag F.CLK_GATE_CORE_RUN true) ∧
    (∀ m c, s.seq.mode = .ember → s.seq.heldExit = some (m, c) → runRefRestored s = emberExit m 2 (some c) t) := by
  have hseq : t.seq = s.seq := by rw [ht]; rfl
  rw [runRefRestored, if_neg (by simp [hok, hcount])]
  dsimp only
  rw [← ht, hseq]
  refine ⟨fun hmode hwait => ?_, fun hmode => ?_, fun hmode hheld => ?_, fun m c hmode hheld => ?_⟩
  · simp only [hmode, hwait, Bool.false_eq_true, if_false]
  · simp only [hmode]
  · simp only [hmode, hheld]
  · simp only [hmode, hheld]

end

/-- Settles O21: by the branches of the resets, and by what the reset state keeps. -/
theorem resetsAndRestarts : Obligations.ResetsAndRestarts := by
  unfold Obligations.ResetsAndRestarts
  refine ⟨⟨fun s h => ?por, fun s h => ?aon, porState_leaves, fun s hpor haon => ?porEnds, fun s haon hpor => ?aonEnds,
    ?straps, ?lock⟩, fun s h => ?warm, ?stopped, ?auto, ?lost, ?kept, ?restored⟩
  case por => exact answer_sameQueue (if_neg (Bool.eq_false_iff.1 h))
  case aon => exact answer_sameQueue (if_neg (Bool.eq_false_iff.1 h))
  case porEnds =>
    exact answer_eq ((if_neg (by simp [hpor])).trans (if_neg (by simp [haon]))) rfl
  case aonEnds =>
    exact answer_eq ((if_neg (by simp [haon])).trans (if_neg (by simp [hpor]))) rfl
  case straps =>
    intro levels s hpor haon hfirst hmode
    obtain ⟨t, hrun, ht, hword⟩ := runStrapSample_eq (levels := levels) hpor haon hfirst hmode
    refine ⟨_, answer_eq hrun ?_, ?_, rfl, hword, ?_, ?_, ?_⟩ <;> rw [ht]
  case lock =>
    intro s hmode hpor haon hstraps htrip hwarm href
    exact answer_sameQueue (if_neg (by simp [hmode, State.coldWaits, hpor, haon, hstraps, htrip, hwarm, href]))
  case warm => exact answer_sameQueue (if_neg (by simp [h]))
  case stopped =>
    rintro s t hrun hstop hserve rfl
    exact answer_sameQueue (if_neg (by simp [hrun, hstop, hserve]))
  case auto =>
    intro s hstop hphase hauto hlate
    exact answer_sameQueue (if_pos (by simp [hstop, hphase, hauto, hlate]))
  case lost =>
    intro counts s t hok hlost ht
    obtain ⟨hradio, hkindling, hquarantine, hcold⟩ := runRefLoss_lost hok hlost ht
    exact ⟨fun h => answer_sameQueue (hradio h), fun h => answer_sameQueue (hkindling h),
      fun h => answer_sameQueue (hquarantine h), fun h => answer_sameQueue (hcold h)⟩
  case kept =>
    intro counts s h
    exact answer_eq (if_pos (by rcases h with h | h <;> simp [h])) rfl
  case restored =>
    intro s t hok hcount ht
    obtain ⟨hcold, hquarantine, hember, hheld⟩ := runRefRestored_back hok hcount ht
    exact ⟨fun hm hw => answer_sameQueue (hcold hm hw), fun hm => answer_sameQueue (hquarantine hm),
      fun hm hh => answer_sameQueue (hember hm hh), fun m c hm hh => answer_sameQueue (hheld m c hm hh)⟩

end Sys2Proof.Machine

/-! The debug gate and its ports (R305 to R309). -/

namespace Sys2Proof.Machine

open Sys2Proof.Claims

theorem opDbgOpen_opens {p : Packet} {s : State} (rb : Nat) (hmagic : p.u32 0 = 0x4F50454E) :
    opDbgOpen rb p s = reply p (debugOpen rb s).1 [] (debugOpen rb s).2 :=
  checked_acts (by rw [hmagic]; rfl)

/-- The gate opens where a fuse is left and the lockout is not burnt: the keys are gone first, then the fuse. -/
theorem debugOpen_opens {f : Nat} {s t : State} (hclosed : s.flag F.DBG_STAT_OPEN = false) (hfuse : s.nextFuse = some f)
    (hlock : (s.otp.get 0 0x47).getLsbD 15 = false)
    (ht : t = burn 0x47 (BitVec.ofNat 32 (2 ^ f)) (State.setFlag F.DBG_STAT_LATCHED true
      { enterQuarantine 7 s with keys.orkBlob := none, keys.dkBlob := none })) :
    debugOpen 0 s = (St.OK, post 38 sevDegraded 0x0C02 []
      ((t.setFld F.DBG_STAT_FAIL 0).setFlag F.DBG_STAT_OPEN true)) := by
  subst ht
  rw [debugOpen, if_neg (Bool.eq_false_iff.1 hclosed)]
  simp only [hfuse, hlock]
  rfl

/-- Settles O22: each port by its branch, the gate by its checks. -/
theorem debugCommands : Obligations.DebugCommands := by
  unfold Obligations.DebugCommands
  refine ⟨fun p rb s h hmagic => ?packet, fun magic rb s hmode hmagic => ?jtag, fun data s => ⟨?ident, ?status, ?other⟩,
    fun s => ?swd, fun s hopen => if_pos hopen, fun f s t => debugOpen_opens⟩
  case packet => exact managed_sameQueue h (opDbgOpen_opens rb hmagic)
  case jtag =>
    refine answer_sameQueue (if_neg ?_)
    rintro (h | h)
    · exact hmode h
    · exact h hmagic
  case ident => exact answer_eq rfl rfl
  case status => exact answer_eq rfl rfl
  case other =>
    intro ir hident hstatus hopen
    refine answer_eq ?_ rfl
    unfold runJtagInstruction
    split <;> trivial
  case swd =>
    refine answer_eq rfl ?_
    split <;> rfl

end Sys2Proof.Machine

/-! Time and timers: reading, slewing and loading the time, and the timers of both classes (R66, R68 to R75, R78 to R82,
R87, R91 to R95). -/

namespace Sys2Proof.Machine

open Sys2Proof.Claims

/-! ### Time -/

section
variable {p : Packet} {s : State}

theorem opTimeSlew_starts (hlo : 1 ≤ p.u16 4) (hhi : p.u16 4 ≤ 1000) (hclean : p.dirty 6 2 = false)
    (hfault : s.flag F.TMB_STAT_CAL_FAULT = false) :
    opTimeSlew p s = reply p St.OK [] { startSlew (p.i32 0) (p.u16 4) s with host.pps.slewing := false } := by
  refine checked_acts ?_
  simp [firstFail_cons_eq_none, hhi, hclean, hfault]
  omega

/-- A load from the packet or from a copy ends at once. -/
theorem opTimeResync_loads (hclean : p.dirty 1 7 = false) (hfault : s.flag F.TMB_STAT_CAL_FAULT = true) :
    (p.u8 0 = 0 → opTimeResync p s = finish (defer p s).1 St.OK [] (resyncLoad (p.u64 8) (defer p s).2)) ∧
    (p.u8 0 = 1 → opTimeResync p s = finish (defer p s).1 St.OK [] (resyncLoad s.cal.copyA.toNat (defer p s).2)) ∧
    (p.u8 0 = 2 → opTimeResync p s = finish (defer p s).1 St.OK [] (resyncLoad s.cal.copyB.toNat (defer p s).2)) ∧
    (p.u8 0 = 3 → opTimeResync p s = finish (defer p s).1 St.OK [] (resyncLoad s.cal.copyC.toNat (defer p s).2)) := by
  refine ⟨fun hsrc => ?_, fun hsrc => ?_, fun hsrc => ?_, fun hsrc => ?_⟩
  all_goals
    unfold opTimeResync
    simp only [hsrc]
    exact checked_acts (by simp [hclean, hfault])

end

/-- Settles O24: each command and event by the branch that its conditions choose. -/
theorem timeCommands : Obligations.TimeCommands := by
  unfold Obligations.TimeCommands
  refine ⟨fun p s h => ?read, fun p s h hlo hhi hclean hfault => ?slew, fun p s r h hclean hfault hr => ?resync,
    fun s q t hwait hlate => ?timeout, fun w s => answer_eq rfl rfl, fun s hslew hdone => ?done,
    fun s => answer_eq rfl rfl, fun s t hslow hready hstable ht => ?exit⟩
  case read => exact served_next h rfl (reply_pending ..)
  case slew => exact served_sameQueue h (opTimeSlew_starts hlo hhi hclean hfault)
  case resync =>
    subst hr
    obtain ⟨hpacket, hcopyA, hcopyB, hcopyC⟩ := opTimeResync_loads (p := asOp 0x1002 p) hclean hfault
    exact ⟨fun hsrc => served_sameQueue h (hpacket hsrc), fun hsrc => served_sameQueue h (hcopyA hsrc),
      fun hsrc => served_sameQueue h (hcopyB hsrc), fun hsrc => served_sameQueue h (hcopyC hsrc)⟩
  case timeout =>
    refine answer_eq ?_ (finish_pending ..)
    simp only [runTimeResyncTimeout, hwait]
    exact if_neg (Nat.not_lt.2 hlate)
  case done => exact answer_eq (if_pos (by simp [hslew, hdone])) rfl
  case exit =>
    subst ht
    exact answer_sameQueue (if_pos (by simp [hslow, hready, hstable]))

/-! ### Class-L timers -/

theorem foldl_max_le {l : List Landing} {a b : Nat} (ha : a ≤ b) (hl : ∀ x ∈ l, x.left ≤ b) :
    l.foldl (fun m x => max m x.left) a ≤ b := by
  induction l generalizing a with
  | nil => exact ha
  | cons x l ih =>
    exact ih (Nat.max_le.2 ⟨ha, hl x List.mem_cons_self⟩) fun y hy => hl y (List.mem_cons_of_mem x hy)

theorem le_foldl_max {l : List Landing} {a : Nat} : a ≤ l.foldl (fun m x => max m x.left) a ∧
    ∀ x ∈ l, x.left ≤ l.foldl (fun m x => max m x.left) a := by
  induction l generalizing a with
  | nil => simp
  | cons y l ih =>
    obtain ⟨hacc, hmem⟩ := ih (a := max a y.left)
    refine ⟨Nat.le_trans (Nat.le_max_left _ _) hacc, fun x hx => ?_⟩
    rcases List.mem_cons.1 hx with rfl | hx
    · exact Nat.le_trans (Nat.le_max_right _ _) hacc
    · exact hmem x hx

/-- A write to a timer lands within four ticks, and not before those under way to it. -/
theorem sendL_lands (n : Nat) (v : Option Nat) (arm : Bool) (s : State) : ∃ k, 1 ≤ k ∧
    ((∀ l ∈ s.timers.landings, l.timer ≠ n) → k ≤ 4) ∧ (∀ l ∈ s.timers.landings, l.timer = n → l.left ≤ k) ∧
    (sendL n v arm s).timers.landings = s.timers.landings ++ [{ timer := n, left := k, value := v, arm := arm }] := by
  refine ⟨_, ?_, fun hnone => ?_, fun l hl hn => ?_, rfl⟩
  · exact Nat.le_trans (Nat.le_add_left 1 _) (Nat.le_max_left _ _)
  · refine Nat.max_le.2 ⟨?_, foldl_max_le (Nat.zero_le 4) fun x hx => ?_⟩
    · exact Nat.succ_le_of_lt (Nat.mod_lt _ (by decide))
    · obtain ⟨hmem, htimer⟩ := List.mem_filter.1 hx
      exact absurd (beq_iff_eq.1 htimer) (hnone x hmem)
  · refine Nat.le_trans (le_foldl_max.2 l ?_) (Nat.le_max_right _ _)
    exact List.mem_filter.2 ⟨hl, beq_iff_eq.2 hn⟩

theorem BitVec.and_of_and_not_eq_zero {v m : Word} (h : v &&& ~~~m = 0) : v &&& m = v := by
  refine BitVec.eq_of_getLsbD_eq fun i hi => ?_
  have hbit := congrArg (·.getLsbD i) h
  simp [hi] at hbit ⊢
  exact hbit

/-- Bits that differ under the mask alone: the masked write is the whole value. -/
theorem BitVec.merge_of_xor_and_not_eq_zero {old v m : Word} (h : (old ^^^ v) &&& ~~~m = 0) :
    (old &&& ~~~m) ||| (v &&& m) = v := by
  refine BitVec.eq_of_getLsbD_eq fun i hi => ?_
  have hbit := congrArg (·.getLsbD i) h
  simp [hi] at hbit ⊢
  cases hm : m.getLsbD i <;> simp_all

section
variable {w : Writer} {v : Word} {s : State} (hrun : s.timersRun = true)
include hrun

theorem runTmrLIntWrite_clears (hheld : v &&& ~~~(BitVec.ofNat 32 (s.heldL w)) = 0) :
    runTmrLIntWrite w false v s = s.setWord R.TMR_L_INT (s.word R.TMR_L_INT &&& ~~~v) := by
  rw [runTmrLIntWrite, if_neg Bool.false_ne_true, atReg_acts (s.reaches_of_timersRun hrun (by decide))]
  simp only [hheld, BitVec.and_of_and_not_eq_zero hheld]
  rfl

theorem runTmrLIntWrite_enables (hheld : (s.word R.TMR_L_IE ^^^ v) &&& ~~~(BitVec.ofNat 32 (s.heldL w)) = 0) :
    runTmrLIntWrite w true v s = s.setWord R.TMR_L_IE v := by
  rw [runTmrLIntWrite, if_pos rfl, atReg_acts (s.reaches_of_timersRun hrun (by decide))]
  simp only [hheld, BitVec.merge_of_xor_and_not_eq_zero hheld]
  rfl

end

/-! ### Class-I timers -/

section
variable {w : Writer} {v : Word} {s : State} {n : Fin 8} (hrun : s.timersRun = true)
  (hh : s.holds w (0x0600 + n.val) = true)
include hrun hh

theorem runTmrICtlWrite_sets (hsrc : v.toNat / 16 % 16 < 5 ∨
    (v.toNat / 16 % 16 < 9 ∧ s.holds w (0x0200 + (v.toNat / 16 % 16 - 5)) = true)) :
    runTmrICtlWrite w n v s = recomputeP n.val (s.setWord (R.TMR_I_CTL n.val) (v &&& 0xFF#32)) := by
  rw [runTmrICtlWrite, tmrOwned_acts (s.reaches_of_timersRun hrun (by simp [R.TMR_I_CTL]; omega)) hh]
  refine (if_neg (by omega)).trans (if_neg ?_)
  rintro ⟨hpin, hother⟩
  rcases hsrc with h | ⟨-, h⟩
  · omega
  · exact Bool.false_ne_true (hother.symm.trans h)

theorem runTmrICtlWrite_refused (hsrc : 9 ≤ v.toNat / 16 % 16 ∨
    (5 ≤ v.toNat / 16 % 16 ∧ s.holds w (0x0200 + (v.toNat / 16 % 16 - 5)) = false)) :
    runTmrICtlWrite w n v s = s := by
  rw [runTmrICtlWrite, tmrOwned_acts (s.reaches_of_timersRun hrun (by simp [R.TMR_I_CTL]; omega)) hh]
  by_cases hbad : 9 ≤ v.toNat / 16 % 16
  · exact if_pos hbad
  · exact (if_neg hbad).trans (if_pos (hsrc.resolve_left hbad))

end

/-- An edge at which a CMP write lands: no match is seen there, and the former value is kept for the next. -/
theorem TimerI.edge_lands (on clr : Bool) (p u : Nat) (cnt cmp v : Word) {x : TimerI}
    (heq : x.eq = false) (hstep : x.stepped = false) (hold : x.oldCmp = none) :
    (TimerI.edge on clr p u cnt cmp { x with cmpW := some v }).2.1 = v ∧
    (TimerI.edge on clr p u cnt cmp { x with cmpW := some v }).2.2.due = x.due ∧
    (TimerI.edge on clr p u cnt cmp { x with cmpW := some v }).2.2.oldCmp = some cmp := by
  simp [TimerI.edge, heq, hstep, hold]

/-- Settles O26: a holder's write acts, and each event of a timer by its branch. -/
theorem timerCommands : Obligations.TimerCommands := by
  unfold Obligations.TimerCommands
  refine ⟨⟨fun w n v s hrun hh => ⟨?lCmp, ?lRearm, ?lDisarm⟩, sendL_lands, fun n s hdue => ?fire,
    fun w v s hrun => ⟨fun hheld => ?clears, fun hheld => ?enables⟩⟩,
    fun w n v s hrun hh => ⟨?iCmp, ?iCount, ?iPresc, fun hsrc => ?iCtl, fun hsrc => ?iCtlRefused⟩, ?matched, ?lands⟩
  case lCmp => exact answer_eq (tmrOwned_acts (s.reaches_of_timersRun hrun (by simp [R.TMR_L_CMP]; omega)) hh) rfl
  case lRearm => exact answer_eq (tmrOwned_acts (s.reaches_of_timersRun hrun (by simp [R.TMR_L_CTL]; omega)) hh) rfl
  case lDisarm => exact answer_eq (tmrOwned_acts (s.reaches_of_timersRun hrun (by simp [R.TMR_L_CTL]; omega)) hh) rfl
  case fire => exact answer_sameQueue (if_pos hdue)
  case clears => exact answer_eq (runTmrLIntWrite_clears hrun hheld) rfl
  case enables => exact answer_eq (runTmrLIntWrite_enables hrun hheld) rfl
  case iCmp => exact answer_eq (tmrOwned_acts (s.reaches_of_timersRun hrun (by simp [R.TMR_I_CMP]; omega)) hh) rfl
  case iCount => exact answer_eq (tmrOwned_acts (s.reaches_of_timersRun hrun (by simp [R.TMR_I_COUNT]; omega)) hh) rfl
  case iPresc =>
    exact answer_sameQueue (tmrOwned_acts (s.reaches_of_timersRun hrun (by simp [R.TMR_I_PRESC]; omega)) hh)
  case iCtl => exact answer_sameQueue (runTmrICtlWrite_sets hrun hh hsrc)
  case iCtlRefused => exact answer_eq (runTmrICtlWrite_refused hrun hh hsrc) rfl
  case matched =>
    rintro n s t u hdue rfl rfl
    exact answer_sameQueue (if_neg hdue)
  case lands => exact fun on clr p u cnt cmp v x _ => TimerI.edge_lands on clr p u cnt cmp v

end Sys2Proof.Machine

/-! Capture units, their read pairs, and the 1 PPS input (R83 to R86, R457). -/

namespace Sys2Proof.Machine

open Sys2Proof.Claims

/-! ### The input edges -/

section
variable {rising : Bool} {s : State} (hnew : s.timers.ppsLevel ≠ rising) (hrun : s.timersRun = true)
include hnew hrun

theorem runPpsInEdge_other (hsrc : s.fld (F.TMR_CAP_CTL_SRC (s.fld F.MGT_PPS_CTL_CAP)) ≠ 5) :
    runPpsInEdge rising s = capEvent 5 (some (!rising)) { s with timers.ppsLevel := rising } := by
  refine (if_neg (by simp [hnew, hrun])).trans (if_neg ?_)
  rw [Bool.and_eq_true, beq_iff_eq]
  exact fun h => hsrc h.1

theorem runPpsInEdge_named (hsrc : s.fld (F.TMR_CAP_CTL_SRC (s.fld F.MGT_PPS_CTL_CAP)) = 5)
    (hedge : s.flag (F.TMR_CAP_CTL_EDGE (s.fld F.MGT_PPS_CTL_CAP)) = !rising) {t : State}
    (ht : t = capEvent 5 (some (!rising)) { s with timers.ppsLevel := rising }) :
    runPpsInEdge rising s = ppsAlign { t with host.pps.lastCap := t.now, host.pps.lost := false } := by
  subst ht
  refine (if_neg (by simp [hnew, hrun])).trans (if_pos ?_)
  rw [Bool.and_eq_true, beq_iff_eq, beq_iff_eq]
  exact ⟨hsrc, hedge⟩

end

theorem runPpsLost_lost {s : State} (halign : s.flag F.MGT_PPS_CTL_ALIGN = true) (hlost : s.host.pps.lost = false)
    (hsince : s.host.pps.since + 240000000 ≤ s.now) (hlast : s.host.pps.lastCap + 240000000 ≤ s.now) :
    runPpsLost s = mgtCause 6 (post 1 sevDegraded 0x1504 (arg8 s.host.pps.lastCap)
      { s with host.pps.lost := true }) := by
  refine if_pos ?_
  simp only [halign, hlost, Bool.not_false, Bool.and_self, Bool.true_and, decide_eq_true_eq]
  split <;> assumption

/-! ### Read pairs -/

@[simp] theorem State.capture_setCapture (s : State) (n : Nat) (c : Capture) : (s.setCapture n c).capture n = c :=
  Sparse.get_set_same Capture.reset c s.timers.caps n

section
variable {pick : Nat × Nat → Bool} {n : Nat} {s : State}

theorem capClose_none (hnone : (s.capture n).pairs.any pick = false) : capClose pick n s = s :=
  if_pos (by simp [hnone])

theorem capClose_empty (hsome : (s.capture n).pairs.any pick = true) (hpend : (s.capture n).pending = none) :
    capClose pick n s = (s.setCapture n { s.capture n with pairs := (s.capture n).pairs.filter (fun x => !pick x),
                                                           pending := none }).setFlag (F.TMR_CAP_STAT_VALID n) false := by
  simp only [capClose, hsome, hpend]
  rfl

/-- The last pair closes on a capture that waits: it comes in. -/
theorem capClose_pending {v : Quad} {b : Bool} (hsome : (s.capture n).pairs.any pick = true)
    (hall : (s.capture n).pairs.all pick = true) (hpend : (s.capture n).pending = some (v, b)) :
    capClose pick n s =
      (((s.setCapture n { s.capture n with pairs := [], pending := none, value := v }).setFlag
        (F.TMR_CAP_STAT_PENDING n) false).setFlag (F.TMR_CAP_STAT_VALID n) true).setFlag (F.TMR_CAP_STAT_TAINT n) b := by
  have hleft : (s.capture n).pairs.filter (fun x => !pick x) = [] := by
    rw [List.filter_eq_nil_iff]
    intro x hx
    simp [List.all_eq_true.1 hall x hx]
  simp only [capClose, hsome, hpend, hleft]
  rfl

end

theorem State.flag_setFlag_bits (s : State) {f g : Field} (b : Bool) (h : f.lo + f.width ≤ 32) (ho : g.off = f.off)
    (hd : g.lo + g.width ≤ f.lo ∨ f.lo + f.width ≤ g.lo) : (s.setFlag f b).flag g = s.flag g :=
  congrArg (· != 0) (s.fld_setFld_bits f g _ h ho hd)

/-- The three bits of a unit's status lie apart in its register. -/
theorem capStat_flags (s : State) (n : Nat) (a b c : Bool) : ∀ t : State,
    t = ((s.setFlag (F.TMR_CAP_STAT_PENDING n) a).setFlag (F.TMR_CAP_STAT_VALID n) b).setFlag
      (F.TMR_CAP_STAT_TAINT n) c →
    t.flag (F.TMR_CAP_STAT_VALID n) = b ∧ t.flag (F.TMR_CAP_STAT_TAINT n) = c ∧
      t.flag (F.TMR_CAP_STAT_PENDING n) = a := by
  rintro t rfl
  have hvalid (u : State) (x : Bool) : (u.setFlag (F.TMR_CAP_STAT_VALID n) x).flag (F.TMR_CAP_STAT_VALID n) = x :=
    u.flag_setFlag_same _ _ (by simp [F.TMR_CAP_STAT_VALID]) (by simp [F.TMR_CAP_STAT_VALID])
  have htaint (u : State) (x : Bool) : (u.setFlag (F.TMR_CAP_STAT_TAINT n) x).flag (F.TMR_CAP_STAT_TAINT n) = x :=
    u.flag_setFlag_same _ _ (by simp [F.TMR_CAP_STAT_TAINT]) (by simp [F.TMR_CAP_STAT_TAINT])
  have hpending (u : State) (x : Bool) : (u.setFlag (F.TMR_CAP_STAT_PENDING n) x).flag (F.TMR_CAP_STAT_PENDING n) = x :=
    u.flag_setFlag_same _ _ (by simp [F.TMR_CAP_STAT_PENDING]) (by simp [F.TMR_CAP_STAT_PENDING])
  refine ⟨?_, htaint _ c, ?_⟩
  · rw [State.flag_setFlag_bits (f := F.TMR_CAP_STAT_TAINT n) (g := F.TMR_CAP_STAT_VALID n) _ c
      (by simp [F.TMR_CAP_STAT_TAINT]) rfl (by simp [F.TMR_CAP_STAT_TAINT, F.TMR_CAP_STAT_VALID]), hvalid]
  · rw [State.flag_setFlag_bits (f := F.TMR_CAP_STAT_TAINT n) (g := F.TMR_CAP_STAT_PENDING n) _ c
      (by simp [F.TMR_CAP_STAT_TAINT]) rfl (by simp [F.TMR_CAP_STAT_TAINT, F.TMR_CAP_STAT_PENDING]),
      State.flag_setFlag_bits (f := F.TMR_CAP_STAT_VALID n) (g := F.TMR_CAP_STAT_PENDING n) _ b
      (by simp [F.TMR_CAP_STAT_VALID]) rfl (by simp [F.TMR_CAP_STAT_VALID, F.TMR_CAP_STAT_PENDING]), hpending]

/-- Settles O28: by the branches of the edges, and by what a closing read pair leaves. -/
theorem captureCommands : Obligations.CaptureCommands := by
  unfold Obligations.CaptureCommands
  refine ⟨?pin, ?pps, ?named, fun w n s => answer_eq rfl rfl, fun w n s => answer_sameQueue rfl,
    fun n s => answer_sameQueue rfl, fun pick n s t ht => ⟨fun hnone => ?none, fun hsome hpend => ?empty,
      fun v b hsome hall hpend => ?comes⟩, ?lost⟩
  case pin =>
    rintro pin rising s t hnew hrun rfl
    exact answer_sameQueue (if_neg (by simp [hnew, hrun]))
  case pps => exact fun rising s hnew hrun hsrc => answer_sameQueue (runPpsInEdge_other hnew hrun hsrc)
  case named =>
    exact fun rising s t hnew hrun hsrc hedge ht => answer_sameQueue (runPpsInEdge_named hnew hrun hsrc hedge ht)
  case none => exact ht.trans (capClose_none hnone)
  case empty =>
    rw [ht, capClose_empty hsome hpend]
    exact ⟨State.flag_setFlag_same _ _ _ (by simp [F.TMR_CAP_STAT_VALID]) (by simp [F.TMR_CAP_STAT_VALID]),
      congrArg Capture.pairs (s.capture_setCapture n.val _)⟩
  case comes =>
    rw [capClose_pending hsome hall hpend] at ht
    have hcap : t.capture n.val = { s.capture n.val with pairs := [], pending := none, value := v } := by
      rw [ht]
      exact s.capture_setCapture n.val _
    obtain ⟨hvalid, htaint, hpending⟩ := capStat_flags _ n.val false true b t ht
    exact ⟨hvalid, htaint, hpending, by rw [hcap], by rw [hcap]⟩
  case lost =>
    rintro s t halign hlost hsince hlast rfl
    exact answer_eq (runPpsLost_lost halign hlost hsince hlast) (mgtCause_pending ..)

end Sys2Proof.Machine

/-! Claims, releases and queries of resources, and PPS_SET (R456, R457, R463 to R467). -/

namespace Sys2Proof.Machine

open Sys2Proof.Claims

theorem foldl_setOwner_pending (who : Req) (ids : List Nat) (s : State) :
    (ids.foldl (fun s id => setOwner id who s) s).pending = s.pending := by
  induction ids generalizing s with
  | nil => rfl
  | cons id ids ih => exact ih _

section
variable {p : Packet} {s : State} {id st : Nat}

section
variable (hlen : resLen p = true) (hclean : p.dirty 2 2 = false)
include hlen hclean

theorem resChecks_pass : firstFail [(decide (p.u16 0 < 1) || decide (16 < p.u16 0) || p.dirty 2 2, St.BAD_PARAM)] = none := by
  simp only [resLen, Bool.and_eq_true, decide_eq_true_eq] at hlen
  obtain ⟨⟨-, hlo⟩, hhi⟩ := hlen
  simp [firstFail_cons_eq_none, hhi, hclean]
  omega

theorem opResClaim_grants (hfree : claimRefusal p.issuer s (resIds p) = none) : opResClaim p s =
    reply p St.OK (leBytes 4 0) ((resIds p).foldl (fun s id => setOwner id p.issuer s) s) := by
  rw [opResClaim, checked_acts (resChecks_pass hlen hclean), hfree]
  rfl

theorem opResClaim_refuses (hheld : claimRefusal p.issuer s (resIds p) = some (id, st)) : opResClaim p s =
    reply p st (resReply s id) (if st = St.RESOURCE_HELD then s.count F.MGT_RES_CNT_REFUSED 1 else s) := by
  rw [opResClaim, checked_acts (resChecks_pass hlen hclean), hheld]
  dsimp only [resRefuse]
  split <;> rfl

theorem opResRelease_frees (hown : releaseRefusal p.issuer s (resIds p) = none) : opResRelease p s =
    reply p St.OK (leBytes 4 0) ((resIds p).foldl (fun s id => resFree id s) s) := by
  rw [opResRelease, checked_acts (resChecks_pass hlen hclean), hown]
  rfl

end

theorem opResQuery_tells (hclean : p.dirty 2 2 = false) (hknown : resKnown (p.u16 0) = true) : opResQuery p s =
    reply p St.OK (leBytes 1 (if s.ownerOf (p.u16 0) == 0 then 0 else 1) ++ [s.ownerOf (p.u16 0)] ++ leBytes 2 0) s :=
  checked_acts (by simp [hclean, hknown])

end

/-! ### PPS_SET -/

section
variable {p : Packet} {s : State} (hflags : p.bits 0 7 2 = 0) (htimer : p.u8 1 ≤ 7) (hcap : p.u8 2 ≤ 15)
  (hthree : p.u8 3 = 0) (hwidth : p.u16 4 ≠ 0) (hclean : p.dirty 6 2 = false) (hphase : p.u32 8 ≤ 119999999)
  (htail : p.dirty 12 4 = false) (hfree : claimRefusal 0x02 s (ppsWant p) = none)
include hflags htimer hcap hthree hwidth hclean hphase htail hfree

/-- A granted request takes its settings; then it drives or stops the output, and starts or stops the alignment. -/
theorem opPpsSet_grants {t u : State} (ht : t = ppsSettings p s)
    (hu : u = if p.bit 0 0 then ppsTimer (p.u8 1) (p.u32 8) t else { t with host.pps.out := false, host.pps.left := 0 })
    (halign : p.bit 0 1 = true → s.flag F.MGT_PPS_CTL_ALIGN = true) :
    opPpsSet p s = reply p St.OK (leBytes 4 0) (if p.bit 0 1 then
        (u.setFld (F.TMR_CAP_CTL_SRC (p.u8 2)) 5).setFlag (F.TMR_CAP_CTL_EDGE (p.u8 2)) false
      else { u with host.pps.lost := false }) := by
  have hpass : firstFail [(p.bits 0 7 2 != 0 || decide (7 < p.u8 1) || decide (15 < p.u8 2) || p.u8 3 != 0 ||
      p.u16 4 == 0 || p.dirty 6 2 || decide (119999999 < p.u32 8) || p.dirty 12 4, St.BAD_PARAM)] = none := by
    simp [firstFail_cons_eq_none, hflags, htimer, hcap, hthree, hwidth, hclean, hphase, htail]
  have hsince : (p.bit 0 1 && !s.flag F.MGT_PPS_CTL_ALIGN) = false := by
    cases hbit : p.bit 0 1 with
    | false => rfl
    | true => simp [halign hbit]
  rw [opPpsSet, checked_acts hpass, hfree]
  simp only [← ht, ← hu, hsince]
  rfl

end

/-- Settles O29: by the checks of the claims and releases, and by what a granted request of PPS_SET sets. -/
theorem resourceCommands : Obligations.ResourceCommands := by
  unfold Obligations.ResourceCommands
  refine ⟨⟨fun p s hlen hserve hmode hclean => ⟨fun hfree => ?claim, fun id st hheld => ?refused, fun hown => ?release⟩,
    fun p s h hclean hknown => ?query⟩, ⟨fun who ids s => ⟨fun id hid => ?claimed, fun id hid => ?kept⟩,
      fun who ids s => claimRefusal_eq_none_iff who s ids⟩,
    fun p s t h hflags htimer hcap hthree hwidth hclean hphase htail hfree ht => ⟨fun hout halign => ?neither,
      fun hout halign => ?drives, fun hout halign hwas => ?aligns⟩⟩
  case claim =>
    exact answer_eq (command_eq hlen hserve hmode (opResClaim_grants hlen hclean hfree))
      ((reply_pending ..).trans (foldl_setOwner_pending ..))
  case refused =>
    refine answer_eq (command_eq hlen hserve hmode (opResClaim_refuses hlen hclean hheld)) ?_
    rw [reply_pending]
    split <;> rfl
  case release => exact answer_sameQueue (command_eq hlen hserve hmode (opResRelease_frees hlen hclean hown))
  case query => exact served_next h (opResQuery_tells hclean hknown) (reply_pending ..)
  case claimed => rw [foldl_setOwner_ownerOf, if_pos (by simpa using hid)]
  case kept => rw [foldl_setOwner_ownerOf, if_neg (by simpa using hid)]
  case neither =>
    refine served_sameQueue h ((opPpsSet_grants (p := asOp 0xC020 p) hflags htimer hcap hthree hwidth hclean hphase htail
      hfree ht rfl ?_).trans ?_)
    · exact fun hbit => absurd (halign.symm.trans hbit) Bool.false_ne_true
    · simp only [asOp_bit, hout, halign, Bool.false_eq_true, if_false]
  case drives =>
    refine served_sameQueue h ((opPpsSet_grants (p := asOp 0xC020 p) hflags htimer hcap hthree hwidth hclean hphase htail
      hfree ht rfl ?_).trans ?_)
    · exact fun hbit => absurd (halign.symm.trans hbit) Bool.false_ne_true
    · simp only [asOp_bit, asOp_u8, asOp_u32, hout, halign, Bool.false_eq_true, if_false, if_true]
  case aligns =>
    refine served_sameQueue h ((opPpsSet_grants (p := asOp 0xC020 p) hflags htimer hcap hthree hwidth hclean hphase htail
      hfree ht rfl fun _ => hwas).trans ?_)
    simp only [asOp_bit, asOp_u8, hout, halign, Bool.false_eq_true, if_false, if_true]

end Sys2Proof.Machine

/-! GPIO functions, the QSPI and SFP buses, and PCI Express (R445 to R449, R461, R462, R464, R491). -/

namespace Sys2Proof.Machine

open Sys2Proof.Claims

/-! ### Pins and buses -/

theorem runMgtGpioFuncWrite_held {w : Writer} {k : Fin 3} {v : Word} {s : State}
    (hr : s.reaches (R.MGT_GPIO_FUNC k.val) = true) (hheld : ∀ j, j < 8 → s.holds w (0x0100 + 8 * k.val + j) = true) :
    runMgtGpioFuncWrite w k v s = (List.range 8).foldl (fun s j =>
      gpioPin w (8 * k.val + j) (v.toNat / 2 ^ (4 * j) % 16) s) s := by
  have hown : (List.range 8).any (fun j => !s.holds w (0x0100 + 8 * k.val + j) &&
      v.toNat / 2 ^ (4 * j) % 16 != s.fld (gpioFunc (8 * k.val + j))) = false := by
    rw [List.any_eq_false]
    intro j hj
    simp [hheld j (List.mem_range.1 hj)]
  rw [runMgtGpioFuncWrite, atReg_acts hr]
  exact if_neg (Bool.eq_false_iff.1 hown)

theorem busOwned_eq {w : Writer} {res off : Nat} {act : State → State} {s : State} (hr : s.reaches off = true) :
    busOwned w res off act s = if s.holds w res = true then act s else s.count F.MGT_RES_CNT_IGNORED 1 :=
  atReg_acts (act := fun s => if s.holds w res then act s else resIgnore s) hr

theorem runMgtQspiOp_eq {w : Writer} {v : Word} {s : State} (hr : s.reaches R.MGT_QSPI_CMD = true)
    (hidle : s.flag F.MGT_QSPI_CMD_BUSY = false) : runMgtQspiOp w v s = if s.holds w 0x0900 = true
      then (s.setWord R.MGT_QSPI_CMD (v &&& 0x47FF007F#32)).setFlag F.MGT_QSPI_CMD_BUSY true
      else s.count F.MGT_RES_CNT_IGNORED 1 := by
  rw [runMgtQspiOp, busOwned_eq hr, if_neg (Bool.eq_false_iff.1 hidle)]

theorem runEthI2cTransaction_eq {w : Writer} {b : Fin 2} {v : Word} {s : State}
    (hr : s.reaches (R.ETH_I2C_CMD b.val) = true) (hidle : s.flag (F.ETH_I2C_CMD_BUSY b.val) = false) :
    runEthI2cTransaction w b v s = if s.holds w (0x0A00 + b.val) = true
      then (s.setWord (R.ETH_I2C_CMD b.val) (v &&& 0x27FFFF00#32)).setFlag (F.ETH_I2C_CMD_BUSY b.val) true
      else s.count F.MGT_RES_CNT_IGNORED 1 := by
  rw [runEthI2cTransaction, busOwned_eq hr, if_neg (Bool.eq_false_iff.1 hidle)]

/-- Settles O31: a bus or a pin acts for its holder, and an operation ends by its direction. -/
theorem pinCommands : Obligations.PinCommands := by
  unfold Obligations.PinCommands
  refine ⟨fun w k v s hr hheld => ?gpio, fun w v s hr hidle => ?qspi, fun w b v s hr hidle => ?i2c,
    fun data s t hbusy ht => ⟨fun hwrite => ?wrote, fun hread => ?read⟩,
    fun b nack data s t hbusy ht => ⟨fun hend => ?ended, fun hack hread => ?data⟩, fun id s => rfl⟩
  case gpio => exact answer_sameQueue (runMgtGpioFuncWrite_held hr hheld)
  case qspi =>
    refine answer_eq (runMgtQspiOp_eq hr hidle) ?_
    split <;> rfl
  case i2c =>
    refine answer_eq (runEthI2cTransaction_eq hr hidle) ?_
    split <;> rfl
  case wrote =>
    subst ht
    exact answer_sameQueue ((if_neg (by simp [hbusy])).trans (if_pos hwrite))
  case read =>
    subst ht
    exact answer_sameQueue ((if_neg (by simp [hbusy])).trans (if_neg (Bool.eq_false_iff.1 hread)))
  case ended =>
    subst ht
    exact answer_sameQueue ((if_neg (by simp [hbusy])).trans (if_pos (by rcases hend with h | h <;> simp [h])))
  case data =>
    subst ht hack
    exact answer_sameQueue ((if_neg (by simp [hbusy])).trans (if_neg (by simp [hread])))

/-! ### PCI Express -/

section
variable {width speed : BitVec 4} {s t : State} (hif : s.flag F.STP_STRAPS_HOSTIF = false)
  (hmode : s.inMode [.cold] = false)
  (ht : t = ((s.setFlag F.PCI_LINK_UP true).setFld F.PCI_LINK_WIDTH width.toNat).setFld F.PCI_LINK_SPEED speed.toNat)
include hif hmode ht

theorem runPcieLinkUp_boots (hphase : s.seq.boot.phase = .doorbell none) :
    runPcieLinkUp width speed s = { t with seq.boot.phase := .doorbell (some t.now) } := by
  have hphase' : t.seq.boot.phase = .doorbell none := by rw [ht]; exact hphase
  rw [runPcieLinkUp, if_neg (by simp [hif, hmode])]
  dsimp only
  rw [← ht]
  simp only [hphase']

theorem runPcieLinkUp_idle (hphase : s.seq.boot.phase = .idle) : runPcieLinkUp width speed s = t := by
  have hphase' : t.seq.boot.phase = .idle := by rw [ht]; exact hphase
  rw [runPcieLinkUp, if_neg (by simp [hif, hmode])]
  dsimp only
  rw [← ht]
  simp only [hphase']

end

theorem signal_held {s : State} {v : Nat} (h : s.flag (msixMask v) = true ∨ s.flag F.PCI_LINK_BME = false) :
    signal v s = s.setFlag (msixPend v) true :=
  if_pos (by rcases h with h | h <;> simp [h])

theorem signal_sent {s : State} {v : Nat} (hmask : s.flag (msixMask v) = false) (hbme : s.flag F.PCI_LINK_BME = true) :
    signal v s = msixSend v s :=
  if_neg (by simp [hmask, hbme])

/-- Settles O32: each event by its branch, a vector by its mask and the right to master the bus. -/
theorem pcieCommands : Obligations.PcieCommands := by
  unfold Obligations.PcieCommands
  refine ⟨⟨fun width speed s t hif hmode ht => ⟨fun hphase => ?boots, fun hphase => ?idle⟩, fun s hup => ?bmeSet,
    fun n s t hup ht => ?unmask, fun kind s t hup ht => ?reset, fun s t u hbme ht hu => ?bmeClear,
    fun s hbme => ?already⟩, fun v s => ⟨signal_held, fun hmask hbme => ?sent⟩⟩
  case boots =>
    exact answer_eq (runPcieLinkUp_boots hif hmode ht hphase) (by rw [ht]; rfl)
  case idle => exact answer_eq (runPcieLinkUp_idle hif hmode ht hphase) (by rw [ht]; rfl)
  case bmeSet => exact answer_sameQueue (if_neg (by simp [hup]))
  case unmask =>
    subst ht
    refine answer_eq (if_neg (by simp [hup])) ?_
    split <;> rfl
  case reset =>
    subst ht
    exact answer_sameQueue (if_neg (by simp [hup]))
  case bmeClear =>
    rw [hu, ht]
    exact answer_sameQueue (if_neg (by simp [hbme]))
  case already => exact answer_eq (if_pos (by simp [hbme])) rfl
  case sent =>
    rw [signal_sent hmask hbme]
    exact ⟨rfl, rfl⟩

end Sys2Proof.Machine

/-! The Ethernet ports and their SFP sideband (R450 to R455). -/

namespace Sys2Proof.Machine

open Sys2Proof.Claims

/-! ### ETH_PORT_SET -/

theorem opEthPortSet_sets {p : Packet} {s u t : State} (hport : p.u8 0 ≤ 1) (hbits : p.bits 1 7 4 = 0)
    (hclean : p.dirty 20 4 = false) (hpvid : p.u16 2 ≤ 4094) (hvids : ∀ i, i < 8 → p.u16 (4 + 2 * i) ≤ 4094)
    (htwice : twice ((List.range 8).map (fun i => p.u16 (4 + 2 * i))) = false)
    (hu : u = (s.setFlag (F.ETH_PORT_CTL_EN (p.u8 0)) (p.bit 1 0)).setFld (F.ETH_PORT_CTL_PCP (p.u8 0)) (p.bits 1 3 1))
    (ht : t = (List.range 4).foldl (fun s k =>
      (s.setFld (F.ETH_PORT_VID_VIDB (p.u8 0) k) (p.u16 (4 + 4 * k))).setFld (F.ETH_PORT_VID_VIDA (p.u8 0) k)
        (p.u16 (6 + 4 * k)))
      ((if p.bit 1 0 then
          u.setEthPort (p.u8 0) { u.ethPort (p.u8 0) with faultSeen := u.flag (F.ETH_PORT_STAT_TX_FAULT (p.u8 0)) }
        else u).setFld (F.ETH_PORT_VLAN_PVID (p.u8 0)) (p.u16 2))) :
    opEthPortSet p s = reply p St.OK [] (setLaser (p.u8 0) t) := by
  have hany : ((List.range 8).map (fun i => p.u16 (4 + 2 * i))).any (fun v => 4094 < v) = false := by
    rw [List.any_map, List.any_eq_false]
    intro i hi
    simpa using hvids i (List.mem_range.1 hi)
  have hpass : firstFail [(decide (1 < p.u8 0) || p.bits 1 7 4 != 0 || p.dirty 20 4, St.BAD_PARAM),
      (decide (4094 < p.u16 2) || ((List.range 8).map (fun i => p.u16 (4 + 2 * i))).any (fun v => 4094 < v) ||
        twice ((List.range 8).map (fun i => p.u16 (4 + 2 * i))), 0x8C02)] = none := by
    rw [hany, htwice]
    simp [firstFail_cons_eq_none, hport, hbits, hclean, hpvid]
  subst hu ht
  rw [opEthPortSet]
  exact checked_acts hpass

/-! ### Frames sent -/

section
variable {p : Fin 2} {frame : List Byte} {rest : List (List Byte)} {s t : State}
  (hq : (s.ethPort p.val).txq = frame :: rest)
include hq

theorem runEthFrameTx_plain : runEthFrameTx p none s =
    (s.setEthPort p.val { s.ethPort p.val with txq := rest }).wrapCount (F.ETH_PORT_TX_OK_OK p.val) 1 := by
  simp only [runEthFrameTx, hq]

section
variable {v : Quad} {o : Nat} (hptp : ptpOffset frame = some o) (hevent : ptpEvent frame o = true)
  (ht : t = ((s.setEthPort p.val { s.ethPort p.val with txq := rest }).wrapCount (F.ETH_PORT_TX_OK_OK p.val) 1).wrapCount
    (F.ETH_PORT_TS_COUNT p.val) 1)
include hptp hevent ht

theorem runEthFrameTx_overrun (hfull : 16 ≤ (t.ethPort p.val).stamps.length) : runEthFrameTx p (some v) s =
    ethRaise F.ETH_INT_TS_OVR p.val (t.count (F.ETH_PORT_TS_OVR p.val) 1) := by
  rw [ht] at hfull ⊢
  simp only [runEthFrameTx, hq, hptp, hevent]
  exact if_pos hfull

theorem runEthFrameTx_stamps (hroom : (t.ethPort p.val).stamps.length < 16) : runEthFrameTx p (some v) s =
    t.setEthPort p.val { t.ethPort p.val with stamps := (t.ethPort p.val).stamps ++
      [(adjusted v (t.sfld (F.ETH_PORT_TS_ADJ_TX_ADJ p.val)), t.taints, beAt frame (o + 30) 2, leAt frame o 1 % 16)] } := by
  rw [ht] at hroom ⊢
  simp only [runEthFrameTx, hq, hptp, hevent]
  exact if_neg (Nat.not_le.2 hroom)

end

end

/-! ### Frames received -/

section
variable {p : Fin 2} {frame : List Byte} {stamp : Quad} {s t : State} (hen : s.flag (F.ETH_PORT_CTL_EN p.val) = true)
  (hlink : s.flag (F.ETH_PORT_STAT_LINK p.val) = true) (hmode : s.inMode radioModes = true)
include hen hlink hmode

theorem ethReceives : ¬ (!s.flag (F.ETH_PORT_CTL_EN p.val) || !s.flag (F.ETH_PORT_STAT_LINK p.val) ||
    !s.inMode radioModes) = true := by
  simp [hen, hlink, hmode]

theorem runEthFrameRx_fcs :
    runEthFrameRx p frame false stamp s = s.count (F.ETH_PORT_RX_DROP0_FCS p.val) 1 :=
  (if_neg (ethReceives hen hlink hmode)).trans (if_pos rfl)

theorem runEthFrameRx_short (hlen : frame.length < 64) :
    runEthFrameRx p frame true stamp s = s.count (F.ETH_PORT_RX_DROP0_SIZE p.val) 1 :=
  (if_neg (ethReceives hen hlink hmode)).trans ((if_neg Bool.false_ne_true).trans (if_pos (.inl hlen)))

/-- An untagged frame of the port's VLAN that is for the chip goes to the forwarder. -/
theorem runEthFrameRx_forwards (hlo : 64 ≤ frame.length) (hhi : frame.length ≤ s.fld F.FWD_CTL_ETH_MTU + 22)
    (htag : ethVid frame = 0) (hpvid : s.fld (F.ETH_PORT_VLAN_PVID p.val) ≠ 0)
    (ht : t = ethLearn p.val (s.fld (F.ETH_PORT_VLAN_PVID p.val)) frame s) (hctl : macControl frame = false)
    (hlook : t.ethLookupBad (s.fld (F.ETH_PORT_VLAN_PVID p.val)) frame = false) (hptp : ptpOffset frame = none)
    (hmine : t.ethMine p.val frame = true) (htmode : t.inMode [.service, .test] = true) :
    runEthFrameRx p frame true stamp s = ethForward p.val (s.fld (F.ETH_PORT_VLAN_PVID p.val)) frame t := by
  rw [runEthFrameRx, if_neg (ethReceives hen hlink hmode), Bool.not_true, if_neg Bool.false_ne_true, if_neg (by omega)]
  simp only [htag, if_true, ← ht, hctl, hlook, hptp, hmine, htmode, hpvid, ne_eq, not_true_eq_false, false_and, or_false,
    Bool.false_eq_true, if_false, Bool.and_self]

end

/-- Settles O33: each event of a port by its branch. -/
theorem ethernetCommands : Obligations.EthernetCommands := by
  unfold Obligations.EthernetCommands
  refine ⟨?set, ?fault, ?signal, fun p frame rest s hq => ?plain, fun p frame rest v o s t hq hptp hevent ht =>
    ⟨fun hfull => ?overrun, fun hroom => ?stamps⟩, fun p frame stamp s hen hlink hmode => ⟨?fcs, fun hlen => ?short,
      fun t hlo hhi htag hpvid ht hctl hlook hptp hmine htmode => ?forwards⟩⟩
  case set =>
    intro p s u t h hport hbits hclean hpvid hvids htwice hu ht
    exact served_sameQueue h (opEthPortSet_sets hport hbits hclean hpvid hvids htwice hu ht)
  case fault =>
    rintro p s t hok rfl
    exact answer_sameQueue (if_neg (Bool.eq_false_iff.1 hok))
  case signal =>
    rintro p modAbs rxLos txFault lock s u v t rfl rfl rfl
    exact answer_sameQueue rfl
  case plain => exact answer_eq (runEthFrameTx_plain hq) rfl
  case overrun => exact answer_sameQueue (runEthFrameTx_overrun hq hptp hevent ht hfull)
  case stamps => exact answer_sameQueue (runEthFrameTx_stamps hq hptp hevent ht hroom)
  case fcs => exact answer_eq (runEthFrameRx_fcs hen hlink hmode) rfl
  case short => exact answer_eq (runEthFrameRx_short hen hlink hmode hlen) rfl
  case forwards =>
    exact answer_sameQueue (runEthFrameRx_forwards hen hlink hmode hlo hhi htag hpvid ht hctl hlook hptp hmine htmode)

end Sys2Proof.Machine

/-! The journal: its commands, the length of a record and the order of emission (R89, R90, R519, R521 to R528). -/

namespace Sys2Proof.Machine

open Sys2Proof.Claims

/-! ### The order of records -/

theorem recBefore_iff (a b : JRec) : recBefore a b = true ↔
    a.cal.toNat < b.cal.toNat ∨ (a.cal = b.cal ∧ a.src.toNat ≤ b.src.toNat) := by
  simp [recBefore]

theorem recBefore_refl (a : JRec) : recBefore a a = true :=
  (recBefore_iff a a).2 (.inr ⟨rfl, Nat.le_refl _⟩)

theorem recBefore_trans {a b c : JRec} (hab : recBefore a b = true) (hbc : recBefore b c = true) :
    recBefore a c = true := by
  rw [recBefore_iff] at *
  rcases hab with hab | ⟨hab, hsrc⟩
  · rcases hbc with hbc | ⟨hbc, -⟩
    · exact .inl (Nat.lt_trans hab hbc)
    · exact .inl (hbc ▸ hab)
  · rw [hab]
    rcases hbc with hbc | ⟨hbc, hsrc'⟩
    · exact .inl hbc
    · exact .inr ⟨hbc, Nat.le_trans hsrc hsrc'⟩

theorem recBefore_of_not {a b : JRec} (h : recBefore a b = false) : recBefore b a = true := by
  rw [Bool.eq_false_iff, ne_eq, recBefore_iff, not_or, Classical.not_and_iff_not_or_not] at h
  obtain ⟨hcal, hsrc⟩ := h
  rw [recBefore_iff]
  by_cases heq : a.cal = b.cal
  · exact .inr ⟨heq.symm, Nat.le_of_lt (Nat.lt_of_not_le (hsrc.resolve_left (Classical.not_not.2 heq)))⟩
  · exact .inl (Nat.lt_of_le_of_ne (Nat.not_lt.1 hcal) fun h => heq (BitVec.eq_of_toNat_eq h).symm)

/-- The first record of a window is in it and before every record of it. -/
theorem firstRec_spec {l : List (Nat × JRec)} {e : Nat × JRec} (h : firstRec l = some e) :
    e ∈ l ∧ ∀ f ∈ l, recBefore e.2 f.2 = true := by
  induction l generalizing e with
  | nil => cases h
  | cons x l ih =>
    rw [firstRec] at h
    cases hl : firstRec l with
    | none =>
      have hnil : l = [] := by
        cases l with
        | nil => rfl
        | cons y l =>
          rw [firstRec] at hl
          split at hl
          · cases hl
          · split at hl <;> cases hl
      rw [hl] at h
      cases h
      subst hnil
      exact ⟨List.mem_cons_self, by simp [recBefore_refl]⟩
    | some y =>
      obtain ⟨hy, hbefore⟩ := ih hl
      rw [hl] at h
      dsimp only at h
      cases hxy : recBefore x.2 y.2 with
      | true =>
        rw [hxy, if_pos rfl] at h
        cases h
        refine ⟨List.mem_cons_self, fun f hf => ?_⟩
        rcases List.mem_cons.1 hf with rfl | hf
        · exact recBefore_refl _
        · exact recBefore_trans hxy (hbefore f hf)
      | false =>
        rw [hxy, if_neg Bool.false_ne_true] at h
        cases h
        refine ⟨List.mem_cons_of_mem _ hy, fun f hf => ?_⟩
        rcases List.mem_cons.1 hf with rfl | hf
        · exact recBefore_of_not hxy
        · exact hbefore f hf

theorem dropRec_length {e : Nat × JRec} {l : List (Nat × JRec)} (h : e ∈ l) : (dropRec e l).length + 1 = l.length := by
  induction l with
  | nil => cases h
  | cons f l ih =>
    rw [dropRec]
    split
    · rfl
    · rename_i hne
      exact congrArg (· + 1) (ih ((List.mem_cons.1 h).resolve_left fun heq => hne heq.symm))

theorem JRec.bytes_length (r : JRec) : r.bytes.length = 32 := by
  simp [JRec.bytes, leBytes_length, sliceBytes_length]

/-! ### The commands -/

theorem foldl_setFld_eq_csr {f : Nat → Field} {v : Nat} (l : List Nat) (s : State) :
    l.foldl (fun s i => s.setFld (f i) v) s = { s with csr := (l.foldl (fun s i => s.setFld (f i) v) s).csr } := by
  induction l generalizing s with
  | nil => rfl
  | cons i l ih =>
    rw [List.foldl_cons, ih]
    rfl

theorem or_four_bit (v : Word) : (v ||| 4#32).toNat / 4 % 2 = 1 := by
  have h := Nat.testBit_eq_decide_div_mod_eq (x := (v ||| 4#32).toNat) (i := 2)
  have hbit : (v ||| 4#32).toNat.testBit 2 = true := by
    rw [BitVec.toNat_or, Nat.testBit_or]
    simp [Nat.testBit]
  rw [hbit] at h
  exact of_decide_eq_true h.symm

/-- A fatal record is cleared whatever the other bits clear. -/
theorem runEvjFatalClear_fatal {v : Word} {s : State} (hr : s.reaches R.EVJ_CLR = true) :
    (runEvjFatalClear v s).journal = { s.journal with fatal := none } ∧
      (runEvjFatalClear v s).interp = s.interp ∧ (runEvjFatalClear v s).otp = s.otp := by
  rw [runEvjFatalClear, evjClrWrite, atReg_acts hr, if_pos (or_four_bit v)]
  dsimp only
  rw [foldl_setFld_eq_csr]
  split
  · split <;> exact ⟨rfl, rfl, rfl⟩
  · split <;> exact ⟨rfl, rfl, rfl⟩

theorem runJournalEmit_emits {e : Nat × JRec} {s : State} (hfirst : firstRec s.journal.window = some e)
    (hdue : isLate s.journal.last e.2 = true ∨ e.1 + 120000 ≤ s.now ∨ s.now < e.1) :
    runJournalEmit s = emitRec e.2 { s with journal.window := dropRec e s.journal.window } := by
  simp only [runJournalEmit, hfirst]
  refine if_pos ?_
  simpa [or_assoc] using hdue

theorem opJournalAonRead_reads {p : Packet} {s : State} {wr first n : Nat} {nums : List Nat}
    {aon : Sparse (Option (JRec × Bool))} (hlo : 1 ≤ p.u8 4) (hhi : p.u8 4 ≤ 15) (hclean : p.dirty 5 3 = false)
    (hwr : wr = s.fld F.EVJ_AON_WR_WR) (hfirst : first = if p.u32 0 ≤ wr - 256 then wr - 256 else p.u32 0)
    (hn : n = if wr - first ≤ p.u8 4 then wr - first else p.u8 4)
    (hnums : nums = (List.range n).map (fun i => (first + i) % 256))
    (haon : aon = nums.foldl (fun (m : Sparse (Option (JRec × Bool))) i => match m.get none i with
      | some (r, _) => m.set none i (some (r, true))
      | none => m) s.journal.aon) : opJournalAonRead p s =
    reply p St.OK (leBytes 4 wr ++ leBytes 4 first ++ (nums.map (fun i => match s.journal.aon.get none i with
      | some (r, _) => r.bytes
      | none => leBytes 32 0)).flatten) { s with journal.aon := aon } := by
  have hpass : firstFail [(decide (p.u8 4 < 1) || decide (15 < p.u8 4) || p.dirty 5 3, St.BAD_PARAM)] = none := by
    simp [firstFail_cons_eq_none, hhi, hclean]
    omega
  subst hwr hfirst hn hnums haon
  rw [opJournalAonRead, checked_acts hpass]
  rfl

/-- Settles O34: each command by its branch, the emission by the order of records. -/
theorem journalCommands : Obligations.JournalCommands := by
  unfold Obligations.JournalCommands
  refine ⟨⟨?post, fun e s hfirst hdue => ?emit, fun t s hdrop hdue => ?drop, fun v s hr => ?enable, fun v s hr => ?rd,
    fun v s hr => ?fatal, fun k r b s hslot => ?win, ?aon, fun v s hr => ?int⟩, JRec.bytes_length,
    fun l e hfirst => ?order⟩
  case post =>
    intro src sev code args s
    refine answer_eq ?_ rfl
    simp only [runJournalRecordPost, post, postAt, JRec.of, BitVec.ofNat_toNat, BitVec.setWidth_eq]
  case emit => exact answer_sameQueue (runJournalEmit_emits hfirst hdue)
  case drop =>
    refine answer_eq ?_ rfl
    simp only [runJournalDrop, hdrop]
    exact if_neg (Nat.not_lt.2 hdue)
  case enable => exact answer_sameQueue rfl
  case rd =>
    refine answer_eq (atReg_acts hr) ?_
    split <;> rfl
  case fatal => exact ⟨_, rfl, runEvjFatalClear_fatal hr⟩
  case win => exact answer_eq (by simp only [runEvjAonWinRead, hslot]) rfl
  case aon =>
    intro p s wr first n nums aon h hlo hhi hclean hwr hfirst hn hnums haon
    exact managed_sameQueue h (opJournalAonRead_reads (p := asOp 0xF301 p) hlo hhi hclean hwr hfirst hn hnums haon)
  case int => exact answer_sameQueue (atReg_acts hr)
  case order =>
    obtain ⟨hmem, hbefore⟩ := firstRec_spec hfirst
    exact ⟨hmem, fun f hf => (recBefore_iff _ _).1 (hbefore f hf), dropRec_length hmem⟩

end Sys2Proof.Machine

/-! The redundant pair: the token line, the partner, the claim, the watchdog, the mirror and the takeover (R433 to
R444). -/

namespace Sys2Proof.Machine

open Sys2Proof.Claims

/-! ### The token line -/

section
variable {s t : State}

theorem runPairTokenLineChange_low (ht : t = { s.setFlag F.PAR_STAT_LINE false with pairU.high := 0 }) :
    runPairTokenLineChange false s = if t.seq.claimWait && !t.holder then
      (if t.seq.mode = .calibrate then enterBanked 1 (disarmClaim { t with seq.claimWait := false })
       else autoArm { t with seq.claimWait := false }) else t := by
  rw [runPairTokenLineChange, if_neg Bool.false_ne_true, ← ht]

theorem runPairWdtExpiry_expires (hholder : s.holder = true) (hdue : s.wdtAt ≤ s.now) : runPairWdtExpiry s =
    mgtCause 18 (post 31 sevDegraded 0x1203 [] (disarmClaim
      (((releaseToBanked 5 s).setFlag F.PAR_STAT_WDT_FIRED true).count F.PAR_CNT_WDT 1))) :=
  if_neg (by simp [hholder, hdue])

theorem runTokenLineFault_faults (hholder : s.holder = true) (hline : s.flag F.PAR_STAT_LINE = true)
    (hlong : s.pair R.PAR_CLAIM_T_LO R.PAR_CLAIM_T_HI + 8 ≤ s.now) : runTokenLineFault s =
    toBanked (post 31 sevDegraded 0x1205 [] (disarmClaim ((abortAll St.TX_NO_TOKEN
      (s.setFlag F.PAR_STAT_HELD false)).setFlag F.PAR_STAT_LINE_FAULT true))) :=
  if_pos (by simp [hholder, hline, hlong])

end

/-! ### The packets -/

section
variable {p : Packet} {s : State}

theorem opPairCfg_sets {t : State} (hflags : p.u8 8 ≤ 3) (hclean : p.dirty 9 3 = false) (hrole : s.strapRole ≠ 0)
    (ht : t = ((s.setPair R.PAR_PARTNER_LO R.PAR_PARTNER_HI (p.u64 0)).setFlag F.PAR_CTL_AUTO_CLAIM (p.bit 8 0)).setFlag
      F.PAR_CTL_REL_ON_CP_STOP (p.bit 8 1)) : opPairCfg p s =
    reply p St.OK [] (autoArm (mirrorCheck ((List.range 4).foldl (fun s q => roleCheck q s) t))) := by
  subst ht
  exact checked_acts (by simp [firstFail_cons_eq_none, hflags, hclean, hrole])

theorem opPairStatus_tells (hrole : s.strapRole ≠ 0) : opPairStatus p s = reply p St.OK
    (leBytes 4 (s.word R.PAR_STAT).toNat ++ leBytes 4 s.mirrorLag ++ leBytes 8 (s.partner.getD 0) ++
      leBytes 8 (s.pair R.PAR_CLAIM_T_LO R.PAR_CLAIM_T_HI)) s :=
  checked_acts (by simp [firstFail_cons_eq_none, hrole])

theorem opPairSwitch_starts (hflag : p.u8 0 ≤ 1) (hclean : p.dirty 1 3 = false) (hrole : s.strapRole ≠ 0)
    (hholder : s.holder = true) (hsync : s.fld F.PAR_STAT_MIRROR = 2 ∨ p.bit 0 0 = true)
    (hswitch : s.pairU.switch = none) (htrans : s.seq.trans = none) : opPairSwitch p s =
    switchAdvance { (defer p s).2 with pairU.switch := some ((defer p s).1, 1),
                                       seq.stopAt := most2 1 (defer p s).2.nextBoundary } := by
  refine checked_acts ?_
  rcases hsync with h | h <;> simp [firstFail_cons_eq_none, hflag, hclean, hrole, hholder, h, hswitch, htrans]

end

/-! ### The takeover -/

theorem disarmClaim_setFlag_now {s : State} : (disarmClaim (s.setFlag F.PAR_STAT_HELD true)).now = s.now := by
  refine State.now_congr rfl ?_
  rw [disarmClaim, State.setFlag, State.fld_setFld_off _ _ _ _ (by decide)]
  exact s.fld_setFld_off _ _ _ (by decide)

section
variable {s u t : State} (hpair : s.paired = true) (hidle : s.holder = false) (harmed : s.flag F.PAR_STAT_ARMED = true)
  (hline : s.flag F.PAR_STAT_LINE = true) (hhigh : s.claimAfter ≤ s.pairU.high)
  (hu : u = disarmClaim (s.setFlag F.PAR_STAT_HELD true))
  (ht : t = post 31 sevInfo 0x1201 []
    { (u.setPair R.PAR_CLAIM_T_LO R.PAR_CLAIM_T_HI s.now).count F.PAR_CNT_CLAIMS 1 with seq.claimWait := false })
include hpair hidle harmed hline hhigh hu ht

omit hpair hidle harmed hline hhigh in
theorem claimed_mode : t.seq.mode = s.seq.mode := by
  rw [ht, hu]
  rfl

/-- A claim: the token is held from now, and the unit's own mode decides what follows. -/
theorem runTokenClaimed_other (hcal : s.seq.mode ≠ .calibrate) (hbanked : s.seq.mode ≠ .banked) :
    runTokenClaimed s = t := by
  have hmode := claimed_mode hu ht
  rw [runTokenClaimed, if_neg (by simp [hpair, hidle, harmed, hline, hhigh])]
  dsimp only at ht ⊢
  rw [disarmClaim_setFlag_now, ← hu, ← ht, if_neg (show ¬ (s.seq.mode == Mode.banked) = true by simpa using hbanked),
    hmode, if_neg (not_or.2 ⟨hbanked, hcal⟩)]

theorem runTokenClaimed_calibrate (hcal : s.seq.mode = .calibrate) :
    runTokenClaimed s = { cutShort St.NOT_IN_MODE t with seq.trans := some ⟨.service, 3, none⟩ } := by
  have hmode := claimed_mode hu ht
  rw [runTokenClaimed, if_neg (by simp [hpair, hidle, harmed, hline, hhigh])]
  dsimp only at ht ⊢
  rw [disarmClaim_setFlag_now, ← hu, ← ht, if_neg (show ¬ (s.seq.mode == Mode.banked) = true by simp [hcal]),
    hmode, if_pos (.inr hcal)]

theorem runTokenClaimed_banked (hbanked : s.seq.mode = .banked) : runTokenClaimed s =
    { cutShort St.NOT_IN_MODE (State.setFld F.PAR_STAT_MIRROR 0
        { t with pairU.takeover := some (s.fld F.PAR_STAT_MIRROR != 2), pairU.swept := false }) with
      seq.trans := some ⟨.service, 3, none⟩ } := by
  have hmode := (claimed_mode hu ht).trans hbanked
  rw [runTokenClaimed, if_neg (by simp [hpair, hidle, harmed, hline, hhigh])]
  dsimp only at ht ⊢
  rw [disarmClaim_setFlag_now, ← hu, ← ht, if_pos (show (s.seq.mode == Mode.banked) = true by simp [hbanked])]
  exact if_pos (.inl hmode)

end

theorem runMirrorHeartbeat_beats {s : State} {c : Nat} (hpartner : s.partnerId = some c) (hpair : s.paired = true)
    (hsense : s.flag F.PAR_STAT_SENSE = true) (hdue : s.pairU.beatAt ≤ s.now) (hidle : s.holder = false) :
    runMirrorHeartbeat s = mirrorSend c (.heartbeat false false s.seq.mode.code
      (((s.word R.FRM_RX_OK).toNat + 2 ^ 32 - s.pairU.rxOkAt) % 2 ^ 32))
        { s with pairU.beatAt := s.now + 120000, pairU.rxOkAt := (s.word R.FRM_RX_OK).toNat } := by
  have hidle' (x y : Nat) : State.holder { s with pairU.beatAt := x, pairU.rxOkAt := y } = false := hidle
  rw [runMirrorHeartbeat, hpartner]
  dsimp only
  rw [if_neg (by simp [hpair, hsense, hdue]), if_neg (by simp [hidle]), hidle']

section
variable {s t u v w x y : State} {unsynced : Bool} (htake : s.pairU.takeover = some unsynced)
  (hmode : s.seq.mode = .service) (ht : t = takeoverCounters { s with pairU.takeover := none })
  (hu : u = if t.pairU.flushed then t
    else takeoverLedgers ((4 * (s.pair R.PAR_CLAIM_T_LO R.PAR_CLAIM_T_HI - t.pairU.ledgerAt) + 119) / 120) t)
  (hv : v = takeoverOwners u)
  (hw : w = if v.almanacRuns then v.wheel.foldl (fun x id => skipEvents id (v.now + 2 * v.slotTicks) x) v else v)
  (hx : x = { w with pairU.heraldFrom := w.pair R.STP_MODE_T_LO R.STP_MODE_T_HI + 2400000, pairU.mirrored := [] })
  (hy : y = planHerald { x with mac.heraldAt := 0, frames.builds := x.frames.builds.filter (fun b => b.kind != .herald) })
include htake hmode ht hu hv hw hx hy

theorem runTakeover_takes : runTakeover s = if unsynced then post 31 sevDegraded 0x1207 [] y else y := by
  rw [runTakeover, htake]
  dsimp only
  rw [if_neg (Classical.not_not.2 hmode), ← ht, ← hu, ← hv, ← hw]
  subst hx hy
  rfl

end

/-- Settles O36: each event by its branch, the takeover by its steps. -/
theorem pairCommands : Obligations.PairCommands := by
  unfold Obligations.PairCommands
  refine ⟨⟨fun s => answer_eq rfl rfl, fun s t ht hstay => ?lineKept, fun s t ht hwait hidle => ?lineFalls,
    fun s => answer_sameQueue rfl, fun s => answer_sameQueue rfl, fun v s hr => answer_eq (atReg_acts hr) rfl,
    fun s hholder hdue => answer_sameQueue (runPairWdtExpiry_expires hholder hdue),
    fun s hholder hline hlong => answer_sameQueue (runTokenLineFault_faults hholder hline hlong), ?cfg, ?status, ?switch⟩,
    ?claim, ?beat, ?synced, ?takeover⟩
  case lineKept =>
    refine answer_eq ((runPairTokenLineChange_low ht).trans (if_neg ?_)) (by rw [ht]; rfl)
    rcases hstay with h | h <;> simp [h]
  case lineFalls =>
    subst ht
    exact answer_sameQueue ((runPairTokenLineChange_low rfl).trans (if_pos (by
      rw [Bool.and_eq_true, Bool.not_eq_true']
      exact ⟨hwait, hidle⟩)))
  case cfg =>
    intro p s t h hflags hclean hrole ht
    exact served_sameQueue h (opPairCfg_sets hflags hclean hrole ht)
  case status =>
    intro p s h hrole
    exact served_next h (opPairStatus_tells hrole) (reply_pending ..)
  case switch =>
    intro p s r h hflag hclean hrole hholder hsync hswitch htrans hr
    subst hr
    exact served_sameQueue h (opPairSwitch_starts hflag hclean hrole hholder hsync hswitch htrans)
  case claim =>
    intro s u t hpair hidle harmed hline hhigh hu ht
    exact ⟨fun hmode => answer_sameQueue (runTokenClaimed_calibrate hpair hidle harmed hline hhigh hu ht hmode),
      fun hmode => answer_sameQueue (runTokenClaimed_banked hpair hidle harmed hline hhigh hu ht hmode),
      fun hcal hbanked =>
        answer_sameQueue (runTokenClaimed_other hpair hidle harmed hline hhigh hu ht hcal hbanked)⟩
  case beat =>
    exact fun s c hpartner hpair hsense hdue hidle =>
      answer_sameQueue (runMirrorHeartbeat_beats hpartner hpair hsense hdue hidle)
  case synced =>
    intro s hholder hmirror hswept hacked
    exact answer_sameQueue (if_pos (by simp only [hholder, hmirror, hswept, hacked]; rfl))
  case takeover =>
    exact fun s t u v w unsynced htake hmode ht hu hv hw x y hx hy =>
      answer_sameQueue (runTakeover_takes htake hmode ht hu hv hw hx hy)

end Sys2Proof.Machine

/-! DMA channels: control, the producer index, completions, and the queue's drop (R55, R383 to R392). -/

namespace Sys2Proof.Machine

open Sys2Proof.Claims

/-- A channel that waits for no page has nothing to try again. -/
theorem dmaRetry_idle {n : Nat} {s : State} (hrun : (s.dma n).waiting = false) : dmaRetry n s = s := by
  rw [dmaRetry, hrun]

/-- The pages of the packet that a channel works on. -/
def dmaOwn (n : Nat) (s : State) : List Nat :=
  match (s.dma n).item with
  | some it => it.pages
  | none => []

section
variable {n : Fin 16} {d : DmaDesc} {data : List Byte} {s : State} (hactive : s.dmaState n.val = dmaActive)
  (hdesc : (s.dma n.val).desc = some d) (hrun : (s.dma n.val).waiting = false) (hbme : s.flag F.PCI_LINK_BME = true)
include hactive hdesc hrun hbme

theorem runDmaDescriptorDone_bad (hbad : d.bad = true) :
    runDmaDescriptorDone n data s = dmaStart n.val (dmaComplete n.val 4 0 s) := by
  simp [runDmaDescriptorDone, hactive, hdesc, dmaRetry_idle hrun, hrun, hbme, hbad]

theorem runDmaDescriptorDone_nop (hgood : d.bad = false) (hkind : d.kind = 0) :
    runDmaDescriptorDone n data s = dmaStart n.val (dmaComplete n.val 0 0 s) := by
  simp [runDmaDescriptorDone, hactive, hdesc, dmaRetry_idle hrun, hrun, hbme, hgood, hkind]

theorem runDmaDescriptorDone_short (hgood : d.bad = false) (hkind : d.kind = 1)
    (hshort : d.len < (s.dma n.val).len d) :
    runDmaDescriptorDone n data s = dmaStart n.val (dmaComplete n.val 1 0 (freePages (dmaOwn n.val s) s)) := by
  simp [runDmaDescriptorDone, hactive, hdesc, dmaRetry_idle hrun, hrun, hbme, hgood, hkind, hshort]
  rfl

section
variable (hgood : d.bad = false) (hkind : d.kind ≠ 0) (hfits : d.kind = 1 → (s.dma n.val).len d ≤ d.len)
include hgood hkind hfits

theorem runDmaDescriptorDone_faults {k a cause : Nat}
    (hfault : burstFault (s.dma n.val) d (s.fld (F.DMA_CH_STAT_PROGRESS n.val)) s = some (k, a, cause)) :
    runDmaDescriptorDone n data s = dmaStart n.val (dmaFault n.val cause (d.kind == 2 || d.kind == 3) false k
      (bursts d.base ((s.dma n.val).len d)) a (dmaMove n.val d data (s.fld (F.DMA_CH_STAT_PROGRESS n.val)) k s)) := by
  have hlong : ¬ (d.kind = 1 ∧ d.len < (s.dma n.val).len d) := fun h => Nat.not_lt.2 (hfits h.1) h.2
  simp [runDmaDescriptorDone, hactive, hdesc, dmaRetry_idle hrun, hrun, hbme, hgood, hkind, hlong, hfault]

theorem runDmaDescriptorDone_moves {t : State}
    (hclear : burstFault (s.dma n.val) d (s.fld (F.DMA_CH_STAT_PROGRESS n.val)) s = none)
    (ht : t = dmaMove n.val d data (s.fld (F.DMA_CH_STAT_PROGRESS n.val)) (bursts d.base ((s.dma n.val).len d)) s) :
    runDmaDescriptorDone n data s = dmaStart n.val (dmaComplete n.val 0 ((s.dma n.val).len d)
      (freePages (dmaOwn n.val s) (if d.kind = 2 then hostPacket n.val d data t else t))) := by
  have hlong : ¬ (d.kind = 1 ∧ d.len < (s.dma n.val).len d) := fun h => Nat.not_lt.2 (hfits h.1) h.2
  simp [runDmaDescriptorDone, hactive, hdesc, dmaRetry_idle hrun, hrun, hbme, hgood, hkind, hlong, hclear, ht]
  rfl

end

end

theorem queDrop_drops {v : Word} {it : QItem} {s t : State} (hr : s.reaches R.QUE_DROP = true) (hq : v.toNat % 64 ≤ 15)
    (hagrees : (s.queue (v.toNat % 64)).agrees = true) (hitem : (s.dma (v.toNat % 64)).item = some it)
    (ht : t = (dmaRelease (v.toNat % 64) s).setFld (F.DMA_CH_STAT_PROGRESS (v.toNat % 64)) 0) :
    runQueDrop v s = if t.dmaState (v.toNat % 64) = dmaActive then dmaAgain (v.toNat % 64) t else t := by
  rw [runQueDrop, atReg_acts hr]
  simp [Nat.not_lt.2 hq, hagrees, hitem, ht]

/-- Settles O37: each write by its register, each end of a descriptor by its branch. -/
theorem dmaCommands : Obligations.DmaCommands := by
  unfold Obligations.DmaCommands
  refine ⟨fun n v s hr => ⟨answer_sameQueue (atReg_acts hr), answer_sameQueue (atReg_acts hr),
      answer_sameQueue (atReg_acts hr), answer_sameQueue (atReg_acts hr)⟩,
    fun n v s hr => ⟨fun hmany => answer_eq ((atReg_acts hr).trans (if_pos hmany)) rfl,
      fun hfew => answer_sameQueue ((atReg_acts hr).trans (if_neg (Nat.not_lt.2 hfew)))⟩,
    fun n d data s hactive hdesc hrun hbme => ⟨?bad, ?nop, ?short, ?moves, ?faults⟩, ?drop⟩
  case bad =>
    exact fun hbad => answer_sameQueue (runDmaDescriptorDone_bad hactive hdesc hrun hbme hbad)
  case nop =>
    exact fun hgood hkind => answer_sameQueue (runDmaDescriptorDone_nop hactive hdesc hrun hbme hgood hkind)
  case short =>
    intro it hgood hkind hitem hshort
    have hlen : (s.dma n.val).len d = it.data.length := by rw [DmaChan.len, hitem]; simp [hkind]
    have hown : dmaOwn n.val s = it.pages := by rw [dmaOwn, hitem]
    rw [← hown]
    exact answer_sameQueue (runDmaDescriptorDone_short hactive hdesc hrun hbme hgood hkind (hlen ▸ hshort))
  case moves =>
    exact fun t hgood hkind hfits hclear ht =>
      answer_sameQueue (runDmaDescriptorDone_moves hactive hdesc hrun hbme hgood hkind hfits hclear ht)
  case faults =>
    exact fun k a cause hgood hkind hfits hfault =>
      answer_sameQueue (runDmaDescriptorDone_faults hactive hdesc hrun hbme hgood hkind hfits hfault)
  case drop =>
    exact fun v it s t hr hq hagrees hitem ht => answer_sameQueue (queDrop_drops hr hq hagrees hitem ht)

end Sys2Proof.Machine

/-! The MMU and the buffer region: packets, faults, the fault ring, ECC errors, BAR2 and the pages of the pool (R374 to
R380, R387 to R394, R447). -/

namespace Sys2Proof.Machine

open Sys2Proof.Claims

section
variable {p : Packet} {s : State}

theorem opBufPoolSet_lays {tbl : Nat} (htbl : tbl = tableFrames (p.u32 12)) (hbase : p.u64 0 % 2 ^ 20 = 0)
    (hframes : 1024 ≤ p.u32 8) (hframes' : p.u32 8 ≤ 524288) (hpages : 1023 ≤ p.u32 12) (hpages' : p.u32 12 ≤ 262143)
    (hroom : p.u32 12 + tbl ≤ p.u32 8) (hdram : s.inDram (p.u64 0) (2048 * p.u32 8) = true)
    (hrsv : p.u32 16 ≤ p.u32 12 / 2) (hspill : p.u32 20 < p.u32 12) (hoff : s.dmaAllOff = true)
    (hfree : s.bufs.pages.any (fun e => e.2.alloc && !e.2.spill) = false) : opBufPoolSet p s =
    reply p St.OK (leBytes 4 tbl ++ leBytes 4 (p.u32 8 - tbl - p.u32 12))
      (layRegion (p.u64 0) (p.u32 8) (p.u32 12) (p.u32 16) (p.u32 20) s) := by
  rw [opBufPoolSet]
  dsimp only
  rw [← htbl, checked_acts, done]
  simp only [firstFail_cons_eq_none, hoff, hfree, hdram, hbase]
  simp [hframes, hframes', hpages, hpages', hroom, hrsv, hspill]

theorem opBufStatus_tells : opBufStatus p s = reply p St.OK (leBytes 4 s.freePages ++
    leBytes 4 (s.fld F.MMU_LOW_WATER_LOW_WATER) ++ leBytes 4 (s.fld F.MMU_RETIRE_SPARES) ++
    leBytes 4 (s.fld F.MMU_POOL_ERR_RETIRED) ++ leBytes 4 s.spilledFrames.length ++
    leBytes 1 (if s.flag F.MMU_FLT_STAT_REC_FAIL then 2 else if s.fltFull then 1 else 0) ++ leBytes 3 0) s := by
  rw [opBufStatus, done]

end

/-! ### Faults and errors -/

section
variable {r : Req} {f : FaultReport} {s : State} (hmode : s.inMode [.cold] = false)
include hmode

theorem runMemFault_dma (hdma : 0x10 ≤ r.toNat ∧ r.toNat ≤ 0x1F) :
    runMemFault r f s = dmaFaultReport (r.toNat - 0x10) f s := by
  simp [runMemFault, hmode, hdma]

theorem runMemFault_journal (hr : r.toNat = 0x0E) (hready : s.ringReady = true) :
    runMemFault r f s = journalFault (f.cause.val + 1) f.addr.toNat s := by
  simp [runMemFault, hmode, hr, hready]

theorem runMemFault_loose (hr : r.toNat ≠ 0x0E) (hdma : ¬ (0x10 ≤ r.toNat ∧ r.toNat ≤ 0x1F)) :
    runMemFault r f s = faultEffect r.toNat f.write f.ref (looseFault r.toNat (f.cause.val + 1) f.write f.preempted
      (faultRef r.toNat f.ref) f.addr.toNat f.progress f.bursts s) := by
  rw [runMemFault]
  dsimp only
  rw [if_neg (Bool.eq_false_iff.1 hmode), if_neg hdma, if_neg hr]

end

theorem runMmuFltCiWrite_frees {v : Word} {s t : State} (hr : s.reaches R.MMU_FLT_CI = true)
    (ht : t = fltFullFlag (s.setFld F.MMU_FLT_CI_CI v.toNat)) : runMmuFltCiWrite v s = writePending
      (if s.flag F.MMU_FLT_STAT_FULL = false ∧ t.flag F.MMU_FLT_STAT_FULL = true then signal 33 t else t) := by
  rw [runMmuFltCiWrite, atReg_acts hr]
  dsimp only
  rw [← ht, fltVector]
  simp

theorem runDramEccError_marks {a : BitVec 40} {p : Nat} {s u t : State}
    (hu : u = s.count F.MMU_ECC_CNT_UNCORRECTABLE 1)
    (ht : t = if u.inDram a.toNat 1 && !u.bufs.badBursts.contains ((a.toNat - dramBase) / 64) then
      { u with bufs.badBursts := u.bufs.badBursts ++ [(a.toNat - dramBase) / 64] } else u)
    (hregion : t.inRegion a.toNat = true) (htable : t.inTable a.toNat = false)
    (hpage : t.pageOfFrame ((a.toNat - t.bufBase) / 2048) = some p) :
    runDramEccError a false s = postRetired (t.setPage p { t.page p with bad := true }) := by
  rw [runDramEccError, if_neg Bool.false_ne_true]
  dsimp only at ht ⊢
  rw [← hu, ← ht, if_pos (by simp [hregion, htable]), hpage]

/-! ### BAR2 -/

section
variable {off : BitVec 26} {data : List Byte} {a : Nat} {s : State} (hhost : s.hostUp = true)
  (hen : s.flag F.PCI_BAR2_CTL_EN = true) (hbase : s.fld F.PCI_BAR2_CTL_BASE * 2 ^ 26 < s.dramBytes)
  (ha : a = dramBase + s.fld F.PCI_BAR2_CTL_BASE * 2 ^ 26 + off.toNat)
include hhost hen hbase ha

omit hhost ha in
theorem bar2_enabled : ¬ (!s.flag F.PCI_BAR2_CTL_EN || decide (s.dramBytes ≤ s.fld F.PCI_BAR2_CTL_BASE * 2 ^ 26)) =
    true := by
  rw [hen, decide_eq_false (Nat.not_le.2 hbase)]
  exact Bool.false_ne_true

theorem runBar2Access_writes (hallowed : ∀ i, i < data.length → s.bar2Denied true (a + i) = none)
    (hgood : s.rmwBad (a - dramBase) data.length = false) :
    runBar2Access off true data s = s.dramWrite (a - dramBase) data := by
  have hnone : (List.range data.length).findSome? (fun i => (s.bar2Denied true (a + i)).map (fun c => (a + i, c))) =
      none := by
    simpa using hallowed
  rw [runBar2Access]
  dsimp only
  rw [if_neg (by simp [hhost]), if_neg (bar2_enabled hen hbase), if_pos rfl, ← ha, hnone]
  dsimp only
  rw [if_pos rfl, if_neg (Bool.eq_false_iff.1 hgood)]

theorem runBar2Access_reads (hallowed : ∀ i, i < 4 → s.bar2Denied false (a + i) = none)
    (hgood : s.burstBad (a - dramBase) 4 = false) : runBar2Access off false data s =
    { s with readData := BitVec.ofNat 32 (leNat (s.dramRead (a - dramBase) 4)) } := by
  have hnone : (List.range 4).findSome? (fun i => (s.bar2Denied false (a + i)).map (fun c => (a + i, c))) = none := by
    simpa using hallowed
  simp only [runBar2Access, hhost, hen, Nat.not_le.2 hbase, ← ha, hgood, hnone, Bool.not_true, Bool.or_self,
    Bool.false_eq_true, decide_false, if_false]

end

/-! ### Pages of the pool -/

section
variable {p : Nat} {s : State} (hp : p ≠ 0) (hp' : p ≤ s.bufPages)
include hp hp'

theorem freePage_twice (hfree : (s.page p).alloc = false) :
    freePage p s = s.count F.MMU_POOL_ERR_DOUBLE_FREE 1 := by
  rw [freePage, if_neg (by omega), if_pos (by simp [hfree])]

theorem freePage_frees (halloc : (s.page p).alloc = true) (hgood : (s.page p).bad = false) :
    freePage p s = poolCount (s.freePages + 1)
      { s.setPage p { s.page p with alloc := false } with bufs.pool := runsPush p s.bufs.pool } := by
  rw [freePage, if_neg (by omega), if_neg (by simp [halloc]), if_pos (by simp [hgood])]

theorem freePage_withholds (halloc : (s.page p).alloc = true) (hbad : (s.page p).bad = true)
    (hspares : s.fld F.MMU_RETIRE_SPARES = 0) : freePage p s =
    ((s.count F.MMU_POOL_ERR_RETIRED 1).setPage p { s.page p with alloc := false }).count F.MMU_RETIRE_WITHHELD 1 := by
  have hspares' : (s.count F.MMU_POOL_ERR_RETIRED 1).fld F.MMU_RETIRE_SPARES = 0 :=
    (s.fld_setFld_off F.MMU_POOL_ERR_RETIRED _ _ (by decide)).trans hspares
  rw [freePage, if_neg (by omega), if_neg (by simp [halloc]), if_neg (by simp [hbad])]
  exact if_pos hspares'

end

theorem retired_counted (p : Nat) (x : BufPage) (s : State) :
    (((s.count F.MMU_POOL_ERR_RETIRED 1).setPage p x).count F.MMU_RETIRE_WITHHELD 1).fld F.MMU_POOL_ERR_RETIRED =
      satAdd (2 ^ F.MMU_POOL_ERR_RETIRED.width - 1) (s.fld F.MMU_POOL_ERR_RETIRED) 1 := by
  rw [State.count, State.fld_setFld_off _ _ _ _ (by decide)]
  exact (s.fld_setFld_same F.MMU_POOL_ERR_RETIRED _ (by decide)).trans
    (Nat.mod_eq_of_lt (Nat.lt_of_le_of_lt satAdd_le (by decide)))

/-- Settles O38: each row by its branch, the pool's pages by the cases of `freePage`. -/
theorem memoryCommands : Obligations.MemoryCommands := by
  unfold Obligations.MemoryCommands
  refine ⟨⟨?poolSet, fun p s h => served_next h opBufStatus_tells (reply_pending ..), fun r f s hmode => ⟨?dma, ?journal, ?loose⟩,
    fun v s hr => ⟨answer_sameQueue (atReg_acts hr), answer_sameQueue (atReg_acts hr)⟩,
    fun v s hr t ht => answer_sameQueue (runMmuFltCiWrite_frees hr ht), fun a s => answer_eq rfl rfl, ?ecc,
    fun off data a s hhost hen hbase ha => ⟨?write, ?read⟩⟩, fun p s hp hp' => ⟨?twice, ?frees, ?retires⟩⟩
  case poolSet =>
    intro p s tbl h htbl hbase hframes hframes' hpages hpages' hroom hdram hrsv hspill hoff hfree
    exact served_sameQueue h (opBufPoolSet_lays htbl hbase hframes hframes' hpages hpages' hroom hdram hrsv hspill hoff hfree)
  case dma =>
    exact fun hdma => answer_sameQueue (runMemFault_dma hmode hdma)
  case journal =>
    exact fun hr hready => answer_sameQueue (runMemFault_journal hmode hr hready)
  case loose =>
    exact fun hr hdma => answer_sameQueue (runMemFault_loose hmode hr hdma)
  case ecc =>
    exact fun a p s u t hu ht hregion htable hpage =>
      answer_sameQueue (runDramEccError_marks hu ht hregion htable hpage)
  case write =>
    exact fun hallowed hgood => answer_eq (runBar2Access_writes hhost hen hbase ha hallowed hgood) rfl
  case read =>
    exact fun hallowed hgood => answer_eq (runBar2Access_reads hhost hen hbase ha hallowed hgood) rfl
  case twice =>
    exact freePage_twice hp hp'
  case frees =>
    exact freePage_frees hp hp'
  case retires =>
    intro halloc hbad hspares
    rw [freePage_withholds hp hp' halloc hbad hspares]
    exact ⟨retired_counted .., rfl, congrArg BufPage.alloc (Sparse.get_set_same ..)⟩

end Sys2Proof.Machine

/-! The radio's packets: a pair's span, a chain's configuration, calibrations, the regulatory profile and its tightening
(R100 to R124). -/

namespace Sys2Proof.Machine

open Sys2Proof.Claims

/-! ### The span of a pair -/

section
variable {p : Packet} {s : State} (hunit : p.u8 0 ≤ 3) (hclean : p.dirty 2 2 = false)
  (howner : fromCores p = true ∨ s.frozen (s.pairEnv 0 (p.u8 0)) = true)
include hunit hclean howner

theorem opRadioSpanSet_off (harm : p.u8 1 = 0) :
    opRadioSpanSet p s = reply p St.OK [] (pairOff (p.u8 0) s) := by
  have howner' : fromCores p = false → s.frozen (s.pairEnv 0 (p.u8 0)) = true := 
    fun h => howner.resolve_left (Bool.eq_false_iff.1 h)
  rw [opRadioSpanSet]
  dsimp only
  rw [checked_acts (by simpa [firstFail_cons_eq_none, hunit, hclean, harm] using howner'), harm]
  rfl

section
variable (harm : p.u8 1 = 1) (hcentre : centreOk (p.u32 4) = true)
include harm hcentre

theorem opRadioSpanSet_locked (hstate : s.pairState (p.u8 0) = 1)
    (hsame : s.fld (F.RFE_PAIR_STAT_CENTRE_KHZ (p.u8 0)) = p.u32 4)
    (hlock : s.flag (F.RFE_PAIR_STAT_LOCK (p.u8 0)) = true) : opRadioSpanSet p s = reply p St.OK [] s := by
  have howner' : fromCores p = false → s.frozen (s.pairEnv 0 (p.u8 0)) = true := 
    fun h => howner.resolve_left (Bool.eq_false_iff.1 h)
  rw [opRadioSpanSet]
  dsimp only
  rw [checked_acts (by simpa [firstFail_cons_eq_none, hunit, hclean, harm, hcentre, hstate] using howner'), harm, hstate, hsame,
    hlock]
  simp [done]

theorem opRadioSpanSet_tunes {same : Bool} {u t v : State} (hstate : s.pairState (p.u8 0) ≠ 2)
    (hsame : same = (s.pairState (p.u8 0) == 1 && s.fld (F.RFE_PAIR_STAT_CENTRE_KHZ (p.u8 0)) == p.u32 4))
    (hlock : same = true → s.flag (F.RFE_PAIR_STAT_LOCK (p.u8 0)) = false)
    (hu : u = if s.pairState (p.u8 0) == 1 && !same then s.count (F.RFE_PAIR_CNT_RETUNES (p.u8 0)) 1 else s)
    (ht : t = setPairLock (p.u8 0) false (setPairState (p.u8 0) 1
      { u.setFld (F.RFE_PAIR_STAT_CENTRE_KHZ (p.u8 0)) (p.u32 4) with sched.planDue := u.sched.planDue || !same }))
    (hv : v = (defer p t).2.setPairU (p.u8 0) { (defer p t).2.pairOf (p.u8 0) with
      spanCmds := ((defer p t).2.pairOf (p.u8 0)).spanCmds ++ [(defer p t).1] }) :
    opRadioSpanSet p s = if same then v else spanChanged (s.pairState (p.u8 0) == 0) (p.u8 0) v := by
  have howner' : fromCores p = false → s.frozen (s.pairEnv 0 (p.u8 0)) = true := 
    fun h => howner.resolve_left (Bool.eq_false_iff.1 h)
  have hlock' : ¬ (same && s.flag (F.RFE_PAIR_STAT_LOCK (p.u8 0))) = true := by simpa using hlock
  rw [opRadioSpanSet]
  dsimp only at ht hv ⊢
  rw [checked_acts (by simpa [firstFail_cons_eq_none, hunit, hclean, harm, hcentre, hstate] using howner'),
    if_neg (by simp [harm]), ← hsame, if_neg hlock', ← hu, ← ht, ← hv]

end

end

/-! ### A chain's configuration, and calibrations -/

section
variable {p : Packet} {s : State}

theorem opRadioTxConfig_sets (hchain : p.u8 0 ≤ 3) (hflags : p.u8 1 ≤ 3) : opRadioTxConfig p s =
    reply p St.OK [] (chainCtl (p.u8 0) (p.bit 1 0) (p.bits 1 1 1) (if p.u16 2 = 0 then 12000 else p.u16 2) s) :=
  checked_acts (by simp [firstFail_cons_eq_none, hchain, hflags])

section
variable {c : Cal} (hunit : p.bits 0 6 2 = 0) (hflags : p.bits 2 7 1 = 0) (hclean : p.dirty 3 1 = false)
  (hclean' : p.dirty 8 4 = false) (hcrit : p.bit 2 0 = true → s.flag F.THM_STAT_CRIT = false)
  (hc : c = ⟨p.u8 1, p.bit 2 0, some s.interp.nextSeq, s.now, if p.u32 4 = 0 then 0 else s.now + p.u32 4,
    0, 0, false, false⟩)
include hunit hflags hclean hclean' hcrit hc

theorem opRadioCal_chain (hchain : p.bit 0 7 = true) (hbits : p.u8 1 &&& 0x31 = p.u8 1)
    (hon : s.txState (p.bits 0 1 0) ≠ txOff) (hidle : (s.chain (p.bits 0 1 0)).cal = none) :
    opRadioCal p s = chainCalTry (p.bits 0 1 0)
      (((defer p s).2.setFlag (chainPend (p.bits 0 1 0)) (!p.bit 2 0)).setChain (p.bits 0 1 0)
        { s.chain (p.bits 0 1 0) with cal := some c }) := by
  subst hc
  rw [opRadioCal]
  dsimp only
  rw [checked_acts (by simpa [firstFail_cons_eq_none, hunit, hflags, hclean, hclean', hchain, hbits, hon, hidle] using hcrit),
    if_pos hchain]
  rfl

theorem opRadioCal_pair (hpair : p.bit 0 7 = false) (hbits : p.u8 1 &&& 0x0F = p.u8 1)
    (hidle : (s.pairOf (p.bits 0 1 0)).cal = none) :
    opRadioCal p s = pairCalTry (p.bits 0 1 0)
      (((defer p s).2.setFlag (pairPend (p.bits 0 1 0)) (!p.bit 2 0)).setPairU (p.bits 0 1 0)
        { s.pairOf (p.bits 0 1 0) with cal := some c }) := by
  subst hc
  rw [opRadioCal]
  dsimp only
  rw [checked_acts (by simpa [firstFail_cons_eq_none, hunit, hflags, hclean, hclean', hpair, hbits, hidle] using hcrit),
    if_neg (Bool.eq_false_iff.1 hpair)]
  rfl

end

/-! ### The regulatory profile -/

theorem opRadioRegLoad_loads (hlock : s.regLock = false) (hok : profileOk (imageWords p) = true) : opRadioRegLoad p s =
    reply p St.OK [] (dwellRefresh (((regStat (imageWords p) { s with radio.profile := imageWords p, radio.tighten := [] }).setFlag
      F.RFE_REG_STAT_RAM_PROFILE true).setFlag F.RFE_REG_STAT_TIGHTENED false)) := by
  rw [opRadioRegLoad]
  dsimp only
  rw [checked_acts (by simp [hlock, hok]), done]

theorem opRadioRegRead_tells (hentry : p.u8 0 ≤ 15) (hclean : p.dirty 1 3 = false) (hsome : s.radio.profile ≠ []) :
    opRadioRegRead p s = reply p St.OK ((profileEntry s.radio.profile (p.u8 0)).flatMap (leBytes 4) ++
      (s.bandWords (p.u8 0)).flatMap (leBytes 4) ++ leBytes 4 (s.word R.RFE_REG_STAT).toNat) s := by
  have hne : ¬ s.radio.profile.isEmpty = true := by simpa using hsome
  rw [opRadioRegRead]
  dsimp only
  rw [checked_acts (by simp [firstFail_cons_eq_none, hentry, hclean]), if_neg hne, if_neg hne, done]

section
variable {t : State} (hflag : p.u8 272 ≤ 1) (hclean : p.dirty 273 3 = false) (hlock : s.regLock = false)
  (hok : profileOk (imageWords p) = true)
  (ht : t = (List.range 68).foldl (fun s i => burn (0x100 + i) ((imageWords p).getD i 0) s) s)
  (hburnt : t.otpProfile = imageWords p)
include hflag hclean hlock hok ht hburnt

theorem opRegBurn_burns : opRegBurn p s =
    if p.bit 272 0 then reply p St.OK [] (dwellRefresh (adoptOtpProfile (burn 0x144 1 t))) else reply p St.OK [] t := by
  rw [opRegBurn]
  dsimp only
  rw [checked_acts (by simp [firstFail_cons_eq_none, hflag, hclean, hlock, hok]), ← ht, if_neg (Classical.not_not.2 hburnt), done, done]

end

end

/-! ### Tightening -/

theorem tighter_none (unset : Nat) (limit : Option Nat) : tighter unset unset limit = none := by
  simp [tighter]

theorem tighter_some {unset v limit : Nat} (hset : v ≠ unset) (hlow : v < limit) :
    tighter unset v (some limit) = some v := by
  simp [tighter, hset, hlow]

section
variable {v : Word} {s : State}

theorem runRfeRegTightenA_keeps (hr : s.reaches R.RFE_REG_TIGHTEN_A = true) (hdrive : bitsOf v.toNat 27 21 = 0x7F)
    (hdwell : bitsOf v.toNat 20 11 = 0x3FF) : runRfeRegTightenA v s = s := by
  rw [runRfeRegTightenA, atReg_acts hr]
  dsimp only
  rw [hdrive, hdwell, tighter_none, tighter_none]
  rfl

theorem runRfeRegTightenA_drive (hr : s.reaches R.RFE_REG_TIGHTEN_A = true) (hset : bitsOf v.toNat 27 21 ≠ 0x7F)
    (hlow : bitsOf v.toNat 27 21 < (s.band (bitsOf v.toNat 31 28)).maxDrive) (hdwell : bitsOf v.toNat 20 11 = 0x3FF) :
    runRfeRegTightenA v s = tightenWith (bitsOf v.toNat 31 28) true
      { s.tighten (bitsOf v.toNat 31 28) with drive := some (bitsOf v.toNat 27 21) } s := by
  rw [runRfeRegTightenA, atReg_acts hr]
  dsimp only
  rw [hdwell, tighter_none, tighter_some hset hlow]
  rfl

theorem runRfeRegTightenB_keeps (hr : s.reaches R.RFE_REG_TIGHTEN_B = true) (hduty : bitsOf v.toNat 27 8 = 0xFFFFF)
    (hlbt : bitsOf v.toNat 7 0 = 0xFF) : runRfeRegTightenB v s = s := by
  rw [runRfeRegTightenB, atReg_acts hr]
  dsimp only
  rw [hduty, hlbt, tighter_none, tighter_none, ite_self]
  rfl

theorem runRfeRegTightenB_duty (hr : s.reaches R.RFE_REG_TIGHTEN_B = true) (hset : bitsOf v.toNat 27 8 ≠ 0xFFFFF)
    (hlow : bitsOf v.toNat 27 8 < (s.band (bitsOf v.toNat 31 28)).dutyPpm) (hlbt : bitsOf v.toNat 7 0 = 0xFF) :
    runRfeRegTightenB v s = tightenWith (bitsOf v.toNat 31 28) true
      { s.tighten (bitsOf v.toNat 31 28) with dutyPpm := some (bitsOf v.toNat 27 8) } s := by
  rw [runRfeRegTightenB, atReg_acts hr]
  dsimp only
  rw [hlbt, tighter_none, tighter_some hset hlow, ite_self]
  rfl

end

/-- Settles O40: each packet by its checks, each tightening by the fields that it writes. -/
theorem radioCommands : Obligations.RadioCommands := by
  unfold Obligations.RadioCommands
  refine ⟨fun p s h hunit hclean howner => ⟨?off, ?locked, ?tunes⟩, ?config, ?cal, ?load, ?read, ?burn, ?tightenA, ?tightenB⟩
  case off =>
    exact fun harm => served_sameQueue h (opRadioSpanSet_off hunit hclean howner harm)
  case locked =>
    exact fun harm hcentre hstate hsame hlock =>
      served_next h (opRadioSpanSet_locked hunit hclean howner harm hcentre hstate hsame hlock) (reply_pending ..)
  case tunes =>
    exact fun same u t v harm hcentre hstate hsame hlock hu ht hv => served_sameQueue h
      (opRadioSpanSet_tunes (p := asOp 0x2001 p) hunit hclean howner harm hcentre hstate hsame hlock hu ht hv)
  case config =>
    exact fun p s h hchain hflags => served_sameQueue h (opRadioTxConfig_sets hchain hflags)
  case cal =>
    exact fun p s h hunit hflags hclean hclean' hcrit c hc =>
      ⟨fun hchain hbits hon hidle => served_sameQueue h
        (opRadioCal_chain hunit hflags hclean hclean' hcrit hc hchain hbits hon hidle),
      fun hpair hbits hidle => served_sameQueue h
        (opRadioCal_pair hunit hflags hclean hclean' hcrit hc hpair hbits hidle)⟩
  case load =>
    exact fun p s h hlock hok => served_sameQueue h (opRadioRegLoad_loads hlock hok)
  case read =>
    exact fun p s h hentry hclean hsome => served_next h (opRadioRegRead_tells hentry hclean hsome) (reply_pending ..)
  case burn =>
    intro p s t h hflag hclean hlock hok ht hburnt
    have hrun := opRegBurn_burns (p := asOp 0xF201 p) hflag hclean hlock hok ht hburnt
    exact ⟨fun hkeep => managed_sameQueue h (hrun.trans (if_neg (Bool.eq_false_iff.1 hkeep))),
      fun hadopt => managed_sameQueue h (hrun.trans (if_pos hadopt))⟩
  case tightenA =>
    intro v s e t u hr he ht hu
    subst hu ht he
    exact ⟨fun hdrive hdwell => answer_eq (runRfeRegTightenA_keeps hr hdrive hdwell) rfl,
      fun hset hlow hdwell => answer_sameQueue (runRfeRegTightenA_drive hr hset hlow hdwell)⟩
  case tightenB =>
    intro v s e t u hr he ht hu
    subst hu ht he
    exact ⟨fun hduty hlbt => answer_eq (runRfeRegTightenB_keeps hr hduty hlbt) rfl,
      fun hset hlow hlbt => answer_sameQueue (runRfeRegTightenB_duty hr hset hlow hlbt)⟩

end Sys2Proof.Machine

/-! The radio as time brings it: synthesisers, bias and calibrations (R101 to R103, R113 to R119), and transmissions
(R104 to R112). -/

namespace Sys2Proof.Machine

open Sys2Proof.Claims

/-! ### Chains -/

section
variable {n : Fin 4} {s : State} {c : Chain} (hc : s.chain n.val = c)
include hc

theorem runSynthLock_chain (htuning : c.tuning = true) : runSynthLock (.chain n) s =
    setTxLock n.val true (s.setChain n.val { c with tuning := false, lastKhz := s.fld (F.RFE_TX_FREQ_KHZ n.val) }) := by
  subst hc
  exact if_neg (by simp [htuning])

theorem runSynUnlock_chain (hlock : s.txLock n.val = true) : runSynUnlock (.chain n) s = post (6 + n.val) sevDegraded 0x0201 []
    (abortTx n.val RF_ABORTED (setTxLock n.val false (s.setChain n.val { c with tuning := true }))) := by
  subst hc
  exact if_neg (by simp [hlock])

theorem runChainBiasSettled_settles {t : Nat} (hoff : s.txState n.val = txOff) (hen : c.enabledAt = some t)
    (hdue : t + 2400 ≤ s.now) : runChainBiasSettled n s =
    tuneForQueue n.val (setTxState n.val txIdle (s.setChain n.val { c with enabledAt := none })) := by
  rw [runChainBiasSettled, hc, hen]
  exact if_pos ⟨hoff, hdue⟩

theorem runCalDone_chain {k : Cal} {r : Byte} (hcal : c.cal = some k) (hrun : k.running = true)
    (hbits : k.bits ≠ startupBits) (hdue : k.start + calTicks k.bits ≤ s.now) : runCalDone (.chain n) r s =
    tuneForQueue n.val (calAnswer (6 + n.val) (chainFail n.val) r.toNat k (setTxState n.val txIdle
      (blankCut (4 + n.val) s.now (s.setChain n.val { c with
        cal := none, calTemp := if k.bits / 16 = 0 then c.calTemp else some (s.sfld F.RFE_TEMP_TEMP) })))) := by
  simp only [runCalDone, hc, hcal]
  exact if_neg (by simp [hrun, hbits, hdue])

theorem runCalDeferExpired_chain {k : Cal} (hcal : c.cal = some k) (hwait : k.running = false) (hforce : k.force = false)
    (hlimit : k.limit ≠ 0) (hlate : k.limit < s.now) : runCalDeferExpired (.chain n) s =
    finishOpt k.cmd RF_CAL_NO_GAP [] ((s.setFlag (chainPend n.val) false).setChain n.val { c with cal := none }) := by
  simp only [runCalDeferExpired, hc, hcal]
  exact if_pos (by simp [hwait, hforce, hlimit, hlate])

end

/-! ### Pairs -/

section
variable {p : Fin 4} {s : State} {x : Pair} (hx : s.pairOf p.val = x)
include hx

theorem runSynthLock_pair (hstate : s.pairState p.val = 1) (hlock : s.flag (F.RFE_PAIR_STAT_LOCK p.val) = false) :
    runSynthLock (.pair p) s = x.spanCmds.foldl (fun s q => finish q St.OK [] s)
      (setPairLock p.val true (s.setPairU p.val { x with spanCmds := [] })) := by
  subst hx
  exact if_neg (by simp [hstate, hlock])

theorem runCalDone_pair {k : Cal} {r : Byte} {t u : State} (hcal : x.cal = some k) (hrun : k.running = true)
    (hbits : k.bits ≠ startupBits) (hdue : k.start + calTicks k.bits ≤ s.now)
    (ht : t = s.setPairU p.val { x with cal := none })
    (hu : u = calAnswer (10 + p.val) (pairFail p.val) r.toNat k (setPairState p.val (if k.fromArmed then 1 else 0)
      (setPairLock p.val false (if k.bits / 8 % 2 = 1 ∧ r = 0 then rssiCalibrate p.val t else t)))) :
    runCalDone (.pair p) r s = if k.fromArmed then spanChanged false p.val u else u := by
  subst ht hu
  simp only [runCalDone, hx, hcal]
  exact if_neg (by simp [hrun, hbits, hdue])

theorem runCalDeferExpired_pair {k : Cal} (hcal : x.cal = some k) (hwait : k.running = false) (hforce : k.force = false)
    (hlimit : k.limit ≠ 0) (hlate : k.limit < s.now) : runCalDeferExpired (.pair p) s =
    finishOpt k.cmd RF_CAL_NO_GAP [] ((s.setFlag (pairPend p.val) false).setPairU p.val { x with cal := none }) := by
  simp only [runCalDeferExpired, hx, hcal]
  exact if_pos (by simp [hwait, hforce, hlimit, hlate])

end

theorem runSynUnlock_pair {p : Fin 4} {s : State} (hlock : s.flag (F.RFE_PAIR_STAT_LOCK p.val) = true) :
    runSynUnlock (.pair p) s = post (10 + p.val) sevDegraded 0x0201 [] (setPairLock p.val false s) :=
  if_neg (by simp [hlock])

/-! ### Transmissions -/

section
variable {n : Fin 4} {d : TxDesc} {s : State}

theorem runTxDescriptorIssue_ackLate (hack : d.kind = .ack) (hlate : d.deadline < s.now + 240) :
    runTxDescriptorIssue n d s = exchangeEnds d.node (s.count F.MAC_TX_CNT_ACK_LATE 1) :=
  if_pos ⟨hack, hlate⟩

theorem runTxDescriptorIssue_timely (htime : d.kind ≠ .ack ∨ s.now + 240 ≤ d.deadline) :
    runTxDescriptorIssue n d s = if !inSynthBand (s.carrier d) then returnDesc n.val RF_OUT_OF_BAND d s
      else tuneForQueue n.val (s.setChain n.val { s.chain n.val with queue := insertBy descKey d (s.chain n.val).queue }) :=
  if_neg fun h => htime.elim (· h.1) fun htime => Nat.not_lt.2 htime h.2

section
variable {lbt : Option Byte} {rest : List TxDesc} (hqueue : (s.chain n.val).queue = d :: rest)
include hqueue

theorem runTxStartTick_waits (hdue : s.startDue n.val d = false) :
    runTxStartTick n lbt s = tuneForQueue n.val s := by
  rw [runTxStartTick, hqueue]
  exact if_pos (by simp [hdue])

section
variable {t u : State} (hdue : s.startDue n.val d = true)
  (ht : t = s.setChain n.val { s.chain n.val with queue := rest })
include hdue ht

theorem runTxStartTick_refuses {st : Nat} (hcheck : startChecks n.val d lbt t = (.inl st, u)) :
    runTxStartTick n lbt s = tuneForQueue n.val (returnDesc n.val st d u) := by
  rw [runTxStartTick, hqueue]
  dsimp only
  rw [if_neg (by simp [hdue]), ← ht, hcheck]

theorem runTxStartTick_starts {v w : State} {eff : Effective} {mode : Nat}
    (hcheck : startChecks n.val d lbt t = (.inr eff, u)) (hmode : mode = u.paModeOf n.val (driveOf d eff))
    (hw : w = if driveOf d eff < least2 d.drive 64 then u.count (F.RFE_TX_CNT_CLAMP n.val) 1 else u)
    (hv : v = blankFor n.val (driveOf d eff) mode (w.now + w.txLead n.val + d.airTicks + w.txTail n.val + 240) w) :
    runTxStartTick n lbt s = setTxState n.val txRampUp
      { v.setChain n.val { v.chain n.val with run := some ⟨d, v.now, none, false, driveOf d eff, mode, v.ppduOf d,
          eff.dwell.isSome, eff.charged⟩ } with
        sched.txLog := v.sched.txLog ++ [⟨v.now, n.val, d.lane.val, driveOf d eff, usUp (d.airTicks + 1920)⟩] } := by
  rw [runTxStartTick, hqueue]
  dsimp only
  rw [if_neg (by simp [hdue]), ← ht, hcheck]
  dsimp only
  rw [← hmode, ← hw, ← hv]
  rfl

end

theorem runTxLate_returns (hcal : s.txState n.val ≠ txCal) (hlate : d.deadline + s.fld (F.RFE_TX_CTL_TOL n.val) < s.now) :
    runTxLate n s = tuneForQueue n.val (returnDesc n.val St.TX_LATE d
      (s.setChain n.val { s.chain n.val with queue := rest })) := by
  rw [runTxLate, hqueue]
  exact if_pos ⟨hcal, hlate⟩

end

end

/-! ### The run of a frame -/

section
variable {n : Fin 4} {r : TxRun} {s : State} (hrun : (s.chain n.val).run = some r)
include hrun

theorem runTxFirstSymbol_begins (hstate : s.txState n.val = txRampUp) (hdue : r.start + s.txLead n.val ≤ s.now) :
    runTxFirstSymbol n s = capEvent (0x08 + n.val) none (setTxState n.val txTx s) := by
  rw [runTxFirstSymbol, hrun]
  exact if_pos ⟨hstate, hdue⟩

theorem runTxFrameEnd_ends {t : State} (hstate : s.txState n.val = txTx)
    (hdue : r.start + s.txLead n.val + r.desc.airTicks ≤ s.now)
    (ht : t = s.setChain n.val { s.chain n.val with run := some { r with stop := some s.now } }) :
    runTxFrameEnd n s = setTxState n.val txRampDown
      (if r.desc.kind = .rollout then t.wrapCount (F.ROL_CAMP_SENT_SENT r.desc.ref) 1 else t) := by
  subst ht
  rw [runTxFrameEnd, hrun]
  exact if_pos ⟨hstate, hdue⟩

section
variable {e : Nat} (hstop : r.stop = some e) (hstate : s.txState n.val = txRampDown) (hdue : e + s.txTail n.val ≤ s.now)
include hstop hstate hdue

theorem runRampDownEnd_off (hoff : (s.chain n.val).offAfter = true) : runRampDownEnd n s = chainPowerDown n.val s := by
  simp only [runRampDownEnd, hrun, hstop]
  rw [if_neg (by simp [hstate, hdue]), if_pos hoff]

/-- The forced calibration that waits for the end of the frame, if one does. -/
def forcedCal (n : Nat) (s : State) : State :=
  match (s.chain n).cal with
  | some c => if c.force then chainCalTry n s else s
  | none => s

theorem runRampDownEnd_goesOn {t u : State} (hoff : (s.chain n.val).offAfter = false)
    (ht : t = s.setChain n.val { s.chain n.val with run := none })
    (hu : u = if (t.chain n.val).queue ≠ [] ∨ t.flag (F.RFE_TX_CTL_RETURN n.val) = true then setTxState n.val txReady t
      else setTxState n.val txIdle (setTxLock n.val false (t.setChain n.val { t.chain n.val with tuning := false }))) :
    runRampDownEnd n s = tuneForQueue n.val (forcedCal n.val u) := by
  have hstay : ((!(t.chain n.val).queue.isEmpty || t.flag (F.RFE_TX_CTL_RETURN n.val)) = true) =
      ((t.chain n.val).queue ≠ [] ∨ t.flag (F.RFE_TX_CTL_RETURN n.val) = true) := by
    simp
  simp only [runRampDownEnd, hrun, hstop]
  rw [if_neg (by simp [hstate, hdue]), if_neg (Bool.eq_false_iff.1 hoff), ← ht]
  simp only [hstay]
  rw [← hu]
  rfl

end

end

/-- Settles O42: each event of the synthesisers and the chains, and each step of a transmission, by its guard. -/
theorem radioEventsAndTransmissions : Obligations.RadioEventsAndTransmissions := by
  unfold Obligations.RadioEventsAndTransmissions
  refine ⟨⟨fun n s c hc => ⟨?lockC, ?unlockC, ?bias, answer_sameQueue rfl, ?doneC, ?deferC⟩,
      fun p s x hx => ⟨?lockP, ?unlockP, answer_sameQueue rfl, ?doneP, ?deferP⟩⟩,
    ?ackLate, ?issue, ?waits, ?starts, ?late, fun n r s hrun => ⟨?first, ?frameEnd, ?rampDown⟩⟩
  case lockC =>
    exact fun htuning => answer_sameQueue (runSynthLock_chain hc htuning)
  case unlockC =>
    exact fun hlock => answer_sameQueue (runSynUnlock_chain hc hlock)
  case bias =>
    exact fun t hoff hen hdue => answer_sameQueue (runChainBiasSettled_settles hc hoff hen hdue)
  case doneC =>
    exact fun k r hcal hrun hbits hdue => answer_sameQueue (runCalDone_chain hc hcal hrun hbits hdue)
  case deferC =>
    exact fun k hcal hwait hforce hlimit hlate =>
      answer_sameQueue (runCalDeferExpired_chain hc hcal hwait hforce hlimit hlate)
  case lockP =>
    exact fun hstate hlock => answer_sameQueue (runSynthLock_pair hx hstate hlock)
  case unlockP =>
    exact fun hlock => answer_sameQueue (runSynUnlock_pair hlock)
  case doneP =>
    exact fun k r hcal hrun hbits hdue t u ht hu =>
      answer_sameQueue (runCalDone_pair hx hcal hrun hbits hdue ht hu)
  case deferP =>
    exact fun k hcal hwait hforce hlimit hlate =>
      answer_sameQueue (runCalDeferExpired_pair hx hcal hwait hforce hlimit hlate)
  case ackLate =>
    exact fun n d s hack hlate => answer_sameQueue (runTxDescriptorIssue_ackLate hack hlate)
  case issue =>
    exact fun n d s htime =>
      ⟨fun hband => answer_sameQueue ((runTxDescriptorIssue_timely htime).trans (if_neg (by simp [hband]))),
      fun hband => answer_sameQueue ((runTxDescriptorIssue_timely htime).trans (if_pos (by simp [hband])))⟩
  case waits =>
    exact fun n lbt d rest s hqueue hdue => answer_sameQueue (runTxStartTick_waits hqueue hdue)
  case starts =>
    exact fun n lbt d rest s t u v w eff mode hqueue hdue ht =>
      ⟨fun hcheck hmode hw hv => answer_sameQueue (runTxStartTick_starts hqueue hdue ht hcheck hmode hw hv),
      fun st hcheck => answer_sameQueue (runTxStartTick_refuses hqueue hdue ht hcheck)⟩
  case late =>
    exact fun n d rest s hqueue hcal hlate => answer_sameQueue (runTxLate_returns hqueue hcal hlate)
  case first =>
    exact fun hstate hdue => answer_sameQueue (runTxFirstSymbol_begins hrun hstate hdue)
  case frameEnd =>
    exact fun t hstate hdue ht => answer_sameQueue (runTxFrameEnd_ends hrun hstate hdue ht)
  case rampDown =>
    exact fun e hstop hstate hdue =>
      ⟨fun hoff => answer_sameQueue (runRampDownEnd_off hrun hstop hstate hdue hoff),
      fun t u hoff ht hu => answer_sameQueue (runRampDownEnd_goesOn hrun hstop hstate hdue hoff ht hu)⟩

end Sys2Proof.Machine

/-! The channelizer: streams, store captures, profiles and block boundaries (R130 to R151). -/

namespace Sys2Proof.Machine

open Sys2Proof.Claims

/-- A slot that is not enabled is no stream's head. -/
theorem isHead_of_slotEn {n : Nat} {s : State} (h : s.slotEn n = false) : s.isHead n = false :=
  Bool.and_eq_false_imp.2 fun hen => absurd (hen.symm.trans h) Bool.noConfusion

/-! ### Streams -/

section
variable {p : Packet} {s : State} (hflags : p.u8 3 ≤ 15) (hmode : p.bits 3 1 0 ≠ 3) (hclean : p.dirty 6 2 = false)
  (hclean' : p.dirty 12 4 = false) (howned : chanOwned p s = false) (hcmd : (s.stream (p.u8 0)).cmd = none)
include hflags hmode hclean hclean' howned hcmd

theorem opPhyChanSet_disable (hoff : p.u8 1 = 0) (hslot : (s.slotEn (p.u8 0) && !s.isHead (p.u8 0)) = false) :
    opPhyChanSet p s =
      if s.isHead (p.u8 0) then chanPend p (p.u8 0) .disable s else reply p St.OK (chanReply (p.u8 0) s) s :=
  (if_pos hoff).trans (checked_acts (by
    simp only [firstFail_cons_eq_none, hslot, hcmd, howned, hclean, hclean']
    simp [hflags, hmode]))

section
variable (hon : p.u8 1 = 1) (hwidth : p.u8 2 ≤ 7) (hpair : p.u8 4 ≤ 3) (hprof : p.u8 5 ≤ 63)
  (hloaded : s.profLoaded (p.u8 5) = true)
  (hfits : p.u8 5 = 63 ∨ p.u8 2 ≠ 7 ∧ profWidth (s.profile (p.u8 5)) = p.u8 2)
  (hfree : slotConflict (p.u8 0) (p.u8 2) s = false) (hroom : s.pairSlots (p.u8 4) (p.u8 0) + widthSlots (p.u8 2) ≤ 64)
  (hbin : s.pairArmed (p.u8 4) = true → (fitBin (s.centreHz (p.u8 4)) (p.u32 8) (widthHz (p.u8 2))).isNone = false)
  (hslot : (s.slotEn (p.u8 0) && !s.isHead (p.u8 0)) = false)
  (hcool : s.isHead (p.u8 0) = false → s.fld F.THM_STAT_STEPS < 2)
include hon hwidth hpair hprof hloaded hfits hfree hroom hbin hslot hcool

theorem opPhyChanSet_enable : opPhyChanSet p s = if s.isHead (p.u8 0) then
      chanPend p (p.u8 0) (.change (chanCfg p) (BitVec.ofNat 32 (p.u32 8)) (p.bit 3 3))
        ((List.range (widthSlots (p.u8 2))).foldl (fun s i => if s.slotEn (p.u8 0 + i) then s
          else s.setWord (R.CHZ_CH_CFG (p.u8 0 + i)) ((F.CHZ_CH_CFG_HEAD (p.u8 0)).write 0 (chanCfg p))) s)
    else chanWait p (p.u8 0) (streamEnable (p.u8 0) (chanCfg p) (BitVec.ofNat 32 (p.u32 8)) s) := by
  have hprofile : (p.u8 5 != 63 && p.u8 2 != 7 && profWidth (s.profile (p.u8 5)) != p.u8 2) = false := by
    rcases hfits with h | ⟨-, h⟩ <;> simp [h]
  have hraw : (p.u8 2 == 7 && p.u8 5 != 63) = false := by
    rcases hfits with h | ⟨h, -⟩ <;> simp [h]
  have hthermal : (!s.isHead (p.u8 0) && decide (2 ≤ s.fld F.THM_STAT_STEPS)) = false := by
    simpa using hcool
  have hplaced : (s.pairArmed (p.u8 4) && (fitBin (s.centreHz (p.u8 4)) (p.u32 8) (widthHz (p.u8 2))).isNone) = false :=
    Bool.and_eq_false_imp.2 hbin
  refine (if_neg (by simp [hon])).trans (checked_acts ?_)
  simp only [firstFail_cons_eq_none, hslot, hcmd, howned, hclean, hclean', hprofile, hraw, hthermal, hplaced, hfree, hloaded]
  simp [hflags, hmode, hon, hwidth, hpair, hprof, hroom]

end

end

section
variable {p : Packet} {s : State}

theorem opPhyChanRead_tells (hclean : p.dirty 1 3 = false) : opPhyChanRead p s = reply p St.OK
    ((List.range 4).flatMap (fun k => leBytes 4 (s.word (R.CHZ_CH_CFG (p.u8 0) + 4 * k)).toNat)) s :=
  checked_acts (by simp [hclean])

/-! ### Store captures -/

theorem opPhyCapture_stops (hstop : p.u8 0 = 0) : opPhyCapture p s = reply p St.OK [] (capStop 1 s) :=
  if_pos hstop

theorem opPhyCapture_starts {c : StoreCapture} {t : State} (hstart : p.u8 0 = 1) (hgood : captureBad p = false)
    (hidle : s.chz.cap = none)
    (hc : c = { trig := p.u8 3, trigSlot := p.u8 4, source := p.u8 2,
                slots := (List.range (p.u8 6)).map (fun i => p.u8 (16 + i)), length := p.u32 8, timeout := p.u32 12,
                avg := p.u8 5, startAt := s.now, trigAt := 0, remaining := p.u32 8, stored := 0, waiting := [],
                cmd := some s.interp.nextSeq })
    (ht : t = ((((defer p s).2.setFld F.CHZ_CAP_STAT_STATE (if p.u8 3 = 0 then 2 else 1)).setFld
      F.CHZ_CAP_STAT_MODE (p.u8 1)).setFlag F.CHZ_CAP_STAT_WRAPPED false).setFld F.CHZ_CAP_STAT_COUNT 0) :
    opPhyCapture p s = { t with chz.cap := some c, chz.fill := (0, 0) } := by
  subst hc ht
  exact (if_neg (by simp [hstart])).trans (checked_acts (by simp [hstart, hgood, hidle]))

theorem opPhyCaptureRead_reads (hsome : p.u16 4 ≠ 0) (hmost : p.u16 4 ≤ 480) (hclean : p.dirty 6 2 = false)
    (hroom : p.u32 0 + p.u16 4 ≤ 4194304) : opPhyCaptureRead p s =
    reply p St.OK ((List.range (p.u16 4)).map (fun i => s.storeByte (p.u32 0 + i))) s :=
  checked_acts (by simp [firstFail_cons_eq_none, hsome, hmost, hclean, hroom])

/-! ### Profiles -/

theorem opPhyProfileRead_reads (hindex : p.u8 0 ≤ 63) (hclean : p.dirty 1 3 = false) : opPhyProfileRead p s =
    reply p St.OK (if p.u8 0 = 63 then [0xFF, 7] ++ leBytes 30 0 else sliceBytes (s.profile (p.u8 0)) 0 32) s :=
  checked_acts (by simp [firstFail_cons_eq_none, hindex, hclean])

section
variable {users : List Nat} (hindex : p.u8 0 ≤ 62) (hclean : p.dirty 2 2 = false)
  (hcrc : (crc32 (p.bytes 8 32)).toNat = p.u32 4) (hgood : profileBad (p.bytes 8 32) = false)
  (husers : users = s.heads.filter (fun n => s.fld (F.CHZ_CH_CFG_PHY_PROFILE n) == p.u8 0))
include hindex hclean hcrc hgood husers

theorem opPhyProfileLoad_unused (hflag : p.u8 1 ≤ 1) (hnone : users = []) : opPhyProfileLoad p s =
    reply p St.OK [] (loadProfile (p.u8 0) (p.bytes 8 32) s) := by
  have hfixed : p.u8 0 ≠ 63 := by omega
  have hindex' : p.u8 0 ≤ 63 := by omega
  rw [opPhyProfileLoad]
  dsimp only
  rw [← husers, hnone, checked_acts (by
    simp only [firstFail_cons_eq_none, hclean, hcrc, hgood]
    simp [hflag, hfixed, hindex'])]
  rfl

theorem opPhyProfileLoad_replaces {t : State} (hflag : p.u8 1 = 1) (hsome : users ≠ [])
    (htype : profType (p.bytes 8 32) ≠ 0) (hwidth : profWidth (p.bytes 8 32) = profWidth (s.profile (p.u8 0)))
    (hidle : s.demod.replace = none)
    (ht : t = users.foldl (fun s n => s.setStream n { s.stream n with tookNew := false }) (defer p s).2) :
    opPhyProfileLoad p s = { t with demod.replace := some (p.u8 0, p.bytes 8 32, (defer p s).1) } := by
  have hfixed : p.u8 0 ≠ 63 := by omega
  have hindex' : p.u8 0 ≤ 63 := by omega
  have hbit : p.bit 1 0 = true := by rw [Packet.bit, Packet.bits, hflag]; rfl
  rw [opPhyProfileLoad]
  dsimp only
  rw [← husers, checked_acts (by
    simp only [firstFail_cons_eq_none, hclean, hcrc, hgood, hbit, hidle]
    simp [hflag, hfixed, hindex', htype, hwidth]), if_neg (by simpa using hsome), ← ht]

end

end

/-! ### Captures and streams as time brings them -/

section
variable {is qs : List Int} {c : StoreCapture} {s : State} (hcap : s.chz.cap = some c)
include hcap

theorem runCaptureTimeout_ends (hstate : s.fld F.CHZ_CAP_STAT_STATE = 1) (hlimit : c.timeout ≠ 0)
    (hdue : c.startAt + c.timeout ≤ s.now) : runCaptureTimeout is qs s =
    if s.fld F.CHZ_CAP_STAT_MODE = 1 then streamCapEnd 2 s else rawFinish 2 is qs s := by
  rw [runCaptureTimeout, hcap]
  exact if_neg (by simp [hstate, hlimit, hdue])

theorem runCaptureEnd_ends (hmode : s.fld F.CHZ_CAP_STAT_MODE ≠ 1) (hstate : s.fld F.CHZ_CAP_STAT_STATE = 2)
    (hdue : c.endsAt (s.fld F.CHZ_CAP_STAT_MODE) ≤ s.now) : runCaptureEnd is qs s =
    if s.fld F.CHZ_CAP_STAT_MODE = 2 then spectrumFinish is s else rawFinish 0 is qs s := by
  rw [runCaptureEnd, hcap]
  exact if_neg (by simp [hmode, hstate, hdue])

end

section
variable {slot : Fin 256} {a b : List Int} {ca cb : Bool} {s : State} {per k : Nat}
  (hper : per = blockPeriod (s.streamWidth slot.val)) (hk : k = s.now / per)
include hper hk

theorem runStreamBlockBoundary_turns (hhead : s.isHead slot.val = true) (hnew : (s.stream slot.val).block < k) :
    runStreamBlockBoundary slot a b ca cb s = capFlush (streamTurn slot.val (blocksEnd slot.val ((k - 1) * per) a b ca cb
      (s.setStream slot.val { s.stream slot.val with block := k }))) := by
  subst hk hper
  exact if_neg (by simp [hhead, hnew])

theorem runStreamBlockBoundary_stays (hold : k ≤ (s.stream slot.val).block) :
    runStreamBlockBoundary slot a b ca cb s = s := by
  subst hk hper
  exact if_pos (.inr hold)

end

/-- Settles O44: each packet by its checks, each event by its guard. -/
theorem channelizerCommands : Obligations.ChannelizerCommands := by
  unfold Obligations.ChannelizerCommands
  refine ⟨?disable, ?enable, ?chanRead, fun p s h => ⟨?stop, ?start⟩, ?captureRead, fun is qs c s hcap => ⟨?timeout, ?ends⟩,
    fun slot a b ca cb s per k hhead hper hk => ⟨?turns, ?stays⟩, ?unused, ?replaces, ?profileRead⟩
  case disable =>
    intro p s h hoff hflags hmode hclean hclean' howned hcmd
    refine ⟨fun hhead => served_sameQueue h ?_, fun hslot => served_next h ?_ (reply_pending ..)⟩
    · exact (opPhyChanSet_disable (p := asOp 0x3001 p) hflags hmode hclean hclean' howned hcmd hoff (by simp [hhead])).trans
        (if_pos hhead)
    · exact (opPhyChanSet_disable (p := asOp 0x3001 p) hflags hmode hclean hclean' howned hcmd hoff (by simp [hslot])).trans
        (if_neg (Bool.eq_false_iff.1 (isHead_of_slotEn hslot)))
  case enable =>
    intro p s h hon hwidth hflags hmode hpair hprof hclean hclean' hloaded hfits howned hfree hroom hbin hcmd
    have hrun := opPhyChanSet_enable (p := asOp 0x3001 p) hflags hmode hclean hclean' howned hcmd hon hwidth hpair hprof
      hloaded hfits hfree hroom hbin
    refine ⟨fun hnew hslot hcool => served_sameQueue h ?_, fun t hhead ht => served_sameQueue h ?_⟩
    · exact (hrun (by simp [hslot]) fun _ => hcool).trans (if_neg (Bool.eq_false_iff.1 hnew))
    · rw [ht]
      exact (hrun (by simp [hhead]) fun hnew => absurd (hhead.symm.trans hnew) Bool.noConfusion).trans (if_pos hhead)
  case chanRead =>
    exact fun p s h hclean => served_next h (opPhyChanRead_tells hclean) (reply_pending ..)
  case stop =>
    exact fun hstop => served_sameQueue h (opPhyCapture_stops hstop)
  case start =>
    exact fun hstart hgood hidle c t hc ht =>
      served_sameQueue h (opPhyCapture_starts (p := asOp 0x3003 p) hstart hgood hidle hc ht)
  case captureRead =>
    exact fun p s h hsome hmost hclean hroom =>
      served_next h (opPhyCaptureRead_reads hsome hmost hclean hroom) (reply_pending ..)
  case timeout =>
    exact fun hstate hlimit hdue => answer_sameQueue (runCaptureTimeout_ends hcap hstate hlimit hdue)
  case ends =>
    exact fun hmode hstate hdue => answer_sameQueue (runCaptureEnd_ends hcap hmode hstate hdue)
  case turns =>
    exact fun hnew => answer_sameQueue (runStreamBlockBoundary_turns hper hk hhead hnew)
  case stays =>
    exact fun hold => answer_eq (runStreamBlockBoundary_stays hper hk hold) rfl
  case unused =>
    exact fun p s h hindex hflag hclean hcrc hgood hnone => served_sameQueue h
      (opPhyProfileLoad_unused (p := asOp 0x3010 p) hindex hclean hcrc hgood rfl hflag hnone)
  case replaces =>
    exact fun p s users h hindex hflag hclean hcrc hgood husers hsome htype hwidth hidle t ht => served_sameQueue h
      (opPhyProfileLoad_replaces (p := asOp 0x3010 p) hindex hclean hcrc hgood husers hflag hsome htype hwidth hidle ht)
  case profileRead =>
    exact fun p s h hindex hclean => served_next h (opPhyProfileRead_reads hindex hclean) (reply_pending ..)

end Sys2Proof.Machine

/-! The demodulator, from a detected preamble to a delivered frame or an outcome (R152 to R181). -/

namespace Sys2Proof.Machine

open Sys2Proof.Claims

/-! ### Detection -/

theorem setDstate_dstate {n v : Nat} {s : State} (hv : v < 2 ^ 4) : (setDstate n v s).dstate n = v :=
  (s.fld_setFld_same (F.DMD_CH_STAT_STATE n) v (Nat.le_of_ble_eq_true rfl)).trans (Nat.mod_eq_of_lt hv)

/-- A detected frame takes the next number and its channel, which goes to a state with a fresh equalizer. -/
def openFrame (n : Nat) (x : RxFrame) (v : Nat) (s : State) : State :=
  let t := { s.setFrame s.demod.nextFrame (some x) with demod.nextFrame := s.demod.nextFrame + 1 }
  setDstate n v ((t.setDctx n { t.dctx n with frame := some s.demod.nextFrame, dfe := Dfe.reset }).count F.DMD_CNT0_DETECT 1)

section
variable (n : Nat) (x : RxFrame) (v : Nat) (s : State)

theorem openFrame_frame : (openFrame n x v s).frame s.demod.nextFrame = some x := by
  have h : (openFrame n x v s).demod.frames = s.demod.frames.set none s.demod.nextFrame (some x) := rfl
  rw [State.frame, h, Sparse.get_set_same]

theorem openFrame_dctx : (openFrame n x v s).dctx n =
    { s.dctx n with frame := some s.demod.nextFrame, dfe := Dfe.reset } := by
  have h : (openFrame n x v s).demod.ctx = s.demod.ctx.set DemodCtx.reset n
      { s.dctx n with frame := some s.demod.nextFrame, dfe := Dfe.reset } := rfl
  rw [State.dctx, h, Sparse.get_set_same]

end

theorem runPreambleDetect_detects {slot : Fin 256} {branchB : Bool} {d : Detection} {s : State}
    (hd : s.detects slot.val branchB d = true) : ∃ (t : State) (x : RxFrame),
      runPreambleDetect slot branchB d s = capTrigger 1 slot.val t ∧
        t.frame s.demod.nextFrame = some x ∧ x.slot = slot.val ∧ x.profile = s.streamProfIdx slot.val ∧
        x.entry = s.streamProf slot.val ∧ x.detectAt = s.now ∧ x.hyp = d.hyp ∧ x.window = s.openWindow slot.val ∧
        x.branchB = branchB ∧ (t.dctx slot.val).frame = some s.demod.nextFrame ∧ (t.dctx slot.val).dfe = Dfe.reset ∧
        t.demod.nextFrame = s.demod.nextFrame + 1 ∧
        t.dstate slot.val = (if s.chState slot.val = stDual then dDiversity else dSync) := by
  refine ⟨openFrame slot.val _ _ s, _, if_neg (by simp [hd]), openFrame_frame .., rfl, rfl, rfl, rfl, rfl, rfl, rfl,
    congrArg DemodCtx.frame (openFrame_dctx ..), congrArg DemodCtx.dfe (openFrame_dctx ..), rfl,
    (setDstate_dstate ?_).trans ?_⟩
  · split <;> decide
  · simp only [beq_iff_eq]

/-! ### Frames that a channel is on -/

section
variable {slot : Fin 256} {f : Nat} {x : RxFrame} {s : State} (hx : s.slotFrame slot.val = some (f, x))
include hx

section
variable {ea eb : List Nat} {hyp pa pb : Int} (hstate : s.dstate slot.val = dDiversity)
include hstate

theorem runDiversityDecision_blanked (hblank : s.bothBlank x = true) :
    runDiversityDecision slot ea eb hyp pa pb s = dropFrame slot.val f oBlanked s := by
  simp only [runDiversityDecision, hx]
  exact (if_neg (Classical.not_not.2 hstate)).trans (if_pos hblank)

theorem runDiversityDecision_waits (hclear : s.bothBlank x = false)
    (hwait : s.now < x.detectAt + divSyms x.entry * symTicks x.entry ∨ hyp ≠ x.hyp) :
    runDiversityDecision slot ea eb hyp pa pb s = s := by
  simp only [runDiversityDecision, hx]
  exact (if_neg (Classical.not_not.2 hstate)).trans ((if_neg (Bool.eq_false_iff.1 hclear)).trans (if_pos hwait))

theorem runDiversityDecision_decides {toB : Bool} {other : Nat} {u : State} {c : ChanStats} {m : Sparse ChanStats}
    (hclear : s.bothBlank x = false) (hdue : x.detectAt + divSyms x.entry * symTicks x.entry ≤ s.now) (hhyp : hyp = x.hyp)
    (htoB : toB = if s.energySum x false ea = s.energySum x true eb then s.primaryB slot.val
      else decide (s.energySum x false ea < s.energySum x true eb))
    (hother : other = s.rssiCode (branchNo (s.streamPair slot.val) (!toB)) (if toB then pa else pb))
    (hu : u = (s.setFrame f (some { x with branchB := toB, compared := true, rssiOther := other, syncSince := s.now })).count
      (if toB then F.DMD_DIV_CNT_DIV_B else F.DMD_DIV_CNT_DIV_A) 1)
    (hc : c = u.sched.chans.get ChanStats.empty slot.val)
    (hm : m = u.sched.chans.set ChanStats.empty slot.val
      (if toB then { c with divB := c.divB + 1 } else { c with divA := c.divA + 1 })) :
    runDiversityDecision slot ea eb hyp pa pb s = setDstate slot.val dSync { u with sched.chans := m } := by
  have hgo : ¬ (s.now < x.detectAt + divSyms x.entry * symTicks x.entry ∨ hyp ≠ x.hyp) := by
    simp [hdue, hhyp]
  rw [runDiversityDecision]
  dsimp only
  rw [hx]
  dsimp only
  rw [if_neg (Classical.not_not.2 hstate), if_neg (Bool.eq_false_iff.1 hclear), if_neg hgo, ← htoB, ← hother, ← hu, ← hc, ← hm]

end

section
variable {lead : Nat} {power snr : Int} {sm : SyncMeasure} {residual : Int} {steps : List LmsStep}
  (hstate : s.dstate slot.val = dSync)
include hstate

theorem runSyncEnd_blanked (hblank : s.syncBlank x = true) :
    runSyncEnd slot lead power snr sm residual steps s = dropFrame slot.val f oBlanked s := by
  simp only [runSyncEnd, hx]
  exact (if_neg (Classical.not_not.2 hstate)).trans (if_pos hblank)

theorem runSyncEnd_late (hclear : s.syncBlank x = false) (hlate : x.syncLimit < s.now) :
    runSyncEnd slot lead power snr sm residual steps s = dropFrame slot.val f oSyncTimeout s := by
  simp only [runSyncEnd, hx]
  exact (if_neg (Classical.not_not.2 hstate)).trans ((if_neg (Bool.eq_false_iff.1 hclear)).trans (if_pos hlate))

theorem runSyncEnd_none (hclear : s.syncBlank x = false) (htime : s.now ≤ x.syncLimit)
    (htier : syncTier x.entry sm.sync = none) : runSyncEnd slot lead power snr sm residual steps s = s := by
  simp only [runSyncEnd, hx, htier]
  exact (if_neg (Classical.not_not.2 hstate)).trans ((if_neg (Bool.eq_false_iff.1 hclear)).trans (if_neg (Nat.not_lt.2 htime)))

theorem runSyncEnd_syncs {tier rssi : Nat} {pre : Bool} {y : RxFrame} {t u : State} (hclear : s.syncBlank x = false)
    (htime : s.now ≤ x.syncLimit) (htier : syncTier x.entry sm.sync = some tier) (hpre : pre = s.preMode x residual)
    (hrssi : rssi = s.rssiCode (branchNo (s.streamPair slot.val) x.branchB) power)
    (hy : y = { x with syncEnd := s.now, lead := lead, rssi := rssi, lqi := lqiCode snr, pilot := !pre,
                       derot := if pre then (sm.phase, residual) else (0, 0), rateCorr := if pre then x.rateCorr else 0,
                       cfo := BitVec.ofInt 16 (rnd ((s.stream slot.val).trimHz + residual) 10),
                       taint := s.flag F.TMB_STAT_CAL_FAULT, tier := tier })
    (ht : t = ((s.setFrame f (some y)).setFld (F.DMD_CH_STAT_RSSI slot.val) rssi).setFld
      (F.DMD_CH_STAT_LQI slot.val) (lqiCode snr))
    (hu : u = dfeAdapt slot.val x.entry steps (if profType x.entry = 1 ∧ pre = false then t.count F.DMD_CNT2_PILOT 1 else t)) :
    runSyncEnd slot lead power snr sm residual steps s = setDstate slot.val dHeader
      (u.setDctx slot.val { u.dctx slot.val with dfe := { (u.dctx slot.val).dfe with directed := true } }) := by
  have hu' : u = dfeAdapt slot.val x.entry steps
      (if profType x.entry = 1 ∧ (!pre) = true then t.count F.DMD_CNT2_PILOT 1 else t) := by
    simpa only [Bool.not_eq_true'] using hu
  subst hu' ht hy hrssi hpre
  simp only [runSyncEnd, hx, htier]
  exact (if_neg (Classical.not_not.2 hstate)).trans ((if_neg (Bool.eq_false_iff.1 hclear)).trans (if_neg (Nat.not_lt.2 htime)))

theorem runSyncTimeout_blanked (hblank : s.syncBlank x = true) :
    runSyncTimeout slot s = dropFrame slot.val f oBlanked s := by
  simp only [runSyncTimeout, hx]
  exact (if_neg (Classical.not_not.2 hstate)).trans (if_pos hblank)

theorem runSyncTimeout_late (hclear : s.syncBlank x = false) (hlate : x.syncLimit ≤ s.now) :
    runSyncTimeout slot s = dropFrame slot.val f oSyncTimeout s := by
  simp only [runSyncTimeout, hx]
  exact (if_neg (Classical.not_not.2 hstate)).trans ((if_neg (Bool.eq_false_iff.1 hclear)).trans (if_pos hlate))

end

theorem runRxFrameEnd_ends {offset : Int} {soft : List Int} {y : RxFrame} {t : State} (hstate : s.dstate slot.val = dPayload)
    (hy : y = { x with endAt := some s.now, erased := s.spanBlank slot.val x.branchB x.syncEnd s.now,
                       cfo := if x.pilot then BitVec.ofInt 16 (rnd ((s.stream slot.val).trimHz + offset) 10) else x.cfo })
    (ht : t = ctxSearch slot.val (s.setFrame f (some y))) : runRxFrameEnd slot offset soft s =
    if profType x.entry = 1 then t
    else deliverFrame f y false (sliceBytes (Config.sunPsdu x.entry y.mcs y.len soft) 0 y.len) t := by
  subst ht hy
  simp only [runRxFrameEnd, hx]
  exact if_neg (Classical.not_not.2 hstate)

section
variable {phr : SunPhr} (hstate : s.dstate slot.val = dHeader) (hvalid : phr.valid = true)
include hstate hvalid

theorem runPhrEnd_payload {y : RxFrame} (htype : profType x.entry = 2 ∨ profType x.entry = 3)
    (hstay : profType x.entry = 2 → phr.modeSwitch = none)
    (hmcs : profType x.entry = 3 → profByte x.entry 17 / 2 ^ phr.mcs % 2 = 1) (hlen : phr.len ≠ 0)
    (hlen' : phr.len ≤ 2047)
    (hy : y = { x with phrDone := true, len := phr.len, mcs := if profType x.entry = 3 then phr.mcs else 0 }) :
    runPhrEnd slot phr s = setDstate slot.val dPayload (s.setFrame f (some y)) := by
  have hgo : ¬ (s.dstate slot.val ≠ dHeader ∨ profType x.entry = 1) := by
    rcases htype with h | h <;> simp [hstate, h]
  have hnone : (if profType x.entry = 2 ∧ phr.valid = true then phr.modeSwitch else none) = none := by
    split
    · next h => exact hstay h.1
    · rfl
  have hok : ¬ (!phr.valid || phr.len == 0 || decide (2047 < phr.len) ||
      !(profType x.entry != 3 || profByte x.entry 17 / 2 ^ phr.mcs % 2 == 1)) = true := by
    rcases htype with h | h
    · simp [hvalid, hlen, hlen', h]
    · simp [hvalid, hlen, hlen', hmcs h]
  subst hy
  simp only [runPhrEnd, hx, hnone]
  exact (if_neg hgo).trans (if_neg hok)

theorem runPhrEnd_switches {m : Fin 4} {t : State} (htype : profType x.entry = 2) (hswitch : phr.modeSwitch = some m)
    (hindex : profByte x.entry (21 + m.val) < 63) (hloaded : s.profLoaded (profByte x.entry (21 + m.val)) = true)
    (hwidth : profWidth (s.profile (profByte x.entry (21 + m.val))) = profWidth x.entry)
    (ht : t = ctxSearch slot.val (s.setFrame f none)) : runPhrEnd slot phr s =
    t.setDctx slot.val { t.dctx slot.val with msProfile := some (profByte x.entry (21 + m.val)) } := by
  have hsome : (if profType x.entry = 2 ∧ phr.valid = true then phr.modeSwitch else none) = some m :=
    (if_pos ⟨htype, hvalid⟩).trans hswitch
  subst ht
  simp only [runPhrEnd, hx, hsome]
  exact (if_neg (by simp [hstate, htype])).trans (if_neg (by simp [hindex, hloaded, hwidth]))

end

end

/-- Settles O45: each event by the frame that its channel is on and by its guard. -/
theorem demodulatorCommands : Obligations.DemodulatorCommands := by
  unfold Obligations.DemodulatorCommands
  refine ⟨fun slot branchB d s => ⟨?quiet, ?detects⟩, fun slot ea eb hyp pa pb f x s hx hstate => ⟨?divBlank, ?divWait, ?divides⟩,
    fun slot lead power snr sm residual steps f x s hx hstate => ⟨?syncBlank, ?syncLate, ?syncNone, ?syncs⟩,
    fun slot f x s hx => ⟨?timeBlank, ?timeLate, ?frameEnd, ?payload, ?switch⟩, ?modeSwitch⟩
  case quiet =>
    exact fun hd => answer_eq (if_pos (by simp [hd])) rfl
  case detects =>
    intro hd
    obtain ⟨t, x, hrun, hrest⟩ := runPreambleDetect_detects hd
    exact ⟨t, x, answer_sameQueue hrun, hrest⟩
  case divBlank =>
    exact fun hblank => answer_sameQueue (runDiversityDecision_blanked hx hstate hblank)
  case divWait =>
    exact fun hclear hwait => answer_eq (runDiversityDecision_waits hx hstate hclear hwait) rfl
  case divides =>
    exact fun hclear hdue hhyp toB other u c m htoB hother hu hc hm =>
      answer_sameQueue (runDiversityDecision_decides hx hstate hclear hdue hhyp htoB hother hu hc hm)
  case syncBlank =>
    exact fun hblank => answer_sameQueue (runSyncEnd_blanked hx hstate hblank)
  case syncLate =>
    exact fun hclear hlate => answer_sameQueue (runSyncEnd_late hx hstate hclear hlate)
  case syncNone =>
    exact fun hclear htime htier => answer_eq (runSyncEnd_none hx hstate hclear htime htier) rfl
  case syncs =>
    exact fun tier rssi pre y t u hclear htime htier hpre hrssi hy ht hu =>
      answer_sameQueue (runSyncEnd_syncs hx hstate hclear htime htier hpre hrssi hy ht hu)
  case timeBlank =>
    exact fun hstate hblank => answer_sameQueue (runSyncTimeout_blanked hx hstate hblank)
  case timeLate =>
    exact fun hstate hclear hlate => answer_sameQueue (runSyncTimeout_late hx hstate hclear hlate)
  case frameEnd =>
    intro offset soft y t hstate hy ht
    have hrun := runRxFrameEnd_ends (soft := soft) hx hstate hy ht
    exact ⟨fun htype => answer_sameQueue (hrun.trans (if_pos htype)),
      fun htype => answer_sameQueue (hrun.trans (if_neg htype))⟩
  case payload =>
    exact fun phr y hstate htype hvalid hstay hmcs hlen hlen' hy =>
      answer_sameQueue (runPhrEnd_payload hx hstate hvalid htype hstay hmcs hlen hlen' hy)
  case switch =>
    exact fun phr m t hstate htype hvalid hswitch hindex hloaded hwidth ht =>
      answer_sameQueue (runPhrEnd_switches hx hstate hvalid htype hswitch hindex hloaded hwidth ht)
  case modeSwitch =>
    intro slot s hidle c hc
    subst hc
    exact answer_sameQueue (if_pos (by simp [hidle]))

end Sys2Proof.Machine

/-! The decoder pool: jobs, decoders, retained code words and the order of the jobs (R163 to R176). -/

namespace Sys2Proof.Machine

open Sys2Proof.Claims

/-! ### Jobs that become ready -/

section
variable {slot : Fin 256} {b : SoftBlock} {f : Nat} {x : RxFrame} {s t : State}
  (hx : s.awaiting slot.val = some (f, x)) (htype : profType x.entry = 1)
include hx htype

section
variable (ht : t = dfeAdapt x.slot x.entry b.steps s) (hphr : x.phrJob = true)
include ht hphr

theorem runLdpcJobReady_payload (hdone : x.phrDone = true)
    (hdue : s.softAt x (x.codewordAt x.jobs).1 (x.codewordAt x.jobs).2 ≤ s.now) :
    runLdpcJobReady slot b s = payloadReady f (softValues b.llr) t := by
  subst ht
  simp only [runLdpcJobReady, hx]
  exact (if_neg (Classical.not_not.2 htype)).trans ((if_neg (by simp [hphr])).trans ((if_neg (by simp [hdone])).trans
    (if_neg (Nat.not_lt.2 hdue))))

theorem runLdpcJobReady_holds {y : RxFrame} (hwait : x.phrDone = false)
    (hy : y = { x with holding := x.holding ++ [softValues b.llr] }) : runLdpcJobReady slot b s =
    if 8192 < holdingSize y then dropFrame slot.val f oLost t else t.setFrame f (some y) := by
  subst ht hy
  simp only [runLdpcJobReady, hx]
  exact (if_neg (Classical.not_not.2 htype)).trans ((if_neg (by simp [hphr])).trans (if_pos (by simp [hwait])))

end

/-- A job joins the queue, or its frame is dropped where the queue is full. -/
def takeJob (n f : Nat) (j : Job) (s : State) : State :=
  match queueJob j s with
  | some t => t
  | none => dropFrame n f oOverload (s.count F.LDP_CNT_FAIL_OVERLOAD 1)

theorem runLdpcJobReady_phr {u : State} {j : Job} (hnew : x.phrJob = false) (hdue : s.softAt x 0 360 ≤ s.now)
    (hu : u = dfeAdapt x.slot x.entry b.steps (s.setFrame f (some { x with phrJob := true })))
    (hj : j = ⟨f, true, u.now, x.slot, 0, insertFill 288 216 (combine 360 [] (u.erase x 0 360 (softValues b.llr))), false, 0,
      x.entry⟩) : runLdpcJobReady slot b s = takeJob slot.val f j u := by
  subst hj hu
  simp only [runLdpcJobReady, hx]
  exact (if_neg (Classical.not_not.2 htype)).trans ((if_pos (by simp [hnew])).trans (if_neg (Nat.not_lt.2 hdue)))

end

/-! ### Decoders -/

theorem runLdpcJobStart_starts {j : Job} {d : Nat} {s : State} (hj : nextJob s.demod.queue = some j)
    (hd : (List.range 8).find? (fun d => (s.decoder d).isNone) = some d) : runLdpcJobStart s = { s with
      demod.queue := s.demod.queue.erase j,
      demod.decoders := s.demod.decoders.set none d (some ⟨j, s.iterCap j.entry, s.now⟩) } := by
  simp only [runLdpcJobStart, hj, hd]
  rfl

/-- The fill of a job's code word, by the frame that it is of. -/
def jobFill (j : Job) (s : State) : Nat :=
  match s.frame j.frame with
  | some x => fillOf x.len x.rate x.long j.idx
  | none => 0

section
variable {decoder : Fin 8} {d : Decoder} {s t u : State} (hd : s.decoder decoder.val = some d)
  (hdue : d.start + jobTicks d.job (decodeJob d.job d.cap).1 ≤ s.now)
  (ht : t = ({ s with demod.decoders := s.demod.decoders.set none decoder.val none }).wrapCount
    F.LDP_CNT_ITER_ITERATIONS (decodeJob d.job d.cap).1)
  (hu : u = if (decodeJob d.job d.cap).2.1 = true then t.wrapCount F.LDP_CNT_CW_COUNT 1
    else t.count F.LDP_CNT_FAIL_FAIL 1)
include hd hdue ht hu

theorem runLdpcJobDone_phr (hphr : d.job.phr = true) : runLdpcJobDone decoder s =
    phrResult d.job.frame (decodeJob d.job d.cap).2.1 (decodeJob d.job d.cap).1 (decodeJob d.job d.cap).2.2 u := by
  subst hu ht
  simp only [runLdpcJobDone, hd]
  exact (if_neg (Nat.not_lt.2 hdue)).trans (if_pos hphr)

theorem runLdpcJobDone_fails (hpayload : d.job.phr = false) (hfail : (decodeJob d.job d.cap).2.1 = false) :
    runLdpcJobDone decoder s = addResult d.job.frame ⟨d.job.idx, false, (decodeJob d.job d.cap).1,
      (decodeJob d.job d.cap).2.2.take (infoBits d.job.long d.job.rate - jobFill d.job u)⟩ oDecFail u := by
  rw [runLdpcJobDone, hd]
  dsimp only at ht ⊢
  rw [if_neg (Nat.not_lt.2 hdue), ← ht, ← hu, if_neg (Bool.eq_false_iff.1 hpayload), hfail,
    if_neg Bool.false_ne_true]
  rfl

end

/-! ### Retained code words -/

theorem runSpillRestore_restores {id : Nat} {e : CombEntry} {s t : State} {back : List CombEntry}
    (he : s.demod.comb.find? (fun e => e.shortId == id && e.spilled && e.frame.isSome) = some e)
    (ht : t = makeRoom (sumOf ((s.demod.comb.filter (fun o => e.mate o)).map CombEntry.units)) s.demod.comb.length s)
    (hback : back = t.demod.comb.map (fun (o : CombEntry) => if e.mate o then { o with spilled := false } else o)) :
    runSpillRestore id s =
      if t.combUnits + sumOf ((s.demod.comb.filter (fun o => e.mate o)).map CombEntry.units) ≤ 32768 then
        { t with demod.comb := back } else dropComb e t := by
  subst hback ht
  simp only [runSpillRestore, he]

/-! ### The order of the jobs -/

/-- A job comes before another as a PHR job before a payload's, and among like jobs as the one that was ready first. -/
def NotAfter (j k : Job) : Prop := (k.phr = true → j.phr = true) ∧ (k.phr = j.phr → j.ready ≤ k.ready)

theorem NotAfter.refl (j : Job) : NotAfter j j := ⟨id, fun _ => Nat.le_refl _⟩

theorem NotAfter.trans {i j k : Job} (hij : NotAfter i j) (hjk : NotAfter j k) : NotAfter i k := by
  obtain ⟨hphr, hready⟩ := hij
  obtain ⟨hphr', hready'⟩ := hjk
  refine ⟨hphr ∘ hphr', fun heq => ?_⟩
  have hj : j.phr = i.phr := by
    cases hi : i.phr with
    | false => exact Bool.eq_false_iff.2 fun h => absurd (hphr h) (Bool.eq_false_iff.1 hi)
    | true => exact hphr' (heq.trans hi)
  exact Nat.le_trans (hready hj) (hready' (heq.trans hj.symm))

theorem notAfter_of_before {j k : Job} (h : j.before k = true) : NotAfter j k := by
  unfold Job.before at h
  split at h
  · next hne =>
    exact ⟨fun _ => h, fun heq => absurd heq.symm (by simpa using hne)⟩
  · next heq =>
    have heq : j.phr = k.phr := by simpa using heq
    refine ⟨fun hk => heq.trans hk, fun _ => ?_⟩
    split at h
    · exact Nat.le_of_lt (of_decide_eq_true h)
    · next hready => exact Nat.le_of_eq (Classical.not_not.1 hready)

theorem notAfter_of_not_before {j k : Job} (h : j.before k = false) : NotAfter k j := by
  unfold Job.before at h
  split at h
  · next hne =>
    have hk : k.phr = true := by simpa [h] using hne
    exact ⟨fun _ => hk, fun heq => absurd (heq.symm.trans h) (by simp [← heq, h] at hk)⟩
  · next heq =>
    have heq : j.phr = k.phr := by simpa using heq
    refine ⟨fun hj => heq.symm.trans hj, fun _ => ?_⟩
    split at h
    · exact Nat.not_lt.1 (of_decide_eq_false h)
    · next hready => exact Nat.le_of_eq (Classical.not_not.1 hready).symm

theorem nextJob_eq_none {l : List Job} (h : nextJob l = none) : l = [] := by
  cases l with
  | nil => rfl
  | cons i l =>
    rw [nextJob] at h
    split at h
    · exact absurd h (Option.some_ne_none _)
    · split at h <;> exact absurd h (Option.some_ne_none _)

/-- The job taken is one of the list that comes after no other of it. -/
theorem nextJob_first {l : List Job} {j : Job} (h : nextJob l = some j) : j ∈ l ∧ ∀ k ∈ l, NotAfter j k := by
  induction l generalizing j with
  | nil => exact absurd h.symm (Option.some_ne_none _)
  | cons i l ih =>
    rw [nextJob] at h
    split at h
    · next hnone =>
      obtain rfl := Option.some.inj h
      rw [nextJob_eq_none hnone]
      exact ⟨List.mem_singleton_self _, fun k hk => List.mem_singleton.1 hk ▸ NotAfter.refl _⟩
    · next m hm =>
      obtain ⟨hmem, hfirst⟩ := ih hm
      split at h
      · next hbefore =>
        obtain rfl := Option.some.inj h
        refine ⟨List.mem_cons_self, List.forall_mem_cons.2 ⟨NotAfter.refl _, fun k hk => ?_⟩⟩
        exact (notAfter_of_before hbefore).trans (hfirst k hk)
      · next hafter =>
        obtain rfl := Option.some.inj h
        exact ⟨List.mem_cons_of_mem _ hmem, List.forall_mem_cons.2
          ⟨notAfter_of_not_before (Bool.eq_false_iff.2 hafter), hfirst⟩⟩

/-- Settles O46: each event by its branch, the order of the jobs by induction over the list. -/
theorem decoderCommands : Obligations.DecoderCommands := by
  unfold Obligations.DecoderCommands
  refine ⟨⟨fun slot b f x s t hx htype ht => ⟨?payload, ?holds, ?phr⟩, ?start, fun decoder d s t u hd hdue ht hu => ⟨?phrDone, ?fails⟩,
    fun id s => answer_eq rfl rfl, ?restore⟩, fun l j hj => nextJob_first hj⟩
  case payload =>
    exact fun hphr hdone hdue' => answer_sameQueue (runLdpcJobReady_payload hx htype ht hphr hdone hdue')
  case holds =>
    exact fun y hphr hwait hy => answer_sameQueue (runLdpcJobReady_holds hx htype ht hphr hwait hy)
  case phr =>
    exact fun u j hnew hdue' hu hj => answer_sameQueue (runLdpcJobReady_phr hx htype hnew hdue' hu hj)
  case start =>
    exact fun j d s hj hd => answer_eq (runLdpcJobStart_starts hj hd) rfl
  case phrDone =>
    exact fun hphr => answer_sameQueue (runLdpcJobDone_phr hd hdue ht hu hphr)
  case fails =>
    intro fill hpayload hfail hfill
    have hfill : fill = jobFill d.job u := hfill
    rw [hfill]
    exact answer_sameQueue (runLdpcJobDone_fails hd hdue ht hu hpayload hfail)
  case restore =>
    exact fun id e s t he ht back hback => answer_sameQueue (runSpillRestore_restores he ht hback)

end Sys2Proof.Machine

/-! Medium access packets (R185 to R210, R218). -/

namespace Sys2Proof.Machine

open Sys2Proof.Claims

theorem withAlmanac_eq {p : Packet} {act : Almanac → State → State} {s : State} {a : Almanac} (h : s.almanac = some a) :
    withAlmanac p act s = act a s := by
  rw [withAlmanac, h]

section
variable {p : Packet} {s : State}

/-! ### The Almanac, its herald and its maps -/

theorem opMacAlmanacSet_sets {a : Almanac} (hflag : p.u8 0 ≤ 1) (hslot : 1 ≤ p.u8 1) (hslot' : p.u8 1 ≤ 200)
    (hclean : p.dirty 5 3 = false) (hclean' : p.dirty 24 8 = false) (hofs : p.u16 12 * 1200 < p.u8 1 * 150000)
    (hturn : 50 ≤ p.u16 14) (hturn' : p.u16 14 ≤ 2000) (hswap : s.almanacRuns = true → p.bit 0 0 = true)
    (htime : s.now + 2 * (p.u8 1 * 150000) ≤ p.u64 16) (hidle : s.mac.nextAlmanac = none)
    (ha : a = { slotLen := p.u8 1, roundsM1 := p.u16 2, baseSeed := p.u8 4, epoch0 := p.u32 8, evOfs := p.u16 12,
                ackTurn := p.u16 14, start := p.u64 16, cmd := some s.interp.nextSeq }) :
    opMacAlmanacSet p s = planHerald { (defer p s).2 with mac.nextAlmanac := some a } := by
  have hslot0 : p.u8 1 ≠ 0 := by omega
  have hswap' : (s.almanacRuns && !p.bit 0 0) = false := by simpa using hswap
  subst ha
  rw [opMacAlmanacSet]
  dsimp only
  rw [checked_acts (by
    simp only [firstFail_cons_eq_none, hclean, hclean', hidle, hswap']
    simp [hflag, hslot0, hslot', hofs, hturn, hturn', htime])]
  rfl

theorem opMacHeraldSet_sets {a : Almanac} {e : Nat} {cfg : Word} {h : HeraldSet} (hset : 1 ≤ p.u8 0) (hset' : p.u8 0 ≤ 16)
    (hflags : p.u8 1 ≤ 3) (hprof : p.u8 2 ≤ 62) (hloaded : s.profLoaded (p.u8 2) = true) (hmcs : p.u8 3 ≤ 3)
    (htype : p.u8 3 = 0 ∨ profType (s.profile (p.u8 2)) = 1) (hdrive : p.u8 4 ≤ 64) (hbit : p.u8 5 ≤ 1)
    (hclean : p.dirty 6 2 = false) (ha : s.almanac = some a) (hnamed : p.u32 8 ≠ 0 → e = p.u32 8)
    (hnext : p.u32 8 = 0 → s.almanacRuns = true → e = (a.epochOf (s.roundOf s.now) + 1) % 2 ^ 32)
    (hfirst : p.u32 8 = 0 → s.almanacRuns = false → e = a.epoch0) (htime : s.epochLate a e = false)
    (hcfg : cfg = BitVec.ofNat 32 (p.u8 1 * 2 ^ 30 + p.u8 2 * 2 ^ 24 + p.u8 3 * 2 ^ 22 + p.u8 5 * 2 ^ 21 +
      (p.u8 0 - 1) * 2 ^ 17 + p.u8 4 * 2 ^ 10))
    (hh : h = ⟨e, cfg, (List.range 4).map (fun k => BitVec.ofNat 32 (p.u32 (12 + 4 * k)))⟩) :
    opMacHeraldSet p s = reply p St.OK [] (planHerald { s with mac.heraldPend := some h }) := by
  have hset0 : p.u8 0 ≠ 0 := by omega
  have he : (if p.u32 8 ≠ 0 then p.u32 8
      else if s.almanacRuns then (a.epochOf (s.roundOf s.now) + 1) % 2 ^ 32 else a.epoch0) = e := by
    split
    · next h0 => exact (hnamed h0).symm
    · next h0 =>
      split
      · next hruns => exact (hnext (Classical.not_not.1 h0) hruns).symm
      · next hruns => exact (hfirst (Classical.not_not.1 h0) (Bool.eq_false_iff.2 hruns)).symm
  have htype' : (p.u8 3 != 0 && profType (s.profile (p.u8 2)) != 1) = false := by
    rcases htype with h | h <;> simp [h]
  subst hh hcfg
  rw [opMacHeraldSet]
  dsimp only
  rw [checked_acts (by
    simp only [firstFail_cons_eq_none, hclean, hloaded, htype']
    simp [hset0, hset', hflags, hprof, hmcs, hdrive, hbit]), withAlmanac_eq ha, he, if_neg (Bool.eq_false_iff.1 htime), done]

theorem opMacChmapSet_sets {a : Almanac} (hindex : p.u8 0 ≤ 63) (hclean : p.dirty 1 3 = false)
    (howner : fromCores p = true ∨ s.frozen (s.mapEnv (p.u8 0)) = true)
    (hmap : BitVec.ofNat 256 (leNat (p.bytes 8 32)) ≠ 0) (ha : s.almanac = some a)
    (htime : s.epochLate a (s.epochNamed a (p.u32 4)) = false) : opMacChmapSet p s =
    reply p St.OK [] (scheduleMap (p.u8 0) (s.epochNamed a (p.u32 4)) (BitVec.ofNat 256 (leNat (p.bytes 8 32)))
      { s with sched.removed := s.sched.removed.set 0 (p.u8 0) 0 }) := by
  have howner' : (!fromCores p && !s.frozen (s.mapEnv (p.u8 0))) = false := by
    rcases howner with h | h <;> simp [h]
  have hmap' : (BitVec.ofNat 256 (leNat (p.bytes 8 32)) == 0) = false := beq_eq_false_iff_ne.2 hmap
  rw [opMacChmapSet]
  dsimp only
  rw [checked_acts (by
    simp only [firstFail_cons_eq_none, hclean, howner', hmap']
    simp [hindex]), withAlmanac_eq ha, if_neg (Bool.eq_false_iff.1 htime), done]

/-! ### Nodes -/

section
variable (hid : p.u32 0 ≠ 0) (hid' : p.u32 0 < broadcastId)
include hid hid'

section
variable {a : Assoc} (ha : a = Assoc.ofBytes p.params) (hmap : a.chmap ≤ 63) (htier : a.tier ≤ 3) (hprof : a.profile ≤ 62)
  (hclean : p.dirty 11 1 = false) (hclean' : p.dirty 14 2 = false) (hclean'' : p.dirty 28 4 = false)
  (hruns : s.almanacRuns = true) (howned : s.schedOwned p (p.u32 0) a = false) (hgood : s.assocBad a = false)
  (htime : s.tooLate a.anchor = false)
include ha hmap htier hprof hclean hclean' hclean'' hruns howned hgood htime

theorem opMacAssocSet_sets (hfree : s.nodeState (p.u32 0) ≠ nsFree)
    (hback : s.nodeState (p.u32 0) = nsHandedOff → fromCores p = true) : opMacAssocSet p s = reply p St.OK []
      (if s.nodeState (p.u32 0) = nsLearned ∨ s.nodeState (p.u32 0) = nsLapsed then nodeJoin (p.u32 0) a s
       else if s.nodeState (p.u32 0) = nsHandedOff then nodeBack (p.u32 0) a s
       else if (s.eventOf (p.u32 0)).isSome then
         { s with mac.assocPend := s.mac.assocPend.set none (p.u32 0) (some p.params) }
       else writeAssoc (p.u32 0) a s) := by
  have hstate : (s.nodeState (p.u32 0) == nsFree || (s.nodeState (p.u32 0) == nsHandedOff && !fromCores p)) = false := by
    simpa [hfree] using hback
  subst ha
  rw [opMacAssocSet]
  dsimp only
  rw [checked_acts (by
    simp only [firstFail_cons_eq_none, hclean, hclean', hclean'', hruns, hstate, howned, hgood, htime]
    simp [hid, hid', hmap, htier, hprof]), done]

end

section
variable (hon : onWheel (s.nodeState (p.u32 0)) = true)
include hon

theorem opMacAssocDrop_drops (hidle : s.eventOf (p.u32 0) = none) :
    opMacAssocDrop p s = reply p St.OK [] (nodeLapse (p.u32 0) 1 (s.nodeLane (p.u32 0)) s) := by
  rw [opMacAssocDrop]
  dsimp only
  rw [checked_acts (by simp [firstFail_cons_eq_none, hid, hid', hon]), hidle]
  rfl

theorem opMacAssocDrop_waits {e : RxEvent} {l : List (Nat × Nat)} (he : s.eventOf (p.u32 0) = some e)
    (hl : l = s.mac.dropPend ++ [(p.u32 0, s.interp.nextSeq)]) :
    opMacAssocDrop p s = { (defer p s).2 with mac.dropPend := l } := by
  subst hl
  rw [opMacAssocDrop]
  dsimp only
  rw [checked_acts (by simp [firstFail_cons_eq_none, hid, hid', hon]), he]
  rfl

theorem opMacNodeTiming_tells {w : Window} {ch kind lo hi : Nat} (hruns : s.almanacRuns = true)
    (hw : w = s.window (p.u32 0))
    (hwait : s.delivered.find? (fun e => e.node == p.u32 0 && !e.shadow) = none →
      ch = s.hopOf (p.u32 0) ∧ kind = w.kind ∧ lo = w.lo ∧ hi = w.hi)
    (hevent : ∀ e, s.delivered.find? (fun e => e.node == p.u32 0 && !e.shadow) = some e →
      ch = e.ch ∧ kind = e.kind ∧ lo = e.lo ∧ hi = e.hi) : opMacNodeTiming p s = reply p St.OK
    (leBytes 1 (s.nodeState (p.u32 0)) ++ leBytes 1 (s.nf (p.u32 0) N.MISS_CNT) ++ leBytes 2 (s.nf (p.u32 0) N.EVENT_CTR) ++
      leBytes 1 ch ++ leBytes 1 kind ++ leBytes 2 0 ++ leBytes 8 (s.nf (p.u32 0) N.ANCHOR) ++ leBytes 8 lo ++ leBytes 8 hi ++
      leBytes 4 w.g ++ leBytes 4 w.u) s := by
  subst hw
  rw [opMacNodeTiming]
  dsimp only
  rw [checked_acts (by simp [firstFail_cons_eq_none, hid, hid', hon, hruns])]
  cases hfind : s.delivered.find? (fun e => e.node == p.u32 0 && !e.shadow) with
  | none =>
    obtain ⟨rfl, rfl, rfl, rfl⟩ := hwait hfind
    rfl
  | some e =>
    obtain ⟨rfl, rfl, rfl, rfl⟩ := hevent e hfind
    rfl

end

end

theorem opMacTimingSet_sets (hg : 1200 ≤ p.u16 0) (halpha : 1 ≤ p.u8 2) (halpha' : p.u8 2 ≤ 6) (hmax : 1 ≤ p.u16 4)
    (hmin : p.u16 6 ≤ p.u16 4) (hclean : p.dirty 8 4 = false) : opMacTimingSet p s = reply p St.OK []
    (reWindow (((((s.setFld F.MAC_DRIFT_CFG_G_MIN (p.u16 0)).setFld F.MAC_DRIFT_CFG_ALPHA_SH (p.u8 2)).setFld
      F.MAC_DRIFT_CFG_CORR_MIN (p.u8 3)).setFld F.MAC_DRIFT_U_U_MAX (p.u16 4)).setFld F.MAC_DRIFT_U_U_MIN (p.u16 6))) := by
  have halpha0 : p.u8 2 ≠ 0 := by omega
  have hmax0 : p.u16 4 ≠ 0 := by omega
  exact checked_acts (by simp [firstFail_cons_eq_none, hg, halpha0, halpha', hmax0, hmin, hclean])

/-! ### The airtime ledgers -/

section
variable (hclean : p.dirty 2 2 = false)
include hclean

theorem opMacLedgerRead_feast {i cur : Nat} {b : Band} {t : State} (hkind : p.u8 0 = 0) (hi : i = p.u8 1) (hi' : i ≤ 15)
    (hcur : cur = s.now / 120000000 + feastBase) (hb : b = s.band i) (ht : t = feastVoteRange i (cur + 1 - b.dutyWin) cur s) :
    opMacLedgerRead p s = reply p St.OK
      (ledgerReply (s.now / 120000000) (if b.valid && b.feast then b.dutyPpm * b.dutyWin else 0xFFFFFFFF)
        (if b.valid && b.feast then b.dutyWin else 0)
        (if b.valid && b.feast then t.feastSum i (cur + 1 - b.dutyWin) cur else 0) (t.feastVoted (feastKey i cur))) t := by
  have hsec : feastSec s.now - feastBase = s.now / 120000000 := Nat.add_sub_cancel ..
  have hcur' : feastSec s.now = cur := hcur.symm
  rw [opMacLedgerRead]
  dsimp only
  rw [← hi, checked_acts (by simp [firstFail_cons_eq_none, hkind, hi', hclean]), if_pos hkind, hsec, hcur', ← hb, ← ht, done]

section
variable (hkind : p.u8 0 = 1)
include hkind

theorem opMacLedgerRead_dwell {i wd ms cur : Nat} {eff : Effective} {d : DwellLedger} (hi : i = p.u8 1)
    (heff : s.channelEff i = some eff) (hdwell : eff.dwell = some (ms, wd))
    (hd : d = (s.dwellOf i).rebuild ms wd s.now) (hcur : cur = s.now / dwellWidth wd + dwellBase) :
    opMacLedgerRead p s = reply p St.OK (ledgerReply (s.now / dwellWidth wd) (ms * 1000) wd
      (d.run (ms * 1000) (cur - 32)) (d.read (ms * 1000) cur)) (s.setDwell i d) := by
  have hsec : dwellSec wd s.now - dwellBase = s.now / dwellWidth wd := Nat.add_sub_cancel ..
  have hnow : (s.setDwell i d).now = s.now := rfl
  have hback : (s.setDwell i d).dwellOf i = d := Sparse.get_set_same ..
  have hcur' : dwellSec wd s.now = cur := hcur.symm
  rw [opMacLedgerRead]
  dsimp only
  rw [← hi, checked_acts (by simp [hkind, hclean]), if_neg (by simp [hkind]), heff]
  dsimp only
  rw [hdwell]
  dsimp only
  rw [← hd, hback, hnow, hsec, hcur', done]

theorem opMacLedgerRead_free {i : Nat} {d : DwellLedger} (hi : i = p.u8 1)
    (hnone : s.channelEff i = none ∨ ∃ eff, s.channelEff i = some eff ∧ eff.dwell = none) (hd : d = s.dwellOf i) :
    opMacLedgerRead p s = reply p St.OK (ledgerReply (s.now / dwellWidth d.wd) 0xFFFFFFFF 0 (d.held s.now)
      (d.read (d.ms * 1000) (dwellSec d.wd s.now))) s := by
  have hsec : dwellSec d.wd s.now - dwellBase = s.now / dwellWidth d.wd := Nat.add_sub_cancel ..
  rw [opMacLedgerRead]
  dsimp only
  rw [← hi, checked_acts (by simp [hkind, hclean]), if_neg (by simp [hkind])]
  rcases hnone with h | ⟨eff, h, hdwell⟩
  · rw [h]
    dsimp only
    rw [← hd, hsec, done]
  · rw [h]
    dsimp only
    rw [hdwell]
    dsimp only
    rw [← hd, hsec, done]

end

end

end

end Sys2Proof.Machine

/-! Medium access as time brings it: the Almanac, epochs, rounds, lanes and the events of the nodes (R185 to R214). -/

namespace Sys2Proof.Machine

open Sys2Proof.Claims

/-- What every step of a fold keeps, the fold keeps. -/
theorem foldl_keeps {α β γ : Type} {g : β → γ} {f : β → α → β} (hf : ∀ b a, g (f b a) = g b) (l : List α) (b : β) :
    g (l.foldl f b) = g b := by
  induction l generalizing b with
  | nil => rfl
  | cons a l ih => exact (ih _).trans (hf b a)

/-! ### The Almanac and its rounds -/

section
variable {s : State}

theorem runAlmanacStart_none (hnone : s.mac.nextAlmanac = none) : runAlmanacStart s = s := by
  rw [runAlmanacStart, hnone]

theorem runAlmanacStart_early {a : Almanac} (ha : s.mac.nextAlmanac = some a) (hearly : s.now < a.start) :
    runAlmanacStart s = s := by
  rw [runAlmanacStart, ha]
  exact if_pos hearly

theorem runAlmanacStart_starts {a : Almanac} {x y z : State} (ha : s.mac.nextAlmanac = some a) (hdue : a.start ≤ s.now)
    (hx : x = if s.almanacRuns then s.wheel.foldl (fun s id => nodeLapse id 2 (s.nodeLane id) s) s else s)
    (hsampled : (loadAlmanac a x).mac.feastSampled = true)
    (hy : y = post 39 sevInfo 0x0801 (arg4 a.epoch0 ++ arg8 a.start) (loadAlmanac a x)) (hnone : a.cmd = none → z = y)
    (hsome : ∀ q, a.cmd = some q → z = finishAt a.start q St.OK [] y) :
    runAlmanacStart s = roundBegin (z.roundOf z.now) [] (epochBegin (z.epochOf (z.roundOf z.now)) z) := by
  rw [runAlmanacStart, ha]
  dsimp only
  rw [if_neg (Nat.not_lt.2 hdue), ← hx, if_pos hsampled, ← hy]
  cases hcmd : a.cmd with
  | none => rw [hnone hcmd]
  | some q => rw [hsome q hcmd]

theorem runRoundStart_starts {idle : List (Fin 256 × Int)} {t : State} (hruns : s.almanacRuns = true)
    (hstart : s.almStart ≤ s.now) (hround : s.mac.round ≤ s.roundOf s.now) (ht : t = roundBegin (s.roundOf s.now) idle s) :
    runRoundStart idle s = if t.mac.round = s.mac.round then t else retuneTurn t := by
  have hrun : roundStart idle s = t := (if_neg (by simp [hruns, hstart, hround])).trans ht.symm
  rw [runRoundStart, hrun]

/-! ### Lanes -/

theorem runLaneRun_runs {n : Fin 16} {valid : Bool} {t : State} (hmode : s.inMode [.cold, .quarantine, .ember] = false)
    (ht : t = s.setBit F.LNS_CTL_RUN n.val true) :
    runLaneRun n valid s = t.setLane n.val { t.lane n.val with starting := true, imageValid := valid } := by
  subst ht
  exact if_neg (Bool.eq_false_iff.1 hmode)

/-! ### Events of the nodes -/

theorem mapEvents_sched (n : Nat) (q : RxEvent → Bool) (f : RxEvent → RxEvent) : (mapEvents n q f s).sched = s.sched := rfl

theorem deliverEvent_sched (e : RxEvent) : (deliverEvent e s).sched = s.sched :=
  foldl_keeps (g := State.sched) (fun _ _ => mapEvents_sched ..) _ _

section
variable {node : BitVec 17} {e : RxEvent}

theorem runEventDelivery_delivers (hon : onWheel (s.nodeState node.toNat) = true)
    (hupdate : s.sched.updates.find? (fun u => u.node == node.toNat && u.applied) = none)
    (he : e = s.newEvent node.toNat (s.nf node.toNat N.EVENT_CTR) (s.hopAt node.toNat (s.nf node.toNat N.CHMAP_IDX)
      (s.nf node.toNat N.EVENT_CTR) (s.nf node.toNat N.ANCHOR)) (s.nf node.toNat N.ANCHOR)
      (s.nf node.toNat N.WAKE_INTERVAL) false)
    (hdue : s.deliveryDue node.toNat (s.nf node.toNat N.ANCHOR) false = true) (htime : s.now < e.lo)
    (hended : s.mac.ended.get 0 node.toNat ≤ s.nf node.toNat N.ANCHOR)
    (hcan : s.canDeliver node.toNat (s.hopAt node.toNat (s.nf node.toNat N.CHMAP_IDX) (s.nf node.toNat N.EVENT_CTR)
      (s.nf node.toNat N.ANCHOR)) (s.nf node.toNat N.CHMAP_IDX) (s.nf node.toNat N.ANCHOR) = true) :
    runEventDelivery node s = deliverEvent e s := by
  have hgo : (s.deliveryDue node.toNat (s.nf node.toNat N.ANCHOR) false && decide (s.now < e.lo) &&
      decide (s.mac.ended.get 0 node.toNat ≤ s.nf node.toNat N.ANCHOR) &&
      s.canDeliver node.toNat (s.hopAt node.toNat (s.nf node.toNat N.CHMAP_IDX) (s.nf node.toNat N.EVENT_CTR)
        (s.nf node.toNat N.ANCHOR)) (s.nf node.toNat N.CHMAP_IDX) (s.nf node.toNat N.ANCHOR)) = true := by
    simp [hdue, htime, hended, hcan]
  rw [runEventDelivery]
  dsimp only
  rw [if_neg (by simp [hon]), ← he, if_pos hgo, deliverEvent_sched, hupdate]

theorem runWindowPrepare_prepares {l : Lane} {t : State}
    (he : ((List.range 16).flatMap (fun n => (s.lane n).due)).find? (fun e =>
      e.node == node.toNat && s.prepareAt e ≤ s.now && s.laneRuns (laneOf e.ch)) = some e)
    (hl : l = { s.lane (laneOf e.ch) with
      due := (s.lane (laneOf e.ch)).due.filter (fun y => !y.same e),
      active := (s.lane (laneOf e.ch)).active ++ [{ e with prepared := true }] })
    (ht : t = e.chans.foldl (fun s c => prepareStream e c s) (putLane (laneOf e.ch) l s)) :
    runWindowPrepare node s = laneSettle (laneOf e.ch) (if e.shadow then t else dlqExpire e.node t) := by
  subst ht hl
  rw [runWindowPrepare]
  dsimp only
  rw [he]

theorem runWindowClose_closes
    (he : s.delivered.find? (fun e => e.node == node.toNat && e.prepared && !e.closed && decide (s.windowEnd e ≤ s.now) &&
      e.chans.all (fun c => (s.dctx c).frame.isNone)) = some e) :
    runWindowClose node s = e.chans.foldl (fun s c => settleWindow c s) (editEvent e (fun x => { x with closed := true }) s) := by
  rw [runWindowClose, he]

theorem runEventEnd_ends (he : s.delivered.find? (fun e => e.node == node.toNat && s.eventOver e) = some e) :
    runEventEnd node s = eventFinish e (s.outcome e) s := by
  rw [runEventEnd]
  dsimp only
  rw [he]

theorem runHandoverReverted_reverts {h : Handover} (hh : s.handoverOf node.toNat = some h) (hlost : s.hoLost h = true)
    (hidle : s.eventOf h.node = none) : runHandoverReverted node s = hoRevertTarget h s := by
  rw [runHandoverReverted, hh]
  exact if_pos (by simp [hlost, hidle])

end

end

/-- The states of a node are of one value each. -/
theorem nodeStates_differ : nsLearned ≠ nsFree ∧ nsLapsed ≠ nsFree ∧ nsAssociated ≠ nsFree ∧ nsHandedOff ≠ nsFree ∧
    nsLearned ≠ nsHandedOff ∧ nsLapsed ≠ nsHandedOff ∧ nsAssociated ≠ nsHandedOff ∧
    ¬ (nsAssociated = nsLearned ∨ nsAssociated = nsLapsed) ∧ ¬ (nsHandedOff = nsLearned ∨ nsHandedOff = nsLapsed) := by
  decide

/-- Settles O47: each packet by its checks, each event by its guard. -/
theorem macCommands : Obligations.MacCommands := by
  unfold Obligations.MacCommands
  obtain ⟨hlearnedFree, hlapsedFree, hassocFree, hoffFree, hlearnedOff, hlapsedOff, hassocOff, hassocNew, hoffNew⟩ :=
    nodeStates_differ
  refine ⟨⟨?almanac, ?herald, ?map, ?assoc, ?drop, ?timing, ?settings, fun p s h hclean => ⟨?feast, ?dwell, ?free⟩⟩,
    fun s => ⟨?noNext, ?early, ?starts⟩, ?epoch, ?round, ?laneRun, ?laneFault, ?deliver, ?prepare, ?closes, ?eventEnd, ?revert⟩
  case almanac =>
    intro p s h hflag hslot hslot' hclean hclean' hofs hturn hturn' hswap htime hidle a ha
    exact served_sameQueue h (opMacAlmanacSet_sets (p := asOp 0x4001 p) hflag hslot hslot' hclean hclean' hofs hturn
      hturn' hswap htime hidle ha)
  case herald =>
    intro p s a e cfg h hs hset hset' hflags hprof hloaded hmcs htype hdrive hbit hclean ha hnamed hnext hfirst htime hcfg hh
    exact served_sameQueue hs (opMacHeraldSet_sets (p := asOp 0x4002 p) hset hset' hflags hprof hloaded hmcs htype hdrive
      hbit hclean ha hnamed hnext hfirst htime hcfg hh)
  case map =>
    exact fun p s a h hindex hclean howner hmap ha htime =>
      served_sameQueue h (opMacChmapSet_sets (p := asOp 0x4003 p) hindex hclean howner hmap ha htime)
  case assoc =>
    intro p s a h ha hid hid' hmap htier hprof hclean hclean' hclean'' hruns howned hgood htime
    have hrun := opMacAssocSet_sets (p := asOp 0x4004 p) hid hid' ha hmap htier hprof hclean hclean' hclean'' hruns howned
      hgood htime
    refine ⟨fun hstate => served_sameQueue h ?_, fun hstate hidle => served_sameQueue h ?_,
      fun e hstate he => served_sameQueue h ?_, fun hstate hcores => served_sameQueue h ?_⟩
    · have hnot : s.nodeState (p.u32 0) ≠ nsFree ∧ s.nodeState (p.u32 0) ≠ nsHandedOff := by
        rcases hstate with h | h
        · exact h ▸ ⟨hlearnedFree, hlearnedOff⟩
        · exact h ▸ ⟨hlapsedFree, hlapsedOff⟩
      exact (hrun hnot.1 fun hoff => absurd hoff hnot.2).trans (congrArg (reply _ St.OK []) (if_pos hstate))
    · refine (hrun (hstate ▸ hassocFree) fun hoff => absurd (hstate.symm.trans hoff) hassocOff).trans
        (congrArg (reply _ St.OK []) ?_)
      exact (if_neg (hstate ▸ hassocNew)).trans ((if_neg (hstate ▸ hassocOff)).trans (if_neg (by simp [hidle])))
    · refine (hrun (hstate ▸ hassocFree) fun hoff => absurd (hstate.symm.trans hoff) hassocOff).trans
        (congrArg (reply _ St.OK []) ?_)
      exact (if_neg (hstate ▸ hassocNew)).trans ((if_neg (hstate ▸ hassocOff)).trans (if_pos (by simp [he])))
    · exact (hrun (hstate ▸ hoffFree) fun _ => hcores).trans (congrArg (reply _ St.OK [])
        ((if_neg (hstate ▸ hoffNew)).trans (if_pos hstate)))
  case drop =>
    exact fun p s h hid hid' hon => ⟨fun hidle => served_sameQueue h (opMacAssocDrop_drops hid hid' hon hidle),
      fun e l he hl => served_next h (opMacAssocDrop_waits (p := asOp 0x4005 p) hid hid' hon he hl) rfl⟩
  case timing =>
    exact fun p s w ch kind lo hi h hid hid' hruns hon hw hwait hevent => served_next h
      (opMacNodeTiming_tells (p := asOp 0x4006 p) hid hid' hon hruns hw hwait hevent) (reply_pending ..)
  case settings =>
    exact fun p s h hg halpha halpha' hmax hmin hclean =>
      served_sameQueue h (opMacTimingSet_sets hg halpha halpha' hmax hmin hclean)
  case feast =>
    exact fun i cur b t hkind hi hi' hcur hb ht => served_sameQueue h
      (opMacLedgerRead_feast (p := asOp 0x4008 p) hclean hkind hi hi' hcur hb ht)
  case dwell =>
    exact fun i wd ms cur eff d hkind hi heff hdwell hd hcur => served_sameQueue h
      (opMacLedgerRead_dwell (p := asOp 0x4008 p) hclean hkind hi heff hdwell hd hcur)
  case free =>
    exact fun i d hkind hi hnone hd => served_sameQueue h
      (opMacLedgerRead_free (p := asOp 0x4008 p) hclean hkind hi hnone hd)
  case noNext =>
    exact fun hnone => answer_eq (runAlmanacStart_none hnone) rfl
  case early =>
    exact fun a ha hearly => answer_eq (runAlmanacStart_early ha hearly) rfl
  case starts =>
    exact fun a x y z ha hdue hx hsampled hy hnone hsome =>
      answer_sameQueue (runAlmanacStart_starts ha hdue hx hsampled hy hnone hsome)
  case epoch =>
    exact fun s hdue => answer_sameQueue (if_pos hdue)
  case round =>
    exact fun idle s t hruns hstart hround ht => answer_sameQueue (runRoundStart_starts hruns hstart hround ht)
  case laneRun =>
    exact fun n valid s t hmode ht => answer_eq (runLaneRun_runs hmode ht) (by rw [ht]; rfl)
  case laneFault =>
    exact fun n code s hruns => answer_sameQueue (if_neg (by simp [hruns]))
  case deliver =>
    intro node s e hon hupdate he hdue htime hended hcan
    subst he
    exact answer_sameQueue (runEventDelivery_delivers hon hupdate rfl hdue htime hended hcan)
  case prepare =>
    exact fun node s t e l he hl ht => answer_sameQueue (runWindowPrepare_prepares he hl ht)
  case closes =>
    exact fun node s e he => answer_sameQueue (runWindowClose_closes he)
  case eventEnd =>
    exact fun node s e he => answer_sameQueue (runEventEnd_ends he)
  case revert =>
    exact fun node s h hh hlost hidle => answer_sameQueue (runHandoverReverted_reverts hh hlost hidle)

end Sys2Proof.Machine

/-! The scheduler: its reviews at their times (R220 to R249). -/

namespace Sys2Proof.Machine

open Sys2Proof.Claims

section
variable {s : State} (hactive : s.schedActive = true)
include hactive

theorem runPlanReview_reviews (hdue : s.sched.plans < s.reviewsDue 72000000000) : runPlanReview s =
    if s.sched.thermal = tsCritical then { s with sched.plans := s.reviewsDue 72000000000 }
    else planReview { s with sched.plans := s.reviewsDue 72000000000 } :=
  if_neg (by simp [hactive, hdue])

section
variable {short busy : Bool} {t u : State} (hdue : s.sched.loads < s.reviewsDue 120000000)
  (hshort : short = decide (s.sched.lastDivShort < s.fld F.CHZ_CNT_DIV_SHORT))
  (hbusy : busy = true ↔ 96 ≤ s.sched.queuePeak ∨ short = true ∨
    ∃ x, s.demod.overloadLim.last = some x ∧ s.sched.serviceAt + s.sched.loads * 120000000 ≤ x)
  (ht : t = reviewThermal { s with sched.loads := s.reviewsDue 120000000 })
  (hu : u = reviewMaps false ((if busy then spreadLoad else id)
    ((if short then relaxDiv else id) (reviewDownlinks (applyOverdue t)))))
include hdue hshort hbusy ht hu

theorem runLoadReview_reviews {v : State}
    (hv : v = if t.sched.thermal = tsCritical then t
      else if u.sched.planDue then planReview { u with sched.planDue := false } else u) :
    runLoadReview s = { v with
      sched.lastDivShort := v.fld F.CHZ_CNT_DIV_SHORT, sched.queuePeak := 0, sched.laneDwell := [], sched.heardIn := [] } := by
  have hload (o : Bool) (ho : o = true ↔
      ∃ x, s.demod.overloadLim.last = some x ∧ s.sched.serviceAt + s.sched.loads * 120000000 ≤ x) :
      (decide (96 ≤ s.sched.queuePeak) || o || short) = busy := by
    rw [Bool.eq_iff_iff, hbusy, ← ho]
    simp only [Bool.or_eq_true, decide_eq_true_eq, or_assoc]
    exact or_congr_right or_comm
  have hrelax (x : State) : (if s.sched.lastDivShort < s.fld F.CHZ_CNT_DIV_SHORT then relaxDiv x else x) =
      (if short then relaxDiv else id) x := by
    rw [hshort]
    by_cases h : s.sched.lastDivShort < s.fld F.CHZ_CNT_DIV_SHORT <;> simp [h]
  have hspread (x : State) : (if busy = true then spreadLoad x else x) = (if busy then spreadLoad else id) x := by
    cases busy <;> rfl
  rw [runLoadReview]
  dsimp only
  rw [if_neg (by simp [hactive, hdue]), ← hshort, ← ht]
  cases hlast : s.demod.overloadLim.last with
  | none =>
    dsimp only
    rw [hload false (by simp [hlast]), hrelax, hspread, ← hu, ← hv]
  | some x =>
    dsimp only
    rw [hload (decide _) (by simp [hlast]), hrelax, hspread, ← hu, ← hv]

end

theorem runChannelReview_reviews {t r u : State} {m : Sparse ChanStats} {l : List Nat}
    (hdue : s.sched.channels < s.reviewsDue 7200000000)
    (ht : t = (List.range 256).foldl (fun s c => reviewChannel c s)
      { s with sched.channels := s.reviewsDue 7200000000, sched.lastChannelReview := s.now })
    (hr : r = if t.sched.thermal = tsCritical then t
      else (List.range 4).foldl (fun s p => reviewStreams p s) (reviewMaps true t))
    (hl : l = (r.sched.summary ++ List.replicate 6 0).take 6)
    (hu : u = post 2 sevInfo 0x0A04 (arg2 (nth l 0) ++ arg2 (nth l 1) ++ arg2 (nth l 2) ++ arg2 (nth l 3) ++
      arg2 (r.sched.committed - nth l 4) ++ arg2 (r.sched.reverted - nth l 5)) r)
    (hm : m = u.sched.chans.foldl (fun (m : Sparse ChanStats) e => m.set ChanStats.empty e.1
      { e.2 with idle := [], heard := 0, miss := 0, divA := 0, divB := 0 }) u.sched.chans) :
    runChannelReview s = { u with sched.summary := [0, 0, 0, 0, u.sched.committed, u.sched.reverted], sched.chans := m } := by
  rw [runChannelReview]
  dsimp only
  rw [if_neg (by simp [hactive, hdue]), ← ht, ← hr, ← hl, ← hu, ← hm]

theorem runNodeReview_reviews {node : BitVec 17} {cs : List Candidate} {x y : NodeStats} {m : Sparse NodeStats}
    (hon : onWheel (s.nodeState node.toNat) = true) (hx : x = s.nodeStat node.toNat)
    (hdue : 16 ≤ x.heardSince ∨ x.reseeded = true)
    (hy : y = { x with heardSince := 0, reseeded := false, reverted := false, candidates := cs.take 4 })
    (hm : m = s.sched.nodes.set NodeStats.empty node.toNat y) : runNodeReview node cs s =
    if s.sched.thermal = tsCritical then { s with sched.nodes := m }
    else reviewSchedule node.toNat (reviewParent node.toNat (reviewPower node.toNat { s with sched.nodes := m })) := by
  have hdue' : (decide (x.heardSince < 16) && !x.reseeded) = false := by
    rcases hdue with h | h
    · rw [decide_eq_false (Nat.not_lt.2 h), Bool.false_and]
    · rw [h, Bool.not_true, Bool.and_false]
  subst hm hy hx
  exact if_neg (by simp only [hactive, hon, hdue']; exact Bool.false_ne_true)

end

end Sys2Proof.Machine

/-! The scheduler's packets and its policy envelope (R220 to R249). -/

namespace Sys2Proof.Machine

open Sys2Proof.Claims

/-! ### The envelope -/

section
variable (s : State)

theorem putEnv_chip {d : Nat} (r : EnvRec) : putEnv d 0 0 r s =
    { s with sched.chipRec := setNth d r ((List.range 8).map s.chipEnv) } := if_pos rfl

theorem chipEnv_putEnv (d : Nat) (r : EnvRec) {e : Nat} (he : e < 8) :
    (putEnv d 0 0 r s).chipEnv e = if d = e then r else s.chipEnv e := by
  rw [putEnv_chip, State.chipEnv, setNth, List.getD_eq_getElem?_getD, List.getElem?_set]
  by_cases hde : d = e
  · subst hde
    simp [he]
  · simp [hde, he]

theorem pairEnv_putEnv_other (d : Nat) (r : EnvRec) {e q : Nat} (he : e < 8) (hne : e ≠ d)
    (hnone : s.sched.pairRec.get none (4 * e + q) = none) : (putEnv d 0 0 r s).pairEnv e q = s.pairEnv e q := by
  have hsame : (putEnv d 0 0 r s).sched.pairRec = s.sched.pairRec := rfl
  rw [State.pairEnv, State.pairEnv, hsame, hnone, chipEnv_putEnv s d r he, if_neg hne.symm]

theorem pairEnv_putEnv_same (d q : Nat) (r : EnvRec) : (putEnv d 1 q r s).pairEnv d q = r := by
  have hset : (putEnv d 1 q r s).sched.pairRec = s.sched.pairRec.set none (4 * d + q) (some r) := rfl
  rw [State.pairEnv, hset, Sparse.get_set_same]
  rfl

end

/-! ### The packets -/

section
variable {p : Packet} {s : State}

section
variable {d kind scope : Nat} (hd : d = p.u8 0) (hscope : scope = p.u32 4)
  (hd' : d ≤ 7) (hkind' : kind ≤ 3) (hok : scopeOk d kind = true) (hrange : scopeRange kind scope = true)
  (hnode : kind = 3 → s.schedNode scope = true)
include hd hscope hd' hkind' hok hrange hnode

theorem opSchedEnvelopeSet_sets {t u : State} {mode : Nat} {mask : BitVec 256} {r : EnvRec} (hmode : mode = p.u8 1)
    (hkind : kind = p.u8 2) (hmask : mask = BitVec.ofNat 256 (leAt p.params 20 32)) (hmode' : mode ≤ 3)
    (hclean : p.dirty 3 1 = false) (hdefault : mode = 3 → kind = 3) (hmaskOnly : d ≠ 2 → p.dirty 20 32 = false)
    (hbounds : mode = 1 → boundsBad d (p.u32 8) (p.u32 12) (p.u32 16) = false ∧
      s.infeasible d kind scope (p.u32 8) (p.u32 12) (p.u32 16) mask = false)
    (hroom : kind = 3 → mode ≠ 3 → s.sched.override.any (fun o => o.1 == scope && o.2.1 == d) = true ∨
      s.sched.override.length < 1024)
    (hr : mode = 1 → r = ⟨1, p.u32 8, p.u32 12, p.u32 16, if d = 2 then mask else 0, true⟩)
    (hr' : mode ≠ 1 → r = { defaultEnv d with mode := mode, own := true })
    (ht : t = if mode = 3 then
      { s with sched.override := s.sched.override.filter (fun o => !(o.1 == scope && o.2.1 == d)) } else putEnv d kind scope r s)
    (hu : u = post 2 sevInfo 0x0A07 (arg1 d ++ arg1 kind ++ arg4 scope ++ arg1 mode ++ arg1 p.issuer.toNat)
      { t with sched.updates := t.sched.updates.filter (fun x => x.carried || x.applied || !t.updateIn d kind scope x) }) :
    opSchedEnvelopeSet p s = reply p St.OK (leBytes 4 (u.envPending d kind scope)) u := by
  have hnode' : (kind == 3 && !s.schedNode scope) = false := by simpa using hnode
  have hdefault' : (mode == 3 && kind != 3) = false := by simpa using hdefault
  have hmaskOnly' : (d != 2 && p.dirty 20 32) = false := by simpa using hmaskOnly
  have hbounds' : (mode == 1 && boundsBad d (p.u32 8) (p.u32 12) (p.u32 16)) = false := by
    simpa using fun h => (hbounds h).1
  have hfeasible : (mode == 1 && s.infeasible d kind scope (p.u32 8) (p.u32 12) (p.u32 16) mask) = false := by
    simpa using fun h => (hbounds h).2
  have hroom' : (kind == 3 && mode != 3 && !s.sched.override.any (fun o => o.1 == scope && o.2.1 == d) &&
      decide (1024 ≤ s.sched.override.length)) = false := by
    rw [Bool.and_eq_false_imp]
    intro h
    simp only [Bool.and_eq_true, beq_iff_eq, bne_iff_ne, Bool.not_eq_true'] at h
    obtain ⟨⟨hkind, hmode⟩, hnew⟩ := h
    exact decide_eq_false (Nat.not_le.2 ((hroom hkind hmode).resolve_left (Bool.eq_false_iff.1 hnew)))
  have hrec : (if mode = 1 then ⟨1, p.u32 8, p.u32 12, p.u32 16, if d = 2 then mask else 0, true⟩
      else { defaultEnv d with mode := mode, own := true }) = r := by
    split
    · next h => exact (hr h).symm
    · next h => exact (hr' h).symm
  rw [opSchedEnvelopeSet]
  dsimp only at hrec hu ⊢
  rw [← hd, ← hmode, ← hkind, ← hscope, ← hmask, checked_acts (by
    simp only [firstFail_cons_eq_none, hclean, hok, hrange, hnode', hdefault', hmaskOnly', hbounds', hfeasible, hroom']
    simp [hd', hmode', hkind']), hrec, ← ht, ← hu, done]

theorem opSchedEnvelopeRead_tells {own : Nat} {r : EnvRec} (hkind : kind = p.u8 1) (hclean : p.dirty 2 2 = false)
    (hchip : kind = 0 → r = s.chipEnv d ∧ own = 0) (hpair : kind = 1 → r = s.pairEnv d scope ∧ own = 1)
    (hmap : kind = 2 → r = s.mapEnv scope ∧ own = 1)
    (hover : kind = 3 → r = s.nodeEnv d scope ∧
      own = if s.sched.override.any (fun o => o.1 == scope && o.2.1 == d) then 1 else 0) :
    opSchedEnvelopeRead p s = reply p St.OK (leBytes 1 d ++ leBytes 1 r.mode ++ leBytes 1 kind ++ leBytes 1 own ++
      leBytes 4 scope ++ leBytes 4 r.lo ++ leBytes 4 r.hi ++ leBytes 4 r.aux ++ leBytes 32 r.mask.toNat) s := by
  have hnode' : (kind == 3 && !s.schedNode scope) = false := by simpa using hnode
  rw [opSchedEnvelopeRead]
  dsimp only
  rw [← hd, ← hkind, ← hscope, checked_acts (by
    simp only [firstFail_cons_eq_none, hclean, hok, hrange, hnode']
    simp [hd', hkind']), done]
  have hcases : kind = 0 ∨ kind = 1 ∨ kind = 2 ∨ kind = 3 := by omega
  rcases hcases with h | h | h | h
  · obtain ⟨rfl, rfl⟩ := hchip h
    rw [h]
    rfl
  · obtain ⟨rfl, rfl⟩ := hpair h
    rw [h]
    rfl
  · obtain ⟨rfl, rfl⟩ := hmap h
    rw [h]
    rfl
  · obtain ⟨rfl, rfl⟩ := hover h
    rw [h]
    rfl

end

theorem opSchedStatus_tells : opSchedStatus p s = reply p St.OK
    (leBytes 1 (if s.schedActive then s.sched.thermal + 1 else 0) ++
      leBytes 1 (sumOf ((List.range 8).map (fun d => if (s.chipEnv d).mode = 2 then 2 ^ d else 0))) ++
      leBytes 2 s.sched.override.length ++ (List.range 4).flatMap (fun t => leBytes 4 (s.tierCount t)) ++
      leBytes 4 s.sched.updates.length ++ leBytes 4 s.sched.committed ++ leBytes 4 s.sched.reverted ++
      leBytes 4 s.sched.heldBound ++ leBytes 4 s.sched.heldThermal ++ leBytes 4 (countIf s.aboveDrift s.wheel) ++
      leBytes 4 s.sched.mapChanges ++ leBytes 8 s.sched.lastChannelReview ++ leBytes 8 0) s := by
  rw [opSchedStatus, done]

/-- The third and fourth bytes of a node's view are its requested wake interval. -/
theorem opSchedNodeView_tells (hid : p.u32 0 ≠ 0) (hid' : p.u32 0 < broadcastId) (hnode : s.schedNode (p.u32 0) = true) :
    ∃ data : List Byte, opSchedNodeView p s = reply p St.OK data s ∧
      sliceBytes data 2 2 = leBytes 2 (s.requested (p.u32 0)) := by
  rw [opSchedNodeView]
  dsimp only
  rw [checked_acts (by simp [firstFail_cons_eq_none, hid, hid', hnode]), done]
  refine ⟨_, rfl, ?_⟩
  simp [sliceBytes, leBytes, List.append_assoc]

end

/-- Settles O50: each review and each packet by its guard, the envelope by where its records stand. -/
theorem schedulerCommands : Obligations.SchedulerCommands := by
  unfold Obligations.SchedulerCommands
  refine ⟨⟨fun s hactive => ⟨?plan, ?planHot, ?load, ?channel⟩, ?node, ?set, ?read, ?status, ?view⟩,
    fun d r s hd => ⟨?same, ?other, ?pair, ?pairRec, rfl, rfl⟩⟩
  case plan =>
    exact fun hdue hcool => answer_sameQueue ((runPlanReview_reviews hactive hdue).trans (if_neg hcool))
  case planHot =>
    exact fun hdue hhot => answer_eq ((runPlanReview_reviews hactive hdue).trans (if_pos hhot)) rfl
  case load =>
    intro short busy t u v hdue hshort hbusy ht hhot hcool
    by_cases h : t.sched.thermal = tsCritical
    · have hrun := runLoadReview_reviews hactive hdue hshort hbusy ht rfl rfl
      rw [if_pos h] at hrun
      rw [hhot h]
      exact answer_sameQueue hrun
    · obtain ⟨hu, hv⟩ := hcool h
      have hrun := runLoadReview_reviews hactive hdue hshort hbusy ht hu rfl
      rw [if_neg h, ← hv] at hrun
      exact answer_sameQueue hrun
  case channel =>
    exact fun t r u m l hdue ht hr hl hu hm =>
      answer_sameQueue (runChannelReview_reviews hactive hdue ht hr hl hu hm)
  case node =>
    intro node cs s x y m hactive hon hx hdue hy hm
    have hrun := runNodeReview_reviews hactive hon hx hdue hy hm
    exact ⟨fun hhot => answer_eq (hrun.trans (if_pos hhot)) rfl, fun hcool => answer_sameQueue (hrun.trans (if_neg hcool))⟩
  case set =>
    intro p s t u d mode kind scope mask r h hd hmode hkind hscope hmask hd' hmode' hkind' hclean hok hrange hdefault
      hmaskOnly hbounds hnode hroom hr hr' ht hu
    exact served_sameQueue h (opSchedEnvelopeSet_sets (p := asOp 0x5001 p) hd hscope hd' hkind' hok hrange hnode hmode hkind
      hmask hmode' hclean hdefault hmaskOnly hbounds hroom hr hr' ht hu)
  case read =>
    intro p s d kind scope own r h hd hkind hscope hd' hkind' hclean hok hrange hnode hchip hpair hmap hover
    exact served_next h (opSchedEnvelopeRead_tells (p := asOp 0x5002 p) hd hscope hd' hkind' hok hrange hnode hkind hclean
      hchip hpair hmap hover) (reply_pending ..)
  case status =>
    exact fun p s h => served_next h opSchedStatus_tells (reply_pending ..)
  case view =>
    intro p s h hid hid' hnode
    obtain ⟨data, hrun, hdata⟩ := opSchedNodeView_tells (p := asOp 0x5004 p) hid hid' hnode
    exact ⟨data, served_next h hrun (reply_pending ..), hdata⟩
  case same =>
    exact (chipEnv_putEnv s d r hd).trans (if_pos rfl)
  case other =>
    exact fun e he hne => (chipEnv_putEnv s d r he).trans (if_neg hne.symm)
  case pair =>
    exact fun e q hnone hne he => pairEnv_putEnv_other s d r he hne hnone
  case pairRec =>
    rintro k scope ⟨rfl, -⟩
    exact pairEnv_putEnv_same s d scope r

end Sys2Proof.Machine

/-! Frames on both sides of the radio (R250 to R285). -/

namespace Sys2Proof.Machine

open Sys2Proof.Claims

theorem runJoinRequest_takes {req : JoinAnswer} {it : QItem} {s t : State} (hwork : s.coresWork = true)
    (hpop : queuePop joinQid s = (some it, t)) : runJoinRequest req s = joinTake it req.admitted t := by
  rw [runJoinRequest, if_neg (by simp [hwork]), hpop]

theorem runTxBuild_builds {b : Build} {s t : State} {l : List Build}
    (hfirst : s.frames.builds.filter (fun x => x.kind == .ack) ++ s.frames.builds.filter (fun x => !x.kind == .ack) = b :: l)
    (hbuild : buildOne b s = (false, t)) : runTxBuild s = { t with frames.builds := t.frames.builds.erase b } := by
  rw [runTxBuild]
  dsimp only
  rw [hfirst, buildTry, hbuild]
  rfl

theorem runRxFrameCheck_checks {r : RxRecord} {l : List RxRecord} {s t : State}
    (hfirst : sortBy (fun r => 256 * r.syncEnd + r.slot) s.frames.rxq = r :: l) (hframe : rxFrame r s = (false, t)) :
    runRxFrameCheck s = { t with frames.rxq := t.frames.rxq.erase r } := by
  rw [runRxFrameCheck, hfirst, rxTry, hframe]
  cases s.rxNode r <;> rfl

/-! ### The exchange of an event -/

section
variable {node : BitVec 17} {s : State} {e : RxEvent}
  (he : s.delivered.find? (fun e => e.node == node.toNat && e.heard) = some e)
  (hidle : s.frames.builds.any (fun b => b.node == e.node && (b.kind == .ack || b.kind == .downlink)) = false)
include he hidle

theorem runDownlinkExchange_lost (hwait : e.waiting = true)
    (hlate : e.lastEnd + s.ackTurn + s.fld F.MAC_DRIFT_CFG_G_MIN < s.now) (hnone : s.framePending e.ch = false) :
    runDownlinkExchange node s = downlinkLost e s := by
  rw [runDownlinkExchange]
  dsimp only
  rw [he]
  exact (if_neg (Bool.eq_false_iff.1 hidle)).trans ((if_pos hwait).trans (if_pos ⟨hlate, hnone⟩))

section
variable (hnew : e.waiting = false) (hpending : e.pendingBit = true) (hroom : e.sent < (s.lane (laneOf e.ch)).dlPerEvent)
include hnew hpending hroom

theorem runDownlinkExchange_empty (hempty : s.dlqOf e.node = []) :
    runDownlinkExchange node s = editEvent e (fun x => { x with pendingBit := false }) s := by
  rw [runDownlinkExchange]
  dsimp only
  rw [he]
  dsimp only
  rw [if_neg (Bool.eq_false_iff.1 hidle), if_neg (Bool.eq_false_iff.1 hnew), if_neg (by simp [hpending, hroom]), hempty]

theorem runDownlinkExchange_sends {f : DlFrame} {l : List DlFrame} (hqueue : s.dlqOf e.node = f :: l) :
    runDownlinkExchange node s = if s.exchangeReaches e f then editEvent e (fun x => { x with pendingBit := false }) s
      else { s with frames.builds := s.frames.builds ++
        [⟨.downlink, e.node, e.ch, laneOf e.ch, e.lastEnd + s.ackTurn, 0, 0, 0, 0, []⟩] } := by
  rw [runDownlinkExchange]
  dsimp only
  rw [he]
  dsimp only
  rw [if_neg (Bool.eq_false_iff.1 hidle), if_neg (Bool.eq_false_iff.1 hnew), if_neg (by simp [hpending, hroom]), hqueue]

end

end

/-! ### The packets -/

section
variable {p : Packet} {s : State}

theorem opFrmCfgSet_sets {t : State} (htx : p.bits 2 1 0 ≠ 3) (hrx : p.bits 2 3 2 ≠ 3) (hbits : p.bits 2 7 4 = 0)
    (hclean : p.dirty 3 1 = false) (hfrag : 32 ≤ p.u16 4) (hfrag' : p.u16 4 ≤ 2047) (hreasm : 1 ≤ p.u16 6)
    (hreasm' : p.u16 6 ≤ 60) (hclean' : p.dirty 16 4 = false)
    (heui : s.inMode [.calibrate, .test] = true ∨ p.u64 8 = s.cellEui)
    (ht : t = ((((s.setFld F.FRM_CTL_PAN_ID (p.u16 0)).setFld F.FRM_CTL_TX_LEVEL (p.bits 2 1 0)).setFld
      F.FRM_CTL_RX_MIN_LEVEL (p.bits 2 3 2)).setFld F.FRM_CTL_FRAG_PSDU (p.u16 4)).setFld F.FRM_FRAG_STAT_REASM_S (p.u16 6)) :
    opFrmCfgSet p s = reply p St.OK []
      ((t.setPair R.FRM_CELL_EUI_LO R.FRM_CELL_EUI_HI (p.u64 8)).setNf 0 N.EUI64 (p.u64 8)) := by
  have heui' : (!s.inMode [.calibrate, .test] && p.u64 8 != s.cellEui) = false := by
    rcases heui with h | h <;> simp [h]
  have hreasm0 : p.u16 6 ≠ 0 := by omega
  subst ht
  refine checked_acts ?_
  simp only [firstFail_cons_eq_none, hclean, hclean', heui']
  simp [htx, hrx, hbits, hfrag, hfrag', hreasm0, hreasm']

theorem opFrmCtxSet_sets (hindex : p.u8 0 ≤ 15) (hlen : p.u8 1 ≤ 128) (hclean : p.dirty 2 2 = false)
    (hzero : beAt p.params 4 16 % 2 ^ (128 - p.u8 1) = 0) : opFrmCtxSet p s = reply p St.OK [] { s with
      frames.ctx := s.frames.ctx.set (0, 0#128) (p.u8 0)
        (if p.u8 1 = 0 then (0, 0#128) else (p.u8 1, BitVec.ofNat 128 (beAt p.params 4 16))) } := by
  rw [opFrmCtxSet]
  dsimp only
  rw [checked_acts (by
    simp only [firstFail_cons_eq_none, hclean, hzero]
    simp [hindex, hlen]), done]

end

end Sys2Proof.Machine

/-! The outgoing counters and their store (R270 to R281). -/

namespace Sys2Proof.Machine

open Sys2Proof.Claims

/-! ### The end of a row's programming -/

section
variable {s t : State} {g : Programming} {r : CtrRow} (hg : s.frames.programming = some g) (hr : r = s.ctrRow g.phys)
  (ht : t = { (({ s with frames.programming := none } : State).wrapCount F.NVS_CTR_PROG_PROGRAMS 1) with
    frames.rowSeq := s.frames.rowSeq + 1 })
include hg hr ht

theorem runCtrRowWriteDone_exhausts (hplace : s.ctrCopy g.lrow = some g.phys) : runCtrRowWriteDone false s =
    ctrExhaust (ctrStat (t.setCtrRow g.phys { r with pcnt := r.pcnt + 1, valid := false })) := by
  subst ht hr
  rw [runCtrRowWriteDone, hg]
  exact (if_neg Bool.false_ne_true).trans (if_pos (beq_iff_eq.2 hplace))

theorem runCtrRowWriteDone_retires {u v : State} (hplace : s.ctrCopy g.lrow ≠ some g.phys)
    (hu : u = post 37 sevDegraded 0x0921 [] (ctrStat
      (t.setCtrRow g.phys { r with pcnt := r.pcnt + 1, valid := false, retired := true })))
    (hv : v = if u.ctrSpares == 4 && t.ctrSpares == 5 then post 37 sevDegraded 0x0922 [] u else u) :
    runCtrRowWriteDone false s = ctrQueue g.lrow true v := by
  have hform : t = { (({ s with frames.programming := none } : State).wrapCount F.NVS_CTR_PROG_PROGRAMS 1) with
      frames.rowSeq := (({ s with frames.programming := none } : State).wrapCount F.NVS_CTR_PROG_PROGRAMS 1).frames.rowSeq + 1 } :=
    ht
  have hrow : r = ({ s with frames.programming := none } : State).ctrRow g.phys := hr
  have hplace' : ¬ (({ s with frames.programming := none } : State).ctrCopy g.lrow == some g.phys) = true :=
    fun h => hplace (beq_iff_eq.1 h)
  clear ht hr
  simp only [runCtrRowWriteDone, hg]
  refine (if_neg Bool.false_ne_true).trans ((if_neg hplace').trans ?_)
  rw [hv, hu, hform, hrow]

theorem runCtrRowWriteDone_writes {u : State} {l : List Resv}
    (hu : u = t.setCtrRow g.phys ⟨g.lrow, t.frames.rowSeq, r.pcnt + 1, g.vals, true, false⟩)
    (hl : l = u.frames.resv.map (fun x =>
      if x.scope / 256 = g.lrow ∧ x.p ≤ g.vals.get 0 (x.scope % 256) then { x with persisted := true } else x)) :
    runCtrRowWriteDone true s = ctrBackground (ctrKick (resvSettle (ctrStat { u with frames.resv := l }))) := by
  subst hl hu ht hr
  rw [runCtrRowWriteDone, hg]
  exact if_pos rfl

end

/-! ### The packets -/

section
variable {p : Packet} {s : State}

theorem opCtrQuery_tells {id h pv f : Nat} (hid : id = p.u32 0) (hid' : id ≤ broadcastId) (hscope : s.scopeBad id = false)
    (hh : h = s.nextCtr id / 65536) (hsome : s.usableHalves id ≠ 0 → pv = s.usableHalves id - 1)
    (hnone : s.usableHalves id = 0 → pv = (s.ctrStored id).getD 0)
    (hf : f = (if s.halfUsable id h then 1 else 0) + (if s.halfUsable id (h + 1) then 2 else 0) +
      (if s.frames.lostRows.contains (id / 256) then 4 else 0) +
      (if s.frames.resv.any (fun r => r.scope == id && r.rseq != 0 && !r.acked) then 8 else 0)) :
    opCtrQuery p s = reply p St.OK (leBytes 4 (s.outCtr id) ++ leBytes 2 pv ++ leBytes 1 f ++
      leBytes 1 (s.fld F.NVS_CTR_STAT_STATE) ++ leBytes 1 (s.fld F.NVS_CTR_STAT_SPARES) ++ leBytes 3 0) s := by
  have hpv : (if s.usableHalves id = 0 then (s.ctrStored id).getD 0 else s.usableHalves id - 1) = pv := by
    split
    · next h => exact (hnone h).symm
    · next h => exact (hsome h).symm
  rw [opCtrQuery]
  dsimp only
  rw [← hid, checked_acts (by simp [firstFail_cons_eq_none, hid', hscope]), ← hh, hpv, ← hf, done]

section
variable (hmin : 1 ≤ p.u16 4) (hmax : p.u16 4 ≤ 40) (hclean : p.dirty 6 2 = false) (hext : s.extPersist = true)
include hmin hmax hclean hext

theorem opCtrResvFetch_fetches : opCtrResvFetch p s = if s.fetchReady (p.u32 0) || p.u32 8 = 0 then
      reply p St.OK (fetchBody s (p.u32 0) (p.u16 4)) s
    else { (defer p s).2 with
      frames.fetchWait := s.frames.fetchWait ++ [(s.interp.nextSeq, p.u32 0, p.u16 4, s.now + p.u32 8)] } := by
  have hmin0 : p.u16 4 ≠ 0 := by omega
  exact checked_acts (by simp [firstFail_cons_eq_none, hmin0, hmax, hclean, hext])

end

theorem opCtrResvAck_acks {t : State} {new : Resv → Bool} {l : List Resv} (hseq : p.u32 0 ≤ s.fld F.NVS_CTR_RSEQ_RSEQ)
    (hext : s.extPersist = true) (hnew : new = fun r => r.rseq != 0 && !r.acked && decide (r.rseq ≤ p.u32 0))
    (hl : l = s.frames.resv.map (fun r => if new r then { r with acked := true } else r))
    (ht : t = { s with frames.resv := l }) : opCtrResvAck p s = reply p St.OK (leBytes 4 (countIf new s.frames.resv))
      (ctrBackground (resvSettle
        (if s.fld F.NVS_CTR_ACKSEQ_RSEQ < p.u32 0 then t.setFld F.NVS_CTR_ACKSEQ_RSEQ (p.u32 0) else t))) := by
  subst ht hl hnew
  exact checked_acts (by simp [firstFail_cons_eq_none, hseq, hext])

theorem opCtrRestore_restores {t u : State} (hcount : p.u16 0 ≤ 61) (hflag : p.u8 2 ≤ 1) (hclean : p.dirty 3 5 = false)
    (hscopes : ∀ e ∈ restoreEntries p, e.1 ≤ broadcastId ∧ s.scopeBad e.1 = false)
    (hclean' : ∀ i, i < p.u16 0 → p.dirty (14 + 8 * i) 2 = false) (hext : s.extPersist = true)
    (ht : t = (restoreEntries p).foldl (fun s e => { s with
      frames.restart := if most2 (s.restartHalf e.1) (s.usableHalves e.1) ≤ e.2 then s.frames.restart.set 0 e.1 (e.2 + 2)
        else s.frames.restart,
      frames.restored := s.frames.restored.set 0 e.1 (e.2 + 1) }) s)
    (hu : u = if p.bit 2 0 then ctrBackground { t with frames.restoreDone := true } else t) :
    opCtrRestore p s = reply p St.OK [] (post 37 sevInfo 0x0926 (arg2 (p.u16 0)) u) := by
  have hids : (restoreEntries p).any (fun e => decide (broadcastId < e.1)) = false := by
    simpa using fun a b h => (hscopes (a, b) h).1
  have hbad : (restoreEntries p).any (fun e => s.scopeBad e.1) = false := by
    simpa using fun a b h => (hscopes (a, b) h).2
  have hdirty : (List.range (p.u16 0)).any (fun i => p.dirty (14 + 8 * i) 2) = false := by
    simpa using hclean'
  rw [opCtrRestore]
  dsimp only at ht ⊢
  rw [checked_acts (by
    simp only [firstFail_cons_eq_none, hids, hbad, hdirty, hclean, hext]
    simp [hcount, hflag]), ← ht, ← hu, done]

end

/-! ### The group's counter -/

section
variable {s : State}

theorem runCtrGroupLow_early (hlow : s.outCtr 0 / 65536 < 0xF000) : runCtrGroupLow s = s :=
  if_neg (by simp only [Nat.not_le.2 hlow, decide_false, Bool.false_and]; exact Bool.false_ne_true)

theorem runCtrGroupLow_posts (hhigh : 0xF000 ≤ s.outCtr 0 / 65536)
    (hdue : ∀ x, s.frames.groupLowAt = some x → x + 86400 * 120000000 ≤ s.now) : runCtrGroupLow s =
    post 37 sevDegraded 0x0927 (arg2 (s.outCtr 0 / 65536)) { s with frames.groupLowAt := some s.now } := by
  rw [runCtrGroupLow]
  cases hlast : s.frames.groupLowAt with
  | none => exact if_pos (by simpa using hhigh)
  | some x => exact if_pos (Bool.and_eq_true_iff.2 ⟨decide_eq_true hhigh, decide_eq_true (hdue x hlast)⟩)

end

/-- Settles O51: each frame's event, each packet and each event of the counters' store by its guard. -/
theorem frameAndCounterCommands : Obligations.FrameAndCounterCommands := by
  unfold Obligations.FrameAndCounterCommands
  refine ⟨⟨?join, ?build, fun node s e he hidle => ⟨?lost, ?empty, ?sends⟩, ?cfg, ?ctx, ?reassembly, ?check⟩,
    fun s t g r hg hr ht => ⟨?exhausts, ?retires, ?writes⟩, ?query, ?fetch, fun s late hlate => ?fetchTimeout, ?ack, ?restore,
    fun s => ⟨?early, ?posts⟩⟩
  case join =>
    exact fun req it s t hwork hpop => answer_sameQueue (runJoinRequest_takes hwork hpop)
  case build =>
    intro b s t l ack hack hfirst hbuild
    subst hack
    exact answer_sameQueue (runTxBuild_builds hfirst hbuild)
  case lost =>
    exact fun hwait hlate hnone => answer_sameQueue (runDownlinkExchange_lost he hidle hwait hlate hnone)
  case empty =>
    exact fun hnew hpending hroom hempty =>
      answer_sameQueue (runDownlinkExchange_empty he hidle hnew hpending hroom hempty)
  case sends =>
    intro f l bs hnew hpending hroom hqueue
    have hrun := runDownlinkExchange_sends he hidle hnew hpending hroom hqueue
    refine ⟨fun hreach => answer_sameQueue (hrun.trans (if_pos hreach)), fun hreach hbs => ?_⟩
    subst hbs
    exact answer_eq (hrun.trans (if_neg (Bool.eq_false_iff.1 hreach))) rfl
  case cfg =>
    intro p s t h htx hrx hbits hclean hfrag hfrag' hreasm hreasm' hclean' heui ht
    exact served_sameQueue h (opFrmCfgSet_sets (p := asOp 0x8101 p) htx hrx hbits hclean hfrag hfrag' hreasm hreasm' hclean'
      heui ht)
  case ctx =>
    exact fun p s h hindex hlen hclean hzero =>
      served_next h (opFrmCtxSet_sets (p := asOp 0x8102 p) hindex hlen hclean hzero) (reply_pending ..)
  case reassembly =>
    intro sender size dtag s same hsame hany
    subst hsame
    exact answer_sameQueue (if_pos hany)
  case check =>
    exact fun r l s t hfirst hframe => answer_sameQueue (runRxFrameCheck_checks hfirst hframe)
  case exhausts =>
    exact fun hplace => answer_sameQueue (runCtrRowWriteDone_exhausts hg hr ht hplace)
  case retires =>
    exact fun u v hplace hu hv => answer_sameQueue (runCtrRowWriteDone_retires hg hr ht hplace hu hv)
  case writes =>
    exact fun u hu l hl => answer_sameQueue (runCtrRowWriteDone_writes hg hr ht hu hl)
  case query =>
    exact fun p s id h pv f hs hid hid' hscope hh hsome hnone hf => served_next hs
      (opCtrQuery_tells (p := asOp 0x6101 p) hid hid' hscope hh hsome hnone hf) (reply_pending ..)
  case fetch =>
    intro p s h hmin hmax hclean hext
    have hrun := opCtrResvFetch_fetches (p := asOp 0x6102 p) hmin hmax hclean hext
    refine ⟨fun hready => served_next h (hrun.trans (if_pos ?_)) (reply_pending ..),
      fun hwait htime => served_next h (hrun.trans (if_neg ?_)) rfl⟩
    · rcases hready with hready | htime
      · exact Bool.or_eq_true_iff.2 (.inl hready)
      · exact Bool.or_eq_true_iff.2 (.inr (decide_eq_true htime))
    · exact fun hor => (Bool.or_eq_true_iff.1 hor).elim (Bool.eq_false_iff.1 hwait) fun h0 => htime (of_decide_eq_true h0)
  case fetchTimeout =>
    subst hlate
    exact answer_sameQueue rfl
  case ack =>
    exact fun p s t new l h hseq hext hnew hl ht =>
      served_sameQueue h (opCtrResvAck_acks (p := asOp 0x6103 p) hseq hext hnew hl ht)
  case restore =>
    intro p s t u hlen hserve hmode hcount hflag hclean hscopes hclean' hext ht hu
    exact answer_sameQueue (command_eq hlen hserve hmode
      (opCtrRestore_restores (p := asOp 0x6104 p) hcount hflag hclean hscopes hclean' hext ht hu))
  case early =>
    exact fun hlow => answer_eq (runCtrGroupLow_early hlow) rfl
  case posts =>
    exact fun hhigh hdue => answer_sameQueue (runCtrGroupLow_posts hhigh hdue)

end Sys2Proof.Machine

/-! Keys: provisioning, epochs, zeroisation, slots, attestation and the lockout (R286 to R312). -/

namespace Sys2Proof.Machine

open Sys2Proof.Claims

/-! ### Slots and handles (R287, R288) -/

theorem nextGen_ne (g : Nat) : nextGen g ≠ g := by
  unfold nextGen
  split <;> omega

theorem slotFlags_keys (i : Nat) (on : Bool) (s : State) : (slotFlags i on s).keys = s.keys := by
  unfold slotFlags
  split <;> split <;> rfl

theorem slotFlags_five (on : Bool) (s : State) : slotFlags 5 on s = s.setBit F.KEY_SLOT_LOADED_LO_LOADED 5 on := rfl

section
variable (i : Nat) (k : KeySlot) (s : State)

theorem putSlot_slots : (putSlot i k s).keys.slots = s.keys.slots.set KeySlot.empty i k := by
  rw [putSlot, slotFlags_keys]
  rfl

theorem putSlot_same : (putSlot i k s).keySlot i = k := by
  rw [State.keySlot, putSlot_slots, Sparse.get_set_same]

theorem putSlot_other {j : Nat} (h : j ≠ i) : (putSlot i k s).keySlot j = s.keySlot j := by
  rw [State.keySlot, putSlot_slots, Sparse.get_set_other _ _ _ h, State.keySlot]

/-- A slot that is emptied by its name holds nothing, under the next generation. -/
theorem emptySlot_same : (emptySlot i true s).keySlot i = ⟨0, [], nextGen (s.keySlot i).gen, 0⟩ := by
  rw [emptySlot, if_neg (by simp), putSlot_same]

theorem emptySlot_other {j : Nat} (h : j ≠ i) : (emptySlot i true s).keySlot j = s.keySlot j := by
  rw [emptySlot, if_neg (by simp), putSlot_other _ _ _ h]

end

/-- A handle gives a key of the slot and the generation that it names. -/
theorem handleKey_eq_some {h : Nat} {k : List Byte} {s : State} (hk : s.handleKey h = some k) :
    (s.keySlot (h % 64)).content ≠ 0 ∧ (s.keySlot (h % 64)).gen = h / 64 := by
  unfold State.handleKey at hk
  dsimp only at hk
  split at hk
  · assumption
  · exact absurd hk.symm (Option.some_ne_none _)

theorem handleKey_eq_none {h : Nat} {s : State} (hk : (s.keySlot (h % 64)).content = 0 ∨ (s.keySlot (h % 64)).gen ≠ h / 64) :
    s.handleKey h = none :=
  if_neg fun hheld => hk.elim hheld.1 fun hgen => hgen hheld.2

section
variable {i h content epoch : Nat} {key k : List Byte} {s : State} (hk : s.handleKey h = some k) (hi : h % 64 = i)
include hk hi

theorem handleKey_fillSlot : (fillSlot i content key epoch s).handleKey h = none := by
  obtain ⟨hcontent, hgen⟩ := handleKey_eq_some hk
  subst hi
  refine handleKey_eq_none (.inr ?_)
  rw [fillSlot, putSlot_same, if_neg hcontent, ← hgen]
  exact nextGen_ne _

end

section
variable {i : Nat} {s : State}

theorem handleKey_emptySlot_same {h : Nat} (hi : h % 64 = i) : (emptySlot i true s).handleKey h = none := by
  subst hi
  exact handleKey_eq_none (.inl (by rw [emptySlot_same]))

theorem handleKey_emptySlot_other {j : Nat} (hj : j % 64 ≠ i) : (emptySlot i true s).handleKey j = s.handleKey j := by
  rw [State.handleKey, emptySlot_other _ _ hj, State.handleKey]

theorem handle_emptySlot : (emptySlot i true s).handle i = 0 :=
  if_neg (by rw [State.keyLoaded, emptySlot_same]; exact Bool.false_ne_true)

end

/-! ### Blobs -/

section
variable {p : Packet} {s : State}

theorem opKeyOrkProvision_acts (hparams : blobParamsBad p 1 = false) (hfree : s.keyLoaded 1 = false ∨ p.bit 0 0 = true) :
    opKeyOrkProvision p s = withBlob p 0x01 0 (fun k s => reply p St.OK [] (post 19 sevInfo 0x0B01 (arg1 1) (fillSlot 1 2 k 0
      { (makeBlob 0x81 0 0 k s).2 with keys.orkBlob := some (makeBlob 0x81 0 0 k s).1 }))) s := by
  have hfree' : (s.keyLoaded 1 && !p.bit 0 0) = false := by
    rcases hfree with h | h <;> simp [h]
  exact checked_acts (by simp only [firstFail_cons_eq_none, hparams, hfree', firstFail_nil, and_self])

theorem opKeyDkLoad_acts {e bind : Nat} (hparams : blobParamsBad p 1 = false)
    (hfree : s.keyLoaded 2 = false ∨ p.bit 0 0 = true) (he : e = leAt (blobOf p) 3 1) (hbind : bind = leAt (blobOf p) 4 4) :
    opKeyDkLoad p s = withBlob p 0x02 0 (fun k s => reply p St.OK [] (post 19 sevInfo 0x0B01 (arg1 2) (placeDk k e
      { (makeBlob 0x82 e bind k s).2 with keys.dkBlob := some (makeBlob 0x82 e bind k s).1 }))) s := by
  have hfree' : (s.keyLoaded 2 && !p.bit 0 0) = false := by
    rcases hfree with h | h <;> simp [h]
  subst he hbind
  exact checked_acts (by simp only [firstFail_cons_eq_none, hparams, hfree', firstFail_nil, and_self])

theorem opKeyLoad_acts (hparams : blobParamsBad p 2 = false) (hslot : 16 ≤ p.u8 1) (hslot' : p.u8 1 ≤ 63)
    (hbind : leAt (blobOf p) 4 4 = p.u8 1) (hfree : s.keyLoaded (p.u8 1) = false ∨ p.bit 0 0 = true) :
    opKeyLoad p s = withBlob p 0x03 (p.u8 1) (fun k s => reply p St.OK
      (leBytes 2 ((fillSlot (p.u8 1) 6 k 0 s).handle (p.u8 1)) ++ leBytes 2 0)
      (post 19 sevInfo 0x0B01 (arg1 (p.u8 1)) (fillSlot (p.u8 1) 6 k 0 s))) s := by
  have hfree' : (s.keyLoaded (p.u8 1) && !p.bit 0 0) = false := by
    rcases hfree with h | h <;> simp [h]
  exact checked_acts (by
    simp only [firstFail_cons_eq_none, hparams, hfree', hbind]
    simp [hslot, hslot'])

/-! ### Epochs -/

/-- A prepared epoch stands beside the current one, which stays. -/
theorem keyCur_prepared {t : State} {e : Nat} (at' : Nat) (ht : t = loadEpoch 5 e (s.setFld F.KEY_STAT_NEXT e)) :
    ((t.setFld F.KEY_ACT_EPOCH_ACT_EPOCH at').setFld F.KEY_STAT_STATE kePrepared).keyCur = s.keyCur := by
  subst ht
  rw [State.keyCur, State.fld_setFld_apart _ _ _ _ (by decide), State.fld_setFld_off _ _ _ _ (by decide), loadEpoch, fillSlot,
    putSlot, slotFlags_five, State.setBit, State.fld_setFld_off _ _ _ _ (by decide), State.fld_setFld_off _ _ _ _ (by decide)]
  exact s.fld_setFld_apart _ _ _ (by decide)

section
variable (hflags : p.u8 0 / 4 = 0) (hclean : p.dirty 1 3 = false)
include hflags hclean

theorem opKeyEpochPrepare_abandons (habandon : p.bit 0 0 = true) (hstate : s.keyState = kePrepared) :
    opKeyEpochPrepare p s = reply p St.OK (prepareReply s.stragglers 0)
      ((((emptySlot 5 true s).setFld F.KEY_STAT_NEXT 0).setFld F.KEY_ACT_EPOCH_ACT_EPOCH 0).setFld
        F.KEY_STAT_STATE keCurrent) :=
  (if_neg (by simp [hflags, hclean])).trans ((if_pos habandon).trans (if_neg (Classical.not_not.2 hstate)))

theorem opKeyEpochPrepare_prepares {t : State} (hprepare : p.bit 0 0 = false) (hdk : s.keyLoaded 2 = true)
    (hstate : s.keyState = keCurrent) (htime : s.actTooNear (p.u32 4) = false) (hnodes : s.stragglers = 0 ∨ p.bit 0 1 = true)
    (ht : t = loadEpoch 5 ((s.keyCur + 1) % 256) (s.setFld F.KEY_STAT_NEXT ((s.keyCur + 1) % 256))) :
    opKeyEpochPrepare p s = reply p St.OK (prepareReply s.stragglers ((s.keyCur + 1) % 256))
      (keyUpdates s.keyCur ((s.keyCur + 1) % 256) (p.u32 4)
        ((t.setFld F.KEY_ACT_EPOCH_ACT_EPOCH (p.u32 4)).setFld F.KEY_STAT_STATE kePrepared)) := by
  have hnodes' : ¬ (s.stragglers ≠ 0 ∧ p.bit 0 1 = false) := by
    rcases hnodes with h | h <;> simp [h]
  have hcur := keyCur_prepared (p.u32 4) ht
  subst ht
  rw [opKeyEpochPrepare]
  dsimp only
  rw [if_neg (by simp [hflags, hclean]), if_neg (Bool.eq_false_iff.1 hprepare), if_neg (by simp [hdk]),
    if_neg (Classical.not_not.2 hstate), if_neg (Bool.eq_false_iff.1 htime), if_neg hnodes', hcur, done]

end

/-- The first three bytes of the answer are the state, the epoch of now and the one that is kept. -/
theorem opKeyEpochStatus_tells : ∃ data : List Byte, opKeyEpochStatus p s = reply p St.OK data s ∧
    data.take 3 = leBytes 1 s.keyState ++ leBytes 1 s.keyCur ++ leBytes 1 (if s.keyLoaded 4 then s.keyPrev else 0xFF) := by
  rw [opKeyEpochStatus, done]
  exact ⟨_, rfl, rfl⟩

/-! ### Slots, attestation and the lockout -/

theorem opKeyZap_zaps (hflag : p.u8 8 ≤ 1) (hclean : p.dirty 9 3 = false) (hroot : p.bit 0 0 = false) : opKeyZap p s =
    reply p St.OK (leBytes 4 (zap (p.u64 0) (p.bit 8 0) s).1)
      (post 19 sevInfo 0x0B02 (arg8 (p.u64 0)) ((zap (p.u64 0) (p.bit 8 0) s).2.count F.KEY_CNT_ZAPS 1)) :=
  checked_acts (by simp [firstFail_cons_eq_none, hflag, hclean, hroot])

theorem opKeySlotInfo_tells (hslot : p.u8 0 ≤ 63) (hclean : p.dirty 1 3 = false) : opKeySlotInfo p s =
    reply p St.OK (leBytes 2 (s.handle (p.u8 0)) ++ leBytes 1 (s.keySlot (p.u8 0)).content ++
      leBytes 1 (s.keySlot (p.u8 0)).epoch ++ leBytes 4 0) s :=
  checked_acts (by simp [firstFail_cons_eq_none, hslot, hclean])

theorem opAttest_attests (hopen : s.latched = false) : opAttest p s = reply p St.OK
    (digestBytes (hmacSha256 s.att (p.bytes 0 32 ++ s.meas ++ (leBytes 1 s.seq.mode.code ++ leBytes 1 s.dbgCount))) ++
      s.meas ++ (leBytes 1 s.seq.mode.code ++ leBytes 1 s.dbgCount) ++ leBytes 2 (s.fld F.DBG_MEAS_CNT_MEAS_CNT) ++
      leBytes 8 s.serial ++ leBytes 4 0) s :=
  if_neg (Bool.eq_false_iff.1 hopen)

theorem opDbgLockout_locks (hword : p.u32 0 = 0x4C4F434B) : opDbgLockout p s = reply p St.OK []
    ((burn 0x47 0x8000#32 s).setFlag F.DBG_STAT_LOCKED_OUT true) :=
  checked_acts (by rw [hword]; rfl)

end

section
variable {s : State} {l : List KeyMiss}

theorem runDerivedKeyMiss_none (h : serveMiss s s.keys.misses = some (l, none)) :
    runDerivedKeyMiss s = { s with keys.misses := l } := by
  rw [runDerivedKeyMiss, h]

theorem runDerivedKeyMiss_derives {t : KeyTag} {k : List Byte} (h : serveMiss s s.keys.misses = some (l, some (t, k))) :
    runDerivedKeyMiss s = cacheInsert t k { s with keys.misses := l } := by
  rw [runDerivedKeyMiss, h]

end

/-- Settles O54: each packet by its checks, what a slot loses by the generation that its handles name. -/
theorem keyCommands : Obligations.KeyCommands := by
  unfold Obligations.KeyCommands
  refine ⟨⟨fun p s h => ⟨?ork, ?dk, ?load⟩, fun p s t h hflags hclean => ⟨?abandon, ?prepare⟩, ?status, ?zap, ?info, ?attest,
    ?lockout, fun s l h => answer_eq (runDerivedKeyMiss_none h) rfl,
    fun s l t k h => answer_sameQueue (runDerivedKeyMiss_derives h)⟩,
    fun i h content epoch key k s hk hi => ⟨handleKey_fillSlot hk hi, handleKey_emptySlot_same hi,
      fun j hj => handleKey_emptySlot_other hj, handle_emptySlot, by rw [emptySlot_same]⟩⟩
  case ork =>
    exact fun hparams hfree => served_sameQueue h (opKeyOrkProvision_acts (p := asOp 0x6001 p) hparams hfree)
  case dk =>
    exact fun e ebind hparams hfree he hbind =>
      served_sameQueue h (opKeyDkLoad_acts (p := asOp 0x6002 p) hparams hfree he hbind)
  case load =>
    exact fun hparams hslot hslot' hbind hfree =>
      served_sameQueue h (opKeyLoad_acts (p := asOp 0x6003 p) hparams hslot hslot' hbind hfree)
  case abandon =>
    exact fun habandon hstate =>
      served_sameQueue h (opKeyEpochPrepare_abandons (p := asOp 0x6004 p) hflags hclean habandon hstate)
  case prepare =>
    exact fun hprepare hdk hstate htime hnodes ht => served_sameQueue h
      (opKeyEpochPrepare_prepares (p := asOp 0x6004 p) hflags hclean hprepare hdk hstate htime hnodes ht)
  case status =>
    intro p s h
    obtain ⟨data, hrun, hdata⟩ := opKeyEpochStatus_tells (p := asOp 0x6005 p) (s := s)
    exact ⟨data, served_next h hrun (reply_pending ..), hdata⟩
  case zap =>
    exact fun p s h hflag hclean hroot =>
      served_sameQueue h (opKeyZap_zaps (p := asOp 0x6006 p) hflag hclean hroot)
  case info =>
    exact fun p s h hslot hclean =>
      served_next h (opKeySlotInfo_tells (p := asOp 0x6007 p) hslot hclean) (reply_pending ..)
  case attest =>
    exact fun p s h hopen => managed_next h (opAttest_attests (p := asOp 0xF101 p) hopen) (reply_pending ..)
  case lockout =>
    exact fun p s h hword => managed_next h (opDbgLockout_locks (p := asOp 0xF103 p) hword) (reply_pending ..)

end Sys2Proof.Machine

/-! The ledger through its windows and its packets (R316 to R345). -/

namespace Sys2Proof.Machine

open Sys2Proof.Claims

/-! ### The windows -/

section
variable {op : Nat} {w : Writer} {win : Fin 4} {v : Word} {s : State} (hr : s.reaches (R.LDG_CMD win.val) = true)
include hr

theorem ldgRow_ignored (hwin : win.val ≠ 0) (hother : writerIsFirmware w = false) : ldgRow op w win v s = s := by
  rw [ldgRow, ldgCmdWrite, atReg_acts hr]
  exact if_pos ⟨hwin, hother⟩

theorem ldgRow_runs {x : Word} {o : LOp} {r : LRes × State} (hwriter : win.val = 0 ∨ writerIsFirmware w = true)
    (hx : x = ((v &&& 0x8FFFFFFF#32) ||| BitVec.ofNat 32 (op * 2 ^ 28)) &&&
      (if win.val = 0 then 0x7FF3FFFF#32 else 0xFFF3FFFF#32))
    (ho : o = { op := x.toNat / 2 ^ 28 % 8, table := x.toNat / 2 ^ 24 % 16, keyed := x.toNat / 2 ^ 23 % 2 == 1,
                txn := x.toNat / 2 ^ 31 == 1, word := x.toNat / 2 ^ 20 % 8, index := x.toNat % 2 ^ 18,
                mask := s.pair (R.LDG_MASK_LO win.val) (R.LDG_MASK_HI win.val),
                cas := BitVec.ofNat 64 (s.pair (R.LDG_CAS_LO win.val) (R.LDG_CAS_HI win.val)),
                data := BitVec.ofNat 512 (leNat ((List.range 16).flatMap (fun k =>
                  leBytes 4 (s.word (R.LDG_DATA win.val k)).toNat))) })
    (hres : r = ledgerOp (windowWho w win.val) (win.val == 0) o (s.setWord (R.LDG_CMD win.val) x)) :
    ldgRow op w win v s = (((storeWords (R.LDG_DATA win.val 0) 16 (leBytes 64 r.1.data.toNat) r.2).setFlag
      (F.LDG_WSTAT_PROTECTED win.val) r.1.prot).setFld (F.LDG_WSTAT_RESULT win.val)
      (resultCode r.1.status)).setFld (F.LDG_WSTAT_INDEX win.val) r.1.index := by
  have hgo : ¬ (win.val ≠ 0 ∧ writerIsFirmware w = false) := by
    rcases hwriter with h | h <;> simp [h]
  have hword : (if win.val = 0 then ((v &&& 0x8FFFFFFF#32) ||| BitVec.ofNat 32 (op * 2 ^ 28)) &&& 0x7FF3FFFF#32
      else ((v &&& 0x8FFFFFFF#32) ||| BitVec.ofNat 32 (op * 2 ^ 28)) &&& 0xFFF3FFFF#32) = x := by
    rw [hx]
    split <;> rfl
  rw [ldgRow, ldgCmdWrite, atReg_acts hr]
  dsimp only
  rw [if_neg hgo, hword, ← ho, ← hres]

end

/-- A row of the windows runs the operation of its number. -/
def RunsWindow : Nat × (Writer → Fin 4 → Word → Instr) → Prop
  | (op, row) => ∀ w win v s, exec (row w win v) s = answer (ldgRow op w win v) s

/-! ### The packets -/

section
variable {p : Packet} {s : State}

theorem opLdgAccess_runs {o : LOp} {r : LRes × State} (hflags : p.u8 2 ≤ 3) (hword : p.u8 3 ≤ 7)
    (hclean : p.dirty 24 8 = false)
    (ho : o = { op := p.u8 0, table := p.u8 1, keyed := p.bit 2 0, txn := p.bit 2 1, word := p.u8 3, index := p.u32 4,
                mask := p.u64 8, cas := BitVec.ofNat 64 (p.u64 16), data := BitVec.ofNat 512 (leNat (p.bytes 32 64)) })
    (hr : r = ledgerOp p.issuer.toNat (restrictedIssuer p) o s) : opLdgAccess p s = reply p r.1.status
      (leBytes 4 r.1.index ++ leBytes 1 (if r.1.prot then 1 else 0) ++ leBytes 3 0 ++ leBytes 64 r.1.data.toNat) r.2 := by
  rw [opLdgAccess]
  dsimp only
  rw [if_neg (by simp [hflags, hword, hclean]), ← ho, ← hr]

section
variable {c : Nat} {t : State} (hflag : p.u8 0 ≤ 1) (hclean : p.dirty 1 3 = false) (hc : s.ctxOf p.issuer.toNat = some c)
  (ht : t = s.setCtx c LdgCtx.free)
include hflag hclean hc ht

theorem opLdgUnlock_discards (hdiscard : p.bit 0 0 = false) : opLdgUnlock p s = reply p St.OK (leBytes 8 0) t := by
  rw [opLdgUnlock, checked_acts (by simp [firstFail_cons_eq_none, hflag, hclean, hc]), hc]
  dsimp only
  rw [← ht, if_pos (by simp [hdiscard]), done]

theorem opLdgUnlock_fails {e : Staged} (hcommit : p.bit 0 0 = true) (he : (s.ctx c).staged.find? t.casFails = some e) :
    opLdgUnlock p s = reply p St.TBL_CAS_FAIL (leBytes 2 0 ++ leBytes 2 e.table ++ leBytes 4 e.index) t := by
  rw [opLdgUnlock, checked_acts (by simp [firstFail_cons_eq_none, hflag, hclean, hc]), hc]
  dsimp only
  rw [← ht, if_neg (by simp [hcommit]), he]

theorem opLdgUnlock_commits (hcommit : p.bit 0 0 = true) (hnone : (s.ctx c).staged.find? t.casFails = none) :
    opLdgUnlock p s = reply p St.OK (leBytes 2 (s.ctx c).staged.length ++ leBytes 6 0)
      ((s.ctx c).staged.foldl (fun s (e : Staged) => putBits e.table e.index e.mask e.data s) t) := by
  rw [opLdgUnlock, checked_acts (by simp [firstFail_cons_eq_none, hflag, hclean, hc]), hc]
  dsimp only
  rw [← ht, if_neg (by simp [hcommit]), hnone]
  rfl

end

theorem opLdgLearnSet_sets {t : State} (hflags : p.u8 0 ≤ 3) (hburst : 1 ≤ p.u8 1) (hrate : 1 ≤ p.u16 2)
    (hrate' : p.u16 2 ≤ 2000) (hclean : p.dirty 8 4 = false)
    (ht : t = (((((s.setFlag F.LDG_LEARN_CTL_NODE_EN (p.bit 0 0)).setFlag F.LDG_LEARN_CTL_BNT_EN (p.bit 0 1)).setFld
      F.LDG_LEARN_CTL_BURST (p.u8 1)).setFld F.LDG_LEARN_CTL_RATE (p.u16 2)).setFld F.LDG_AGE_CFG_LEARN_AGE_S
      (p.u16 4)).setFld F.LDG_AGE_CFG_BNT_AGE_S (p.u16 6)) :
    opLdgLearnSet p s = reply p St.OK [] { t with ledger.tokens := least2 s.ledger.tokens (p.u8 1) } := by
  have hburst0 : p.u8 1 ≠ 0 := by omega
  have hrate0 : p.u16 2 ≠ 0 := by omega
  subst ht
  exact checked_acts (by simp [firstFail_cons_eq_none, hflags, hburst0, hrate0, hrate', hclean])

theorem opLdgMismatchRead_reads (hmin : 1 ≤ p.u8 0) (hmax : p.u8 0 ≤ 29) (hclean : p.dirty 1 3 = false) :
    opLdgMismatchRead p s = reply p St.OK
      (leBytes 1 (s.ledger.mmf.take (p.u8 0)).length ++ leBytes 1 0 ++ leBytes 2 (s.fld F.LDG_MMF_STAT_OVERFLOW) ++
        (s.ledger.mmf.take (p.u8 0)).flatMap Mismatch.bytes) { s with ledger.mmf := s.ledger.mmf.drop (p.u8 0) } := by
  have hmin0 : p.u8 0 ≠ 0 := by omega
  exact checked_acts (by simp [firstFail_cons_eq_none, hmin0, hmax, hclean])

end

/-- Settles O55: the seven rows of the windows are one write, each packet by its checks. -/
theorem ledgerCommands : Obligations.LedgerCommands := by
  unfold Obligations.LedgerCommands
  refine ⟨fun op row hrow w win v x o r s hr => ?windows, ?access, fun p s t c h hflag hclean hc ht => ⟨?discards, ?fails, ?commits⟩,
    ?learn, ?mismatch, ?pop⟩
  case windows =>
    have hrun : RunsWindow (op, row) := by
      suffices hall : ∀ y ∈ _, RunsWindow y from hall (op, row) hrow
      simp only [List.forall_mem_cons, List.not_mem_nil, false_implies, implies_true, and_true]
      and_intros
      all_goals exact fun _ _ _ _ => rfl
    refine ⟨fun hwin hother => (hrun w win v s).trans (answer_eq (ldgRow_ignored hr hwin hother) rfl),
      fun hwriter hx ho hres => (hrun w win v s).trans (answer_sameQueue (ldgRow_runs hr hwriter hx ho hres))⟩
  case access =>
    exact fun p s o r h hflags hword hclean ho hr =>
      served_sameQueue h (opLdgAccess_runs (p := asOp 0x7001 p) hflags hword hclean ho hr)
  case discards =>
    exact fun hdiscard => served_next h (opLdgUnlock_discards (p := asOp 0x7003 p) hflag hclean hc ht hdiscard) (by
      rw [reply_pending, ht]
      rfl)
  case fails =>
    exact fun e hcommit he => served_next h (opLdgUnlock_fails (p := asOp 0x7003 p) hflag hclean hc ht hcommit he) (by
      rw [reply_pending, ht]
      rfl)
  case commits =>
    exact fun hcommit hnone =>
      served_sameQueue h (opLdgUnlock_commits (p := asOp 0x7003 p) hflag hclean hc ht hcommit hnone)
  case learn =>
    exact fun p s t h hflags hburst hrate hrate' hclean ht =>
      served_sameQueue h (opLdgLearnSet_sets (p := asOp 0x7004 p) hflags hburst hrate hrate' hclean ht)
  case mismatch =>
    exact fun p s h hmin hmax hclean =>
      served_next h (opLdgMismatchRead_reads (p := asOp 0x7005 p) hmin hmax hclean) (reply_pending ..)
  case pop =>
    exact fun v s hr => answer_eq (atReg_acts hr) (by split <;> rfl)

end Sys2Proof.Machine

/-! The ledger's own work: locks that time out, ageing, tokens, the background compare and its error checks (R322, R330
to R345). -/

namespace Sys2Proof.Machine

open Sys2Proof.Claims

section
variable {s : State}

theorem runLdgLockTimeout_abandons {c : Fin 4} {who : Nat} (hwho : (s.ctx c.val).owner = some who)
    (hfirmware : ¬ (0x40 ≤ who ∧ who ≤ 0x7F))
    (hdue : (s.ctx c.val).last + most2 12000 (s.word R.LDG_LOCK_TMO).toNat ≤ s.now) :
    runLdgLockTimeout c s = abandon c.val 2 s := by
  rw [runLdgLockTimeout, hwho]
  exact if_pos (by simpa [hdue] using (show who < 0x40 ∨ 0x7F < who by omega))

/-! ### Ageing and tokens -/

section
variable {node : BitVec 17} {t : State} {l : Limiter} (hage : s.fld F.LDG_AGE_CFG_LEARN_AGE_S ≠ 0)
  (hstate : s.nodeState node.toNat = nsLearned) (hfrozen : s.nf node.toNat N.FROZEN ≠ 1)
  (hfree : s.stagedAny 0 node.toNat = false)
  (hdue : s.nf node.toNat N.ANCHOR + s.fld F.LDG_AGE_CFG_LEARN_AGE_S * 120000000 < s.now)
  (ht : t = (freeNode node.toNat s).count F.LDG_LEARN_CNT1_AGED 1)
include hage hstate hfrozen hfree hdue ht

omit ht in
theorem learnAged_due : ¬ (s.fld F.LDG_AGE_CFG_LEARN_AGE_S * 120000000 = 0 ∨ s.nodeState node.toNat ≠ nsLearned ∨
    s.nf node.toNat N.FROZEN = 1 ∨ s.stagedAny 0 node.toNat = true ∨
    s.now ≤ s.nf node.toNat N.ANCHOR + s.fld F.LDG_AGE_CFG_LEARN_AGE_S * 120000000) := by
  have hspan : s.fld F.LDG_AGE_CFG_LEARN_AGE_S * 120000000 ≠ 0 := by omega
  simp only [hspan, hstate, hfrozen, hfree, Nat.not_le.2 hdue, ne_eq, not_true, Bool.false_eq_true, or_self, not_false_eq_true]

theorem runLearnAged_posts {n : Nat} (hlim : limited 120000000 t.now t.ledger.agedLim = (some n, l)) :
    runLearnAged node s = post 20 sevInfo 0x0D02 (arg2 n ++ arg4 node.toNat) { t with ledger.agedLim := l } := by
  rw [runLearnAged]
  dsimp only
  rw [if_neg (learnAged_due hage hstate hfrozen hfree hdue), ← ht, hlim]

theorem runLearnAged_quiet (hlim : limited 120000000 t.now t.ledger.agedLim = (none, l)) :
    runLearnAged node s = { t with ledger.agedLim := l } := by
  rw [runLearnAged]
  dsimp only
  rw [if_neg (learnAged_due hage hstate hfrozen hfree hdue), ← ht, hlim]

end

theorem runBntAge_ages {i : Fin 4096} (hage : s.fld F.LDG_AGE_CFG_BNT_AGE_S ≠ 0) (hvalid : bntValid (s.bntEntry i.val) = true)
    (hstatic : bntStatic (s.bntEntry i.val) = false)
    (hdue : s.fld F.LDG_AGE_CFG_BNT_AGE_S * 120000000 <
      (at24 s.now + 2 ^ 32 - bntSeen (s.bntEntry i.val)) % 2 ^ 32 * 2 ^ 24) :
    runBntAge i s = (s.setBnt i.val 0).count F.LDG_BNT_CNT1_AGED 1 := by
  refine if_neg ?_
  rintro (h | h | h | h)
  · exact hage ((Nat.mul_eq_zero.1 h).resolve_right (by decide))
  · exact Bool.noConfusion (hvalid.symm.trans h)
  · exact Bool.noConfusion (hstatic.symm.trans h)
  · exact Nat.not_le.2 hdue h

/-! ### The background compare -/

section
variable {v : Word} {t : State} {en : Bool} (hr : s.reaches R.LDG_BGC_CTL = true)
  (hen : en = (v.getLsbD 31 && s.shadowOk))
  (ht : t = ((s.setWord R.LDG_BGC_CTL (v &&& 0xFFFF0000#32)).setFlag F.LDG_BGC_CTL_EN en).setFlag F.LDG_BGC_STAT_RUNNING en)
include hr hen ht

theorem runBgcCtlWrite_starts (hon : en = true) (hwas : s.flag F.LDG_BGC_CTL_EN = false) : runBgcCtlWrite v s =
    { t.setFld F.LDG_BGC_STAT_POSITION (t.fld F.LDG_BGC_FIRST_SHORT_ID) with ledger.visitAt := s.now } := by
  have hnow : t.now = s.now := by
    refine State.now_congr (by rw [ht]; rfl) ?_
    rw [ht, State.setFlag, State.fld_setFld_off _ _ _ _ (by decide), State.setFlag, State.fld_setFld_off _ _ _ _ (by decide), State.fld,
      State.word_setWord_other _ _ (by decide), State.fld]
  rw [runBgcCtlWrite, atReg_acts hr]
  dsimp only
  rw [← hen, ← ht, if_pos (by simp [hon, hwas]), hnow]

theorem runBgcCtlWrite_sets (hkeep : en = false ∨ s.flag F.LDG_BGC_CTL_EN = true) : runBgcCtlWrite v s = t := by
  rw [runBgcCtlWrite, atReg_acts hr]
  dsimp only
  rw [← hen, ← ht]
  exact if_neg (by rcases hkeep with h | h <;> simp [h])

end

theorem runBgcVisit_visits {t u : State} {per id diff : Nat} {ecc xref : Bool}
    (hper : per = 120000 / most2 1 (s.fld F.LDG_BGC_CTL_RATE)) (hruns : s.flag F.LDG_BGC_STAT_RUNNING = true)
    (hdue : s.ledger.visitAt + per ≤ s.now) (hid : id = s.fld F.LDG_BGC_STAT_POSITION)
    (hdiff : diff = diffBytes (s.pair R.LDG_BGC_MASK_LO R.LDG_BGC_MASK_HI) (leBytes 64 (s.node id).toNat)
      (s.dramRead (s.shadowBase + 64 * id - dramBase) 64)) (hecc : ecc = s.rowBad 0 id)
    (hxref : xref = (s.flag F.LDG_BGC_CTL_XREF && s.nodeState id != nsFree && s.idOf (s.nf id N.EUI64) != some id))
    (ht : t = { s with ledger.visitAt := s.ledger.visitAt + per })
    (hu : u = if diff ≠ 0 ∨ ecc = true ∨ xref = true then mismatch ⟨id, xref, ecc, diff, at24 t.now⟩ t else t) :
    runBgcVisit s = if u.fld F.LDG_BGC_LAST_SHORT_ID ≤ id then sweepEnd u
      else u.setFld F.LDG_BGC_STAT_POSITION (id + 1) := by
  subst hu ht hxref hecc hdiff hid hper
  exact if_neg (by simp [hruns, hdue])

theorem runLdgEccUncorr_counts {table : Fin 9} {idx : BitVec 18} {word : Fin 8} {l : List (Nat × Nat × Nat)}
    (hidx : idx.toNat < (tableShape table.val).2) (hword : 8 * word.val < (tableShape table.val).1)
    (hknown : s.ledger.bad.contains (table.val, idx.toNat, word.val) = true → l = s.ledger.bad)
    (hnew : s.ledger.bad.contains (table.val, idx.toNat, word.val) = false →
      l = (table.val, idx.toNat, word.val) :: s.ledger.bad) :
    runLdgEccUncorr table idx word s = post 20 sevDegraded 0x0D06 (arg1 table.val ++ arg4 idx.toNat)
      (ldgRaise 4 (({ s with ledger.bad := l } : State).count F.LDG_ECC_CNT_UNCORRECTABLE 1)) := by
  rw [runLdgEccUncorr, if_neg (not_or.2 ⟨Nat.not_le.2 hidx, Nat.not_le.2 hword⟩)]
  dsimp only
  by_cases h : s.ledger.bad.contains (table.val, idx.toNat, word.val) = true
  · rw [if_pos h, hknown h]
  · rw [if_neg h, hnew (Bool.eq_false_iff.2 h)]

end

/-- Settles O58: each of the ledger's own events by its guard. -/
theorem ledgerUpkeep : Obligations.LedgerUpkeep := by
  unfold Obligations.LedgerUpkeep
  refine ⟨?timeout, ?aged, ?bnt, ?tokens, ?bntTokens, ?control, ?visit, ?ecc⟩
  case timeout =>
    exact fun c who s hwho hfirmware hdue => answer_sameQueue (runLdgLockTimeout_abandons hwho hfirmware hdue)
  case aged =>
    exact fun node s t hage hstate hfrozen hfree hdue ht =>
      ⟨fun n l hlim => answer_sameQueue (runLearnAged_posts hage hstate hfrozen hfree hdue ht hlim),
      fun l hlim => answer_sameQueue (runLearnAged_quiet hage hstate hfrozen hfree hdue ht hlim)⟩
  case bnt =>
    exact fun i s hage hvalid hstatic hdue => answer_sameQueue (runBntAge_ages hage hvalid hstatic hdue)
  case tokens =>
    intro s per k hper hk
    subst hk hper
    exact answer_eq rfl rfl
  case bntTokens =>
    intro s k hk
    subst hk
    exact answer_eq rfl rfl
  case control =>
    exact fun v s t en hr hen ht =>
      ⟨fun hon hwas => answer_sameQueue (runBgcCtlWrite_starts hr hen ht hon hwas),
      fun hkeep => answer_eq (runBgcCtlWrite_sets hr hen ht hkeep) (by rw [ht]; rfl)⟩
  case visit =>
    exact fun s t u per id diff ecc xref hper hruns hdue hid hdiff hecc hxref ht hu =>
      answer_sameQueue (runBgcVisit_visits hper hruns hdue hid hdiff hecc hxref ht hu)
  case ecc =>
    exact fun table idx word s l hidx hword hknown hnew =>
      answer_sameQueue (runLdgEccUncorr_counts hidx hword hknown hnew)

end Sys2Proof.Machine

/-! Forwarding: routes, configuration, flushes, a packet's way and the report of drops (R346 to R360). -/

namespace Sys2Proof.Machine

open Sys2Proof.Claims

section
variable {p : Packet} {s : State}

theorem opFwdRouteSet_sets (hroute : p.u8 0 ≤ 31) (hact : p.u8 1 ≤ 4) (hclean : p.u8 1 ≠ 1 → p.dirty 4 8 = false)
    (hclean' : p.dirty 12 4 = false) (hbits : p.bits 11 7 4 = 0) (hlen : p.u8 2 ≤ 128)
    (hprefix : beAt p.params 16 16 % 2 ^ (128 - p.u8 2) = 0) (hport : p.u8 1 = 1 → p.u8 3 ≤ 1)
    (hring : p.u8 1 = 3 → p.u8 3 ≤ 63) (hnone : p.u8 1 ≠ 1 → p.u8 1 ≠ 3 → p.u8 3 = 0) : opFwdRouteSet p s = reply p St.OK []
      { s with fwd.routes := s.fwd.routes.set [] (p.u8 0) (if p.u8 1 = 0 then [] else p.bytes 0 32) } := by
  have hdirty : (p.u8 1 != 1 && p.dirty 4 8) = false := by simpa using hclean
  have hport' : (p.u8 1 == 1 && decide (1 < p.u8 3)) = false := by simpa using hport
  have hring' : (p.u8 1 == 3 && decide (63 < p.u8 3)) = false := by simpa using hring
  have hnone' : ((p.u8 1 == 0 || p.u8 1 == 2 || p.u8 1 == 4) && p.u8 3 != 0) = false := by
    rw [Bool.and_eq_false_imp]
    intro h
    simp only [Bool.or_eq_true, beq_iff_eq] at h
    simp [hnone (by omega) (by omega)]
  rw [opFwdRouteSet]
  dsimp only
  rw [checked_acts (by
    simp only [firstFail_cons_eq_none, hclean', hbits, hdirty, hprefix, hport', hring', hnone']
    simp [hroute, hact, hlen]), done]

theorem opFwdRouteRead_reads (hroute : p.u8 0 ≤ 31) (hclean : p.dirty 1 3 = false) : opFwdRouteRead p s = reply p St.OK
    (if s.fwdRoute (p.u8 0) = [] then leBytes 1 (p.u8 0) ++ leBytes 31 0 else s.fwdRoute (p.u8 0)) s :=
  checked_acts (by simp [firstFail_cons_eq_none, hroute, hclean])

theorem opFwdCfgSet_sets {t : State} (hbits : p.bits 8 7 4 = 0) (hcheck : p.bits 8 2 1 ≠ 3) (hclean : p.dirty 9 1 = false)
    (hclean' : p.dirty 12 4 = false) (hmtu : 1280 ≤ p.u16 10) (hmtu' : p.u16 10 ≤ 9000)
    (hprefix : s.inMode [.calibrate, .test] = true ∨ p.bytes 0 8 = s.fwdPrefix)
    (ht : t = ((s.setPair R.FWD_PREFIX_LO R.FWD_PREFIX_HI (p.u64 0)).setFlag F.FWD_CTL_EN (p.bit 8 0)).setFld
      F.FWD_CTL_SRC_CHECK (p.bits 8 2 1)) :
    opFwdCfgSet p s = reply p St.OK [] ((t.setFlag F.FWD_CTL_EXC_TO_HOST (p.bit 8 3)).setFld F.FWD_CTL_ETH_MTU (p.u16 10)) := by
  have hprefix' : (!s.inMode [.calibrate, .test] && p.bytes 0 8 != s.fwdPrefix) = false := by
    rcases hprefix with h | h <;> simp [h]
  subst ht
  refine checked_acts ?_
  simp only [firstFail_cons_eq_none, hclean, hclean', hbits, hprefix']
  simp [hcheck, hmtu, hmtu']

theorem opFwdDlqFlush_flushes (hid : p.u32 0 < broadcastId) (hon : onWheel (s.nodeState (p.u32 0)) = true) :
    opFwdDlqFlush p s = reply p St.OK (leBytes 4 (dlqFlush (p.u32 0) s).1) (dlqFlush (p.u32 0) s).2 := by
  rw [opFwdDlqFlush]
  dsimp only
  rw [checked_acts (by simp [firstFail_cons_eq_none, hid, hon]), done]

end

/-! ### A packet's way -/

section
variable {it : QItem} {rest : List QItem} {s t : State} (hqueue : s.fwd.ingress = it :: rest)
  (ht : t = { s with fwd.ingress := rest })
include hqueue ht

theorem runPacketForward_held (hheld : t.held = true) (hmode : t.inMode [.service, .test] = true) :
    runPacketForward s = if t.flag F.FWD_CTL_EN then fwdDecide it t else freePages it.pages t := by
  subst ht
  rw [runPacketForward, hqueue]
  exact if_pos (Bool.and_eq_true_iff.2 ⟨hheld, hmode⟩)

theorem runPacketForward_banked (hidle : t.held = false ∨ t.inMode [.service, .test] = false) :
    runPacketForward s = if t.nodeBound it && (!t.held || t.inMode [.banked]) then fwdDrop F.FWD_DROP3_BANKED it t
      else freePages it.pages t := by
  subst ht
  rw [runPacketForward, hqueue]
  refine if_neg fun h => ?_
  obtain ⟨hheld, hmode⟩ := Bool.and_eq_true_iff.1 h
  exact hidle.elim (fun h => Bool.noConfusion (hheld.symm.trans h)) fun h => Bool.noConfusion (hmode.symm.trans h)

end

theorem runFwdDropsReport_posts {s : State} {rise : List Nat}
    (hrise : rise = (List.range 9).map (fun i => if nth (dropFields.map s.fld) i < nth s.fwd.drops i
      then nth (dropFields.map s.fld) i else nth (dropFields.map s.fld) i - nth s.fwd.drops i))
    (hdue : ∀ x, s.fwd.dropsAt = some x → x + 120000000 ≤ s.now) (hany : rise.any (· != 0) = true) :
    runFwdDropsReport s = post 21 sevDegraded 0x0E01 (rise.flatMap arg2)
      { s with fwd.drops := dropFields.map s.fld, fwd.dropsAt := some s.now } := by
  rw [runFwdDropsReport]
  dsimp only
  rw [← hrise]
  cases hlast : s.fwd.dropsAt with
  | none => exact if_pos (Bool.and_eq_true_iff.2 ⟨rfl, hany⟩)
  | some x => exact if_pos (Bool.and_eq_true_iff.2 ⟨decide_eq_true (hdue x hlast), hany⟩)

end Sys2Proof.Machine

/-! Firmware rollout: a campaign is configured, gets its targets, starts, sends, stops and reports (R361 to R373). -/

namespace Sys2Proof.Machine

open Sys2Proof.Claims

section
variable {p : Packet} {s : State}

theorem opRolCampaignSet_configures {t u : State} {x y : Campaign} {c : Nat} (hc : p.u8 0 = c) (hc' : c ≤ 15)
    (hframe : 1 ≤ p.u8 3) (hframe' : p.u8 3 ≤ 16) (hprof : p.u8 21 ≤ 62) (htier : p.u8 22 ≤ 3) (hdrive : p.u8 23 ≤ 64)
    (hclean : p.dirty 17 3 = false) (hclean' : p.dirty 26 2 = false) (hclean'' : p.dirty 32 16 = false)
    (hloaded : s.profLoaded (p.u8 21) = true) (htype : profType (s.profile (p.u8 21)) = 1 ∨ p.u8 22 = 0)
    (hlive : s.campLive c = false) (hlen : 1 ≤ p.u32 8) (hlen' : p.u32 8 ≤ 16777216) (hcode : p.u8 1 ≤ 5) (hmax : 1 ≤ p.u8 2)
    (hdram : s.inDram (p.u64 12) (p.u32 8) = true) (hhead : s.isHead (p.u8 20) = true)
    (hfits : 44 + p.u8 3 * (32 * 2 ^ p.u8 1) ≤ 2047) (hkey : s.keyLoaded 2 = true) (ht : t = s.draw.2)
    (hx : x = { Campaign.reset with
      tCode := p.u8 1, kMax := p.u8 2, perFrame := p.u8 3, imageId := p.u32 4, length := p.u32 8, addr := p.u64 12,
      channel := p.u8 20, profile := p.u8 21, tier := p.u8 22, drive := p.u8 23, fwTag := p.u16 24,
      frameLimit := p.u32 28, seed := s.draw.1 % 2 ^ 32 })
    (hy : y = { x with crc := (crc32 (t.image x)).toNat })
    (hu : u = (((pendClear c (t.setCamp c y)).setWord (R.ROL_CAMP_SENT c) 0).setWord (R.ROL_CAMP_SKIP c) 0).setWord
      (R.ROL_CAMP_DONE c) 0) : opRolCampaignSet p s = reply p St.OK
      (leBytes 4 y.nSym ++ leBytes 2 y.z ++ leBytes 2 0 ++ leBytes 4 y.seed ++ leBytes 4 y.crc)
      (setCampState c rsConfigured u) := by
  have hframe0 : p.u8 3 ≠ 0 := by omega
  have hlen0 : p.u32 8 ≠ 0 := by omega
  have hmax0 : p.u8 2 ≠ 0 := by omega
  have htype' : (profType (s.profile (p.u8 21)) != 1 && p.u8 22 != 0) = false := by
    rcases htype with h | h <;> simp [h]
  rw [opRolCampaignSet]
  dsimp only
  rw [hc, checked_acts (by
    simp only [firstFail_cons_eq_none, hclean, hclean', hclean'', htype', hlive, hdram, hhead, hloaded, hkey,
      Bool.true_and]
    simp [hc', hframe0, hframe', hprof, htier, hdrive, hlen0, hlen', hcode, hmax0, hfits])]
  subst hu hy hx ht
  rfl

theorem opRolTarget_targets {r : Nat × Nat × State} (hc : p.u8 0 ≤ 15) (hkind : p.u8 1 ≤ 3) (hcount : p.u16 4 ≤ 120)
    (hclean : p.dirty 6 2 = false) (hlive : s.campLive (p.u8 0) = true)
    (hadd : p.u8 1 = 0 → r = ((List.range (p.u16 4)).map (fun i => p.u32 (8 + 4 * i))).foldl (rolAdd (p.u8 0)) (0, 0, s))
    (hdrop : p.u8 1 = 1 → r = (0, 0,
      ((List.range (p.u16 4)).map (fun i => p.u32 (8 + 4 * i))).foldl (fun s id => pendDrop (p.u8 0) id s) s))
    (hall : p.u8 1 = 2 → r = ((s.ledger.ntab.filter
      (fun e => N.STATE.read e.2 != nsFree && N.FW_TAG.read e.2 == p.u16 2)).map (·.1)).foldl (rolAdd (p.u8 0)) (0, 0, s))
    (hclear : p.u8 1 = 3 → r = (0, 0, if (pendClear (p.u8 0) s).campState (p.u8 0) = rsSending
      then campDone (p.u8 0) (pendClear (p.u8 0) s) else pendClear (p.u8 0) s)) :
    opRolTarget p s = reply p St.OK
      (leBytes 4 r.1 ++ leBytes 4 r.2.1 ++ leBytes 4 (r.2.2.fld (F.ROL_CAMP_STAT_PENDING (p.u8 0)))) r.2.2 := by
  have hcases : p.u8 1 = 0 ∨ p.u8 1 = 1 ∨ p.u8 1 = 2 ∨ p.u8 1 = 3 := by omega
  rw [opRolTarget]
  dsimp only
  rw [checked_acts (by simp [firstFail_cons_eq_none, hc, hkind, hcount, hclean, hlive]), done]
  rcases hcases with h | h | h | h
  · rw [h, hadd h]
    rfl
  · rw [h, hdrop h]
    rfl
  · rw [h, hall h]
    rfl
  · rw [h, hclear h]
    rfl

theorem opRolStart_starts {x : Campaign} (hc : p.u8 0 ≤ 15) (hwin : 1 ≤ p.u8 1) (hperiod : p.u8 1 ≤ p.u16 2)
    (hclean : p.dirty 10 2 = false) (hstate : s.campState (p.u8 0) = rsConfigured) (hruns : s.almanacRuns = true)
    (htime : s.rolTooLate (p.u32 4) (p.u16 8) = false)
    (hx : x = { s.camp (p.u8 0) with winRounds := p.u8 1, period := p.u16 2, startEpoch := p.u32 4, startRound := p.u16 8 }) :
    opRolStart p s = reply p St.OK [] ((s.camp (p.u8 0)).announce.foldl (fun s a => queueAnnounce (p.u8 0) a.1 s)
      (setCampState (p.u8 0) rsAnnouncing (s.setCamp (p.u8 0) x))) := by
  have hwin0 : p.u8 1 ≠ 0 := by omega
  subst hx
  rw [opRolStart]
  dsimp only
  rw [checked_acts (by simp [firstFail_cons_eq_none, hc, hwin0, hperiod, hclean, hstate, hruns, htime]), done]

theorem opRolStop_stops (hc : p.u8 0 ≤ 15) (hbits : p.bits 1 7 1 = 0) (hclean : p.dirty 2 2 = false)
    (hstate : s.campState (p.u8 0) ≠ rsIdle) : opRolStop p s = reply p St.OK []
      (if s.campLive (p.u8 0) then campAbort (p.u8 0) 1 s
       else if p.bit 1 0 then setCampState (p.u8 0) rsIdle (pendClear (p.u8 0) s) else s) := by
  rw [opRolStop, checked_acts (by simp [firstFail_cons_eq_none, hc, hbits, hclean, hstate]), done]

theorem opRolStatus_tells {c : Nat} {x : Campaign} (hc' : p.u8 0 ≤ 15) (hclean : p.dirty 1 3 = false) (hc : c = p.u8 0)
    (hx : x = s.camp c) : opRolStatus p s = reply p St.OK (leBytes 1 (s.campState c) ++ leBytes 1 x.cause ++
      leBytes 2 x.z ++ leBytes 4 (s.fld (F.ROL_CAMP_STAT_PENDING c)) ++ leBytes 4 (s.fld (F.ROL_CAMP_DONE_DONE c)) ++
      leBytes 4 (s.fld (F.ROL_CAMP_DONE_FAILED c)) ++ leBytes 4 (s.fld (F.ROL_CAMP_SENT_SENT c)) ++
      leBytes 4 (s.fld (F.ROL_CAMP_SKIP_SKIPPED_TX c) + s.fld (F.ROL_CAMP_SKIP_SKIPPED_CTR c) + x.encSkips) ++
      leBytes 4 x.next ++ leBytes 4 x.seed ++ leBytes 4 x.crc ++ leBytes 4 0) s := by
  rw [opRolStatus, checked_acts (by simp [firstFail_cons_eq_none, hc', hclean]), ← hc, ← hx, done]

end

theorem rolTarget_len {p : Packet} (h : p.n = 8 + 4 * p.u16 4) :
    (fun p : Packet => p.n == 8 + 4 * p.u16 4) (asOp 0x9002 p) = true := beq_iff_eq.2 h

/-- Settles O59: each packet by its checks, a packet's way and a campaign's windows by their guards. -/
theorem forwardAndRolloutCommands : Obligations.ForwardAndRolloutCommands := by
  unfold Obligations.ForwardAndRolloutCommands
  refine ⟨⟨?routeSet, ?routeRead, ?cfg, ?flush, fun it rest s t hqueue ht => ⟨?decides, ?off, fun hidle => ⟨?drops, ?frees⟩⟩,
    ?report⟩, ?campaign, ?target, ?start, fun p s h hc hbits hclean hstate => ⟨?stopLive, ?stopClear, ?stopKeep⟩, ?status,
    ?window⟩
  case routeSet =>
    intro p s h hroute hact hclean hclean' hbits hlen hprefix hport hring hnone
    exact served_next h (opFwdRouteSet_sets (p := asOp 0x8001 p) hroute hact hclean hclean' hbits hlen hprefix hport hring
      hnone) (reply_pending ..)
  case routeRead =>
    exact fun p s h hroute hclean =>
      served_next h (opFwdRouteRead_reads (p := asOp 0x8002 p) hroute hclean) (reply_pending ..)
  case cfg =>
    exact fun p s t h hbits hcheck hclean hclean' hmtu hmtu' hprefix ht => served_sameQueue h
      (opFwdCfgSet_sets (p := asOp 0x8003 p) hbits hcheck hclean hclean' hmtu hmtu' hprefix ht)
  case flush =>
    exact fun p s h hid hon => served_sameQueue h (opFwdDlqFlush_flushes (p := asOp 0x8004 p) hid hon)
  case decides =>
    exact fun hheld hmode hen => answer_sameQueue ((runPacketForward_held hqueue ht hheld hmode).trans (if_pos hen))
  case off =>
    exact fun hheld hmode hoff => answer_sameQueue ((runPacketForward_held hqueue ht hheld hmode).trans
      (if_neg (Bool.eq_false_iff.1 hoff)))
  case drops =>
    exact fun hbound hbanked => answer_sameQueue ((runPacketForward_banked hqueue ht hidle).trans
      (if_pos (by simpa [hbound] using hbanked)))
  case frees =>
    exact fun hkeep => answer_sameQueue ((runPacketForward_banked hqueue ht hidle).trans
      (if_neg (hkeep.elim (fun h => by simp [h]) fun h => by simp [h.1, h.2])))
  case report =>
    exact fun s rise hrise hdue hany => answer_sameQueue (runFwdDropsReport_posts hrise hdue hany)
  case campaign =>
    intro p s t u x y c h hc hc' hframe hframe' hprof htier hdrive hclean hclean' hclean'' hloaded htype hlive hlen hlen' hcode
      hmax hdram hhead hfits hkey ht hx hy hu
    exact served_sameQueue h (opRolCampaignSet_configures (p := asOp 0x9001 p) hc hc' hframe hframe' hprof htier hdrive hclean
      hclean' hclean'' hloaded htype hlive hlen hlen' hcode hmax hdram hhead hfits hkey ht hx hy hu)
  case target =>
    intro p s r hlen hserve hmode hc hkind hcount hclean hlive hadd hdrop hall hclear
    exact answer_sameQueue (command_eq (rolTarget_len hlen) hserve hmode
      (opRolTarget_targets (p := asOp 0x9002 p) hc hkind hcount hclean hlive hadd hdrop hall hclear))
  case start =>
    exact fun p s x h hc hwin hperiod hclean hstate hruns htime hx => served_sameQueue h
      (opRolStart_starts (p := asOp 0x9003 p) hc hwin hperiod hclean hstate hruns htime hx)
  case stopLive =>
    exact fun hlive => served_sameQueue h ((opRolStop_stops (p := asOp 0x9004 p) hc hbits hclean hstate).trans
      (congrArg (reply _ St.OK []) (if_pos hlive)))
  case stopClear =>
    exact fun hlive hbit => served_sameQueue h ((opRolStop_stops (p := asOp 0x9004 p) hc hbits hclean hstate).trans
      (congrArg (reply _ St.OK []) ((if_neg (Bool.eq_false_iff.1 hlive)).trans (if_pos hbit))))
  case stopKeep =>
    exact fun hlive hbit => served_next h ((opRolStop_stops (p := asOp 0x9004 p) hc hbits hclean hstate).trans
      (congrArg (reply _ St.OK []) ((if_neg (Bool.eq_false_iff.1 hlive)).trans (if_neg (Bool.eq_false_iff.1 hbit)))))
      (reply_pending ..)
  case status =>
    exact fun p s h hc' hclean c x hc hx =>
      served_next h (opRolStatus_tells (p := asOp 0x9005 p) hc' hclean hc hx) (reply_pending ..)
  case window =>
    exact fun n s hlane hruns => answer_sameQueue (if_neg (by simp [hlane, hruns]))

end Sys2Proof.Machine

/-! The Zoant fabric: links, the district's map of links, its clock, leases and the commands (R403 to R432). -/

namespace Sys2Proof.Machine

open Sys2Proof.Claims

/-! ### What the fabric's checks leave of its routes -/

section
variable (s : State)

theorem signal_zoant (v : Nat) : (signal v s).zoant = s.zoant := by
  unfold signal
  split <;> rfl

theorem raise_zoant (int ie : Field) (mask v : Nat) : (raise int ie mask v s).zoant = s.zoant := by
  unfold raise
  dsimp only
  split
  · rw [signal_zoant, State.setFld_zoant]
  · rw [State.setFld_zoant]

theorem alignCheck_zoant : (alignCheck s).zoant = s.zoant := by
  have hraised : ∀ a, (zfbRaise 0x20 (s.setFlag F.ZFB_ID_ALIGNED a)).zoant = s.zoant := fun a => by
    rw [zfbRaise, raise_zoant, State.setFlag_zoant]
  unfold alignCheck
  dsimp only
  split
  · rfl
  · split
    · rw [post_zoant, hraised]
    · rw [post_zoant, hraised]

theorem resvSettle_zoant : (resvSettle s).zoant = s.zoant := by
  refine foldl_keeps (g := State.zoant) (fun t r => ?_) _ _
  dsimp only
  split <;> rfl

theorem mirrorCheck_zoant : (mirrorCheck s).zoant = s.zoant := by
  unfold mirrorCheck
  split
  · rfl
  · rw [resvSettle_zoant, State.setFld_zoant]

theorem setUpstream_zoant (p : Option Nat) : (setUpstream p s).zoant = s.zoant :=
  foldl_keeps (g := State.zoant) (fun _ _ => State.setFlag_zoant ..) _ _

theorem noRoute_froute (f : ZFrame) : (noRoute f s).zoant.froute = s.zoant.froute := by
  unfold noRoute
  split <;> rfl

theorem cellsFree_froute (p cls n : Nat) : (cellsFree p cls n s).zoant.froute = s.zoant.froute := by
  unfold cellsFree
  dsimp only
  split <;> rfl

theorem outDrop_froute (o : ZOut) : (outDrop o s).zoant.froute = s.zoant.froute := by
  unfold outDrop
  split
  · exact cellsFree_froute ..
  · rfl

theorem outMove_froute (p : Nat) (o : ZOut) : (outMove p o s).zoant.froute = s.zoant.froute := by
  unfold outMove
  split
  · rfl
  · split
    · rfl
    · rw [outDrop_froute, noRoute_froute]

theorem settleQueue_froute (p : Nat) : (settleQueue p s).zoant.froute = s.zoant.froute :=
  foldl_keeps (g := fun s : State => s.zoant.froute) (fun _ _ => outMove_froute ..) _ _

/-- The routes that stand after a recomputation are the ones it computed: what follows it leaves them alone. -/
theorem runRouteRecompute_froute : (runRouteRecompute s).zoant.froute = (List.range 64).foldl
    (fun (m : Sparse (BitVec 128)) c => m.set 0 c (s.routeTo s.database (s.portTrees s.database) c)) [] := by
  rw [runRouteRecompute]
  dsimp only
  rw [alignCheck_zoant, mirrorCheck_zoant,
    foldl_keeps (g := fun s : State => s.zoant.froute) (fun _ _ => settleQueue_froute ..), State.setFld_zoant, setUpstream_zoant,
    State.setFld_zoant, State.setFld_zoant]

end

/-! ### Links -/

section
variable {p : Fin 4} {s : State}

theorem runLinkDown_loses (h : s.portState p.val ≠ portDown) :
    runLinkDown p s = linkLost p.val (if s.linkSilent p.val then portTraining else portDown) s := by
  rw [runLinkDown, if_neg h]
  split <;> rfl

theorem runHelloTx_sends {f : ZFrame} {z : ZPort} (hport : portHello ≤ s.portState p.val)
    (hdue : (s.zport p.val).helloAt ≤ s.now)
    (hf : f = ⟨0, false, 0, 0, 8, 0, 32, true, .hello (BitVec.ofNat 64 s.serial) (BitVec.ofNat 32 s.district) s.idByte p.val
      (s.fld F.STP_STRAPS_PAIRROLE) (s.flag F.ZFB_ID_REGISTRAR) (s.inMode [.ember]) (s.flag F.TMB_STAT_CAL_FAULT)
      (s.zport p.val).nbrSerial⟩)
    (hz : z = { s.zport p.val with txq := (s.zport p.val).txq ++ [⟨f, none⟩], helloAt := s.now + s.helloGap p.val }) :
    runHelloTx p s = s.setZport p.val z := by
  subst hz hf
  exact if_neg (by omega)

section
variable {f : ZFrame} {stamp : Quad} (hport : portHello ≤ s.portState p.val)
include hport

theorem runHelloRx_garbled (hcrc : f.crcOk = false) : runHelloRx p f s = s.count (F.ZFB_PORT_CNT_CRC_ERR p.val) 1 :=
  (if_neg (Nat.not_lt.2 hport)).trans (if_pos (by rw [hcrc]; rfl))

theorem runZoantFrameRx_garbled (hcrc : f.crcOk = false) :
    runZoantFrameRx p f stamp s = s.count (F.ZFB_PORT_CNT_CRC_ERR p.val) 1 :=
  (if_neg (Nat.not_lt.2 hport)).trans (if_pos (by rw [hcrc]; rfl))

theorem runZoantFrameRx_sound (hcrc : f.crcOk = true) :
    runZoantFrameRx p f stamp s = soundRx p f stamp (s.setZport p.val { s.zport p.val with lastRx := s.now }) :=
  (if_neg (Nat.not_lt.2 hport)).trans (if_neg (by rw [hcrc]; exact Bool.false_ne_true))

theorem runHelloRx_sound {serial echo : Quad} {district : Word} {idb nport role : Nat} {reg ember fault : Bool} {t : State}
    {z : ZPort} (hcrc : f.crcOk = true) (hmsg : f.msg = .hello serial district idb nport role reg ember fault echo)
    (hz : z = { s.zport p.val with nbrSerial := serial, nbrId := idb, nbrEmber := ember, nbrCalFault := fault,
                                   nbrRole := role, lastRx := s.now })
    (ht : t = ((s.setZport p.val z).setFld (F.ZFB_PORT_STAT_NBR_ID p.val) (idOfByte idb)).setFld
      (F.ZFB_PORT_STAT_NBR_PORT p.val) nport) :
    runHelloRx p f s = mirrorCheck (roleCheck p.val
      (helloState p.val (t.district != 0 && district.toNat == t.district) (echo.toNat == t.serial) t)) := by
  rw [runHelloRx]
  dsimp only
  rw [if_neg (Nat.not_lt.2 hport), if_neg (by rw [hcrc]; exact Bool.false_ne_true), hmsg]
  dsimp only
  rw [← hz, ← ht]

end

end

/-! ### The district's map of links and its registrar -/

/-- Whether the chip's own entry differs from the one it sent last. -/
def lsaChanged (s : State) : Bool :=
  match s.zoant.lsaSent with
  | some l => !lsaSame l s.ownLsa
  | none => true

section
variable {s : State}

theorem lsaChanged_eq_false : lsaChanged s = false ↔ ∃ l, s.zoant.lsaSent = some l ∧ lsaSame l s.ownLsa = true := by
  unfold lsaChanged
  cases s.zoant.lsaSent <;> simp

section
variable (hdistrict : s.district ≠ 0) (hmode : s.inMode [.cold, .quarantine] = false)
include hdistrict hmode

theorem runLsaTx_waits (hsame : lsaChanged s = false) (hnow : s.now < s.zoant.lsaAt + 120000000) : runLsaTx s = s := by
  have hwait : (!lsaChanged s && decide (s.now < s.zoant.lsaAt + 120000000)) = true := by simp [hsame, hnow]
  rw [runLsaTx, if_neg (by simp [hdistrict, hmode])]
  exact if_pos hwait

theorem runLsaTx_floods (hdue : lsaChanged s = true ∨ s.zoant.lsaAt + 120000000 ≤ s.now) {t u : State}
    (ht : t = (if lsaChanged s then dbChanged (settleId s) else settleId s))
    (hu : u = { t with zoant.ownSeq := (t.zoant.ownSeq + 1) % 2 ^ 32 }) :
    runLsaTx s = zoantFlood none 24 (.lsa u.ownLsa) { u with zoant.lsaSent := some u.ownLsa, zoant.lsaAt := u.now } := by
  have hsend : ¬ (!lsaChanged s && decide (s.now < s.zoant.lsaAt + 120000000)) = true := by
    rcases hdue with h | h <;> simp [h]
  subst hu ht
  rw [runLsaTx, if_neg (by simp [hdistrict, hmode])]
  exact if_neg hsend

end

theorem runRegistrarChange_changes {t : State} {own : Bool} (hnew : s.electedRegistrar ≠ s.zoant.registrar)
    (hdue : s.zoant.changedAt + 1200000 ≤ s.now)
    (hown : own = (s.electedRegistrar != 0 && s.electedRegistrar.toNat == s.serial))
    (ht : t = ({ s with zoant.registrar := s.electedRegistrar, zoant.thetas := [] } : State).setFlag F.ZFB_ID_REGISTRAR own) :
    runRegistrarChange s = alignCheck (settleId (post (27 + s.zoant.changedBy.getD 0) sevInfo 0x1103
      (arg8 s.zoant.registrar.toNat ++ arg8 s.electedRegistrar.toNat)
      (zfbRaise 0x10 (if own then t.setFld F.ZFB_TIME_OFS_THETA 0 else t)))) := by
  have hiff : (s.electedRegistrar ≠ 0 ∧ s.electedRegistrar.toNat = s.serial) ↔ own = true := by simp [hown]
  rw [runRegistrarChange]
  dsimp only
  rw [if_neg (by simp [hnew, hdue])]
  simp only [hiff, Bool.decide_eq_true, ← ht]
  cases own <;> subst ht <;> rfl

end

/-! ### The district's commands -/

section
variable {p : Packet} {s : State}

theorem opFabCfgSet_sets {t : State} (hrate : 1 ≤ p.u16 4) (hrate' : p.u16 4 ≤ 1000) (hthr : 3 ≤ p.u16 6)
    (hthr' : p.u16 6 ≤ 12000) (htmo : 1200000 ≤ p.u32 8) (htmo' : p.u32 8 ≤ 120000000) (hclean : p.dirty 12 4 = false)
    (hdistrict : p.u32 0 = s.district ∨ s.inMode [.calibrate, .test] = true)
    (ht : t = ((setDistrict (p.u32 0) s).setFld F.ZFB_TIME_CFG_RATE (p.u16 4)).setFld F.ZFB_TIME_CFG_ALIGN_THR (p.u16 6)) :
    opFabCfgSet p s = reply p St.OK [] (alignCheck (t.setFld F.ZFB_LEASE_TMO_TICKS (p.u32 8))) := by
  have hmode : (p.u32 0 != s.district && !s.inMode [.calibrate, .test]) = false := by
    rcases hdistrict with h | h <;> simp [h]
  have hrate0 : p.u16 4 ≠ 0 := by omega
  subst ht
  rw [opFabCfgSet]
  dsimp only
  rw [checked_acts (by
    simp only [firstFail_cons_eq_none, hmode]
    simp [hrate0, hrate', hthr, hthr', htmo, htmo', hclean]), done]

theorem opFabHandover_offers {le : Nat} {o : HandoverNode} {l : List Handover} (hid : p.u32 0 < broadcastId)
    (hchip : p.u8 4 < 64) (hother : s.chipId ≠ some (p.u8 4)) (hle : p.u8 5 ≤ 16) (hle0 : p.u8 5 = 0 → le = 4)
    (hle1 : p.u8 5 ≠ 0 → le = p.u8 5) (hclean : p.dirty 6 2 = false) (hdistrict : s.district ≠ 0) (hown : s.chipId ≠ none)
    (hfree : s.hoBarred (p.u32 0) = false) (hreach : s.reachable (p.u8 4) = true) (haligned : s.flag F.ZFB_ID_ALIGNED = true)
    (hroute : entryBits (s.froute (p.u8 4)) 2 2 1 ≠ 0) (ho : o = s.offerOf (p.u32 0) le)
    (hl : l = s.zoant.handovers ++ [
      { source := true, eui := o.eui, node := p.u32 0, other := p.u8 4, newId := 0, cell := 0, eh := 0, ehAnchor := 0,
        leaseEvents := le, cmd := some s.interp.nextSeq, ready := false, switched := false, committed := false,
        acked := false, plain := false, offer := none, reused := false, heardAt := s.now }]) :
    opFabHandover p s = zoantSend (p.u8 4) 1 200 (.hoOffer o) { (defer p s).2 with zoant.handovers := l } := by
  have hform : le = if p.u8 5 = 0 then 4 else p.u8 5 := by
    split
    · exact hle0 ‹_›
    · exact hle1 ‹_›
  have hsome : s.chipId.isNone = false := by simpa using Option.isSome_iff_ne_none.2 hown
  subst hl ho hform
  rw [opFabHandover]
  dsimp only
  rw [checked_acts (by
    simp [firstFail_cons_eq_none, hid, hchip, hother, hle, hclean, hdistrict, hsome, hfree, hreach, haligned, hroute])]
  rfl

end

/-! ### Leases -/

section
variable {s t : State} {chip : Fin 64} {owner : Nat} {ctx : Bool} {hos : List Handover} (howner : owner = 0x40 + chip.val)
  (hctx : ctx = (decide (s.zoant.ctxHeard.get 0 chip.val + s.leaseTmo ≤ s.now) && (s.ctxOf owner).isSome))
  (hhos : hos = s.zoant.handovers.filter (fun h => h.other == chip.val && decide (h.heardAt + s.leaseTmo ≤ s.now)))
include howner hctx hhos

theorem runLeaseExpired_none (hnone : ctx = false) (hempty : hos = []) : runLeaseExpired chip s = s := by
  subst howner
  rw [runLeaseExpired]
  dsimp only
  rw [← hctx, ← hhos, hnone, hempty]
  rfl

theorem runLeaseExpired_some (ht : t = (if ctx then resVanishAll 4 owner owner (abandonOf 4 owner owner s) else s))
    (hsome : ctx = true ∨ hos ≠ []) : runLeaseExpired chip s =
      post 27 sevRecovered 0x110A (arg1 chip.val) (hos.foldl (fun s h => handoverExpired h s) t) := by
  have hbusy : ¬ (!ctx && hos.isEmpty) = true := by
    rcases hsome with h | h <;> simp [h]
  subst howner
  rw [runLeaseExpired]
  dsimp only
  rw [← hctx, ← hhos, if_neg hbusy, ← ht]

end

/-- Settles O60: each event by its guards, each packet by its checks, and the routes kept by what follows them. -/
theorem fabricCommands : Obligations.FabricCommands := by
  unfold Obligations.FabricCommands
  refine ⟨fun p s => ⟨?detect, ?lock, ?down⟩, ?helloTx, fun p f stamp s hport => ⟨?helloBad, ?frameBad, ?frame⟩, ?hello,
    fun s changed hdistrict hmode hchanged => ⟨?lsaWaits, ?lsaFloods⟩, ?expiry, ?routes, ?registrar, ?cfg, ?status, ?handover,
    ?retransmit, ?sync, ?renew, fun chip s t owner ctx hos howner hctx hhos ht => ⟨?leaseNone, ?leaseSome⟩⟩
  case detect => exact fun hdown hen hmode => answer_sameQueue (if_pos ⟨hdown, hen, hmode⟩)
  case lock => exact fun htraining => answer_sameQueue (if_pos htraining)
  case down => exact fun hup => answer_sameQueue (runLinkDown_loses hup)
  case helloTx =>
    intro p s f z hport hdue hf hz
    exact answer_eq (runHelloTx_sends hport hdue hf hz) rfl
  case helloBad => exact fun hcrc => answer_eq (runHelloRx_garbled hport hcrc) rfl
  case frameBad => exact fun hcrc => answer_eq (runZoantFrameRx_garbled hport hcrc) rfl
  case frame =>
    intro z hcrc hz
    subst hz
    exact answer_sameQueue (runZoantFrameRx_sound hport hcrc)
  case hello =>
    intro p f serial echo district idb nport role reg ember fault s t z hport hcrc hmsg hz ht
    exact answer_sameQueue (runHelloRx_sound hport hcrc hmsg hz ht)
  case lsaWaits =>
    exact fun hsame hnow =>
      answer_eq (runLsaTx_waits hdistrict hmode (lsaChanged_eq_false.2 (hchanged.1 hsame)) hnow) rfl
  case lsaFloods =>
    have heq : lsaChanged s = changed := Bool.eq_iff_iff.2 (by
      rw [← Bool.not_eq_false, ← Bool.not_eq_false, lsaChanged_eq_false, hchanged])
    subst heq
    exact fun hdue t u ht hu => answer_sameQueue (runLsaTx_floods hdistrict hmode hdue ht hu)
  case expiry =>
    intro chip s old hold hany l hl
    subst hl hold
    exact answer_sameQueue (if_pos hany)
  case routes => exact fun s => ⟨sameQueue s (runRouteRecompute s), rfl, runRouteRecompute_froute s⟩
  case registrar =>
    exact fun s t own hnew hdue hown ht => answer_sameQueue (runRegistrarChange_changes hnew hdue hown ht)
  case cfg =>
    exact fun p s t h hrate hrate' hthr hthr' htmo htmo' hclean hdistrict ht => served_sameQueue h
      (opFabCfgSet_sets (p := asOp 0xB001 p) hrate hrate' hthr hthr' htmo htmo' hclean hdistrict ht)
  case status => exact fun p s h => served_next h rfl (reply_pending ..)
  case handover =>
    intro p s le o l h hid hchip hother hle hle0 hle1 hclean hdistrict hown hfree hreach haligned hroute ho hl
    exact served_sameQueue h (opFabHandover_offers (p := asOp 0xB003 p) hid hchip hother hle hle0 hle1 hclean hdistrict hown
      hfree hreach haligned hroute ho hl)
  case retransmit => exact fun p s => rfl
  case sync => exact fun s hdue hmode => answer_sameQueue (if_neg (by simp [hdue, hmode]))
  case renew => exact fun s hdue hwork => answer_sameQueue (if_neg (by simp [hdue, hwork]))
  case leaseNone =>
    exact fun hnone hempty => answer_eq (runLeaseExpired_none howner hctx hhos hnone hempty) rfl
  case leaseSome =>
    exact fun hsome => answer_sameQueue (runLeaseExpired_some howner hctx hhos ht hsome)

end Sys2Proof.Machine

/-! What a stop of the planes leaves of the interpreter: with no command running, all of it. -/

namespace Sys2Proof.Machine

open Sys2Proof.Claims

/-- A fold keeps a part of the state while each step keeps it under a condition on that part. -/
theorem foldl_keeps_while {α β γ : Type} {g : β → γ} {f : β → α → β} {c : γ → Prop}
    (hf : ∀ b a, c (g b) → g (f b a) = g b) (l : List α) {b : β} {y : γ} (hy : c y) (hb : g b = y) : g (l.foldl f b) = y := by
  induction l generalizing b with
  | nil => exact hb
  | cons a l ih => exact ih ((hf b a (hb ▸ hy)).trans hb)

section
variable (s : State)

/-! ### Signals and the Zoant links -/

@[simp] theorem signal_interp (v : Nat) : (signal v s).interp = s.interp := by
  unfold signal
  split <;> rfl

@[simp] theorem raise_interp (int ie : Field) (mask v : Nat) : (raise int ie mask v s).interp = s.interp := by
  unfold raise
  dsimp only
  split <;> simp

@[simp] theorem cellsFree_interp (p cls n : Nat) : (cellsFree p cls n s).interp = s.interp := by
  unfold cellsFree
  dsimp only
  split <;> rfl

@[simp] theorem outDrop_interp (o : ZOut) : (outDrop o s).interp = s.interp := by
  unfold outDrop
  split
  · exact cellsFree_interp ..
  · rfl

@[simp] theorem noRoute_interp (f : ZFrame) : (noRoute f s).interp = s.interp := by
  unfold noRoute
  split <;> rfl

@[simp] theorem outMove_interp (p : Nat) (o : ZOut) : (outMove p o s).interp = s.interp := by
  unfold outMove
  split
  · rfl
  · split
    · rfl
    · simp

@[simp] theorem settleQueue_interp (p : Nat) : (settleQueue p s).interp = s.interp :=
  foldl_keeps (g := State.interp) (fun _ _ => outMove_interp ..) _ _

@[simp] theorem zoantRoute_interp (f : ZFrame) : (zoantRoute f s).interp = s.interp := by
  unfold zoantRoute
  split
  · rfl
  · simp

@[simp] theorem zoantSend_interp (dst cls len : Nat) (msg : ZMsg) : (zoantSend dst cls len msg s).interp = s.interp := by
  unfold zoantSend
  dsimp only
  split
  · rfl
  · rw [zoantRoute_interp]
    split <;> rfl

@[simp] theorem resvSettle_interp : (resvSettle s).interp = s.interp := by
  refine foldl_keeps (g := State.interp) (fun t r => ?_) _ _
  dsimp only
  split <;> rfl

@[simp] theorem mirrorCheck_interp : (mirrorCheck s).interp = s.interp := by
  unfold mirrorCheck
  split
  · rfl
  · simp

@[simp] theorem setPortState_interp (p v : Nat) : (setPortState p v s).interp = s.interp := by
  unfold setPortState
  dsimp only
  rw [apply_ite State.interp, zfbRaise, raise_interp, ite_self, apply_ite State.interp, settleQueue_interp, ite_self]
  split <;> rfl

@[simp] theorem rerouteFrame_interp (p : Nat) (o : ZOut) : (rerouteFrame p s o).interp = s.interp := by
  unfold rerouteFrame
  split <;> simp

@[simp] theorem forgetVia_interp (p : Nat) : (forgetVia p s).interp = s.interp := by
  unfold forgetVia
  dsimp only
  refine foldl_keeps (g := State.interp) (fun t q => ?_) _ _
  rfl

@[simp] theorem linkLost_interp (p v : Nat) : (linkLost p v s).interp = s.interp := by
  unfold linkLost
  dsimp only
  rw [mirrorCheck_interp, foldl_keeps (g := State.interp) (fun _ _ => rerouteFrame_interp ..), apply_ite State.interp,
    post_interp, ite_self, apply_ite State.interp, State.count_interp, ite_self]
  exact (setPortState_interp ..).trans (forgetVia_interp ..)

@[simp] theorem linksDown_interp : (linksDown s).interp = s.interp := by
  refine foldl_keeps (g := State.interp) (fun t p => ?_) _ _
  split
  · rfl
  · simp

/-! ### Pages, rows and campaigns -/

@[simp] theorem poolCount_interp (free : Nat) : (poolCount free s).interp = s.interp := by
  unfold poolCount
  dsimp only
  rw [apply_ite State.interp, post_interp, ite_self, apply_ite State.interp, ite_self, apply_ite State.interp,
    State.setFld_interp, ite_self, State.setFld_interp]

@[simp] theorem freePage_interp (p : Nat) : (freePage p s).interp = s.interp := by
  unfold freePage
  dsimp only
  split
  · rfl
  · split
    · rfl
    · split
      · exact poolCount_interp ..
      · split
        · rfl
        · exact poolCount_interp ..

@[simp] theorem freePages_interp (ps : List Nat) : (freePages ps s).interp = s.interp :=
  foldl_keeps (g := State.interp) (fun _ _ => freePage_interp ..) _ _

theorem allocPage_interp {s : State} {r : Nat × State} (h : allocPage s = some r) : r.2.interp = s.interp := by
  unfold allocPage at h
  dsimp only at h
  split at h
  · cases h
  · cases h
    exact poolCount_interp ..

@[simp] theorem State.setNode_interp (id : Nat) (e : BitVec 512) : (s.setNode id e).interp = s.interp := by
  unfold State.setNode
  split <;> rfl

@[simp] theorem State.setNf_interp (id : Nat) (f : NField) (v : Nat) : (s.setNf id f v).interp = s.interp :=
  State.setNode_interp ..

@[simp] theorem writeAssoc_interp (id : Nat) (a : Assoc) : (writeAssoc id a s).interp = s.interp :=
  State.setNode_interp ..

@[simp] theorem pendDrop_interp (c id : Nat) : (pendDrop c id s).interp = s.interp := by
  unfold pendDrop
  dsimp only
  split
  · rfl
  · split <;> rfl

@[simp] theorem pendLeave_interp (id : Nat) : (pendLeave id s).interp = s.interp :=
  foldl_keeps (g := State.interp) (fun _ _ => pendDrop_interp ..) _ _

@[simp] theorem campRecall_interp (c : Nat) : (campRecall c s).interp = s.interp := by
  refine foldl_keeps (g := State.interp) (fun t n => ?_) _ _
  rfl

@[simp] theorem campAbort_interp (c cause : Nat) : (campAbort c cause s).interp = s.interp := by
  unfold campAbort
  split
  · rfl
  · exact campRecall_interp s c

@[simp] theorem State.setDlq_interp (id : Nat) (l : List DlFrame) : (s.setDlq id l).interp = s.interp := by
  unfold State.setDlq
  dsimp only
  split
  · rfl
  · exact State.setNf_interp ..

theorem writePages_interp (ps : List Nat) (bs : List Byte) : (writePages ps bs s).interp = s.interp := by
  induction ps generalizing bs s with
  | nil => rfl
  | cons p ps ih => exact ih ..

@[simp] theorem dlqRemove_interp (id : Nat) (out : DlFrame → Bool) : (dlqRemove id out s).2.interp = s.interp := by
  unfold dlqRemove
  dsimp only
  split <;> simp

@[simp] theorem dlqFlush_interp (id : Nat) : (dlqFlush id s).2.interp = s.interp := dlqRemove_interp ..

variable {s} in
theorem allocPages_interp {rx : Bool} {n : Nat} {r : List Nat × State} (h : allocPages rx n s = some r) :
    r.2.interp = s.interp := by
  unfold allocPages at h
  split at h
  · cases h
  · refine List.foldlRecOn (motive := fun acc : Option (List Nat × State) => ∀ r, acc = some r → r.2.interp = s.interp)
      _ _ ?_ (fun acc hacc a _ => ?_) r h
    · intro r hr
      cases hr
      rfl
    · intro r hr
      split at hr
      · cases hr
      · obtain ⟨x, hx, rfl⟩ := Option.map_eq_some_iff.1 hr
        exact (allocPage_interp hx).trans (hacc _ rfl)

@[simp] theorem dlqAdmit_interp (id : Nat) (cs : List DlContent) : (dlqAdmit id cs s).2.interp = s.interp := by
  unfold dlqAdmit
  dsimp only
  split
  · rfl
  · split
    · rfl
    next ps t ht =>
      rw [State.wrapCount_interp, State.setDlq_interp, State.count_interp]
      exact (foldl_keeps (g := State.interp) (fun _ _ => writePages_interp ..) _ _).trans (allocPages_interp ht)

@[simp] theorem queueAnnounce_interp (c id : Nat) : (queueAnnounce c id s).interp = s.interp := dlqAdmit_interp ..

/-! ### The airtime ledgers and the chains' transmissions -/

@[simp] theorem feastVote_interp (k : Nat) : (feastVote k s).interp = s.interp := by
  unfold feastVote
  dsimp only
  split
  · rfl
  · split
    · rw [apply_ite State.interp]
      exact ite_self _
    · rfl

@[simp] theorem feastCharge_interp (add : Bool) (es : List Nat) (sh : List (Nat × Nat)) :
    (feastCharge add es sh s).interp = s.interp := by
  refine foldl_keeps (g := State.interp) (fun t e => ?_) _ _
  refine foldl_keeps (g := State.interp) (fun u x => ?_) _ _
  exact feastVote_interp ..

@[simp] theorem chargeAir_interp (add dwell : Bool) (ch : Nat) (es : List Nat) (a b : Nat) :
    (chargeAir add dwell ch es a b s).interp = s.interp := by
  unfold chargeAir
  dsimp only
  rw [feastCharge_interp]
  split <;> rfl

@[simp] theorem unchargeAfter_interp (n t : Nat) (r : TxRun) : (unchargeAfter n t r s).interp = s.interp :=
  (chargeAir_interp ..).trans (chargeAir_interp ..)

@[simp] theorem countReturn_interp (n status : Nat) : (countReturn n status s).interp = s.interp := by
  simp only [countReturn, apply_ite State.interp, State.count_interp, ite_self]

@[simp] theorem returnDesc_interp (n status : Nat) (d : TxDesc) : (returnDesc n status d s).interp = s.interp := by
  have hdwell (t : State) : (if status = St.TX_DWELL then
      { t with sched.laneDwell := d.lane.val :: t.sched.laneDwell } else t).interp = t.interp := by split <;> rfl
  unfold returnDesc
  dsimp only
  split
  · rw [State.count_interp, hdwell, countReturn_interp]
  · split
    · rw [State.count_interp, hdwell, countReturn_interp]
    · rw [State.count_interp, hdwell, countReturn_interp]
  · exact (hdwell _).trans (countReturn_interp ..)
  · exact (hdwell _).trans (countReturn_interp ..)

@[simp] theorem returnAll_interp (n status : Nat) (ds : List TxDesc) : (returnAll n status ds s).interp = s.interp :=
  foldl_keeps (g := State.interp) (fun _ _ => returnDesc_interp ..) _ _

@[simp] theorem abortTx_interp (n status : Nat) : (abortTx n status s).interp = s.interp := by
  unfold abortTx
  split
  · rfl
  · split
    · rfl
    · dsimp only
      rw [post_interp, returnDesc_interp]
      exact unchargeAfter_interp ..

@[simp] theorem abortAll_interp (status : Nat) : (abortAll status s).interp = s.interp :=
  foldl_keeps (g := State.interp) (fun _ _ => abortTx_interp ..) _ _

@[simp] theorem blankAdd_interp (b source lo hi : Nat) : (blankAdd b source lo hi s).interp = s.interp := by
  unfold blankAdd
  split <;> rfl

@[simp] theorem darken_interp (p : Nat) : (darken p s).interp = s.interp := by
  unfold darken
  dsimp only
  split
  · split <;> rfl
  · split
    · rfl
    · rw [blankAdd_interp, blankAdd_interp]
      rfl

@[simp] theorem setPairState_interp (p v : Nat) : (setPairState p v s).interp = s.interp := darken_interp ..

@[simp] theorem setPairLock_interp (p : Nat) (b : Bool) : (setPairLock p b s).interp = s.interp := darken_interp ..

@[simp] theorem releaseToken_interp (cause : Nat) : (releaseToken cause s).interp = s.interp := by
  unfold releaseToken
  split
  · rfl
  · dsimp only
    rw [mirrorCheck_interp, post_interp, resvSettle_interp]
    exact abortAll_interp ..

/-! ### The events of a lane -/

@[simp] theorem laneSettle_interp (n : Nat) : (laneSettle n s).interp = s.interp := by
  unfold laneSettle
  split <;> rfl

@[simp] theorem notIdle_interp (n : Nat) : (notIdle n s).interp = s.interp := by
  unfold notIdle
  split <;> rfl

@[simp] theorem settleWindow_interp (ch : Nat) : (settleWindow ch s).interp = s.interp := by
  have hidle (t : State) (c : Bool) : (if c then t.setStream ch { t.stream ch with claim := false } else t).interp =
      t.interp := by split <;> rfl
  unfold settleWindow
  dsimp only
  refine (hidle _ _).trans ?_
  show State.interp (match (s.dctx ch).window with | some w => if w.lo ≤ s.now then notIdle ch s else s | none => s) = _
  split
  · split
    · exact notIdle_interp ..
    · rfl
  · rfl

@[simp] theorem removeEvent_interp (e : RxEvent) : (removeEvent e s).interp = s.interp :=
  (laneSettle_interp ..).trans (foldl_keeps (g := State.interp) (fun _ _ => settleWindow_interp ..) _ _)

@[simp] theorem dropSchedule_interp (id : Nat) : (dropSchedule id s).interp = s.interp :=
  foldl_keeps (g := State.interp) (fun _ _ => removeEvent_interp ..) _ _

@[simp] theorem passEvents_interp (id until' : Nat) : (passEvents id until' s).2.interp = s.interp := by
  unfold passEvents
  dsimp only
  split <;> simp

@[simp] theorem hoSwitchSource_interp (h : Handover) : (hoSwitchSource h s).interp = s.interp := by
  unfold hoSwitchSource
  dsimp only
  refine (foldl_keeps (g := State.interp) (fun _ _ => zoantSend_interp ..) _ _).trans ?_
  simp

@[simp] theorem hoEventEnd_interp (id : Nat) : (hoEventEnd id s).interp = s.interp := by
  unfold hoEventEnd
  split
  · split
    · exact hoSwitchSource_interp ..
    · rfl
  · rfl

@[simp] theorem rolEvent_interp (id : Nat) : (rolEvent id s).interp = s.interp := by
  refine foldl_keeps (g := State.interp) (fun t c => ?_) _ _
  dsimp only
  split
  · rfl
  · split
    · rfl
    · rw [apply_ite State.interp, queueAnnounce_interp]
      exact ite_self _

@[simp] theorem countEvent_interp (o : Outcome) (e : RxEvent) : (countEvent o e s).interp = s.interp := by
  cases o <;> simp [countEvent]

@[simp] theorem missUpdate_interp (id lane : Nat) : (missUpdate id lane s).interp = s.interp := by
  unfold missUpdate
  dsimp only
  split
  · rw [post_interp, State.count_interp, State.setNf_interp, State.setNf_interp, State.setNf_interp]
  · exact State.setNf_interp ..

@[simp] theorem updateApply_interp (id : Nat) : (updateApply id s).interp = s.interp := by
  unfold updateApply
  dsimp only
  split
  · rfl
  · split
    · rfl
    · exact writeAssoc_interp ..

@[simp] theorem updateRevert_interp (e : RxEvent) (u : SchedUpdate) : (updateRevert e u s).interp = s.interp :=
  (writeAssoc_interp ..).trans (dropSchedule_interp ..)

/-! ### DMA -/

@[simp] theorem dmaOff_silent_interp (n : Nat) : (dmaOff n false s).interp = s.interp := by
  unfold dmaOff
  dsimp only
  split
  · rfl
  · exact freePages_interp ..

@[simp] theorem dmaAllOff_silent_interp : (dmaAllOff false s).interp = s.interp :=
  foldl_keeps (g := State.interp) (fun _ _ => dmaOff_silent_interp ..) _ _

end

end Sys2Proof.Machine

/-! Stopping the planes while no command runs: every answer they owe is already given, and the interpreter stays as it
is. -/

namespace Sys2Proof.Machine

open Sys2Proof.Claims

theorem capStore40_interp (r : BlockRecord) (c : StoreCapture) (s : State) : (capStore40 r c s).2.interp = s.interp := by
  show State.interp (if c.stored = 0 then s.setPair R.CHZ_CAP_T0_LO R.CHZ_CAP_T0_HI r.start else s) = s.interp
  split <;> rfl

theorem capWrite_interp (all : Bool) (l : List BlockRecord) (c : StoreCapture) (s : State) :
    (capWrite all l c s).2.interp = s.interp := by
  induction l generalizing c s with
  | nil => rfl
  | cons r l ih =>
    unfold capWrite
    dsimp only
    split
    · rfl
    · exact (ih ..).trans (capStore40_interp ..)

/-- The end of a chain's running calibration, as a power-down does it. -/
def chainCalEnd (n : Nat) (s : State) : State :=
  match (s.chain n).cal with
  | some c =>
    if c.running then
      calAnswer (6 + n) (chainFail n) 3 c (blankCut (4 + n) s.now (s.setChain n { s.chain n with cal := none }))
    else s
  | none => s

/-- The end of a pair's running calibration, as its power-down does it. -/
def pairCalEnd (p : Nat) (s : State) : State :=
  match (s.pairOf p).cal with
  | some c =>
    if c.running then calAnswer (10 + p) (pairFail p) 3 c (s.setPairU p { s.pairOf p with cal := none }) else s
  | none => s

/-- The rest of a pair's power-down: it goes dark, answers the writers of its span, and ends a capture. -/
def pairDark (p : Nat) (s : State) : State :=
  capPairOff p ((s.pairOf p).spanCmds.foldl (fun s q => finish q St.INTERNAL [] s)
    (setPairLock p false (setPairState p 0 (s.setPairU p { s.pairOf p with spanCmds := [] }))))

/-- A schedule that waits for the end of an event takes effect. -/
def assocTake (id : Nat) (s : State) : State :=
  match s.mac.assocPend.get none id with
  | some b => writeAssoc id (Assoc.ofBytes b) { s with mac.assocPend := s.mac.assocPend.set none id none }
  | none => s

/-- The close of an event that is off its lane: of one that ran in the shadow of an applied update, of a row that is
bad, of a chip that is BANKED, or of one that counts. -/
def eventClose (e : RxEvent) (o : Outcome) (s : State) : State :=
  let id := e.node
  if e.shadow then
    match s.sched.updates.find? (fun u => u.node == id && u.applied) with
    | none => s
    | some u =>
      if o = .heard then afterEvent id (laneOf e.ch) o (updateRevert e u (countEvent o e s)) else shadowNext id s
  else
    let o := if s.nf id N.FROZEN = 1 ∧ o = .miss ∨ s.rowBad 0 id = true ∧ o ≠ .skipped then Outcome.unserved else o
    let s := countEvent o e s
    if s.rowBad 0 id then { s with mac.ended := s.mac.ended.set 0 id (e.anchor + 1) }
    else if s.inMode [.banked] then
      let s := { s with mac.ended := s.mac.ended.set 0 id (e.anchor + 1) }
      if s.mac.dropPend.any (fun d => d.1 == id) then nodeLapse id 1 (laneOf e.ch) s else s
    else
      let s := (passEvents id (s.nf id N.ANCHOR + 1) s).2
      let s := if o = .miss ∧ s.models = true then missUpdate id (laneOf e.ch) s else s
      afterEvent id (laneOf e.ch) o s

theorem blankCut_interp (source t : Nat) (s : State) : (blankCut source t s).interp = s.interp := rfl

theorem State.withDropPend_interp (s : State) (d : List (Nat × Nat)) :
    ({ s with mac.dropPend := d } : State).interp = s.interp := rfl

section
variable {s : State} (hidle : s.interp.running = [])
include hidle

/-! ### Answers that nobody waits for -/

theorem finish_idle (seq status : Nat) (data : List Byte) : finish seq status data s = s := by
  rw [finish, finishAt, hidle]
  rfl

theorem finishOpt_idle (seq : Option Nat) (status : Nat) (data : List Byte) : finishOpt seq status data s = s := by
  cases seq with
  | none => rfl
  | some q => exact finish_idle hidle q status data

/-! ### Captures, calibrations, chains and pairs -/

theorem capFinish_interp (result t0 count : Nat) (wrapped : Bool) : (capFinish result t0 count wrapped s).interp = s.interp := by
  unfold capFinish
  split
  · rfl
  · dsimp only
    rw [finishOpt_idle (by exact hidle)]
    rfl

theorem streamCapEnd_interp (result : Nat) : (streamCapEnd result s).interp = s.interp := by
  unfold streamCapEnd
  split
  · rfl
  next c _ =>
    have hwrite := capWrite_interp true c.waiting c s
    exact (capFinish_interp (by rw [← hidle, ← hwrite]) ..).trans hwrite

theorem rawEnd_interp (result : Nat) : (rawEnd result s).interp = s.interp := by
  unfold rawEnd
  split
  · rfl
  · exact capFinish_interp hidle ..

theorem capStop_interp (result : Nat) : (capStop result s).interp = s.interp := by
  unfold capStop
  split
  · rfl
  · split
    · exact rawEnd_interp (by exact hidle) _
    · exact streamCapEnd_interp hidle _
    · exact capFinish_interp hidle ..

theorem capPairOff_interp (p : Nat) : (capPairOff p s).interp = s.interp := by
  unfold capPairOff
  split
  · split
    · exact capStop_interp hidle _
    · rfl
  · rfl

theorem calAnswer_interp (src : Nat) (fail : Field) (result : Nat) (c : Cal) :
    (calAnswer src fail result c s).interp = s.interp := by
  unfold calAnswer
  dsimp only
  rw [finishOpt_idle (by exact hidle)]
  rfl

omit hidle in
/-- A chain's power-down first ends its calibration. -/
theorem chainPowerDown_eq (n : Nat) : chainPowerDown n s = setTxState n txOff (setTxLock n false
    ((chainCalEnd n s).setChain n { (chainCalEnd n s).chain n with
      run := none, tuning := false, offAfter := false, enabledAt := none })) := rfl

theorem chainCalEnd_interp (n : Nat) : (chainCalEnd n s).interp = s.interp := by
  unfold chainCalEnd
  split
  · split
    · exact calAnswer_interp (by exact hidle) ..
    · rfl
  · rfl

theorem chainPowerDown_interp (n : Nat) : (chainPowerDown n s).interp = s.interp := by
  rw [chainPowerDown_eq]
  exact chainCalEnd_interp hidle n

theorem chainKill_interp (n : Nat) : (chainKill n s).interp = s.interp := by
  have hreturned (status : Nat) (q : List TxDesc) (c : Chain) :
      (returnAll n status q ((abortTx n status s).setChain n c)).interp = s.interp :=
    (returnAll_interp ..).trans (abortTx_interp ..)
  unfold chainKill
  dsimp only
  rw [blankCut_interp]
  refine (chainPowerDown_interp ?_ n).trans ?_
  · rw [hreturned, hidle]
  · rw [hreturned]

theorem pairCalEnd_interp (p : Nat) : (pairCalEnd p s).interp = s.interp := by
  unfold pairCalEnd
  split
  · split
    · exact calAnswer_interp (by exact hidle) ..
    · rfl
  · rfl

omit hidle in
/-- A pair's power-down: the end of its calibration, then the rest. -/
theorem pairOff_eq (p : Nat) : pairOff p s = pairDark p (pairCalEnd p s) := rfl

theorem pairDark_interp (p : Nat) : (pairDark p s).interp = s.interp := by
  unfold pairDark
  have hdark : (setPairLock p false (setPairState p 0 (s.setPairU p { s.pairOf p with spanCmds := [] }))).interp =
      s.interp := by
    rw [setPairLock_interp, setPairState_interp]
    rfl
  have hanswered := foldl_keeps_while (g := State.interp) (c := fun i => i.running = [])
    (fun t q ht => congrArg State.interp (finish_idle ht q St.INTERNAL [])) (s.pairOf p).spanCmds hidle hdark
  exact (capPairOff_interp (by rw [hanswered, hidle]) p).trans hanswered

theorem pairOff_interp (p : Nat) : (pairOff p s).interp = s.interp := by
  have hcal := pairCalEnd_interp hidle p
  rw [pairOff_eq]
  exact (pairDark_interp (by rw [hcal, hidle]) p).trans hcal

/-! ### Events and lanes -/

theorem nodeLapse_interp (id cause lane : Nat) : (nodeLapse id cause lane s).interp = s.interp := by
  unfold nodeLapse
  dsimp only
  refine foldl_keeps_while (g := State.interp) (c := fun i => i.running = [])
    (fun t d ht => congrArg State.interp (finish_idle ht d.2 St.OK [])) _ hidle ?_
  rw [State.withDropPend_interp, post_interp, State.count_interp, dlqFlush_interp, State.setNode_interp, dropSchedule_interp]

omit hidle in
theorem assocTake_interp (id : Nat) : (assocTake id s).interp = s.interp := by
  unfold assocTake
  split
  · exact writeAssoc_interp ..
  · rfl

theorem afterEvent_interp (id lane : Nat) (o : Outcome) : (afterEvent id lane o s).interp = s.interp := by
  unfold afterEvent
  split
  · exact nodeLapse_interp hidle ..
  · split
    · exact nodeLapse_interp hidle ..
    · dsimp only
      rw [hoEventEnd_interp, rolEvent_interp, updateApply_interp]
      exact assocTake_interp id

omit hidle in
/-- An event's end, once the event is off its lane. -/
theorem eventFinish_eq (e : RxEvent) (o : Outcome) : eventFinish e o s = eventClose e o (removeEvent e s) := rfl

theorem eventClose_interp (e : RxEvent) (o : Outcome) : (eventClose e o s).interp = s.interp := by
  have hcounted (o : Outcome) : (countEvent o e s).interp = s.interp := countEvent_interp ..
  unfold eventClose
  dsimp only
  split
  · split
    · rfl
    next u _ =>
      split
      · have hrevert : (updateRevert e u (countEvent o e s)).interp = s.interp := (updateRevert_interp ..).trans (hcounted o)
        exact (afterEvent_interp (by rw [hrevert, hidle]) ..).trans hrevert
      · rfl
  · generalize (if s.nf e.node N.FROZEN = 1 ∧ o = .miss ∨ s.rowBad 0 e.node = true ∧ o ≠ .skipped then Outcome.unserved
      else o) = o
    have hcount := hcounted o
    generalize countEvent o e s = t at hcount ⊢
    have hmissed : (if o = .miss ∧ (passEvents e.node (t.nf e.node N.ANCHOR + 1) t).2.models = true then
        missUpdate e.node (laneOf e.ch) (passEvents e.node (t.nf e.node N.ANCHOR + 1) t).2
        else (passEvents e.node (t.nf e.node N.ANCHOR + 1) t).2).interp = s.interp := by
      rw [apply_ite State.interp, missUpdate_interp, ite_self, passEvents_interp, hcount]
    rw [← hcount] at hidle
    split
    · exact hcount
    · split
      · split
        · exact (nodeLapse_interp (by exact hidle) ..).trans hcount
        · exact hcount
      · exact (afterEvent_interp (by rw [hmissed, ← hcount, hidle]) ..).trans hmissed

theorem eventFinish_interp (e : RxEvent) (o : Outcome) : (eventFinish e o s).interp = s.interp := by
  have hremoved := removeEvent_interp s e
  exact (eventClose_interp (by rw [hremoved, hidle]) e o).trans hremoved

theorem laneStop_interp (n : Nat) (o : Outcome) : (laneStop n o s).interp = s.interp := by
  unfold laneStop
  split
  · rfl
  · exact foldl_keeps_while (g := State.interp) (c := fun i => i.running = []) (fun _ _ h => eventFinish_interp h ..) _ hidle
      rfl

/-! ### All planes -/

theorem pairsOff_interp : (pairsOff s).interp = s.interp := by
  refine foldl_keeps_while (g := State.interp) (c := fun i => i.running = []) (fun t p h => ?_) _ hidle rfl
  exact pairOff_interp (by exact h) p

theorem planeStop_kill_interp (release : Nat) : (planeStop true release s).interp = s.interp := by
  have hfold (f : State → Nat → State) (hf : ∀ t n, t.interp.running = [] → (f t n).interp = t.interp) (l : List Nat) (t : State)
      (ht : t.interp = s.interp) : (l.foldl f t).interp = s.interp :=
    foldl_keeps_while (g := State.interp) (c := fun i => i.running = []) hf l hidle ht
  have hchains : ((List.range 4).foldl (fun s n => if true then chainKill n s else chainOff n s) s).interp = s.interp :=
    hfold _ (fun t n ht => chainKill_interp ht n) _ _ rfl
  have htoken := (releaseToken_interp _ release).trans hchains
  have hlanes := hfold _ (fun t n ht => laneStop_interp ht n .unserved) (List.range 16) (disarmClaim _) htoken
  have hcap := (capStop_interp (by rw [hlanes, hidle]) 3).trans hlanes
  have hpairs := (pairsOff_interp (by rw [hcap, hidle])).trans hcap
  unfold planeStop
  dsimp only
  rw [linksDown_interp]
  refine (foldl_keeps (g := State.interp) (fun t c => campAbort_interp ..) _ _).trans ?_
  rw [dmaAllOff_silent_interp]
  exact hpairs

end

end Sys2Proof.Machine

/-! What THERMTRIP leaves: no command waits or runs, the chip is COLD with its latch set, and the clocks have stopped
(R484). -/

namespace Sys2Proof.Machine

open Sys2Proof.Claims

/-! ### What a step keeps of the sequencer, the interpreter, the thermal unit and one register -/

/-- The sequencer, the interpreter, the thermal unit and the register at an offset. -/
def keptAt (o : Nat) (s : State) : Seq × Interp × Thermal × Word := (s.seq, s.interp, s.thermal, s.word o)

section
variable {o : Nat} {s t : State}

theorem keptAt_eq_iff : keptAt o t = keptAt o s ↔
    t.seq = s.seq ∧ t.interp = s.interp ∧ t.thermal = s.thermal ∧ t.word o = s.word o := by simp [keptAt]

theorem keptAt_congr (hcsr : t.csr = s.csr) (hseq : t.seq = s.seq) (hinterp : t.interp = s.interp)
    (hthermal : t.thermal = s.thermal) : keptAt o t = keptAt o s :=
  keptAt_eq_iff.2 ⟨hseq, hinterp, hthermal, by rw [State.word, State.word, hcsr]⟩

theorem keptAt_seq (h : keptAt o t = keptAt o s) : t.seq = s.seq := (keptAt_eq_iff.1 h).1

theorem keptAt_interp (h : keptAt o t = keptAt o s) : t.interp = s.interp := (keptAt_eq_iff.1 h).2.1

theorem keptAt_thermal (h : keptAt o t = keptAt o s) : t.thermal = s.thermal := (keptAt_eq_iff.1 h).2.2.1

theorem keptAt_fld {f : Field} (h : keptAt f.off t = keptAt f.off s) : t.fld f = s.fld f :=
  congrArg f.read (keptAt_eq_iff.1 h).2.2.2

theorem keptAt_flag {f : Field} (h : keptAt f.off t = keptAt f.off s) : t.flag f = s.flag f :=
  congrArg (· != 0) (keptAt_fld h)

theorem keptAt_setFld {f : Field} {v : Nat} (h : o ≠ f.off) : keptAt o (s.setFld f v) = keptAt o s :=
  keptAt_eq_iff.2 ⟨rfl, rfl, rfl, State.word_setFld_other _ _ _ h⟩

theorem keptAt_setFlag {f : Field} {b : Bool} (h : o ≠ f.off) : keptAt o (s.setFlag f b) = keptAt o s := keptAt_setFld h

theorem keptAt_count {f : Field} {n : Nat} (h : o ≠ f.off) : keptAt o (s.count f n) = keptAt o s := keptAt_setFld h

theorem keptAt_wrapCount {f : Field} {n : Nat} (h : o ≠ f.off) : keptAt o (s.wrapCount f n) = keptAt o s := keptAt_setFld h

theorem keptAt_ite {c : Prop} [Decidable c] {u : State} (ht : keptAt o t = keptAt o s) (hu : keptAt o u = keptAt o s) :
    keptAt o (if c then t else u) = keptAt o s := by
  split
  · exact ht
  · exact hu

theorem keptAt_signal {v : Nat} (h : o ≠ (msixPend v).off) : keptAt o (signal v s) = keptAt o s :=
  keptAt_ite (keptAt_setFlag h) rfl

theorem keptAt_mgtCause {i : Nat} (h : o ≠ 0x180100) (hpend : o ≠ (msixPend 38).off) :
    keptAt o (mgtCause i s) = keptAt o s :=
  keptAt_ite rfl (keptAt_ite ((keptAt_signal hpend).trans (keptAt_setFlag h)) (keptAt_setFlag h))

end

/-! ### A record that is made in COLD -/

/-- The counters of a record that is emitted. -/
def recCounted (r : JRec) (s : State) : State :=
  (if isLate s.journal.last r then s.count F.EVJ_DROP_LATE 1
    else { s with journal.last := (r.cal.toNat, r.src.toNat) }).wrapCount (F.EVJ_SEV_COUNT (r.sev.toNat % 4)) 1

/-- A record's way to the rings, and its cause if it is fatal. -/
def recStored (r : JRec) (s : State) : State :=
  let aonOnly := s.inMode [.cold, .quarantine]
  let s := if aonOnly then s else dramRec r s
  let s := if aonOnly || s.fld F.EVJ_CTL_AON_MIN ≤ r.sev.toNat || r.sev.toNat == sevFatal ||
      aonNamed r.code.toNat then aonWrite r s else s
  if r.sev.toNat == sevFatal then
    mgtCause 16 (if s.journal.fatal.isNone then { s with journal.fatal := some r } else s)
  else s

theorem emitRec_eq (r : JRec) (s : State) : emitRec r s = recStored r (uartLine r (recCounted r s)) := rfl

section
variable {o : Nat} (ho : o = F.STP_RESET_CAUSE_THERMTRIP.off) (r : JRec) {s : State}
include ho

theorem keptAt_recCounted : keptAt o (recCounted r s) = keptAt o s := by
  subst ho
  have hcount : F.STP_RESET_CAUSE_THERMTRIP.off ≠ (F.EVJ_SEV_COUNT (r.sev.toNat % 4)).off := by
    simp only [F.STP_RESET_CAUSE_THERMTRIP, F.EVJ_SEV_COUNT]
    omega
  exact (keptAt_wrapCount hcount).trans (keptAt_ite (keptAt_count (by decide)) rfl)

theorem keptAt_uartText : keptAt o (uartText s) = keptAt o s := by
  subst ho
  exact keptAt_ite rfl (keptAt_ite (keptAt_count (by decide)) rfl)

theorem keptAt_uartLine : keptAt o (uartLine r s) = keptAt o s := keptAt_ite rfl (keptAt_uartText ho)

theorem keptAt_lostCount : keptAt o (lostCount s) = keptAt o s := by
  subst ho
  exact (keptAt_count (by decide)).trans (keptAt_ite rfl rfl)

theorem keptAt_aonWrite : keptAt o (aonWrite r s) = keptAt o s := by
  have hlost := keptAt_lostCount ho (s := s)
  subst ho
  unfold aonWrite
  dsimp only
  refine (keptAt_wrapCount (by decide)).trans ?_
  split
  · exact hlost
  · rfl

theorem keptAt_recStored (hcold : s.seq.mode = .cold) : keptAt o (recStored r s) = keptAt o s := by
  have haon := keptAt_aonWrite ho r (s := s)
  have hmode : s.inMode [.cold, .quarantine] = true := by simp [State.inMode, hcold]
  subst ho
  unfold recStored
  dsimp only
  rw [hmode]
  exact keptAt_ite ((keptAt_mgtCause (by decide) (by decide)).trans (keptAt_ite haon haon)) haon

theorem keptAt_emitRec (hcold : s.seq.mode = .cold) : keptAt o (emitRec r s) = keptAt o s := by
  have hline := (keptAt_uartLine ho r).trans (keptAt_recCounted ho r (s := s))
  rw [emitRec_eq]
  exact (keptAt_recStored ho r (by rw [keptAt_seq hline, hcold])).trans hline

end

/-! ### The parts of a THERMTRIP -/

/-- The interpreter stops: nothing waits, nothing runs. -/
def tripHalt (s : State) : State :=
  { s with interp.sched := [], interp.ready := [], interp.running := [], interp.cpRunning := false,
           interp.cpStopped := false }

/-- The sequencer latches THERMTRIP and is in COLD. -/
def tripMode (s : State) : State :=
  let s := { s with seq.thermtrip := true, seq.heldExit := none, seq.warmDue := false, seq.boot.phase := .idle }
  let s := s.setFlag F.STP_RESET_CAUSE_THERMTRIP true
  if s.inMode [.cold] then s else enterMode .cold 0 s

/-- What ends once the chip is cold: PPS_OUT, the link, and the clocks but the always-on one. -/
def tripQuiet (s : State) : State :=
  let s := { s with host.pps.out := false, host.pps.left := 0 }
  let s := (s.setFlag F.PCI_LINK_UP false).setFlag F.PCI_LINK_BME false
  let (why, s) := s.draw
  let s := if s.slowing then s else enterSlow (why % 8) s
  let s := (s.setFlag F.CLK_STAT_PLL_LOCK false).setFlag F.CLK_GATE_CORE_RUN false
  dataClocks false (s.setFlag F.CLK_GATE_MGT_RUN false)

/-- The fatal record of a THERMTRIP. -/
def tripRecord (sensor : Nat) (s : State) : State := emitRec (JRec.of s.now 35 sevFatal 0x1407 (arg1 sensor)) s

section
variable {s : State}

theorem runThermtrip_eq {sensor : Fin 8} (h : s.seq.thermtrip = false) : runThermtrip sensor s =
    tripQuiet (coldThermal (tripRecord sensor.val (tripMode (planeStop true 2 (tripHalt s))))) :=
  if_neg (by rw [h]; exact Bool.false_ne_true)

theorem tripMode_interp : (tripMode s).interp = s.interp := by
  unfold tripMode
  dsimp only
  split <;> rfl

theorem tripMode_mode : (tripMode s).seq.mode = .cold := by
  unfold tripMode
  dsimp only
  split
  next h => simpa [State.inMode] using h
  next => rfl

theorem tripMode_thermtrip : (tripMode s).seq.thermtrip = true := by
  unfold tripMode
  dsimp only
  split <;> rfl

theorem tripMode_cause : (tripMode s).flag F.STP_RESET_CAUSE_THERMTRIP = true := by
  have hset (u : State) : (u.setFlag F.STP_RESET_CAUSE_THERMTRIP true).flag F.STP_RESET_CAUSE_THERMTRIP = true :=
    u.flag_setFlag_same _ _ (by decide) (by decide)
  unfold tripMode
  dsimp only
  split
  · exact hset _
  · rw [State.flag, State.fld, enterMode_word _ _ _ (by decide) (by decide), modeSet_word _ _ _ (by decide) (by decide)]
    exact hset _

theorem coldThermal_seq : (coldThermal s).seq = s.seq := rfl

theorem coldThermal_interp : (coldThermal s).interp = s.interp := rfl

theorem coldThermal_decided : (coldThermal s).thermal.decided = 0 := rfl

theorem coldThermal_fld_off {f : Field} (h : f.off ≠ F.THM_STAT_STEPS.off) : (coldThermal s).fld f = s.fld f := by
  have hwarn := s.fld_setFld_off F.THM_STAT_WARN f 0 h
  have hcrit := (s.setFld F.THM_STAT_WARN 0).fld_setFld_off F.THM_STAT_CRIT f 0 h
  exact (State.fld_setFld_off _ _ _ _ h).trans (hcrit.trans hwarn)

theorem coldThermal_steps : (coldThermal s).fld F.THM_STAT_STEPS = 0 :=
  State.fld_setFld_same _ _ _ (by decide)

theorem coldThermal_crit : (coldThermal s).flag F.THM_STAT_CRIT = false := by
  have hcrit := (s.setFlag F.THM_STAT_WARN false).flag_setFlag_same F.THM_STAT_CRIT false (by decide) (by decide)
  exact (congrArg (· != 0) (State.fld_setFld_apart _ _ _ _ (by decide))).trans hcrit

theorem coldThermal_warn : (coldThermal s).flag F.THM_STAT_WARN = false := by
  have hwarn := s.flag_setFlag_same F.THM_STAT_WARN false (by decide) (by decide)
  have hcrit := (s.setFlag F.THM_STAT_WARN false).fld_setFld_apart F.THM_STAT_CRIT F.THM_STAT_WARN 0 (by decide)
  exact (congrArg (· != 0) ((State.fld_setFld_apart _ _ _ _ (by decide)).trans hcrit)).trans hwarn

theorem keptAt_enterSlow {o why : Nat} (h : o ≠ F.TMB_STAT_SLOW.off) : keptAt o (enterSlow why s) = keptAt o s := by
  have hslow : keptAt o ((s.setFlag F.TMB_STAT_SLOW true).setFld F.TMB_STAT_SLOW_WHY why) = keptAt o s :=
    (keptAt_setFld (f := F.TMB_STAT_SLOW_WHY) h).trans (keptAt_setFlag h)
  have hbegin : keptAt o (slowBegin why s) = keptAt o s := (keptAt_congr rfl rfl rfl rfl).trans hslow
  exact keptAt_ite (keptAt_setFld h) (keptAt_ite rfl hbegin)

theorem keptAt_tripQuiet {o : Nat} (hlink : o ≠ F.PCI_LINK_UP.off) (hslow : o ≠ F.TMB_STAT_SLOW.off)
    (hstat : o ≠ F.CLK_STAT_PLL_LOCK.off) (hgate : o ≠ F.CLK_GATE_CORE_RUN.off) : keptAt o (tripQuiet s) = keptAt o s := by
  have hlinks (u : State) : keptAt o ((u.setFlag F.PCI_LINK_UP false).setFlag F.PCI_LINK_BME false) = keptAt o u :=
    (keptAt_setFlag (f := F.PCI_LINK_BME) hlink).trans (keptAt_setFlag hlink)
  have hslowed (u : State) (why : Nat) : keptAt o (if u.slowing then u else enterSlow why u) = keptAt o u :=
    keptAt_ite rfl (keptAt_enterSlow hslow)
  have hclocks (u : State) : keptAt o (dataClocks false (((u.setFlag F.CLK_STAT_PLL_LOCK false).setFlag F.CLK_GATE_CORE_RUN
      false).setFlag F.CLK_GATE_MGT_RUN false)) = keptAt o u :=
    ((keptAt_setFlag (f := F.CLK_GATE_SAMP_RUN) hgate).trans ((keptAt_setFlag (f := F.CLK_GATE_MAC_RUN) hgate).trans
      ((keptAt_setFlag (f := F.CLK_GATE_MGT_RUN) hgate).trans (keptAt_setFlag hgate)))).trans (keptAt_setFlag hstat)
  have hdraw (u : State) : keptAt o u.draw.2 = keptAt o u := keptAt_congr rfl rfl rfl rfl
  have hpps : keptAt o ({ s with host.pps.out := false, host.pps.left := 0 } : State) = keptAt o s :=
    keptAt_congr rfl rfl rfl rfl
  exact (hclocks _).trans ((hslowed _ _).trans ((hdraw _).trans ((hlinks _).trans hpps)))

end

end Sys2Proof.Machine

/-! Temperatures and rails: samples, THERMTRIP, the limits and the status commands (R484, R504, R507, R510 to R518). -/

namespace Sys2Proof.Machine

open Sys2Proof.Claims

/-! ### THERMTRIP -/

section
variable (s : State)

theorem dataClocks_fld_apart {f : Field} (hmac : F.CLK_GATE_MAC_RUN.apart f = true) (hsamp : F.CLK_GATE_SAMP_RUN.apart f = true)
    (on : Bool) : (dataClocks on s).fld f = s.fld f :=
  (State.fld_setFld_apart _ _ _ _ hsamp).trans (State.fld_setFld_apart _ _ _ _ hmac)

/-- The state in which the clocks of a tripped chip stop. -/
def tripSlowed : State :=
  let s := { s with host.pps.out := false, host.pps.left := 0 }
  let s := (s.setFlag F.PCI_LINK_UP false).setFlag F.PCI_LINK_BME false
  let (why, s) := s.draw
  if s.slowing then s else enterSlow (why % 8) s

theorem tripQuiet_eq : tripQuiet s = dataClocks false ((((tripSlowed s).setFlag F.CLK_STAT_PLL_LOCK false).setFlag
    F.CLK_GATE_CORE_RUN false).setFlag F.CLK_GATE_MGT_RUN false) := rfl

theorem tripQuiet_pll : (tripQuiet s).flag F.CLK_STAT_PLL_LOCK = false := by
  have hset := (tripSlowed s).flag_setFlag_same F.CLK_STAT_PLL_LOCK false (by decide) (by decide)
  rw [tripQuiet_eq, State.flag, dataClocks_fld_apart _ (by decide) (by decide), State.setFlag,
    State.fld_setFld_apart _ _ _ _ (by decide), State.setFlag, State.fld_setFld_apart _ _ _ _ (by decide)]
  exact hset

theorem tripQuiet_core : (tripQuiet s).flag F.CLK_GATE_CORE_RUN = false := by
  have hset := ((tripSlowed s).setFlag F.CLK_STAT_PLL_LOCK false).flag_setFlag_same F.CLK_GATE_CORE_RUN false (by decide)
    (by decide)
  rw [tripQuiet_eq, State.flag, dataClocks_fld_apart _ (by decide) (by decide), State.setFlag,
    State.fld_setFld_apart _ _ _ _ (by decide)]
  exact hset

theorem tripQuiet_mgt : (tripQuiet s).flag F.CLK_GATE_MGT_RUN = false := by
  rw [tripQuiet_eq, State.flag, dataClocks_fld_apart _ (by decide) (by decide)]
  exact State.flag_setFlag_same _ _ _ (by decide) (by decide)

end

section
variable {s : State} (sensor : Nat)

/-- The chip after a THERMTRIP whose planes stopped in `s`. -/
def tripped (s : State) : State := tripQuiet (coldThermal (tripRecord sensor (tripMode s)))

theorem tripRecord_kept : keptAt F.STP_RESET_CAUSE_THERMTRIP.off (tripRecord sensor (tripMode s)) =
    keptAt F.STP_RESET_CAUSE_THERMTRIP.off (tripMode s) := keptAt_emitRec rfl _ tripMode_mode

/-- What follows the record keeps every register but the links' and the clocks', and the units. -/
theorem tripped_kept {o : Nat} (hlink : o ≠ F.PCI_LINK_UP.off) (hslow : o ≠ F.TMB_STAT_SLOW.off)
    (hstat : o ≠ F.CLK_STAT_PLL_LOCK.off) (hgate : o ≠ F.CLK_GATE_CORE_RUN.off) :
    keptAt o (tripped sensor s) = keptAt o (coldThermal (tripRecord sensor (tripMode s))) :=
  keptAt_tripQuiet hlink hslow hstat hgate

theorem tripped_cause_kept : keptAt F.STP_RESET_CAUSE_THERMTRIP.off (tripped sensor s) =
    keptAt F.STP_RESET_CAUSE_THERMTRIP.off (coldThermal (tripRecord sensor (tripMode s))) :=
  tripped_kept sensor (by decide) (by decide) (by decide) (by decide)

theorem tripped_stat_kept : keptAt F.THM_STAT_STEPS.off (tripped sensor s) =
    keptAt F.THM_STAT_STEPS.off (coldThermal (tripRecord sensor (tripMode s))) :=
  tripped_kept sensor (by decide) (by decide) (by decide) (by decide)

theorem tripped_seq : (tripped sensor s).seq = (tripMode s).seq := by
  rw [keptAt_seq (tripped_cause_kept sensor), coldThermal_seq, keptAt_seq (tripRecord_kept sensor)]

theorem tripped_interp : (tripped sensor s).interp = s.interp := by
  rw [keptAt_interp (tripped_cause_kept sensor), coldThermal_interp, keptAt_interp (tripRecord_kept sensor), tripMode_interp]

theorem tripped_cause : (tripped sensor s).flag F.STP_RESET_CAUSE_THERMTRIP = true := by
  rw [keptAt_flag (tripped_cause_kept sensor), State.flag, coldThermal_fld_off (by decide), ← State.flag,
    keptAt_flag (tripRecord_kept sensor), tripMode_cause]

theorem tripped_warn : (tripped sensor s).flag F.THM_STAT_WARN = false :=
  (keptAt_flag (f := F.THM_STAT_WARN) (tripped_stat_kept sensor)).trans coldThermal_warn

theorem tripped_crit : (tripped sensor s).flag F.THM_STAT_CRIT = false :=
  (keptAt_flag (f := F.THM_STAT_CRIT) (tripped_stat_kept sensor)).trans coldThermal_crit

theorem tripped_steps : (tripped sensor s).fld F.THM_STAT_STEPS = 0 :=
  (keptAt_fld (tripped_stat_kept sensor)).trans coldThermal_steps

theorem tripped_pll : (tripped sensor s).flag F.CLK_STAT_PLL_LOCK = false := by
  rw [tripped, tripQuiet_pll]

theorem tripped_core : (tripped sensor s).flag F.CLK_GATE_CORE_RUN = false := by
  rw [tripped, tripQuiet_core]

theorem tripped_mgt : (tripped sensor s).flag F.CLK_GATE_MGT_RUN = false := by
  rw [tripped, tripQuiet_mgt]

theorem tripped_decided : (tripped sensor s).thermal.decided = 0 := by
  rw [keptAt_thermal (tripped_stat_kept sensor), coldThermal_decided]

end

/-! ### T_warn and T_crit -/

section
variable {tj : Int} {s : State}

theorem warnSample_sets (hclear : s.flag F.THM_STAT_WARN = false) (hhot : 1600 ≤ tj) :
    (warnSample tj s).flag F.THM_STAT_WARN = true := by
  have hset := s.flag_setFlag_same F.THM_STAT_WARN true (by decide) (by decide)
  have heq : warnSample tj s = mgtCause 1 (post 35 sevInfo 0x1401 [] (s.setFlag F.THM_STAT_WARN true)) :=
    if_pos (by simp [hclear, hhot])
  have hkept := keptAt_mgtCause (o := F.THM_STAT_WARN.off) (i := 1)
    (s := post 35 sevInfo 0x1401 [] (s.setFlag F.THM_STAT_WARN true)) (by decide) (by decide)
  rw [heq, keptAt_flag hkept]
  exact hset

theorem warnSample_cool (hclear : s.flag F.THM_STAT_WARN = false) (hcool : tj < 1600) : warnSample tj s = s :=
  (if_neg (by simp [hcool])).trans (if_neg (by simp [hclear]))

theorem warnSample_holds (hset : s.flag F.THM_STAT_WARN = true) (hrecent : s.now < s.thermal.above95 + 7200000000) :
    warnSample tj s = s := by
  have hwait : s.now < s.thermal.above95 + seconds 60 := hrecent
  exact (if_neg (by simp [hset])).trans (if_neg (by simp [hwait]))

theorem warnSample_clears (hset : s.flag F.THM_STAT_WARN = true) (hlong : s.thermal.above95 + 7200000000 ≤ s.now) :
    (warnSample tj s).flag F.THM_STAT_WARN = false := by
  have heq : warnSample tj s = post 35 sevInfo 0x1402 [] (s.setFlag F.THM_STAT_WARN false) :=
    (if_neg (by simp [hset])).trans (if_pos (by simp [seconds, hset, hlong]))
  rw [heq]
  exact s.flag_setFlag_same F.THM_STAT_WARN false (by decide) (by decide)

theorem critSample_sets (hclear : s.flag F.THM_STAT_CRIT = false) (hhot : 1840 ≤ tj) :
    (critSample tj s).flag F.THM_STAT_CRIT = true := by
  have hset := s.flag_setFlag_same F.THM_STAT_CRIT true (by decide) (by decide)
  have heq : critSample tj s = mgtCause 3 (post 35 sevDegraded 0x1405 []
      ((s.setFlag F.THM_STAT_CRIT true).count F.THM_CNT_CRIT_ENTRIES 1)) := if_pos (by simp [hclear, hhot])
  have hkept := keptAt_mgtCause (o := F.THM_STAT_CRIT.off) (i := 3) (s := post 35 sevDegraded 0x1405 []
    ((s.setFlag F.THM_STAT_CRIT true).count F.THM_CNT_CRIT_ENTRIES 1)) (by decide) (by decide)
  have hcount := keptAt_count (o := F.THM_STAT_CRIT.off) (f := F.THM_CNT_CRIT_ENTRIES) (n := 1)
    (s := s.setFlag F.THM_STAT_CRIT true) (by decide)
  rw [heq, keptAt_flag hkept]
  exact (keptAt_flag hcount).trans hset

theorem critSample_cool (hclear : s.flag F.THM_STAT_CRIT = false) (hcool : tj < 1840) : critSample tj s = s :=
  (if_neg (by simp [hcool])).trans (if_neg (by simp [hclear]))

theorem critSample_holds (hset : s.flag F.THM_STAT_CRIT = true) (hrecent : s.now < s.thermal.above115 + 1200000000) :
    critSample tj s = s := by
  have hwait : s.now < s.thermal.above115 + seconds 10 := hrecent
  exact (if_neg (by simp [hset])).trans (if_neg (by simp [hwait]))

theorem critSample_clears (hset : s.flag F.THM_STAT_CRIT = true) (hlong : s.thermal.above115 + 1200000000 ≤ s.now) :
    (critSample tj s).flag F.THM_STAT_CRIT = false := by
  have heq : critSample tj s = post 35 sevInfo 0x1406 [] (s.setFlag F.THM_STAT_CRIT false) :=
    (if_neg (by simp [hset])).trans (if_pos (by simp [seconds, hset, hlong]))
  rw [heq]
  exact s.flag_setFlag_same F.THM_STAT_CRIT false (by decide) (by decide)

end

/-! ### Samples -/

/-- The times at which the temperature was last at each level, after a sample. -/
def thermalMarked (tj : Int) (s : State) : State :=
  { s with thermal := { s.thermal with
    below105 := if tj < 1680 then s.now else s.thermal.below105,
    above100 := if 1600 ≤ tj then s.now else s.thermal.above100,
    above95 := if 1520 ≤ tj then s.now else s.thermal.above95,
    above115 := if 1840 ≤ tj then s.now else s.thermal.above115 } }

/-- What a sample decides once its times are marked. -/
def thermalDecided (tj : Int) (s : State) : State :=
  let s := critSample tj (warnSample tj s)
  let s := if s.coresWork && s.inMode radioModes then (List.range 4).foldl (fun s n => driftCal n s) s else s
  if s.inMode [.kindling] then s
  else governorRelease (if s.inMode [.quarantine] then s else governorTake tj s)

section
variable {sensors temps : List (BitVec 16)} {hot : Nat} {tj : Int} {s t u v w : State}

section
variable (htemps : temps = (List.range 8).map (fun k => sensors.getD k 0))
  (hhot : hot = (List.range 8).foldl (fun b k => if (temps.getD b 0).toInt < (temps.getD k 0).toInt then k else b) 0)
  (htj : tj = (temps.getD hot 0).toInt)
  (ht : t = ((((List.range 8).foldl (fun s k => s.setFld (F.THM_SENSOR_TEMP k) (nth (temps.map (·.toNat)) k)) s).setFld
    F.RFE_TEMP_TEMP (sensors.getD 8 0).toNat).setFld F.THM_TJ_TJ (temps.getD hot 0).toNat).setFld F.THM_TJ_HOT hot)
  (hu : u = (if t.sfld F.THM_PEAK_PEAK < tj then t.setFld F.THM_PEAK_PEAK (temps.getD hot 0).toNat else t))
include htemps hhot htj ht hu

theorem runThermalSample_cold (hcold : u.inMode [.cold] = true) : runThermalSample sensors s = u := by
  rw [runThermalSample]
  dsimp only
  rw [← htemps, ← hhot, ← ht, ← htj, ← hu]
  exact if_pos hcold

theorem runThermalSample_warm (hcold : u.inMode [.cold] = false) :
    runThermalSample sensors s = thermalDecided tj (thermalMarked tj u) := by
  rw [runThermalSample]
  dsimp only
  rw [← htemps, ← hhot, ← ht, ← htj, ← hu, if_neg (Bool.eq_false_iff.1 hcold)]
  simp only [decide_eq_true_eq]
  rfl

end

section
variable (hv : v = critSample tj (warnSample tj (thermalMarked tj u)))
  (hw : w = (if v.coresWork && v.inMode radioModes then (List.range 4).foldl (fun s n => driftCal n s) v else v))
include hv hw

theorem thermalDecided_eq : thermalDecided tj (thermalMarked tj u) = if w.inMode [.kindling] then w
    else governorRelease (if w.inMode [.quarantine] then w else governorTake tj w) := by
  subst hv hw
  rfl

theorem thermalDecided_kindling (h : w.inMode [.kindling] = true) : thermalDecided tj (thermalMarked tj u) = w := by
  rw [thermalDecided_eq hv hw, if_pos h]

theorem thermalDecided_quarantine (h : w.inMode [.kindling] = false) (hq : w.inMode [.quarantine] = true) :
    thermalDecided tj (thermalMarked tj u) = governorRelease w := by
  rw [thermalDecided_eq hv hw, if_neg (Bool.eq_false_iff.1 h), if_pos hq]

theorem thermalDecided_serves (h : w.inMode [.kindling] = false) (hq : w.inMode [.quarantine] = false) :
    thermalDecided tj (thermalMarked tj u) = governorRelease (governorTake tj w) := by
  rw [thermalDecided_eq hv hw, if_neg (Bool.eq_false_iff.1 h), if_neg (Bool.eq_false_iff.1 hq)]

end

theorem runRailSample_measures {rails : List RailSample} (hcold : s.inMode [.cold] = false)
    (ht : t = ((List.range 10).zip rails).foldl (fun s x => railSample x.1 x.2 s) s) :
    runRailSample rails s = t.setFld F.PWR_TOTAL_MW (least2 65535
      (sumOf ((List.range 10).map (fun r => t.fld (F.PWR_RAIL_MON_MW r))))) := by
  subst ht
  exact if_neg (Bool.eq_false_iff.1 hcold)

end

theorem sameQueue_flag (s t : State) (f : Field) : (sameQueue s t).flag f = t.flag f := rfl

theorem sameQueue_fld (s t : State) (f : Field) : (sameQueue s t).fld f = t.fld f := rfl

theorem sameQueue_thermal (s t : State) : (sameQueue s t).thermal = t.thermal := rfl

theorem sameQueue_interp (s t : State) : (sameQueue s t).interp = t.interp := rfl

/-- Settles O35: a sample by its modes, THERMTRIP by its parts, the limits by what each writes. -/
theorem thermalAndRailCommands : Obligations.ThermalAndRailCommands := by
  unfold Obligations.ThermalAndRailCommands
  refine ⟨⟨fun sensors temps hot tj s t u v w htemps hhot htj ht hu hv hw =>
      ⟨?cold, fun hcold hk => ?kindling, fun hcold hk hq => ?quarantine, fun hcold hk hq => ?serves⟩, ?trip, ?rails,
      fun p s h => ⟨managed_next h rfl (reply_pending ..), managed_next h rfl (reply_pending ..)⟩⟩,
    fun tj s => ⟨warnSample_sets, warnSample_cool, warnSample_holds, warnSample_clears, critSample_sets, critSample_cool,
      critSample_holds, critSample_clears⟩⟩
  case cold => exact fun hcold => answer_sameQueue (runThermalSample_cold htemps hhot htj ht hu hcold)
  case kindling =>
    exact answer_sameQueue ((runThermalSample_warm htemps hhot htj ht hu hcold).trans (thermalDecided_kindling hv hw hk))
  case quarantine =>
    exact answer_sameQueue ((runThermalSample_warm htemps hhot htj ht hu hcold).trans (thermalDecided_quarantine hv hw hk hq))
  case serves =>
    exact answer_sameQueue ((runThermalSample_warm htemps hhot htj ht hu hcold).trans (thermalDecided_serves hv hw hk hq))
  case trip =>
    intro sensor s h
    have hstop : (planeStop true 2 (tripHalt s)).interp = (tripHalt s).interp := planeStop_kill_interp rfl 2
    have hinterp := (tripped_interp sensor.val (s := planeStop true 2 (tripHalt s))).trans hstop
    have hseq := tripped_seq sensor.val (s := planeStop true 2 (tripHalt s))
    refine ⟨sameQueue s (tripped sensor.val (planeStop true 2 (tripHalt s))), answer_sameQueue (runThermtrip_eq h),
      (congrArg Seq.mode hseq).trans tripMode_mode, (congrArg Seq.thermtrip hseq).trans tripMode_thermtrip, ?_⟩
    simp only [sameQueue_flag, sameQueue_fld, sameQueue_thermal, sameQueue_interp]
    exact ⟨tripped_cause _, tripped_pll _, tripped_core _, tripped_mgt _, tripped_warn _, tripped_crit _,
      tripped_steps _, tripped_decided _, congrArg Interp.ready hinterp, congrArg Interp.running hinterp⟩
  case rails => exact fun rails s t hcold ht => answer_sameQueue (runRailSample_measures hcold ht)

end Sys2Proof.Machine
